-- ==== Sys2Proof/Word.lean ====
section
/-!
DEFINITION. The words of the NT2412: 16-bit registers made of bytes (R5), and a bit field of a register.
-/

namespace Sys2Proof

/-- A register word (R5). -/
abbrev Word := BitVec 16

/-- A byte of the register space, of NV or of data memory. -/
abbrev Byte := BitVec 8

/-- A bit field: its lowest bit and its width (00_scope.md, field tables). -/
structure Fld where
  lo : Nat
  w : Nat
  deriving DecidableEq, Repr

end Sys2Proof
end

