-- ==== Sys2Proof/Syntax.lean ====
section
/-!
DEFINITION. The commands of the NT2412 as data: one constructor of Instr for each row of spec/opcode_table.json.

Indices are bounded numbers, so that a loop above L11 or a furrow above F15 cannot be written.
-/

namespace Sys2Proof

/-- A regulation loop L0 to L11. -/
abbrev Loop := Fin 12
/-- A phase P0 to P23. -/
abbrev Phase := Fin 24
/-- A Velong link VL0 to VL3. -/
abbrev Link := Fin 4
/-- A feed channel FD0 to FD3. -/
abbrev Chan := Fin 4
/-- A rail index: 0 to 11 the loops, 12 to 27 the rails X0 to X15 (R125). -/
abbrev Rail := Fin 28
/-- A drill profile PF0 to PF7. -/
abbrev Profile := Fin 8
/-- A reset output RSTOUT0 to RSTOUT7. -/
abbrev RstOut := Fin 8
/-- A furrow F0 to F15 (R244). -/
abbrev Furrow := Fin 16
/-- A register K0 to K15 of a furrow (R245). -/
abbrev KReg := Fin 16
/-- A host port HP0 to HP2. -/
abbrev Port := Fin 3
/-- A watchdog slot (R424). -/
abbrev WSlot := Fin 16
/-- A hopper tag (R289). -/
abbrev Tag := Fin 128
/-- A measurement sequence. -/
abbrev SeqNo := Fin 64
/-- A plan entry. -/
abbrev Entry := Fin 2048
/-- A converter ADC0 to ADC23. -/
abbrev Adc := Fin 24

/-- Who accesses the register space: a host port or a furrow (R8). -/
inductive Acc where
  | port (p : Port)
  | furrow (f : Furrow)
  deriving DecidableEq, Repr

/-- How the bytes of a bus command end: with STOP, with a repeated START, or with more bytes of the same transfer in a later
command (R312, R316, R330). -/
inductive BusEnd where
  | stop
  | restart
  | more
  deriving DecidableEq, Repr

/-- A read on the bus (R312, R313): how many bytes the controller clocks, and how they end. -/
structure BusRead where
  count : Nat
  fin : BusEnd
  deriving DecidableEq, Repr

/-- The level of VIO (R443): 1.8 V or 3.3 V. -/
inductive VioLevel where
  | v18
  | v33
  deriving DecidableEq, Repr

/-- What the device measures at t3 beside ADSEL: the CKDLY strap, VIO, and whether VINMAX stands below V_BO (R443, R444,
R477). -/
structure Measured where
  ckdly : BitVec 3
  vio : VioLevel
  vinLow : Bool
  deriving DecidableEq, Repr

/-- The address operand of a memory or register-space instruction (R276, R277): an absolute immediate (M[0] = 0), or
a register plus an immediate (M[0] = 1). -/
inductive MAddr where
  | abs (imm : BitVec 16)
  | idx (a : KReg) (imm : BitVec 16)
  deriving DecidableEq, Repr

/-- An operand that is either an immediate (M = 0b00) or a register (M = 0b01), for waits and triggers (R281, R282). -/
inductive TSrc where
  | imm (v : BitVec 16)
  | reg (a : KReg)
  deriving DecidableEq, Repr

/-- A Velong exchange (R71): the fields of the command frame, and what the device captures with it: the latency that
VL_ACKLAT shows, the clock frequency that VL_CKFREQ shows, and whether the response still runs when the row is over. -/
structure VlFrame where
  rail : Fin 4
  data : BitVec 16
  seq : BitVec 4
  lat : BitVec 16
  freq : BitVec 16
  still : Bool
  deriving DecidableEq, Repr

/-- A result of one of the Guard's plan entries in a frame (R98): the code, its over-range flag, and whether the frame
holds it at all (a missing or late result is not held). -/
structure GuardRes where
  code : BitVec 12
  ovr : Bool
  got : Bool
  deriving DecidableEq, Repr

/-- What one Guard frame brings (R95 to R98): entries 0 to 3 and 4, the charger's own codes of CSP - CSN, VBATS and VBUSS,
and the decision latency that BG_LAT shows. -/
structure GuardFrame where
  fd : Vector GuardRes 4
  bus : GuardRes
  cs : BitVec 12
  vb : BitVec 12
  vs : BitVec 12
  lat : BitVec 16
  deriving DecidableEq, Repr

/-- The commands of the NT2412: one constructor for each row of spec/opcode_table.json, with the row's operands;
those without operands come last.
A row that the environment brings about carries what the environment shows (levels, samples, captured values). -/
inductive Instr where
  -- Register writes with no row of their own (R10)
  /-- REGISTER_WRITE (R10): A host or furrow write to a register that has no row of its own, stored according to its access code. -/
  | registerWrite (acc : Acc) (addr : BitVec 16) (data : Byte)
  -- Regulation loops and phases (02)
  /-- PH_CFG_WRITE (R28): A write to PH_CFG assigns a phase to a loop, or is refused and sets PHCFGREF. -/
  | phCfgWrite (acc : Acc) (m : Phase) (v : BitVec 16)
  /-- LOOP_CONFIG_WRITE (R50): A write to a loop's configuration registers takes effect, is deferred or is refused, depending on the loop state. -/
  | loopConfigWrite (acc : Acc) (addr : BitVec 16) (v : BitVec 32)
  /-- LP_VSET_WRITE (R47): A write to LP_VSET is accepted as the new target from the setpoint owner, or is ignored with SPFAULT. -/
  | lpVsetWrite (acc : Acc) (n : Loop) (v : BitVec 16)
  /-- LP_BSWAP (R42): LP_CTL.BSWAP makes the pending coefficient bank active and copies it back into the pending bank. -/
  | lpBswap (acc : Acc) (n : Loop)
  /-- LP_OVCLR (R63): LP_CTL.OVCLR clears an OV latch when the output is below LP_UV; otherwise it is ignored. -/
  | lpOvclr (acc : Acc) (n : Loop)
  /-- LP_CNTCLR (R67): LP_CTL.CNTCLR clears the loop's counters and the PH_OCCNT of its phases. -/
  | lpCntclr (acc : Acc) (n : Loop)
  /-- EC_SAMPLE (R38): The error converter produces an error sample at its OSR instant, and the reference moves one step. -/
  | ecSample (n : Loop) (vout : BitVec 16)
  /-- COMPENSATOR_RUN (R40): The compensator completes its computation on an error result and hands a new duty to the edge scheduler. -/
  | compensatorRun (n : Loop) (lat : BitVec 16)
  /-- PHASE_PERIOD_START (R29): A phase reaches its period start and places its on-time, with the remainder carried. -/
  | phasePeriodStart (m : Phase)
  /-- DIODE_EMULATION_MID (R32): In diode emulation, IMON shows the inductor current crossing zero, and the phase drives mid. -/
  | diodeEmulationMid (m : Phase)
  /-- PG_DWELL_EXPIRY (R51): The output has stayed within LP_PGWIN for LP_PGDLY, so SETTLED and PG are set and STATE becomes REGULATING. -/
  | pgDwellExpiry (n : Loop)
  /-- SHARE_TRIM_UPDATE (R56): Every 16 phase periods, the phase's sharing trim moves by SHAREK toward the mean. -/
  | shareTrimUpdate (m : Phase)
  /-- PHASE_SHED (R57): LP_IOUT has stayed below the shed threshold for LP_SHED_DLY, so one phase is shed. -/
  | phaseShed (n : Loop)
  /-- PHASE_RESTORE (R57): At the next loop period start after LP_IOUT exceeds a·LP_IPHUP, one phase is restored. -/
  | phaseRestore (n : Loop)
  /-- SHED_HOLD_EXPIRY (R59): The shedding hold after a load step ends, and STEPHOLD clears. -/
  | shedHoldExpiry (n : Loop)
  /-- LOOP_OV_TRIP (R62): The output exceeds LP_OV, so every assigned phase is held low and the loop latches OVLATCHED. -/
  | loopOvTrip (n : Loop)
  /-- LOOP_UV (R62): The output has stayed below LP_UV for 1 µs while armed, so UV is reported and PG clears. -/
  | loopUv (n : Loop)
  /-- PHASE_OC (R62): IMON exceeds PH_OCTHR after blanking, and the high-side pulse ends at once. -/
  | phaseOc (m : Phase)
  /-- LOOP_OC (R62): LP_IOUT stays above LP_OCTHR for OCDLY, or the persist count is reached, so loop over-current is reported. -/
  | loopOc (n : Loop)
  /-- EC_TRIM_UPDATE (R64): Every 10 ms, LP_ECTRIM moves toward the measured offset, unless the interval is skipped. -/
  | ecTrimUpdate (n : Loop)
  /-- DELAY_LINE_CAL (R65): Every 1 ms, the delay lines of the PWM pins are recalibrated against the PLL. -/
  | delayLineCal (m : Phase) (taps : BitVec 16)
  -- Velong links (03)
  /-- VL_PING (R77): Velong PING returns the link's capability word. -/
  | vlPing (k : Link) (x : VlFrame)
  /-- VL_SETV (R82): Velong SETV writes the rail's target as the Velong owner and answers with the target as accepted. -/
  | vlSetv (k : Link) (x : VlFrame)
  /-- VL_GETV (R77): Velong GETV returns LP_VOUT of the mapped loop. -/
  | vlGetv (k : Link) (x : VlFrame)
  /-- VL_GETI (R77): Velong GETI returns LP_IOUT of the mapped loop. -/
  | vlGeti (k : Link) (x : VlFrame)
  /-- VL_GETP (R77): Velong GETP returns LP_POUT of the mapped loop. -/
  | vlGetp (k : Link) (x : VlFrame)
  /-- VL_GETSTAT (R85): Velong GETSTAT returns the status word and clears the read-clear bits it returns. -/
  | vlGetstat (k : Link) (x : VlFrame)
  /-- VL_THRACK (R86): Velong THRACK sets the acknowledged throttle level. -/
  | vlThrack (k : Link) (x : VlFrame)
  /-- VL_SETSLEW (R77): Velong SETSLEW writes LP_SLEW of the rail's loop when SLEWEN allows it. -/
  | vlSetslew (k : Link) (x : VlFrame)
  /-- VL_GETVSET (R77): Velong GETVSET returns LP_VSET of the mapped loop. -/
  | vlGetvset (k : Link) (x : VlFrame)
  /-- VL_RESYNC (R80): Velong RESYNC clears the sequence history and the replay store. -/
  | vlResync (k : Link) (x : VlFrame)
  /-- VL_RESERVED_CMD (R79): A reserved Velong command code is answered with NAK BADCMD. -/
  | vlReservedCmd (k : Link) (n : Fin 6) (x : VlFrame)
  /-- VL_BAD_CRC (R76): A command frame with a bad CRC is not executed and is answered with RETRY. -/
  | vlBadCrc (k : Link) (frame : BitVec 32) (lat : BitVec 16) (freq : BitVec 16) (still : Bool)
  /-- VL_BAD_START (R76): A START of 0b00 takes no frame, and the link waits for the line to idle. -/
  | vlBadStart (k : Link)
  /-- VL_FRAME_CLOCK_STOP (R76): VLCKn has no edge for 10 µs within a command frame, so the partial frame is discarded. -/
  | vlFrameClockStop (k : Link)
  /-- VL_RESPONSE_ABANDON (R76): A response is abandoned when the clock stops or a new command starts, and the stored response is kept for replay. -/
  | vlResponseAbandon (k : Link)
  /-- VL_THROTTLE_TIMEOUT (R86): REQ has stayed above ACK for VL_THRTO, so THRTO and the throttle-timeout event are raised. -/
  | vlThrottleTimeout (k : Link)
  /-- VL_LINK_ENABLE (R87): VL_CTL.EN is written 1, and the link enters WAIT, or stays DISABLED on CFGERR. -/
  | vlLinkEnable (acc : Acc) (k : Link)
  /-- VL_LINK_DISABLE (R87): VL_CTL.EN is written 0, and the link is disabled. -/
  | vlLinkDisable (acc : Acc) (k : Link)
  /-- VL_DEFERRED_DISABLE (R92): A disable written during a frame takes effect once the frame and its response have completed. -/
  | vlDeferredDisable (k : Link)
  /-- VL_CTL_RESYNC (R80): VL_CTL.RESYNC clears the sequence history and the replay store. -/
  | vlCtlResync (acc : Acc) (k : Link)
  /-- VL_CNTCLR (R93): VL_CTL.CNTCLR clears the link's counters. -/
  | vlCntclr (acc : Acc) (k : Link)
  /-- VL_KEEPALIVE_TIMEOUT (R88): No good command frame has arrived for VL_KATO, so the link enters LOST. -/
  | vlKeepaliveTimeout (k : Link)
  -- Budget Guard (04)
  /-- GUARD_FRAME (R98): The 1 µs Guard frame computes the allowed draw and the room, and sets the tiers. -/
  | guardFrame (x : GuardFrame)
  /-- FDOK_FALL (R110): FDOKn of a fitted, enabled channel falls after its filter, which counts as feed loss. -/
  | fdokFall (c : Chan)
  /-- FDOK_RISE (R114): FDOKn rises, and qualification restarts from that edge. -/
  | fdokRise (c : Chan)
  /-- BG_PKCLR (R119): BG_CTL.PKCLR clears BG_PMAX. -/
  | bgPkclr (acc : Acc)
  /-- BG_CNTCLR (R119): BG_CTL.CNTCLR clears the Guard's counters. -/
  | bgCntclr (acc : Acc)
  /-- BG_CONFIG_WRITE (R124): A write to a Guard RWS field re-evaluates CFGERR and applies the new setting from the next frame. -/
  | bgConfigWrite (acc : Acc) (addr : BitVec 16) (v : BitVec 32)
  -- Drill (05)
  /-- SEQ_CMD_ON (R138): An ON written to SEQ_CMD starts, defers or is refused for the named profile. -/
  | seqCmdOn (acc : Acc) (p : Profile)
  /-- SEQ_CMD_OFF (R138): An OFF written to SEQ_CMD starts a power-down or reversal as the drill state allows. -/
  | seqCmdOff (acc : Acc)
  /-- SEQ_CMD_SWITCH (R142): A SWITCH written to SEQ_CMD starts a switch to the named profile. -/
  | seqCmdSwitch (acc : Acc) (p : Profile)
  /-- SEQ_CMD_UNLATCH (R136): An UNLATCH written to SEQ_CMD returns a latched drill to OFF and clears SEQ_FAILED. -/
  | seqCmdUnlatch (acc : Acc)
  /-- SEQ_CMD_CNTCLR (R149): SEQ_CMD.CNTCLR clears SEQ_FAILCNT and every SEQ_RFAILCNT. -/
  | seqCmdCntclr (acc : Acc)
  /-- SEQ_CMD_INVALID (R138): A reserved or refused command written to SEQ_CMD is ignored, and CMDREF is set. -/
  | seqCmdInvalid (acc : Acc) (v : BitVec 16)
  /-- DRILL_ON_SLOT (R132): A rail's on-slot tick arrives, so the loop soft-starts or XENn is driven high, or the rail is marked SHED. -/
  | drillOnSlot (r : Rail) (vout : BitVec 16)
  /-- DRILL_OFF_SLOT (R134): A rail's off-slot tick arrives, so the loop goes off or XENn is driven low. -/
  | drillOffSlot (r : Rail)
  /-- RISE_TIMEOUT (R132): A rail is not good SEQ_RTO after its on-slot, which is a failure by rise time-out. -/
  | riseTimeout (r : Rail)
  /-- FALL_TIMEOUT (R134): A rail has not fallen SEQ_FTO after its off-slot, which is a failure by fall time-out. -/
  | fallTimeout (r : Rail)
  /-- XPG_CHANGE (R128): XPGn changes level after its filter. -/
  | xpgChange (x : Fin 16) (level : Bool)
  /-- RSTOUT_STRETCH_EXPIRY (R146): A reset output's stretch ends, and the output releases. -/
  | rstoutStretchExpiry (n : RstOut)
  /-- SEQ_PROFILE_WRITE (R129): A write to a profile table is stored, or is ignored with PFWREF while the profile is in use. -/
  | seqProfileWrite (acc : Acc) (addr : BitVec 16) (v : BitVec 32)
  -- Measurement (06)
  /-- TRIGGER_TIMER_TICK (R163): A trigger timer ticks and triggers the sequences that use it. -/
  | triggerTimerTick (n : Fin 16)
  /-- PWM_EDGE_TRIGGER (R158): A selected PWM edge of a phase triggers a sequence. -/
  | pwmEdgeTrigger (m : Phase) (edge : Fin 3) (frac : Fin 800)
  /-- MS_SWTRIG (R158): A write to MS_SWTRIG triggers an enabled user sequence. -/
  | msSwtrig (acc : Acc) (v : BitVec 16)
  /-- CONVERSION_DONE (R169): A conversion ends, and its result is stored if its sampling instant is the newest. -/
  | conversionDone (a : Adc) (e : Entry) (code : BitVec 12) (ovr : Bool) (t : BitVec 64)
  /-- MS_URGENT (R165): An urgent request through MS_URGENT converts an entry ahead of its seat's work, or is refused. -/
  | msUrgent (acc : Acc) (e : Entry)
  /-- MS_SEQ_ENABLE (R156): MS_SEQTRIG.EN is written 1 and enables the sequence, or is refused with SEQREF. -/
  | msSeqEnable (acc : Acc) (n : SeqNo) (v : BitVec 16)
  /-- MS_SEQ_DISABLE (R162): MS_SEQTRIG.EN is written 0, pending entries are dropped and running conversions complete. -/
  | msSeqDisable (acc : Acc) (n : SeqNo) (v : BitVec 16)
  /-- MS_PLAN_WRITE (R157): A write to a plan entry is stored, or is ignored with PLANWREF while its sequence is enabled. -/
  | msPlanWrite (acc : Acc) (addr : BitVec 16) (v : BitVec 16)
  /-- MS_TTCTL_WRITE (R163): A rising bit in MS_TTCTL starts a trigger timer with its offset. -/
  | msTtctlWrite (acc : Acc) (v : BitVec 16)
  /-- MS_CNTCLR (R181): MS_CTL.CNTCLR clears the measurement counters. -/
  | msCntclr (acc : Acc)
  /-- MS_RESULT_READ (R168): A read of a result register freezes the value for the reader and clears that reader's NEW. -/
  | msResultRead (acc : Acc) (e : Entry)
  /-- ROTATION_STEP (R173): A ring steps, passing a seat to the freshly calibrated converter and sending the leaving one to the bay. -/
  | rotationStep (ring : Fin 2) (good : Bool)
  /-- STARTUP_PASS_DONE (R174): The converters' start-up pass completes, and the sequences may run. -/
  | startupPassDone (failed : BitVec 24)
  -- Charger and lamps (07)
  /-- STAGE_PERIOD_START (R184): At each stage period start, the operating region is chosen and the controllers act. -/
  | stagePeriodStart (cs : BitVec 12) (vb : BitVec 12) (vs : BitVec 12)
  /-- CHG_SENSE_CHECK (R185): Every 10 ms, the charger's sense offset moves toward the plan results. -/
  | chgSenseCheck (cs : BitVec 12) (vb : BitVec 12) (vs : BitVec 12)
  /-- QUALIFY_REST_END (R195): The 1 s qualifying rest ends, and its voltage chooses precharge, pulse charging or a fault. -/
  | qualifyRestEnd (v : BitVec 16) (imax : BitVec 16)
  /-- REST_END (R197): A rest ends, and its validity and voltage decide the next pulse current and phase. -/
  | restEnd (v : BitVec 16) (imax : BitVec 16) (iavg : BitVec 16)
  /-- CHG_RESTART (R195): CHG_CTL.RESTART starts a new cycle from QUALIFY. -/
  | chgRestart (acc : Acc)
  /-- CHG_FLTCLR (R201): CHG_CTL.FLTCLR clears FAULT if its cause is gone, or sets FLTREF. -/
  | chgFltclr (acc : Acc)
  /-- CHG_HOLD (R195): A write of CHG_CTL.HOLD holds the charger in OFF, or releases it. -/
  | chgHold (acc : Acc) (hold : Bool)
  /-- CHG_CNTCLR (R208): CHG_CTL.CNTCLR clears the charger's counters. -/
  | chgCntclr (acc : Acc)
  /-- CHG_CONFIG_WRITE (R210): A write to a charger RWS field applies or holds the value and re-evaluates CFGERR. -/
  | chgConfigWrite (acc : Acc) (addr : BitVec 16) (v : BitVec 32)
  /-- LAMP_PATTERN_STEP (R203): A lamp pattern reaches its next phase on CKD_RTC. -/
  | lampPatternStep (l : Fin 2)
  -- Gauge and pack tag (08)
  /-- GG_CKPT (R223): GG_CTL.CKPT writes a gauge record. -/
  | ggCkpt (acc : Acc)
  /-- GG_UNANCHOR (R218): GG_CTL.UNANCHOR clears ANCHORED and spoils the traverse. -/
  | ggUnanchor (acc : Acc)
  /-- GG_CNTCLR (R243): GG_CTL.CNTCLR clears GG_LEARNCNT and GG_GAPCNT. -/
  | ggCntclr (acc : Acc)
  /-- PACK_PRESENT (R226): The NTC reads present for 100 ms and tag pages 0–3 have been read, so the pack is present, known or new. -/
  | packPresent (type : Byte) (pages : List Byte)
  /-- PK_RESCAN (R228): PK_CTL.RESCAN reads tag pages 0–3 again and handles a changed serial. `lo` and `hi` are the bytes
  written to PK_CTL, RESCAN among them. -/
  | pkRescan (acc : Acc) (lo hi : Byte)
  /-- PK_CNTCLR (R243): PK_CTL.CNTCLR clears PK_ERRCNT and PK_TXCNT. -/
  | pkCntclr (acc : Acc)
  /-- PK_MAILBOX_READ (R237): A mailbox GO with OP READ reads a tag page into PK_XBUF. -/
  | pkMailboxRead (acc : Acc) (page : Fin 16)
  /-- PK_MAILBOX_WRITE (R237): A mailbox GO with OP WRITE writes a user page of the tag, or is refused with 0xFE. -/
  | pkMailboxWrite (acc : Acc) (page : Fin 16)
  /-- TAG_RESPONSE (R233): A tag response frame is received and judged by its CRC and STATUS. -/
  | tagResponse (line : List Bool)
  -- Kotried instructions (10): furrow `f` issues the instruction
  /-- ADD (R273): Wrapping addition. -/
  | add (f : Furrow) (d a b : KReg)
  /-- ADDS (R273): Saturating addition. -/
  | adds (f : Furrow) (d a b : KReg)
  /-- SUB (R273): Wrapping subtraction. -/
  | sub (f : Furrow) (d a b : KReg)
  /-- SUBS (R273): Saturating subtraction. -/
  | subs (f : Furrow) (d a b : KReg)
  /-- AND (R273): Bitwise AND of two registers. -/
  | and (f : Furrow) (d a b : KReg)
  /-- OR (R273): Bitwise OR of two registers. -/
  | or (f : Furrow) (d a b : KReg)
  /-- XOR (R273): Bitwise XOR of two registers. -/
  | xor (f : Furrow) (d a b : KReg)
  /-- SHL (R273): Shift left by a register amount. -/
  | shl (f : Furrow) (d a b : KReg)
  /-- SHR (R273): Logical shift right by a register amount. -/
  | shr (f : Furrow) (d a b : KReg)
  /-- SAR (R273): Arithmetic shift right by a register amount. -/
  | sar (f : Furrow) (d a b : KReg)
  /-- CMP (R273): Compare two registers and set the flags. -/
  | cmp (f : Furrow) (a b : KReg)
  /-- MIN (R273): Signed minimum of two registers. -/
  | min (f : Furrow) (d a b : KReg)
  /-- MAX (R273): Signed maximum of two registers. -/
  | max (f : Furrow) (d a b : KReg)
  /-- MUL (R273): Low 32 bits of the signed product. -/
  | mul (f : Furrow) (d a b : KReg)
  /-- ABS (R273): Saturating absolute value. -/
  | abs (f : Furrow) (d a : KReg)
  /-- NEG (R273): Saturating negation. -/
  | neg (f : Furrow) (d a : KReg)
  /-- MULQ (R274): Rounded, saturating fixed-point multiply. -/
  | mulq (f : Furrow) (d a b : KReg) (sh : BitVec 5)
  /-- MAC (R274): Rounded, saturating multiply-accumulate. -/
  | mac (f : Furrow) (d a b : KReg) (sh : BitVec 5)
  /-- MSU (R274): Rounded, saturating multiply-subtract. -/
  | msu (f : Furrow) (d a b : KReg) (sh : BitVec 5)
  /-- MOVI (R275): Load a sign-extended immediate. -/
  | movi (f : Furrow) (d : KReg) (imm : BitVec 16)
  /-- MOVHI (R275): Set the upper half of a register from an immediate. -/
  | movhi (f : Furrow) (d : KReg) (imm : BitVec 16)
  /-- ADDI (R275): Add a sign-extended immediate. -/
  | addi (f : Furrow) (d a : KReg) (imm : BitVec 16)
  /-- ANDI (R275): Bitwise AND with an immediate. -/
  | andi (f : Furrow) (d a : KReg) (imm : BitVec 16)
  /-- ORI (R275): Bitwise OR with an immediate. -/
  | ori (f : Furrow) (d a : KReg) (imm : BitVec 16)
  /-- XORI (R275): Bitwise XOR with an immediate. -/
  | xori (f : Furrow) (d a : KReg) (imm : BitVec 16)
  /-- CMPI (R275): Compare with an immediate. -/
  | cmpi (f : Furrow) (a : KReg) (imm : BitVec 16)
  /-- TSTI (R275): Test bits against an immediate. -/
  | tsti (f : Furrow) (a : KReg) (imm : BitVec 16)
  /-- SHLI (R275): Shift left by an immediate amount. -/
  | shli (f : Furrow) (d a : KReg) (n : BitVec 5)
  /-- SHRI (R275): Logical shift right by an immediate amount. -/
  | shri (f : Furrow) (d a : KReg) (n : BitVec 5)
  /-- SARI (R275): Arithmetic shift right by an immediate amount. -/
  | sari (f : Furrow) (d a : KReg) (n : BitVec 5)
  /-- LDB (R276): Load a zero-extended byte from data memory. -/
  | ldb (f : Furrow) (d : KReg) (m : MAddr)
  /-- LDBS (R276): Load a sign-extended byte from data memory. -/
  | ldbs (f : Furrow) (d : KReg) (m : MAddr)
  /-- LDH (R276): Load a zero-extended halfword from data memory. -/
  | ldh (f : Furrow) (d : KReg) (m : MAddr)
  /-- LDHS (R276): Load a sign-extended halfword from data memory. -/
  | ldhs (f : Furrow) (d : KReg) (m : MAddr)
  /-- LDW (R276): Load a word from data memory. -/
  | ldw (f : Furrow) (d : KReg) (m : MAddr)
  /-- STB (R276): Store a byte to data memory. -/
  | stb (f : Furrow) (d : KReg) (m : MAddr)
  /-- STH (R276): Store a halfword to data memory. -/
  | sth (f : Furrow) (d : KReg) (m : MAddr)
  /-- STW (R276): Store a word to data memory. -/
  | stw (f : Furrow) (d : KReg) (m : MAddr)
  /-- LDR (R277): Start a 16-bit register-space read; the furrow waits for it. -/
  | ldr (f : Furrow) (d : KReg) (sx : Bool) (m : MAddr)
  /-- STR (R277): Start a 16-bit register-space write; the furrow waits for it. -/
  | str (f : Furrow) (d : KReg) (m : MAddr)
  /-- ATOM_SET (R278): Atomic OR into a register. -/
  | atomSet (f : Furrow) (d a : KReg) (addr : BitVec 16)
  /-- ATOM_CLR (R278): Atomic clear of bits in a register. -/
  | atomClr (f : Furrow) (d a : KReg) (addr : BitVec 16)
  /-- ATOM_ADD (R278): Atomic add to a register. -/
  | atomAdd (f : Furrow) (d a : KReg) (addr : BitVec 16)
  /-- ATOM_XCH (R278): Atomic exchange with a register. -/
  | atomXch (f : Furrow) (d a : KReg) (addr : BitVec 16)
  /-- CAS (R278): Atomic compare-and-swap on a register. -/
  | cas (f : Furrow) (d a : KReg) (addr : BitVec 16)
  /-- B (R280): Conditional branch to a target. -/
  | b (f : Furrow) (cond : BitVec 4) (target : BitVec 14)
  /-- CALL (R280): Push the return address and branch. -/
  | call (f : Furrow) (target : BitVec 14)
  /-- RET (R280): Pop the return address and branch to it. -/
  | ret (f : Furrow)
  /-- JMP (R280): Jump to the address in a register. -/
  | jmp (f : Furrow) (a : KReg)
  /-- CALLR (R280): Call the address in a register. -/
  | callr (f : Furrow) (a : KReg)
  /-- RDTB (R282): Read the low 32 bits of the timebase. -/
  | rdtb (f : Furrow) (d : KReg)
  /-- WDC (R282): Read a watchdog slot's challenge. -/
  | wdc (f : Furrow) (d : KReg) (slot : WSlot)
  /-- WDA (R282): Offer a token to a watchdog slot. -/
  | wda (f : Furrow) (a : KReg) (slot : WSlot)
  /-- WAIT_E (R281): Wait for the next queue entry, with an optional time-out. -/
  | waitE (f : Furrow) (d : KReg) (t : TSrc)
  /-- WAIT_T (R281): Wait for n timebase ticks, or yield the core. -/
  | waitT (f : Furrow) (t : TSrc)
  /-- WAIT_TA (R281): Wait for an absolute timebase value. -/
  | waitTa (f : Furrow) (a : KReg)
  /-- WAIT_S (R281): Wait for a sequence's done bit, with an optional time-out. -/
  | waitS (f : Furrow) (a : KReg) (imm : BitVec 16)
  /-- TRIG_S (R282): Software trigger of a sequence. -/
  | trigS (f : Furrow) (t : TSrc)
  /-- TRIG_U (R282): Urgent request for a plan entry. -/
  | trigU (f : Furrow) (t : TSrc)
  /-- POST (R282): Complete a held hopper item with a status and a result. -/
  | post (f : Furrow) (d a b : KReg)
  /-- SIG (R282): Raise software event EV248 + n. -/
  | sig (f : Furrow) (n : Fin 8)
  /-- STOP (R283): The furrow stops, its queue is emptied and its items complete. -/
  | stop (f : Furrow)
  /-- NOP (R282): An instruction that does nothing. -/
  | nop (f : Furrow)
  /-- ILLEGAL_INSTRUCTION (R270): A reserved opcode or a bad encoding faults ILLEGAL. -/
  | illegalInstruction (f : Furrow) (w : BitVec 32)
  -- Engine (09)
  /-- REG_ACCESS_DONE (R248): A furrow's register-space access completes, and the furrow becomes READY. -/
  | regAccessDone (f : Furrow)
  /-- WAIT_RESUME (R256): A waiting furrow's entry, tick or done bit arrives, and the furrow becomes READY. -/
  | waitResume (f : Furrow)
  /-- WAIT_TIMEOUT (R256): A wait's time-out passes, and C reports it. -/
  | waitTimeout (f : Furrow)
  /-- FURROW_RESTART (R261): KE_FCTL.RESTART restarts a stopped or faulted furrow at its entry. -/
  | furrowRestart (acc : Acc) (f : Furrow)
  /-- FURROW_HALT (R264): KE_FCTL.HALT halts a furrow under debug. -/
  | furrowHalt (acc : Acc) (f : Furrow)
  /-- FURROW_RESUME (R264): KE_FCTL.RESUME clears HALTED. -/
  | furrowResume (acc : Acc) (f : Furrow)
  /-- FURROW_STEP (R264): KE_FCTL.STEP runs one instruction, then halts. -/
  | furrowStep (acc : Acc) (f : Furrow)
  /-- KE_DBGEN_WRITE (R264): The owner's write of KE_CTL.DBGEN opens debug, or is refused with DBGREF. -/
  | keDbgenWrite (acc : Acc) (en : Bool)
  /-- KE_CNTCLR (R268): KE_CTL.CNTCLR clears KE_FAULTCNT and KE_EVQOVCNT. -/
  | keCntclr (acc : Acc)
  /-- KE_MDATA_ACCESS (R264): A debug access to KE_MDATA reads or writes memory and advances KE_MADDR. -/
  | keMdataAccess (p : Port) (wr : Option (BitVec 32))
  -- Hopper (11, 13)
  /-- DOORBELL (R288): HOP_SUBCTL.RING submits the accessor's buffer, which is accepted with a tag or refused. -/
  | doorbell (acc : Acc)
  /-- HOP_RESERVED_CODE (R290): An item with a reserved code or bad arguments completes REJECTED_BAD_ARG. -/
  | hopReservedCode (tag : Tag)
  /-- HOP_NOP (R291): The NOP command completes DONE with the operating time. -/
  | hopNop (tag : Tag)
  /-- ABORT (R299): ABORT ends an in-flight item named by tag and cookie, if it wins the race. -/
  | abort (tag : Tag)
  /-- DISABLE (R301): DISABLE puts a function into DRAINING and completes when its items have ended. -/
  | disable (tag : Tag)
  /-- ENABLE (R291): ENABLE clears a disabled function. -/
  | enable (tag : Tag)
  /-- DRILL_ON (R291): The hopper command DRILL_ON powers up a profile. -/
  | drillOn (tag : Tag)
  /-- DRILL_OFF (R291): The hopper command DRILL_OFF powers down whatever runs. -/
  | drillOff (tag : Tag)
  /-- DRILL_SWITCH (R291): The hopper command DRILL_SWITCH switches to another profile. -/
  | drillSwitch (tag : Tag)
  /-- DRILL_UNLATCH (R291): The hopper command DRILL_UNLATCH clears a latched drill. -/
  | drillUnlatch (tag : Tag)
  /-- LOOP_SETV (R292): LOOP_SETV writes a loop's target and completes when it settles. -/
  | loopSetv (tag : Tag)
  /-- LOOP_SETV_TIMEOUT (R292): LOOP_SETV's time-out passes before SETTLED, and the item completes FAILED_TIMEOUT. -/
  | loopSetvTimeout (tag : Tag)
  /-- CFG_STAGE_OPEN (R359): CFG_STAGE_OPEN opens a staging of a given length and version. -/
  | cfgStageOpen (tag : Tag)
  /-- CFG_STAGE_CLOSE (R359): CFG_STAGE_CLOSE verifies the staged image and marks it CLOSED or BAD. -/
  | cfgStageClose (tag : Tag)
  /-- CFG_COMMIT (R361): CFG_COMMIT rotates the roles so that STAGED becomes ACTIVE on probation. -/
  | cfgCommit (tag : Tag)
  /-- CFG_CONFIRM (R364): CFG_CONFIRM ends ACTIVE's probation. -/
  | cfgConfirm (tag : Tag)
  /-- CFG_ROLLBACK (R365): CFG_ROLLBACK makes PREVIOUS the ACTIVE. -/
  | cfgRollback (tag : Tag)
  /-- ENGINE_RESET (R293): The ENGINE_RESET command completes DONE, and the engine reset follows. -/
  | engineReset (tag : Tag)
  /-- RAIL_CYCLE (R293): The RAIL_CYCLE command completes DONE, and a rail-cycle reset follows. -/
  | railCycle (tag : Tag)
  /-- ENTER_NEWT (R293): ENTER_NEWT arranges entry to NEWT 10 ms later, or is refused. -/
  | enterNewt (tag : Tag)
  /-- RTC_SET (R391): RTC_SET sets the RTC and buffers an anchor record. -/
  | rtcSet (tag : Tag)
  /-- REC_MARK (R291): REC_MARK buffers a MARK record with host text. -/
  | recMark (tag : Tag)
  /-- REC_FLUSH (R371): REC_FLUSH writes the record buffer to NV and completes with the newest number flushed. -/
  | recFlush (tag : Tag)
  /-- PROGRAM_COMMAND (R257): An item with a code from 0x80 to 0xFF is dispatched to its furrow or completes at once. -/
  | programCommand (tag : Tag)
  /-- JOURNAL_CLOSE (R303): After the completion record, the item's journal slot is rewritten CLOSED. -/
  | journalClose (tag : Tag)
  /-- DRAIN_TIMEOUT (R301): The drain time ends, and the remaining items complete ABORTED_BY_DISABLE. -/
  | drainTimeout (tag : Tag)
  /-- HOP_CNEXT_READ (R298): Reading the completion window freezes the record at byte 0 and advances HOP_CRD at byte 15. -/
  | hopCnextRead (acc : Acc) (i : Fin 16)
  /-- HOP_CAVAIL_READ (R298): Reading HOP_CAVAIL's high byte clears the reader's OVR. -/
  | hopCavailRead (acc : Acc)
  /-- HOP_CNTCLR (R309): HOP_CTL.CNTCLR clears the hopper counters. -/
  | hopCntclr (acc : Acc)
  -- Host ports and ownership (12)
  /-- HP_WRITE_TRANSACTION (R312): An I²C write transaction sets the pointer and writes data bytes, subject to ownership. -/
  | hpWriteTransaction (p : Port) (bytes : List Byte) (fin : BusEnd)
  /-- HP_READ_TRANSACTION (R312): An I²C read transaction returns bytes from the pointer onward. -/
  | hpReadTransaction (p : Port) (x : BusRead)
  /-- HP_STRETCH_TIMEOUT (R314): A clock stretch reaches 40 µs, so the byte is sent as 0xFF or NACKed. -/
  | hpStretchTimeout (p : Port) (written : Option Byte)
  /-- HP_BUS_TIMEOUT (R315): SCL has been held low for 25 ms, so the port releases the bus. -/
  | hpBusTimeout (p : Port)
  /-- ID_CLAIM (R319): A claim write opens or joins an election window, or accepts a handover. -/
  | idClaim (p : Port) (v : BitVec 32)
  /-- ID_RENEW (R320): The owner's nonce written to ID_RENEW restarts the lease. -/
  | idRenew (p : Port) (nonce : BitVec 16)
  /-- OWNER_RELEASE (R320): ID_OCTL.RELEASE returns ownership to default. -/
  | ownerRelease (p : Port)
  /-- HANDOVER_OFFER (R321): ID_OCTL.HGO offers ownership to a successor port. -/
  | handoverOffer (p : Port) (succ : BitVec 2)
  /-- ATTN_REQUEST (R323): With a cause present and the bus idle for 100 µs, the port pulls SDA low for t_ATN. -/
  | attnRequest (p : Port)
  /-- ATTN_MISS (R323): t_ATN ends without SCL falling, so SDA is released and the miss is counted. -/
  | attnMiss (p : Port)
  /-- ATTN_ANSWER (R324): A controller clocks the answer frame, and HP_ATNSTAT is sent. -/
  | attnAnswer (p : Port) (wonByte1 : Bool) (n : Nat) (ack : Bool)
  /-- HP_ATNSTAT_READ (R326): A port's read of the high byte of its HP_ATNSTAT clears OWN. -/
  | hpAtnstatRead (p : Port)
  /-- HP_CNTCLR (R332): HP_CTL.CNTCLR clears the counters of all three ports. -/
  | hpCntclr (acc : Acc)
  -- Start-up and device states (13)
  /-- HB1_GOOD (R334): HB1 reaches regulation, the core domain is released and the straps are sampled. -/
  | hb1Good (adsel : BitVec 3) (t3 : Measured)
  /-- START_DELAY_EXPIRY (R334): The CKDLY start delay ends, and the REFCLK range check runs. -/
  | startDelayExpiry (count : Nat)
  /-- PLL_LOCK (R334): The PLL locks, the timebase starts and the ports begin to answer. -/
  | pllLock (locked : Bool)
  /-- POR_SUPPLY (R342): VINMAX falls below V_POR, and every domain stops. -/
  | porSupply (newtLost : Bool)
  /-- PFI_ASSERT (R346): PFI is held low for 2 µs with PFIEN set, so the brown-out flag is set. -/
  | pfiAssert (low : Bool)
  /-- FLUSH_DONE (R347): The power-fail flush ends, FLUSHING clears and FLUSH_DONE is raised. -/
  | flushDone (us : Nat)
  /-- WAKE_ASSERT (R341): WAKE held low for 1 ms wakes the device from NEWT. -/
  | wakeAssert (low : Bool)
  /-- CFG_DSCTL_CNTCLR (R352): CFG_DSCTL.CNTCLR clears the device-state counters and resets CFG_VINMIN. -/
  | cfgDsctlCntclr (acc : Acc)
  -- Configuration, NV and recorder (14)
  /-- CFG_WCTL_GO (R356): CFG_WCTL.GO writes the 64-byte buffer to the staged image or the user area, or reports why not. -/
  | cfgWctlGo (acc : Acc) (target : Bool)
  /-- NV_BLOCK_WRITE_DONE (R354): An NV block write and its read-back complete, with one retry on a mismatch. -/
  | nvBlockWriteDone (ok1 ok2 : Bool)
  /-- REC_CTL_SNAP (R369): REC_CTL.SNAP takes a snapshot. -/
  | recCtlSnap (acc : Acc)
  /-- REC_CTL_FLUSH (R370): REC_CTL.FLUSH starts a recorder flush. -/
  | recCtlFlush (acc : Acc)
  /-- REC_CTL_CNTCLR (R378): REC_CTL.CNTCLR clears the recorder counters. -/
  | recCtlCntclr (acc : Acc)
  /-- REC_FLUSH_DONE (R370): A recorder flush finishes writing the records and snapshots. -/
  | recFlushDone (ok : Bool)
  /-- CFG_CNTCLR (R378): CFG_CTL.CNTCLR clears CFG_REGSKIP and CFG_NVFAILCNT. -/
  | cfgCntclr (acc : Acc)
  -- Clocks and RTC (15)
  /-- CLK_SWITCH_PWM (R382): A write of CLK_DSEL.PWMSRC starts a switch of CKD_PWM, or is refused. -/
  | clkSwitchPwm (acc : Acc) (src : Bool)
  /-- CLK_SWITCH_TB (R382): A write of CLK_DSEL.TBSRC starts a switch of CKD_TB. -/
  | clkSwitchTb (acc : Acc) (src : Bool)
  /-- CLK_SWITCH_RTC (R382): A write of CLK_DSEL.RTCSRC starts a switch of CKD_RTC. -/
  | clkSwitchRtc (acc : Acc) (src : Bool)
  /-- CLKOUT_CHANGE (R385): A write to CLK_OUT or CLK_OUTDIV holds CLKOUT low while it changes. -/
  | clkoutChange (acc : Acc) (isDiv : Bool) (v : BitVec 16)
  /-- RTC_CDN_WRITE (R393): A write to RTC_CDN loads and starts the countdown, or stops it. -/
  | rtcCdnWrite (acc : Acc) (v : BitVec 32)
  /-- CLK_CNTCLR (R396): CLK_CTL.CNTCLR clears CLK_SWCNT and the lost-cycle counters. -/
  | clkCntclr (acc : Acc)
  -- Thermal (16)
  /-- THERMAL_SHUTDOWN (R407): A die shutdown comparator trips after its filter, so the device enters LATCHED. -/
  | thermalShutdown (n : Fin 8)
  /-- TH_CNTCLR (R413): TH_CTL.CNTCLR clears the thermal counters and TH_LASTSHUT. -/
  | thCntclr (acc : Acc)
  -- Events and watchdog (17)
  /-- EVT_STAT_CLEAR (R416): Writing 1 to an EVT_STAT bit clears the pending event and its attention. -/
  | evtStatClear (acc : Acc) (i : Fin 16) (v : BitVec 16)
  /-- EVT_CLRALL (R416): EVT_CTL.CLRALL clears every status bit. -/
  | evtClrall (acc : Acc)
  /-- EVT_SWSET (R421): A write to EVT_SWSET raises software events. -/
  | evtSwset (acc : Acc) (v : BitVec 16)
  /-- EVT_ROUTE_WRITE (R417): A route write takes effect at once for the pins and in-band attention. -/
  | evtRouteWrite (acc : Acc) (e : Fin 256) (v : BitVec 16)
  /-- WDG_TOKEN_WRITE (R427): A token written to WDG_TOKEN is judged and accepted, or marked DOUBLE or BAD. -/
  | wdgTokenWrite (acc : Acc) (n : WSlot) (v : BitVec 16)
  /-- WDG_PERIOD_END (R428): A slot's period ends without a token, which warns or resets. -/
  | wdgPeriodEnd (n : WSlot)
  /-- WDG_CNTCLR (R435): WDG_CTL.CNTCLR clears the warning and reset counts and ESC. -/
  | wdgCntclr (acc : Acc)
  /-- WDG_CONFIG_WRITE (R431): A write to the watchdog configuration applies, or is refused with LOCKREF under LOCK. -/
  | wdgConfigWrite (acc : Acc) (addr : BitVec 16) (v : BitVec 16)
  -- Pins, JTAG and reserved sequences (18, 06)
  /-- VIO_FAULT (R451): VIO falls out of range, and the VIO-domain outputs go high-impedance. -/
  | vioFault (low : Bool)
  /-- RESERVED_SEQUENCE_TRIGGER (R177): The internal periodic trigger of reserved sequences 57–60 (gauge, thermal, supply monitors, loop sense) fires and starts a run. -/
  | reservedSequenceTrigger (n : Fin 4)
  -- Further events (16, 17, 12)
  /-- WDG_WINDOW_OPEN (R427): OPEN/16 of a slot's period has passed, so its window opens and WDG_SSTAT moves from CLOSED to OPEN. -/
  | wdgWindowOpen (n : WSlot)
  -- Commands without operands, by block
  -- Budget Guard (04)
  /-- MEAS_FAULT (R98): BG_MISSLIM consecutive incomplete frames put the Guard into the measurement-fault posture. -/
  | measFault
  /-- BREACH (R109): P_TOT has stayed above A + BG_AHYS for 1 ms, so BREACH is raised. -/
  | breach
  /-- THROTTLE_STEP (R106): A deficit has persisted for BG_T3DLY, so the next listed link's REQ is raised. -/
  | throttleStep
  /-- THROTTLE_RELEASE (R107): The ceiling has shown enough room for BG_T3REL, so one throttle level is released. -/
  | throttleRelease
  /-- SHED_REQUEST (R108): A deficit remains BG_T4DLY after tier 3 is exhausted, so T4 is set and SHED_REQUEST is raised. -/
  | shedRequest
  /-- SHED_REQUEST_REPEAT (R108): SHED_REQUEST is raised again every BG_T4REP while the deficit remains. -/
  | shedRequestRepeat
  /-- SHED_CLEAR (R108): The deficit has been zero for BG_T3REL, so T4 clears and SHED_CLEAR is raised. -/
  | shedClear
  /-- LLSHED_STEP (R112): The next rail in BG_LLSHED goes off, BG_LLGAP after the one before. -/
  | llshedStep
  /-- HANDOVER_DONE (R111): The stage stands in bus regulation, STATE becomes LIFELINE and the device enters LIFELINE. -/
  | handoverDone
  /-- QUAL_EXPIRY (R114): BG_TQUAL has passed with every FDOKn high, so STATE becomes RETURN and the assist ramp begins. -/
  | qualExpiry
  -- Drill (05)
  /-- FAULT_GAP_STEP (R135): During FAULTING, the next rail in reverse order goes off SEQ_PFGAP after the one before. -/
  | faultGapStep
  /-- DWELL_EXPIRY (R140): The off dwell ends, and the deferred ON's power-up starts. -/
  | dwellExpiry
  /-- RAIL_CYCLE_RESET (R145): A rail-cycle reset powers down the running profile, dwells, reloads and powers it up again. -/
  | railCycleReset
  -- Charger and lamps (07)
  /-- PACK_CONNECTED (R193): The node is within 300 mV of V_BAT, so BATFET closes and the stage enters READY. -/
  | packConnected
  /-- CONNECT_TIMEOUT (R193): The node has not come within 300 mV in 100 ms, so the charger enters FAULT CONNECT. -/
  | connectTimeout
  /-- CHARGE_TO_READY (R190): CHG_ILIM has been 0 for 8 periods, so the stage returns from CHARGE to READY. -/
  | chargeToReady
  /-- SENSE_MISMATCH (R185): A difference above 1% has lasted 1 s, so SENSE is set. -/
  | senseMismatch
  /-- PACK_OV_TRIP (R194): V_BAT exceeds the OV trip for 2 µs, so the stage stops and the charger enters FAULT PACK_OV. -/
  | packOvTrip
  /-- PACK_UV_TRIP (R194): V_BAT falls below the UV trip while discharging, so discharge is refused. -/
  | packUvTrip
  /-- STAGE_OC (R194): |I_BAT| exceeds CHG_IOCP, and the stage period is cut. -/
  | stageOc
  /-- PRECHARGE_DONE (R195): The loaded V_BAT has stood above the precharge level for 10 s, so a new qualifying rest starts. -/
  | prechargeDone
  /-- PRE_TIMEOUT (R195): The precharge time CHG_TPRE runs out, so the charger enters FAULT PRE_TIMEOUT. -/
  | preTimeout
  /-- PULSE_END (R196): A charge pulse of CHG_TPULSE ends, and a rest begins. -/
  | pulseEnd
  /-- SAFETY_EXPIRY (R199): A safety timer expires, which is a fault or a suspension depending on THLIM. -/
  | safetyExpiry
  /-- CHARGE_RESUME (R195): The thermal ceiling has equalled I_CC for 60 s, so SUSPEND returns to QUALIFY. -/
  | chargeResume
  /-- RECHARGE (R195): V_BAT below CHG_VRECH for 10 s, or charge drawn above CHG_QRECH, restarts the cycle from DONE. -/
  | recharge
  -- Gauge and pack tag (08)
  /-- GAUGE_LOW_RATE (R212): The stage is idle and the current has been low for 1 s, so counting goes to the low rate. -/
  | gaugeLowRate
  /-- EMPTY_ANCHOR (R216): The discharge current has stayed at or below GG_ETAPER for GG_ETIME, so GG_QCNT becomes 0. -/
  | emptyAnchor
  /-- GAUGE_CHECKPOINT (R223): Every GG_CKPT minutes, a gauge record is written. -/
  | gaugeCheckpoint
  /-- PACK_REMOVAL (R228): The NTC reads open for 10 ms, or FAILLIM transactions fail, so the pack is removed. -/
  | packRemoval
  /-- TAG_POLL (R236): Every PK_CFG.POLL seconds, the device PINGs the tag. -/
  | tagPoll
  /-- TAG_ATTEMPT_TIMEOUT (R235): A tag attempt gets no presence pulse or no response in time, and is retried or fails. -/
  | tagAttemptTimeout
  -- Engine (09)
  /-- ITEM_POST_DEFERRED (R257): An item that waited for queue room is posted to its handler's queue. -/
  | itemPostDeferred
  /-- ENGINE_RESET_APPLY (R262): An engine reset stops the furrows, aborts items, reloads image data and restarts the furrows. -/
  | engineResetApply
  -- Hopper (11, 13)
  /-- NEWT_ENTRY (R339): 10 ms after ENTER_NEWT, the device enters NEWT unless the entry was abandoned. -/
  | newtEntry
  -- Host ports and ownership (12)
  /-- ELECTION_DECIDE (R319): The 10 ms election window closes, and the highest-priority claimant becomes owner. -/
  | electionDecide
  /-- LEASE_EXPIRY (R320): The lease runs out, and ownership returns to default. -/
  | leaseExpiry
  /-- HANDOVER_LAPSE (R321): No claim comes from the successor within 1 s, so the offer lapses. -/
  | handoverLapse
  -- Start-up and device states (13)
  /-- BOOT_START (R334): VINMAX rises through V_POR, the newt domain is released and HB0 starts. -/
  | bootStart
  /-- HB0_GOOD (R334): HB0 reaches regulation, and HB1 starts. -/
  | hb0Good
  /-- OSC_RETRY_EXPIRY (R335): The 10 ms OSCVDD off time ends, and the boot repeats from t4. -/
  | oscRetryExpiry
  /-- NV_CHECK (R336): Once the brown-out flag and the inhibit allow, the images are verified and the one to run is chosen. -/
  | nvCheck
  /-- IMAGE_LOAD (R334): The loader writes every block from the chosen image. -/
  | imageLoad
  /-- BOOT_COMPLETE (R334): Loading ends, owner writes are accepted and the furrows start. -/
  | bootComplete
  /-- BROWN_OUT (R346): VINMAX falls below V_BO, so the brown-out flag is set. -/
  | brownOut
  /-- POWER_GOOD (R346): PFI is released and VINMAX stands above V_BO for 10 ms, so the flag clears. -/
  | powerGood
  /-- KILL_ASSERT (R345): KILL asserted outside NEWT enters LATCHED with LCAUSE KILL. -/
  | killAssert
  /-- KILL_RELEASE (R345): KILL has been released for 10 ms, so a POR by KILL follows. -/
  | killRelease
  -- Configuration, NV and recorder (14)
  /-- ROLE_WRITE_TIMEOUT (R376): A commit or confirm waits more than 1 s on the inhibit and completes FAILED_TEMPERATURE. -/
  | roleWriteTimeout
  /-- REC_PERIODIC_FLUSH (R370): REC_CFG.FLUSHPER seconds since the last flush start a flush. -/
  | recPeriodicFlush
  -- Clocks and RTC (15)
  /-- DOMAIN_SWITCH_DONE (R382): After 6 cycles, the domain restarts on its new source with the counts corrected. -/
  | domainSwitchDone
  /-- CLKOUT_RESTART (R385): After 6 output cycles, CLKOUT restarts with the new setting. -/
  | clkoutRestart
  /-- REF_LOST (R386): REFCLK shows no edge beyond the threshold, so the device enters LATCHED. -/
  | refLost
  /-- PLL_UNLOCK (R380): The PLL leaves its lock range, which is handled as a reference loss. -/
  | pllUnlock
  /-- REF_RETURN (R387): REFCLK edges return in NEWT, and the RTC and counters go on. -/
  | refReturn
  /-- OPTIME_SAVE (R389): Every 64 s, the operating time is written to NV. -/
  | optimeSave
  /-- RTC_TRIM_STEP (R391): The accumulated trim reaches one fraction count, and the RTC adds or omits it. -/
  | rtcTrimStep
  /-- COUNTDOWN (R393): The countdown reaches zero, sets CDEXP and wakes the device from NEWT. -/
  | countdown
  -- Thermal (16)
  /-- THERMAL_RATE_UPDATE (R403): Every 100 ms, the 1 s and 10 s rates are updated and the rate states are judged. -/
  | thermalRateUpdate
  /-- THERMAL_RESTART (R408): Every restart comparator has read below 125 °C for 1 s, so a POR by thermal restart follows. -/
  | thermalRestart
  -- Pins, JTAG and reserved sequences (18, 06)
  /-- JTAG_TAP_RESET (R450): Five TCK cycles with TMS high reset the test access port. -/
  | jtagTapReset
  /-- JTAG_EXTEST (R450): EXTEST is loaded if the rails are off and the stage is OFF; otherwise BYPASS is loaded. -/
  | jtagExtest
  /-- JTAG_IDCODE (R450): IDCODE selects the identification register. -/
  | jtagIdcode
  /-- JTAG_SAMPLE_PRELOAD (R450): SAMPLE/PRELOAD captures the pins without disturbing operation. -/
  | jtagSamplePreload
  /-- JTAG_HIGHZ (R450): HIGHZ floats the outputs, under the same condition as EXTEST. -/
  | jtagHighz
  /-- JTAG_CLAMP (R450): CLAMP holds the pins, under the same condition as EXTEST. -/
  | jtagClamp
  /-- JTAG_BYPASS (R450): BYPASS, or any other code, selects the bypass register. -/
  | jtagBypass
  -- Further events (16, 17, 12)
  /-- RESTART_COMPARATOR_CLEAR (R405): In LATCHED, every die sensor's restart comparator reads below 125 °C, so the hot NV-write inhibit clears and the waiting flush runs. -/
  | restartComparatorClear
  /-- LEASE_NEARLY_SPENT (R326): Less than a quarter of the owner's lease remains, so the LEASE cause of attention becomes present on the owner port. -/
  | leaseNearlySpent
  deriving DecidableEq, Repr

end Sys2Proof
end

