-- ==== Sys2Proof/Config.lean ====
section
/-!
DEFINITION. What one implementation fixes and the spec does not: constants with no body. No proof can see their value,
so a claim holds whatever it is. The reset values that the model names stand in State.reset, not here.
-/

namespace Sys2Proof.Config

/-- The free values: `free k` stands where the spec states no value, once for each k. A step that needs one reads the
counter `Dev.freeCount` and advances it (log entry 2). -/
opaque free : Nat → Nat

/-- The quotient of a number by a scale register that reads 0 (a shunt, a gain or a capacity that no image has set): the
spec states no result (log entry 2). -/
opaque divZero : Int → Int

/-- What a telemetry register shows of a quantity that its format (R11) does not hold: the spec states no result (log
entry 2). -/
opaque unfit : Int → Int

/-- The temperature that a thermistor reading gives where the formula of R400 has no value: a resistance of 0 or below, or
a setting of 0 (log entry 2). -/
opaque noTemp : Int → BitVec 16

/-- Words 0 to 3 of the device's 64-bit identifier, from the identity area (12_host_ports_and_ownership.md, ID_UID).
The spec gives no number: it is per device. -/
opaque uid : Nat → BitVec 16

/-- A byte of an NV area whose contents the spec names but whose layout it leaves open (role record, journal, gauge
copies, sequence mark, counters, identity area; R353), read through the NV window. The second argument is the model's
count of block writes, so that a byte may change whenever NV is written. -/
opaque nvOpenByte : Nat → Nat → BitVec 8

/-- Byte `i` of the locked public-key hash, high byte first (R353, R357): written at manufacture. -/
opaque keyHash : Nat → BitVec 8

/-- The level that an input pin GFg shows in GF_IN (R448): the spec gives the pin, not what drives it. The second argument
is the number of free values drawn so far. -/
opaque gfLevel : Nat → Nat → Bool

/-- What the boundary register makes a pin do while EXTEST or CLAMP is in force (R450): the spec leaves the chain to a BSDL
file. The first argument is the pin's ball, the second the number of free values drawn so far. -/
opaque scanPin : Nat → Nat → Option Bool

/-- The version of the factory safe image, which stands in the identity area: the spec gives no number (log entry 2). -/
opaque safeVersion : BitVec 32

/-- KE_SPEEDSC, which the device sets at boot from its test trim and the measured reference (R250): the spec gives no number
but for 25 MHz (log entry 2). The argument is the count of the range check (CLK_BOOTCNT). -/
opaque speedSc : Nat → BitVec 16

/-- KE_SPEED, the present speed of the fabric (R250): the spec gives no number but for examples (log entry 2). The arguments
are the number of the boot and that of the average within it. -/
opaque speed : Nat → Nat → BitVec 16

/-- Whether the device rounds the gain num/den of a controller of the stage up (R191): 0 current, 1 bus voltage, 2 battery
voltage; the proportional or the integral one. The spec gives no rounding (log entry 127). -/
opaque gainUp : Nat → Bool → Nat → Nat → Bool

/-- The proportional gain of the battery-voltage controller, in 1/65,536 of 10 mA for 1 mV: the spec gives its crossover,
CHG_VBW in Hz, and no plant (log entry 127). The second argument is the battery voltage in mV. -/
opaque voltGain : Nat → Nat → Nat

end Sys2Proof.Config
end

