-- ==== Sys2Proof/Machine/Flags.lean ====
section
/-!
DEFINITION. Pure computations on words and bytes: check codes (R232, R357, R368), byte order (R5), saturation, rounding,
and the results and flags of the Kotried instructions (R271 to R275).
-/

namespace Sys2Proof.Machine

open Sys2Proof

/-! ## Byte order and bits (R5) -/

/-- The bytes of a value of `n` bytes, low byte first. -/
def bytesLE : Nat → Nat → List Byte
  | 0, _ => []
  | n + 1, v => BitVec.ofNat 8 v :: bytesLE n (v / 256)

/-- The value of bytes given low byte first. -/
def valLE : List Byte → Nat
  | [] => 0
  | b :: bs => b.toNat + 256 * valLE bs

/-- Low and high byte of a word. -/
def loByte (w : Word) : Byte := w.setWidth 8
def hiByte (w : Word) : Byte := (w >>> 8).setWidth 8

/-- A word from its low and high byte. -/
def wordOf (lo hi : Byte) : Word := hi ++ lo

/-- Bit `i` of a number. -/
def natBit (v i : Nat) : Bool := v.testBit i

/-- The number of bits set among the low `n` bits. -/
def popCount : Nat → Nat → Nat
  | 0, _ => 0
  | n + 1, v => v % 2 + popCount n (v / 2)

/-! ## Check codes -/

/-- One bit of the CRC-32 of IEEE 802.3, reflected. -/
def crc32Bit (c : BitVec 32) : BitVec 32 := if c.getLsbD 0 then (c >>> 1) ^^^ 0xEDB88320#32 else c >>> 1

/-- One byte of the CRC-32. -/
def crc32Byte (c : BitVec 32) (b : Byte) : BitVec 32 :=
  crc32Bit (crc32Bit (crc32Bit (crc32Bit (crc32Bit (crc32Bit (crc32Bit (crc32Bit (c ^^^ b.setWidth 32))))))))

/-- The CRC-32 (IEEE 802.3) of bytes (R357, R368, R369). -/
def crc32 (bs : List Byte) : BitVec 32 := bs.foldl crc32Byte 0xFFFFFFFF#32 ^^^ 0xFFFFFFFF#32

/-- One bit of the CRC-8 of R232: polynomial 0x07, not reflected. -/
def crc8Bit (c : Byte) : Byte := if c.getLsbD 7 then (c <<< 1) ^^^ 0x07#8 else c <<< 1

/-- One byte of the CRC-8. -/
def crc8Byte (c b : Byte) : Byte :=
  crc8Bit (crc8Bit (crc8Bit (crc8Bit (crc8Bit (crc8Bit (crc8Bit (crc8Bit (c ^^^ b))))))))

/-- The CRC-8 of R232, from zero, with no final inversion. -/
def crc8 (bs : List Byte) : Byte := bs.foldl crc8Byte 0

/-! ## Saturation and rounding -/

/-- Limit an integer to an interval. -/
def clampInt (lo hi v : Int) : Int := if v < lo then lo else if hi < v then hi else v

/-- Limit a natural number from above. -/
def clampNat (hi v : Nat) : Nat := if hi < v then hi else v

/-- A quantity in a 16-bit format of R11, unsigned and signed. The spec states no result for one that the format does not
hold: the value is free (log entry 2). -/
def fitU16 (v : Int) : Int := if 0 ≤ v ∧ v ≤ 65535 then v else Config.unfit v % 65536
def fitS16 (v : Int) : Int := if -32768 ≤ v ∧ v ≤ 32767 then v else Config.unfit v % 65536 - 32768

/-- Quotient rounded to nearest, halves toward plus infinity; 0 for a divisor of 0. -/
def divRound (a : Int) (b : Nat) : Int := if b = 0 then 0 else (2 * a + b) / (2 * (b : Int))

/-- Quotient by a scale register: the spec states none for a divisor of 0, and the value is free (log entry 2). -/
def divQ (a : Int) (b : Nat) : Int := if b = 0 then Config.divZero a else divRound a b

/-- Counters that saturate and counters that wrap, on 16 bits. -/
def satInc (w : Word) : Word := if w = 0xFFFF#16 then w else w + 1
def satAdd (w : Word) (n : Nat) : Word := BitVec.ofNat 16 (clampNat 65535 (w.toNat + n))

/-! ## Kotried arithmetic (R271 to R275) -/

/-- A result with its flags. -/
structure Alu where
  r : BitVec 32
  z : Bool
  n : Bool
  c : Bool
  v : Bool
  deriving DecidableEq, Repr

/-- Result and Z, N; C and V as given. -/
def alu (r : BitVec 32) (c v : Bool) : Alu := { r := r, z := r = 0, n := r.msb, c := c, v := v }

/-- Limit once to the signed 32-bit range (R272). -/
def sat32 (v : Int) : BitVec 32 := BitVec.ofInt 32 (clampInt (-2147483648) 2147483647 v)

/-- A value outside the signed 32-bit range: V of a saturating instruction. -/
def sat32V (v : Int) : Bool := v < -2147483648 || 2147483647 < v

/-- ADD: C is a carry out of bit 31, V the signed overflow. -/
def aluAdd (a b : BitVec 32) : Alu := alu (a + b) (2 ^ 32 ≤ a.toNat + b.toNat) (sat32V (a.toInt + b.toInt))

/-- SUB and CMP: C is no borrow (A at or above B, unsigned), V the signed overflow. -/
def aluSub (a b : BitVec 32) : Alu := alu (a - b) (b.toNat ≤ a.toNat) (sat32V (a.toInt - b.toInt))

/-- A saturating result with V set when it was limited; C is not used. -/
def aluSat (x : Int) : Alu := alu (sat32 x) false (sat32V x)

/-- Left shift by `n` places: C is the last bit shifted out, 0 for no shift and beyond 32 places (R273). -/
def aluShl (a : BitVec 32) (n : Nat) : Alu := alu (a <<< n) (0 < n && n ≤ 32 && a.getLsbD (32 - n)) false

/-- Logical right shift. -/
def aluShr (a : BitVec 32) (n : Nat) : Alu := alu (a >>> n) (0 < n && n ≤ 32 && a.getLsbD (n - 1)) false

/-- Arithmetic right shift: beyond 31 places all sign bits, and C the sign bit beyond 32 places. -/
def aluSar (a : BitVec 32) (n : Nat) : Alu :=
  alu (a.sshiftRight n) (if n = 0 then false else if 32 < n then a.msb else a.getLsbD (n - 1)) false

/-- MUL: V when the signed product does not fit 32 bits. -/
def aluMul (a b : BitVec 32) : Alu := alu (a * b) false (sat32V (a.toInt * b.toInt))

/-- The rounded product of R272: halves toward plus infinity. -/
def roundShift (x : Int) (sh : Nat) : Int := if sh = 0 then x else (x + 2 ^ (sh - 1)) / 2 ^ sh

/-- The product of MULQ, MAC and MSU. -/
def mulRound (a b : BitVec 32) (sh : Nat) : Int := roundShift (a.toInt * b.toInt) sh

/-- The branch conditions of R279; 0xF is reserved. -/
def condHolds (cond : BitVec 4) (z n c v : Bool) : Bool :=
  match cond.toNat with
  | 0 => true
  | 1 => z
  | 2 => !z
  | 3 => n
  | 4 => !n
  | 5 => c
  | 6 => !c
  | 7 => v
  | 8 => !v
  | 9 => c && !z
  | 10 => !c || z
  | 11 => n == v
  | 12 => n != v
  | 13 => !z && n == v
  | 14 => z || n != v
  | _ => false

/-! ## Legal instruction words (R269, R270) -/

/-- The fields of an instruction word. -/
def kOp (w : BitVec 32) : Nat := w.toNat / 2 ^ 26
def kD (w : BitVec 32) : Nat := w.toNat / 2 ^ 22 % 16
def kA (w : BitVec 32) : Nat := w.toNat / 2 ^ 18 % 16
def kM (w : BitVec 32) : Nat := w.toNat / 2 ^ 16 % 4
def kB (w : BitVec 32) : Nat := w.toNat / 2 ^ 14 % 16
def kSh (w : BitVec 32) : Nat := w.toNat / 2 ^ 9 % 32
def kLow9 (w : BitVec 32) : Nat := w.toNat % 512
def kImm (w : BitVec 32) : Nat := w.toNat % 65536

/-- Whether an instruction word is legal (R270): its opcode is not reserved, every unused field is 0 and no reserved
value is used. The opcodes and fields are those of R273 to R283. -/
def kLegal (w : BitVec 32) : Bool :=
  let op := kOp w
  let d := kD w
  let a := kA w
  let m := kM w
  let b := kB w
  let sh := kSh w
  let lo := kLow9 w
  let imm := kImm w
  if op = 0x01 || op = 0x32 || op = 0x3F then w.toNat % 2 ^ 26 = 0
  else if (0x02 ≤ op && op ≤ 0x0B) || (0x0D ≤ op && op ≤ 0x0F) then sh = 0 && lo = 0
  else if op = 0x0C then d = 0 && sh = 0 && lo = 0
  else if op = 0x13 || op = 0x14 then b = 0 && sh = 0 && lo = 0
  else if 0x10 ≤ op && op ≤ 0x12 then lo = 0
  else if op = 0x18 || op = 0x19 then a = 0 && m = 0
  else if 0x1A ≤ op && op ≤ 0x1D then m = 0
  else if op = 0x1E || op = 0x1F then d = 0 && m = 0
  else if 0x20 ≤ op && op ≤ 0x22 then m = 0 && imm < 32
  else if 0x24 ≤ op && op ≤ 0x2B then (m = 0 && a = 0) || m = 1
  else if op = 0x2C then (m % 2 = 0 && a = 0) || m % 2 = 1
  else if op = 0x2D then (m = 0 && a = 0) || m = 1
  else if op = 0x2E then true
  else if op = 0x2F then m = 0
  else if op = 0x30 then d ≠ 0xF && a = 0 && m = 0 && imm < 2 ^ 14
  else if op = 0x31 then d = 0 && a = 0 && m = 0 && imm < 2 ^ 14
  else if op = 0x33 || op = 0x34 then d = 0 && m = 0 && imm = 0
  else if op = 0x35 then a = 0 && m = 0 && imm = 0
  else if op = 0x36 then a = 0 && m = 0 && imm < 16
  else if op = 0x37 then d = 0 && m = 0 && imm < 16
  else if op = 0x38 then (m = 0 && a = 0) || (m = 1 && imm = 0)
  else if op = 0x39 then d = 0 && ((m = 0 && a = 0) || (m = 1 && imm = 0))
  else if op = 0x3A then d = 0 && m = 0 && imm = 0
  else if op = 0x3B then d = 0 && m = 0
  else if op = 0x3C then
    d = 0 && ((m = 0 && a = 0) || (m = 1 && imm = 0) || (m = 2 && a = 0 && imm < 2048) || (m = 3 && imm = 0))
  else if op = 0x3D then sh = 0 && lo = 0 && d ≠ 15
  else if op = 0x3E then d = 0 && a = 0 && m = 0 && imm < 8
  else false

end Sys2Proof.Machine
end

