-- ==== Sys2Proof/Machine/RegMap.lean ====
section
/-!
DEFINITION. The register map of the NT2412: the address of every register of 20_register_index.md (R480), its bit
fields, and the access table (R10): which bits a write stores, which bits a write of 1 clears, and the reset word.

A register of an indexed family takes its indices as numbers. Plan entries (06_measurement.md) stand behind a page
window, so their home keys lie above the 16-bit space, at 0x11000 + 16 times the entry.
-/

namespace Sys2Proof.R

open Sys2Proof


/-! ## 02_regulation_loops.md -/

/-- Loop control. -/
@[reducible] def LP_CTL (n : Nat) : Nat := 0x2000 + 0x80 * n
@[reducible] def LP_CTL.CNTCLR : Fld := ⟨4, 1⟩
@[reducible] def LP_CTL.SHEDEN : Fld := ⟨3, 1⟩
@[reducible] def LP_CTL.TRIMEN : Fld := ⟨2, 1⟩
@[reducible] def LP_CTL.BSWAP : Fld := ⟨1, 1⟩
@[reducible] def LP_CTL.OVCLR : Fld := ⟨0, 1⟩
/-- Loop configuration. -/
@[reducible] def LP_CFG (n : Nat) : Nat := 0x2002 + 0x80 * n
@[reducible] def LP_CFG.LINKRAIL : Fld := ⟨12, 2⟩
@[reducible] def LP_CFG.LINK : Fld := ⟨10, 2⟩
@[reducible] def LP_CFG.SPSRC : Fld := ⟨8, 2⟩
@[reducible] def LP_CFG.VFF : Fld := ⟨7, 1⟩
@[reducible] def LP_CFG.LSMODE : Fld := ⟨6, 1⟩
@[reducible] def LP_CFG.OFFMODE : Fld := ⟨5, 1⟩
@[reducible] def LP_CFG.OSR : Fld := ⟨2, 3⟩
@[reducible] def LP_CFG.ATTEN : Fld := ⟨0, 2⟩
/-- Switching period. -/
@[reducible] def LP_PERIOD (n : Nat) : Nat := 0x2004 + 0x80 * n
@[reducible] def LP_PERIOD.PERIOD : Fld := ⟨0, 12⟩
/-- Voltages. -/
@[reducible] def LP_VSET (n : Nat) : Nat := 0x2006 + 0x80 * n
/-- Voltages. -/
@[reducible] def LP_VMIN (n : Nat) : Nat := 0x2008 + 0x80 * n
/-- Voltages. -/
@[reducible] def LP_VMAX (n : Nat) : Nat := 0x200A + 0x80 * n
/-- Voltages. -/
@[reducible] def LP_OV (n : Nat) : Nat := 0x2016 + 0x80 * n
/-- Voltages. -/
@[reducible] def LP_UV (n : Nat) : Nat := 0x2018 + 0x80 * n
/-- Voltages. -/
@[reducible] def LP_PGWIN (n : Nat) : Nat := 0x201E + 0x80 * n
/-- Present reference. -/
@[reducible] def LP_VREF (n : Nat) : Nat := 0x200C + 0x80 * n
/-- Slew rates. -/
@[reducible] def LP_SLEW (n : Nat) : Nat := 0x200E + 0x80 * n
/-- Slew rates. -/
@[reducible] def LP_SSSLEW (n : Nat) : Nat := 0x2010 + 0x80 * n
/-- Duty ceiling. -/
@[reducible] def LP_DMAX (n : Nat) : Nat := 0x2012 + 0x80 * n
/-- Minimum on-time and OC blanking. -/
@[reducible] def LP_TONMIN (n : Nat) : Nat := 0x2014 + 0x80 * n
@[reducible] def LP_TONMIN.TONMIN : Fld := ⟨0, 10⟩
/-- Loop over-current threshold. -/
@[reducible] def LP_OCTHR (n : Nat) : Nat := 0x201A + 0x80 * n
/-- Loop over-current timing. -/
@[reducible] def LP_OCCFG (n : Nat) : Nat := 0x201C + 0x80 * n
@[reducible] def LP_OCCFG.PERSIST : Fld := ⟨8, 4⟩
@[reducible] def LP_OCCFG.OCDLY : Fld := ⟨0, 8⟩
/-- Dwell times. -/
@[reducible] def LP_PGDLY (n : Nat) : Nat := 0x2020 + 0x80 * n
/-- Dwell times. -/
@[reducible] def LP_SHED_DLY (n : Nat) : Nat := 0x202A + 0x80 * n
/-- Feed-forward nominal bus. -/
@[reducible] def LP_VFFNOM (n : Nat) : Nat := 0x2022 + 0x80 * n
/-- Shedding thresholds. -/
@[reducible] def LP_IPHUP (n : Nat) : Nat := 0x2024 + 0x80 * n
/-- Shedding thresholds. -/
@[reducible] def LP_IPHDN (n : Nat) : Nat := 0x2026 + 0x80 * n
/-- Shedding floor. -/
@[reducible] def LP_SHED_CFG (n : Nat) : Nat := 0x2028 + 0x80 * n
@[reducible] def LP_SHED_CFG.MINPH : Fld := ⟨0, 4⟩
/-- Shedding hold after a load step. -/
@[reducible] def LP_SHED_HOLD (n : Nat) : Nat := 0x202C + 0x80 * n
/-- Load-step detection. -/
@[reducible] def LP_STEP_ERR (n : Nat) : Nat := 0x202E + 0x80 * n
/-- Load-step detection. -/
@[reducible] def LP_STEP_SLOPE (n : Nat) : Nat := 0x2030 + 0x80 * n
/-- Sharing step and trim limit. -/
@[reducible] def LP_SHARE (n : Nat) : Nat := 0x2032 + 0x80 * n
@[reducible] def LP_SHARE.TRIMMAX : Fld := ⟨8, 8⟩
@[reducible] def LP_SHARE.SHAREK : Fld := ⟨0, 8⟩
/-- Sharing dead band. -/
@[reducible] def LP_SHAREDB (n : Nat) : Nat := 0x2034 + 0x80 * n
/-- Loop status. -/
@[reducible] def LP_STATUS (n : Nat) : Nat := 0x2036 + 0x80 * n
@[reducible] def LP_STATUS.ACTPH : Fld := ⟨9, 4⟩
@[reducible] def LP_STATUS.STEPHOLD : Fld := ⟨8, 1⟩
@[reducible] def LP_STATUS.TRIMSAT : Fld := ⟨7, 1⟩
@[reducible] def LP_STATUS.CFGERR : Fld := ⟨6, 1⟩
@[reducible] def LP_STATUS.INWIN : Fld := ⟨5, 1⟩
@[reducible] def LP_STATUS.SETTLED : Fld := ⟨4, 1⟩
@[reducible] def LP_STATUS.PG : Fld := ⟨3, 1⟩
@[reducible] def LP_STATUS.STATE : Fld := ⟨0, 3⟩
/-- Sticky flags. -/
@[reducible] def LP_STICKY (n : Nat) : Nat := 0x2038 + 0x80 * n
@[reducible] def LP_STICKY.RUNREF : Fld := ⟨8, 1⟩
@[reducible] def LP_STICKY.SHEDCFG : Fld := ⟨7, 1⟩
@[reducible] def LP_STICKY.PHCFGREF : Fld := ⟨6, 1⟩
@[reducible] def LP_STICKY.STEP : Fld := ⟨5, 1⟩
@[reducible] def LP_STICKY.CSKIP : Fld := ⟨4, 1⟩
@[reducible] def LP_STICKY.SPFAULT : Fld := ⟨3, 1⟩
@[reducible] def LP_STICKY.OC : Fld := ⟨2, 1⟩
@[reducible] def LP_STICKY.UV : Fld := ⟨1, 1⟩
@[reducible] def LP_STICKY.OV : Fld := ⟨0, 1⟩
/-- Telemetry. -/
@[reducible] def LP_VOUT (n : Nat) : Nat := 0x203A + 0x80 * n
/-- Telemetry. -/
@[reducible] def LP_IOUT (n : Nat) : Nat := 0x203C + 0x80 * n
/-- Telemetry. -/
@[reducible] def LP_DUTY (n : Nat) : Nat := 0x203E + 0x80 * n
/-- Telemetry. -/
@[reducible] def LP_ERR (n : Nat) : Nat := 0x2040 + 0x80 * n
/-- Telemetry. -/
@[reducible] def LP_POUT (n : Nat) : Nat := 0x2042 + 0x80 * n
/-- PID coefficients. -/
@[reducible] def LP_B0 (n : Nat) : Nat := 0x2044 + 0x80 * n
/-- PID coefficients. -/
@[reducible] def LP_B1 (n : Nat) : Nat := 0x2048 + 0x80 * n
/-- PID coefficients. -/
@[reducible] def LP_B2 (n : Nat) : Nat := 0x204C + 0x80 * n
/-- Pole coefficients. -/
@[reducible] def LP_A1 (n : Nat) : Nat := 0x2050 + 0x80 * n
/-- Pole coefficients. -/
@[reducible] def LP_A2 (n : Nat) : Nat := 0x2052 + 0x80 * n
/-- Error-converter offset trim. -/
@[reducible] def LP_ECTRIM (n : Nat) : Nat := 0x2054 + 0x80 * n
/-- Compensator latency. -/
@[reducible] def LP_CMPLAT (n : Nat) : Nat := 0x2056 + 0x80 * n
/-- Counters. -/
@[reducible] def LP_CSKIP_CNT (n : Nat) : Nat := 0x2058 + 0x80 * n
/-- Counters. -/
@[reducible] def LP_STEP_CNT (n : Nat) : Nat := 0x205A + 0x80 * n
/-- Counters. -/
@[reducible] def LP_REENTER_CNT (n : Nat) : Nat := 0x205C + 0x80 * n
/-- Counters. -/
@[reducible] def LP_SHED_CNT (n : Nat) : Nat := 0x205E + 0x80 * n
/-- Output at soft-start. -/
@[reducible] def LP_PREBIAS (n : Nat) : Nat := 0x2060 + 0x80 * n
/-- Phase assignment. -/
@[reducible] def PH_CFG (m : Nat) : Nat := 0x2600 + 0x20 * m
@[reducible] def PH_CFG.SHAREN : Fld := ⟨8, 1⟩
@[reducible] def PH_CFG.IREF : Fld := ⟨7, 1⟩
@[reducible] def PH_CFG.ORDER : Fld := ⟨4, 3⟩
@[reducible] def PH_CFG.LOOP : Fld := ⟨0, 4⟩
/-- Current-monitor gain. -/
@[reducible] def PH_IMONGAIN (m : Nat) : Nat := 0x2602 + 0x20 * m
/-- Current-monitor offset. -/
@[reducible] def PH_IMONOFS (m : Nat) : Nat := 0x2604 + 0x20 * m
/-- Current-monitor plan entry. -/
@[reducible] def PH_IMONENT (m : Nat) : Nat := 0x2606 + 0x20 * m
@[reducible] def PH_IMONENT.VALID : Fld := ⟨15, 1⟩
@[reducible] def PH_IMONENT.ENTRY : Fld := ⟨0, 11⟩
/-- Phase over-current threshold. -/
@[reducible] def PH_OCTHR (m : Nat) : Nat := 0x2608 + 0x20 * m
/-- Phase current. -/
@[reducible] def PH_IOUT (m : Nat) : Nat := 0x260A + 0x20 * m
/-- Sharing trim. -/
@[reducible] def PH_TRIM (m : Nat) : Nat := 0x260C + 0x20 * m
/-- Phase state. -/
@[reducible] def PH_STATE (m : Nat) : Nat := 0x260E + 0x20 * m
@[reducible] def PH_STATE.OCNOW : Fld := ⟨3, 1⟩
@[reducible] def PH_STATE.STATE : Fld := ⟨0, 3⟩
/-- Cut-short periods. -/
@[reducible] def PH_OCCNT (m : Nat) : Nat := 0x2610 + 0x20 * m
/-- Delay-line calibration. -/
@[reducible] def PH_DLCAL (m : Nat) : Nat := 0x2612 + 0x20 * m

/-! ## 03_velong_link.md -/

/-- Link control. -/
@[reducible] def VL_CTL (k : Nat) : Nat := 0x2C00 + 0x40 * k
@[reducible] def VL_CTL.CNTCLR : Fld := ⟨3, 1⟩
@[reducible] def VL_CTL.RESYNC : Fld := ⟨2, 1⟩
@[reducible] def VL_CTL.ATTNEN : Fld := ⟨1, 1⟩
@[reducible] def VL_CTL.EN : Fld := ⟨0, 1⟩
/-- Link configuration. -/
@[reducible] def VL_CFG (k : Nat) : Nat := 0x2C02 + 0x40 * k
@[reducible] def VL_CFG.ERRLIM : Fld := ⟨12, 4⟩
@[reducible] def VL_CFG.SLEWEN : Fld := ⟨2, 1⟩
@[reducible] def VL_CFG.LOSSACT : Fld := ⟨0, 2⟩
/-- Keep-alive time-out. -/
@[reducible] def VL_KATO (k : Nat) : Nat := 0x2C04 + 0x40 * k
/-- Throttle acknowledgement time-out. -/
@[reducible] def VL_THRTO (k : Nat) : Nat := 0x2C06 + 0x40 * k
/-- Throttle level reductions. -/
@[reducible] def VL_THRW1 (k : Nat) : Nat := 0x2C08 + 0x40 * k
/-- Throttle level reductions. -/
@[reducible] def VL_THRW2 (k : Nat) : Nat := 0x2C0A + 0x40 * k
/-- Throttle level reductions. -/
@[reducible] def VL_THRW3 (k : Nat) : Nat := 0x2C0C + 0x40 * k
/-- Safe targets. -/
@[reducible] def VL_SAFEV (k : Nat) (i : Nat) : Nat := 0x2C0E + 0x40 * k + 0x2 * i
/-- Link status. -/
@[reducible] def VL_STATUS (k : Nat) : Nat := 0x2C16 + 0x40 * k
@[reducible] def VL_STATUS.RAILMAP : Fld := ⟨8, 4⟩
@[reducible] def VL_STATUS.CFGERR : Fld := ⟨7, 1⟩
@[reducible] def VL_STATUS.MAPCONF : Fld := ⟨6, 1⟩
@[reducible] def VL_STATUS.ATTN : Fld := ⟨5, 1⟩
@[reducible] def VL_STATUS.FRAME : Fld := ⟨4, 1⟩
@[reducible] def VL_STATUS.STATE : Fld := ⟨0, 2⟩
/-- Throttle state. -/
@[reducible] def VL_THRSTAT (k : Nat) : Nat := 0x2C18 + 0x40 * k
@[reducible] def VL_THRSTAT.PEND : Fld := ⟨4, 1⟩
@[reducible] def VL_THRSTAT.ACK : Fld := ⟨2, 2⟩
@[reducible] def VL_THRSTAT.REQ : Fld := ⟨0, 2⟩
/-- Sticky flags. -/
@[reducible] def VL_STICKY (k : Nat) : Nat := 0x2C1A + 0x40 * k
@[reducible] def VL_STICKY.NOTOWNER : Fld := ⟨5, 1⟩
@[reducible] def VL_STICKY.THRTO : Fld := ⟨4, 1⟩
@[reducible] def VL_STICKY.LOST : Fld := ⟨3, 1⟩
@[reducible] def VL_STICKY.DUP : Fld := ⟨2, 1⟩
@[reducible] def VL_STICKY.FRAMEERR : Fld := ⟨1, 1⟩
@[reducible] def VL_STICKY.CRCERR : Fld := ⟨0, 1⟩
/-- Counters. -/
@[reducible] def VL_CRCCNT (k : Nat) : Nat := 0x2C1C + 0x40 * k
/-- Counters. -/
@[reducible] def VL_FRAMECNT (k : Nat) : Nat := 0x2C1E + 0x40 * k
/-- Counters. -/
@[reducible] def VL_DUPCNT (k : Nat) : Nat := 0x2C20 + 0x40 * k
/-- Counters. -/
@[reducible] def VL_CMDCNT (k : Nat) : Nat := 0x2C22 + 0x40 * k
/-- Last frames. -/
@[reducible] def VL_LASTCMD (k : Nat) : Nat := 0x2C24 + 0x40 * k
/-- Last frames. -/
@[reducible] def VL_LASTRSP (k : Nat) : Nat := 0x2C28 + 0x40 * k
/-- Response latency. -/
@[reducible] def VL_ACKLAT (k : Nat) : Nat := 0x2C2C + 0x40 * k
/-- Link clock frequency. -/
@[reducible] def VL_CKFREQ (k : Nat) : Nat := 0x2C2E + 0x40 * k
/-- Status word. -/
@[reducible] def VL_RAILSTAT (k : Nat) : Nat := 0x2C30 + 0x40 * k

/-! ## 04_budget_guard.md -/

/-- Guard control. -/
@[reducible] def BG_CTL : Nat := 0x3000
@[reducible] def BG_CTL.PKCLR : Fld := ⟨5, 1⟩
@[reducible] def BG_CTL.CNTCLR : Fld := ⟨4, 1⟩
@[reducible] def BG_CTL.TRIMEN : Fld := ⟨3, 1⟩
@[reducible] def BG_CTL.T4EN : Fld := ⟨2, 1⟩
@[reducible] def BG_CTL.T3EN : Fld := ⟨1, 1⟩
@[reducible] def BG_CTL.EN : Fld := ⟨0, 1⟩
/-- Channels and lifeline options. -/
@[reducible] def BG_CFG : Nat := 0x3002
@[reducible] def BG_CFG.LLTHR : Fld := ⟨9, 1⟩
@[reducible] def BG_CFG.PLOSS : Fld := ⟨8, 1⟩
@[reducible] def BG_CFG.CHDIS : Fld := ⟨4, 4⟩
@[reducible] def BG_CFG.FITTED : Fld := ⟨0, 4⟩
/-- Power settings. -/
@[reducible] def BG_BUDGET : Nat := 0x3004
/-- Power settings. -/
@[reducible] def BG_CHLIM (i : Nat) : Nat := 0x3006 + 0x2 * i
/-- Power settings. -/
@[reducible] def BG_MARGIN : Nat := 0x300E
/-- Power settings. -/
@[reducible] def BG_AHYS : Nat := 0x3010
/-- Power settings. -/
@[reducible] def BG_T3HYS : Nat := 0x3012
/-- Power settings. -/
@[reducible] def BG_RETRAMP : Nat := 0x3014
/-- Feed shunt values. -/
@[reducible] def BG_RSHUNT (i : Nat) : Nat := 0x3016 + 0x2 * i
/-- Bus divider ratio. -/
@[reducible] def BG_VBUSDIV : Nat := 0x301E
/-- Bus thresholds. -/
@[reducible] def BG_BUSLOSS : Nat := 0x3020
/-- Bus thresholds. -/
@[reducible] def BG_VLIFE : Nat := 0x3022
/-- Assist current limit. -/
@[reducible] def BG_ASSILIM : Nat := 0x3024
/-- Stage efficiencies. -/
@[reducible] def BG_ETACHG : Nat := 0x3026
/-- Stage efficiencies. -/
@[reducible] def BG_ETAAST : Nat := 0x3028
/-- Short times. -/
@[reducible] def BG_UPTC : Nat := 0x302A
/-- Short times. -/
@[reducible] def BG_T3DLY : Nat := 0x302C
/-- Short times. -/
@[reducible] def BG_T4DLY : Nat := 0x302E
/-- Long times. -/
@[reducible] def BG_T3REL : Nat := 0x3030
/-- Long times. -/
@[reducible] def BG_T4REP : Nat := 0x3032
/-- Long times. -/
@[reducible] def BG_TQUAL : Nat := 0x3034
/-- Long times. -/
@[reducible] def BG_TRIMTC : Nat := 0x3036
/-- Throttle order. -/
@[reducible] def BG_T3ORDER : Nat := 0x3038
/-- Shed spacing and fault limit. -/
@[reducible] def BG_LLGAP : Nat := 0x303A
@[reducible] def BG_LLGAP.VALUE : Fld := ⟨0, 8⟩
/-- Shed spacing and fault limit. -/
@[reducible] def BG_MISSLIM : Nat := 0x303C
@[reducible] def BG_MISSLIM.VALUE : Fld := ⟨0, 8⟩
/-- Reserve floor. -/
@[reducible] def BG_RESERVE : Nat := 0x3040
/-- Reserve floor. -/
@[reducible] def BG_RESHYS : Nat := 0x3044
/-- Hand-over shed mask. -/
@[reducible] def BG_LLSHED : Nat := 0x3048
@[reducible] def BG_LLSHED.XMASK : Fld := ⟨12, 16⟩
@[reducible] def BG_LLSHED.LMASK : Fld := ⟨0, 12⟩
/-- Guard status. -/
@[reducible] def BG_STATUS : Nat := 0x304C
@[reducible] def BG_STATUS.CFGERR : Fld := ⟨14, 1⟩
@[reducible] def BG_STATUS.BIND : Fld := ⟨11, 3⟩
@[reducible] def BG_STATUS.MEASFLT : Fld := ⟨10, 1⟩
@[reducible] def BG_STATUS.NOPACK : Fld := ⟨9, 1⟩
@[reducible] def BG_STATUS.RESLOCK : Fld := ⟨8, 1⟩
@[reducible] def BG_STATUS.T4 : Fld := ⟨7, 1⟩
@[reducible] def BG_STATUS.T3 : Fld := ⟨6, 1⟩
@[reducible] def BG_STATUS.T2 : Fld := ⟨5, 1⟩
@[reducible] def BG_STATUS.T1 : Fld := ⟨4, 1⟩
@[reducible] def BG_STATUS.QUAL : Fld := ⟨3, 1⟩
@[reducible] def BG_STATUS.STATE : Fld := ⟨0, 3⟩
/-- Sticky flags. -/
@[reducible] def BG_STICKY : Nat := 0x304E
@[reducible] def BG_STICKY.RETABORT : Fld := ⟨7, 1⟩
@[reducible] def BG_STICKY.NOPACK : Fld := ⟨6, 1⟩
@[reducible] def BG_STICKY.MEASFLT : Fld := ⟨5, 1⟩
@[reducible] def BG_STICKY.T4 : Fld := ⟨4, 1⟩
@[reducible] def BG_STICKY.RESERVE : Fld := ⟨3, 1⟩
@[reducible] def BG_STICKY.CHANLIM : Fld := ⟨2, 1⟩
@[reducible] def BG_STICKY.BREACH : Fld := ⟨1, 1⟩
@[reducible] def BG_STICKY.FEEDLOSS : Fld := ⟨0, 1⟩
/-- Feed pins. -/
@[reducible] def BG_FEEDSTAT : Nat := 0x3050
@[reducible] def BG_FEEDSTAT.LOSTN : Fld := ⟨8, 4⟩
@[reducible] def BG_FEEDSTAT.FDEN : Fld := ⟨4, 4⟩
@[reducible] def BG_FEEDSTAT.FDOK : Fld := ⟨0, 4⟩
/-- Power telemetry. -/
@[reducible] def BG_PTOT : Nat := 0x3052
/-- Power telemetry. -/
@[reducible] def BG_P (i : Nat) : Nat := 0x3054 + 0x2 * i
/-- Power telemetry. -/
@[reducible] def BG_PSYS : Nat := 0x3066
/-- Power telemetry. -/
@[reducible] def BG_ALLOW : Nat := 0x306A
/-- Power telemetry. -/
@[reducible] def BG_CEIL : Nat := 0x306C
/-- Power telemetry. -/
@[reducible] def BG_DEFICIT : Nat := 0x306E
/-- Power telemetry. -/
@[reducible] def BG_PMAX : Nat := 0x3072
/-- Feed currents and bus voltage. -/
@[reducible] def BG_I (i : Nat) : Nat := 0x305C + 0x2 * i
/-- Feed currents and bus voltage. -/
@[reducible] def BG_VBUS : Nat := 0x3064
/-- Stage power and trim. -/
@[reducible] def BG_PSTG : Nat := 0x3068
/-- Stage power and trim. -/
@[reducible] def BG_TRIM : Nat := 0x3070
/-- Decision latency. -/
@[reducible] def BG_LAT : Nat := 0x3074
/-- Counters. -/
@[reducible] def BG_T2CNT : Nat := 0x3076
/-- Counters. -/
@[reducible] def BG_T3CNT : Nat := 0x3078
/-- Counters. -/
@[reducible] def BG_T4CNT : Nat := 0x307A
/-- Counters. -/
@[reducible] def BG_HOCNT : Nat := 0x307C
/-- Counters. -/
@[reducible] def BG_MISSCNT : Nat := 0x307E
/-- Counters. -/
@[reducible] def BG_OVERCNT : Nat := 0x3080

/-! ## 05_sequencing_and_supervision.md -/

/-- Drill command. -/
@[reducible] def SEQ_CMD : Nat := 0x1000
@[reducible] def SEQ_CMD.CNTCLR : Fld := ⟨15, 1⟩
@[reducible] def SEQ_CMD.PROFILE : Fld := ⟨4, 3⟩
@[reducible] def SEQ_CMD.CMD : Fld := ⟨0, 3⟩
/-- Drill configuration. -/
@[reducible] def SEQ_CFG : Nat := 0x1002
@[reducible] def SEQ_CFG.XPGFLT : Fld := ⟨0, 8⟩
/-- Drill status. -/
@[reducible] def SEQ_STATUS : Nat := 0x1004
@[reducible] def SEQ_STATUS.SHED : Fld := ⟨13, 1⟩
@[reducible] def SEQ_STATUS.DEFER : Fld := ⟨12, 1⟩
@[reducible] def SEQ_STATUS.TARGET : Fld := ⟨8, 3⟩
@[reducible] def SEQ_STATUS.PROFILE : Fld := ⟨4, 3⟩
@[reducible] def SEQ_STATUS.STATE : Fld := ⟨0, 4⟩
/-- Sticky flags. -/
@[reducible] def SEQ_STICKY : Nat := 0x1006
@[reducible] def SEQ_STICKY.CFGREF : Fld := ⟨8, 1⟩
@[reducible] def SEQ_STICKY.PFWREF : Fld := ⟨7, 1⟩
@[reducible] def SEQ_STICKY.CMDREF : Fld := ⟨6, 1⟩
@[reducible] def SEQ_STICKY.FAULTSD : Fld := ⟨5, 1⟩
@[reducible] def SEQ_STICKY.CUT : Fld := ⟨4, 1⟩
@[reducible] def SEQ_STICKY.FALLTO : Fld := ⟨3, 1⟩
@[reducible] def SEQ_STICKY.OVFAIL : Fld := ⟨2, 1⟩
@[reducible] def SEQ_STICKY.LOST : Fld := ⟨1, 1⟩
@[reducible] def SEQ_STICKY.RISETO : Fld := ⟨0, 1⟩
/-- Elapsed time. -/
@[reducible] def SEQ_ELAPSED : Nat := 0x1008
@[reducible] def SEQ_ELAPSED.TIME : Fld := ⟨0, 24⟩
/-- Rail masks. -/
@[reducible] def SEQ_GOOD : Nat := 0x100C
@[reducible] def SEQ_GOOD.MASK : Fld := ⟨0, 28⟩
/-- Rail masks. -/
@[reducible] def SEQ_RAILON : Nat := 0x1010
@[reducible] def SEQ_RAILON.MASK : Fld := ⟨0, 28⟩
/-- Rail masks. -/
@[reducible] def SEQ_FAILED : Nat := 0x1014
@[reducible] def SEQ_FAILED.MASK : Fld := ⟨0, 28⟩
/-- Rail masks. -/
@[reducible] def SEQ_SHED : Nat := 0x1018
@[reducible] def SEQ_SHED.MASK : Fld := ⟨0, 28⟩
/-- Last rail failure. -/
@[reducible] def SEQ_LASTFAIL : Nat := 0x101C
@[reducible] def SEQ_LASTFAIL.VALID : Fld := ⟨15, 1⟩
@[reducible] def SEQ_LASTFAIL.PROFILE : Fld := ⟨12, 3⟩
@[reducible] def SEQ_LASTFAIL.CAUSE : Fld := ⟨8, 4⟩
@[reducible] def SEQ_LASTFAIL.RAIL : Fld := ⟨0, 5⟩
/-- Reset output status. -/
@[reducible] def SEQ_RSTSTAT : Nat := 0x101E
@[reducible] def SEQ_RSTSTAT.STRETCHING : Fld := ⟨8, 8⟩
@[reducible] def SEQ_RSTSTAT.ASSERTED : Fld := ⟨0, 8⟩
/-- Rail failure count. -/
@[reducible] def SEQ_FAILCNT : Nat := 0x1020
/-- Reset output rails. -/
@[reducible] def SEQ_RSTMASK (n : Nat) : Nat := 0x1080 + 0x8 * n
@[reducible] def SEQ_RSTMASK.MASK : Fld := ⟨0, 28⟩
/-- Reset output configuration. -/
@[reducible] def SEQ_RSTCFG (n : Nat) : Nat := 0x1084 + 0x8 * n
@[reducible] def SEQ_RSTCFG.FORCE : Fld := ⟨14, 1⟩
@[reducible] def SEQ_RSTCFG.PREOFF : Fld := ⟨13, 1⟩
@[reducible] def SEQ_RSTCFG.STRETCH : Fld := ⟨0, 10⟩
/-- Rail supervision. -/
@[reducible] def SEQ_RCFG (r : Nat) : Nat := 0x1100 + 0x10 * r
@[reducible] def SEQ_RCFG.FAILACT : Fld := ⟨2, 1⟩
@[reducible] def SEQ_RCFG.PGSRC : Fld := ⟨0, 2⟩
/-- Rise and fall time-outs. -/
@[reducible] def SEQ_RTO (r : Nat) : Nat := 0x1102 + 0x10 * r
/-- Rise and fall time-outs. -/
@[reducible] def SEQ_FTO (r : Nat) : Nat := 0x1104 + 0x10 * r
/-- Loop fallen level. -/
@[reducible] def SEQ_VFALL (r : Nat) : Nat := 0x1106 + 0x10 * r
/-- Auxiliary plan entry. -/
@[reducible] def SEQ_RAUXENT (r : Nat) : Nat := 0x1108 + 0x10 * r
@[reducible] def SEQ_RAUXENT.VALID : Fld := ⟨15, 1⟩
@[reducible] def SEQ_RAUXENT.ENTRY : Fld := ⟨0, 11⟩
/-- Rail state. -/
@[reducible] def SEQ_RSTATE (r : Nat) : Nat := 0x110A + 0x10 * r
@[reducible] def SEQ_RSTATE.CAUSE : Fld := ⟨4, 4⟩
@[reducible] def SEQ_RSTATE.GOODNOW : Fld := ⟨3, 1⟩
@[reducible] def SEQ_RSTATE.STATE : Fld := ⟨0, 3⟩
/-- Rise time and failures. -/
@[reducible] def SEQ_RUPTIME (r : Nat) : Nat := 0x110C + 0x10 * r
/-- Rise time and failures. -/
@[reducible] def SEQ_RFAILCNT (r : Nat) : Nat := 0x110E + 0x10 * r
/-- Profile rails. -/
@[reducible] def SEQ_PFMASK (p : Nat) : Nat := 0x1400 + 0x100 * p
@[reducible] def SEQ_PFMASK.MASK : Fld := ⟨0, 28⟩
/-- Fault gap and off dwell. -/
@[reducible] def SEQ_PFGAP (p : Nat) : Nat := 0x1404 + 0x100 * p
/-- Fault gap and off dwell. -/
@[reducible] def SEQ_PFDWELL (p : Nat) : Nat := 0x1406 + 0x100 * p
/-- Rail delays. -/
@[reducible] def SEQ_PFON (p : Nat) (r : Nat) : Nat := 0x1420 + 0x100 * p + 0x8 * r
@[reducible] def SEQ_PFON.DELAY : Fld := ⟨0, 24⟩
/-- Rail delays. -/
@[reducible] def SEQ_PFOFF (p : Nat) (r : Nat) : Nat := 0x1424 + 0x100 * p + 0x8 * r
@[reducible] def SEQ_PFOFF.DELAY : Fld := ⟨0, 24⟩

/-! ## 06_measurement.md -/

/-- Measurement control. -/
@[reducible] def MS_CTL : Nat := 0x4000
@[reducible] def MS_CTL.CNTCLR : Fld := ⟨0, 1⟩
/-- Plan window page; one value for each accessor. -/
@[reducible] def MS_PLANPAGE : Nat := 0x4002
@[reducible] def MS_PLANPAGE.PAGE : Fld := ⟨0, 4⟩
/-- Measurement status. -/
@[reducible] def MS_STATUS : Nat := 0x4004
@[reducible] def MS_STATUS.DEGRADED : Fld := ⟨15, 1⟩
@[reducible] def MS_STATUS.ROTASTOP : Fld := ⟨14, 1⟩
@[reducible] def MS_STATUS.ROTBSTOP : Fld := ⟨13, 1⟩
@[reducible] def MS_STATUS.SETTLING : Fld := ⟨12, 1⟩
@[reducible] def MS_STATUS.NEXTA : Fld := ⟨4, 4⟩
@[reducible] def MS_STATUS.NEXTB : Fld := ⟨0, 4⟩
/-- Sticky flags. -/
@[reducible] def MS_STICKY : Nat := 0x4006
@[reducible] def MS_STICKY.UNSERVED : Fld := ⟨8, 1⟩
@[reducible] def MS_STICKY.CALFAIL : Fld := ⟨7, 1⟩
@[reducible] def MS_STICKY.SEQREF : Fld := ⟨6, 1⟩
@[reducible] def MS_STICKY.PLANWREF : Fld := ⟨5, 1⟩
@[reducible] def MS_STICKY.URGREF : Fld := ⟨4, 1⟩
@[reducible] def MS_STICKY.URGOVF : Fld := ⟨3, 1⟩
@[reducible] def MS_STICKY.SLIP : Fld := ⟨2, 1⟩
@[reducible] def MS_STICKY.LATE : Fld := ⟨1, 1⟩
@[reducible] def MS_STICKY.OVRUN : Fld := ⟨0, 1⟩
/-- Software trigger. -/
@[reducible] def MS_SWTRIG : Nat := 0x4008
@[reducible] def MS_SWTRIG.GO : Fld := ⟨15, 1⟩
@[reducible] def MS_SWTRIG.SEQ : Fld := ⟨0, 6⟩
/-- Urgent request; one value for each accessor. -/
@[reducible] def MS_URGENT : Nat := 0x400A
@[reducible] def MS_URGENT.GO : Fld := ⟨15, 1⟩
@[reducible] def MS_URGENT.PEND : Fld := ⟨14, 1⟩
@[reducible] def MS_URGENT.ENTRY : Fld := ⟨0, 11⟩
/-- Trigger timer enables. -/
@[reducible] def MS_TTCTL : Nat := 0x400C
/-- Counters. -/
@[reducible] def MS_LATE_CNT : Nat := 0x4010
/-- Counters. -/
@[reducible] def MS_SLIPCNT : Nat := 0x4012
/-- Counters. -/
@[reducible] def MS_OVRCNT : Nat := 0x4014
/-- Counters. -/
@[reducible] def MS_RESAMPCNT : Nat := 0x4016
/-- Counters. -/
@[reducible] def MS_MIGCNT : Nat := 0x4018
/-- Limit groups. -/
@[reducible] def MS_LIMSTAT : Nat := 0x4020
@[reducible] def MS_LIMSTAT.GROUPS : Fld := ⟨0, 31⟩
/-- Limit groups. -/
@[reducible] def MS_LIMSTICKY : Nat := 0x4024
@[reducible] def MS_LIMSTICKY.GROUPS : Fld := ⟨0, 31⟩
/-- Converter status. -/
@[reducible] def MS_ADCSTAT (i : Nat) : Nat := 0x4030 + 0x2 * i
@[reducible] def MS_ADCSTAT.RETIRED : Fld := ⟨15, 1⟩
@[reducible] def MS_ADCSTAT.INBAY : Fld := ⟨14, 1⟩
@[reducible] def MS_ADCSTAT.QUAD : Fld := ⟨11, 3⟩
@[reducible] def MS_ADCSTAT.SEAT : Fld := ⟨9, 2⟩
@[reducible] def MS_ADCSTAT.AGE : Fld := ⟨0, 8⟩
/-- Sequence done. -/
@[reducible] def MS_SEQDONE (i : Nat) : Nat := 0x4060 + 0x2 * i
/-- Trigger timer period. -/
@[reducible] def MS_TTPER (n : Nat) : Nat := 0x4080 + 0x8 * n
@[reducible] def MS_TTPER.PERIOD : Fld := ⟨0, 24⟩
/-- Trigger timer offset. -/
@[reducible] def MS_TTOFS (n : Nat) : Nat := 0x4084 + 0x8 * n
/-- Sequence trigger. -/
@[reducible] def MS_SEQTRIG (s : Nat) : Nat := 0x4100 + 0x4 * s
@[reducible] def MS_SEQTRIG.EN : Fld := ⟨15, 1⟩
@[reducible] def MS_SEQTRIG.SRC : Fld := ⟨13, 2⟩
@[reducible] def MS_SEQTRIG.EDGE : Fld := ⟨11, 2⟩
@[reducible] def MS_SEQTRIG.SEL : Fld := ⟨0, 5⟩
/-- Sequence trigger divider. -/
@[reducible] def MS_SEQDIV (s : Nat) : Nat := 0x4102 + 0x4 * s
@[reducible] def MS_SEQDIV.DIV : Fld := ⟨0, 8⟩
/-- Entry control. -/
@[reducible] def MS_PECTL (e : Nat) : Nat := 0x11000 + 0x10 * e
@[reducible] def MS_PECTL.VALID : Fld := ⟨15, 1⟩
@[reducible] def MS_PECTL.QUAD : Fld := ⟨12, 3⟩
@[reducible] def MS_PECTL.SEAT : Fld := ⟨10, 2⟩
@[reducible] def MS_PECTL.AVG : Fld := ⟨7, 3⟩
@[reducible] def MS_PECTL.CHAN : Fld := ⟨0, 7⟩
/-- Entry sequence and limits. -/
@[reducible] def MS_PESEQ (e : Nat) : Nat := 0x11002 + 0x10 * e
@[reducible] def MS_PESEQ.SEQ : Fld := ⟨10, 6⟩
@[reducible] def MS_PESEQ.SYNC : Fld := ⟨9, 1⟩
@[reducible] def MS_PESEQ.LIMMODE : Fld := ⟨7, 2⟩
@[reducible] def MS_PESEQ.GROUP : Fld := ⟨0, 5⟩
/-- Entry delay. -/
@[reducible] def MS_PEDLY (e : Nat) : Nat := 0x11004 + 0x10 * e
/-- Limit thresholds. -/
@[reducible] def MS_PEHI (e : Nat) : Nat := 0x11006 + 0x10 * e
@[reducible] def MS_PEHI.LIMIT : Fld := ⟨0, 12⟩
/-- Limit thresholds. -/
@[reducible] def MS_PELO (e : Nat) : Nat := 0x11008 + 0x10 * e
@[reducible] def MS_PELO.LIMIT : Fld := ⟨0, 12⟩
/-- Limit hysteresis. -/
@[reducible] def MS_PEHYS (e : Nat) : Nat := 0x1100A + 0x10 * e
@[reducible] def MS_PEHYS.HYST : Fld := ⟨0, 8⟩
/-- Entry placement. -/
@[reducible] def MS_PEPLACE (e : Nat) : Nat := 0x1100C + 0x10 * e
@[reducible] def MS_PEPLACE.EPOCH : Fld := ⟨15, 1⟩
@[reducible] def MS_PEPLACE.ADC : Fld := ⟨8, 5⟩
@[reducible] def MS_PEPLACE.UNSRV : Fld := ⟨0, 1⟩
/-- Entry limit state. -/
@[reducible] def MS_PESTAT (e : Nat) : Nat := 0x1100E + 0x10 * e
@[reducible] def MS_PESTAT.HIGH : Fld := ⟨15, 1⟩
@[reducible] def MS_PESTAT.LOW : Fld := ⟨14, 1⟩
/-- Plan result. -/
@[reducible] def MS_RESULT (e : Nat) : Nat := 0x8000 + 0x2 * e
@[reducible] def MS_RESULT.NEW : Fld := ⟨15, 1⟩
@[reducible] def MS_RESULT.RESAMP : Fld := ⟨14, 1⟩
@[reducible] def MS_RESULT.OVR : Fld := ⟨13, 1⟩
@[reducible] def MS_RESULT.EPOCH : Fld := ⟨12, 1⟩
@[reducible] def MS_RESULT.DATA : Fld := ⟨0, 12⟩

/-! ## 07_battery_power_path.md -/

/-- Charger control. -/
@[reducible] def CHG_CTL : Nat := 0x3400
@[reducible] def CHG_CTL.CNTCLR : Fld := ⟨4, 1⟩
@[reducible] def CHG_CTL.FLTCLR : Fld := ⟨3, 1⟩
@[reducible] def CHG_CTL.RESTART : Fld := ⟨2, 1⟩
@[reducible] def CHG_CTL.HOLD : Fld := ⟨1, 1⟩
@[reducible] def CHG_CTL.CHGEN : Fld := ⟨0, 1⟩
/-- Stage configuration. -/
@[reducible] def CHG_CFG : Nat := 0x3402
@[reducible] def CHG_CFG.TXSEL : Fld := ⟨4, 3⟩
@[reducible] def CHG_CFG.PHEN : Fld := ⟨0, 2⟩
/-- Stage period. -/
@[reducible] def CHG_PERIOD : Nat := 0x3404
@[reducible] def CHG_PERIOD.PERIOD : Fld := ⟨0, 12⟩
/-- Currents. -/
@[reducible] def CHG_ICHG : Nat := 0x3406
/-- Currents. -/
@[reducible] def CHG_IPRE : Nat := 0x3408
/-- Currents. -/
@[reducible] def CHG_IOCP : Nat := 0x340A
/-- Currents. -/
@[reducible] def CHG_ITAPER : Nat := 0x340C
/-- Voltages. -/
@[reducible] def CHG_VCV : Nat := 0x340E
/-- Voltages. -/
@[reducible] def CHG_VRECH : Nat := 0x3410
/-- Voltages. -/
@[reducible] def CHG_VEMPTY : Nat := 0x3412
/-- Voltages. -/
@[reducible] def CHG_CVHYS : Nat := 0x3414
/-- CV pulse factor. -/
@[reducible] def CHG_CVSTEP : Nat := 0x3416
/-- Times. -/
@[reducible] def CHG_TPULSE : Nat := 0x3418
/-- Times. -/
@[reducible] def CHG_TREST : Nat := 0x341A
/-- Times. -/
@[reducible] def CHG_TTAPER : Nat := 0x341C
/-- Times. -/
@[reducible] def CHG_TSAFE : Nat := 0x341E
/-- Times. -/
@[reducible] def CHG_TPRE : Nat := 0x3420
/-- Derating temperatures. -/
@[reducible] def CHG_TDRATE : Nat := 0x3422
/-- Derating temperatures. -/
@[reducible] def CHG_TXSTART : Nat := 0x3424
/-- Derating temperatures. -/
@[reducible] def CHG_TXSTOP : Nat := 0x3426
/-- Sense scaling. -/
@[reducible] def CHG_RSHUNT : Nat := 0x3428
/-- Sense scaling. -/
@[reducible] def CHG_VBATDIV : Nat := 0x342A
/-- Loop design values. -/
@[reducible] def CHG_LIND : Nat := 0x342C
/-- Loop design values. -/
@[reducible] def CHG_IBW : Nat := 0x342E
/-- Loop design values. -/
@[reducible] def CHG_CBUS : Nat := 0x3430
/-- Loop design values. -/
@[reducible] def CHG_VBW : Nat := 0x3432
/-- Recharge charge. -/
@[reducible] def CHG_QRECH : Nat := 0x3434
/-- Lamp control. -/
@[reducible] def CHG_LAMP0 : Nat := 0x3438
@[reducible] def CHG_LAMP0.SRC : Fld := ⟨15, 1⟩
@[reducible] def CHG_LAMP0.N : Fld := ⟨4, 4⟩
@[reducible] def CHG_LAMP0.MODE : Fld := ⟨0, 3⟩
/-- Lamp control. -/
@[reducible] def CHG_LAMP1 : Nat := 0x343A
@[reducible] def CHG_LAMP1.SRC : Fld := ⟨15, 1⟩
@[reducible] def CHG_LAMP1.N : Fld := ⟨4, 4⟩
@[reducible] def CHG_LAMP1.MODE : Fld := ⟨0, 3⟩
/-- Charger status. -/
@[reducible] def CHG_STATUS : Nat := 0x3440
@[reducible] def CHG_STATUS.CFGERR : Fld := ⟨15, 1⟩
@[reducible] def CHG_STATUS.SUSPCNT : Fld := ⟨13, 2⟩
@[reducible] def CHG_STATUS.PRE : Fld := ⟨12, 1⟩
@[reducible] def CHG_STATUS.CLAMP : Fld := ⟨11, 1⟩
@[reducible] def CHG_STATUS.VLIM : Fld := ⟨10, 1⟩
@[reducible] def CHG_STATUS.THLIM : Fld := ⟨9, 1⟩
@[reducible] def CHG_STATUS.TEMPHOLD : Fld := ⟨8, 1⟩
@[reducible] def CHG_STATUS.BATFET : Fld := ⟨7, 1⟩
@[reducible] def CHG_STATUS.MODE : Fld := ⟨4, 3⟩
@[reducible] def CHG_STATUS.PHASE : Fld := ⟨0, 3⟩
/-- Sticky flags. -/
@[reducible] def CHG_STICKY : Nat := 0x3442
@[reducible] def CHG_STICKY.FLTREF : Fld := ⟨6, 1⟩
@[reducible] def CHG_STICKY.CLAMPED : Fld := ⟨5, 1⟩
@[reducible] def CHG_STICKY.SENSE : Fld := ⟨4, 1⟩
@[reducible] def CHG_STICKY.UVTRIP : Fld := ⟨3, 1⟩
@[reducible] def CHG_STICKY.OCP : Fld := ⟨2, 1⟩
@[reducible] def CHG_STICKY.SUSPEND : Fld := ⟨1, 1⟩
@[reducible] def CHG_STICKY.FAULT : Fld := ⟨0, 1⟩
/-- Fault cause and chemistry. -/
@[reducible] def CHG_FAULT : Nat := 0x3444
@[reducible] def CHG_FAULT.CODE : Fld := ⟨0, 8⟩
/-- Fault cause and chemistry. -/
@[reducible] def CHG_CHEM : Nat := 0x3446
@[reducible] def CHG_CHEM.CODE : Fld := ⟨0, 8⟩
/-- Telemetry. -/
@[reducible] def CHG_IBAT : Nat := 0x3448
/-- Telemetry. -/
@[reducible] def CHG_VBAT : Nat := 0x344A
/-- Telemetry. -/
@[reducible] def CHG_ILIM : Nat := 0x344C
/-- Telemetry. -/
@[reducible] def CHG_IPULSE : Nat := 0x344E
/-- Telemetry. -/
@[reducible] def CHG_VREST : Nat := 0x3450
/-- Safety timers. -/
@[reducible] def CHG_TEQ : Nat := 0x3454
/-- Safety timers. -/
@[reducible] def CHG_TWALL : Nat := 0x3458
/-- Counters. -/
@[reducible] def CHG_CYCCNT : Nat := 0x345C
/-- Counters. -/
@[reducible] def CHG_FLTCNT : Nat := 0x345E
/-- Counters. -/
@[reducible] def CHG_OCPCNT : Nat := 0x3460

/-! ## 08_gauge_and_pack.md -/

/-- Gauge control. -/
@[reducible] def GG_CTL : Nat := 0x3800
@[reducible] def GG_CTL.CNTCLR : Fld := ⟨2, 1⟩
@[reducible] def GG_CTL.UNANCHOR : Fld := ⟨1, 1⟩
@[reducible] def GG_CTL.CKPT : Fld := ⟨0, 1⟩
/-- Gauge configuration. -/
@[reducible] def GG_CFG : Nat := 0x3802
@[reducible] def GG_CFG.CHGLEARN : Fld := ⟨0, 1⟩
/-- Gauge status. -/
@[reducible] def GG_STATUS : Nat := 0x3804
@[reducible] def GG_STATUS.TRAV : Fld := ⟨8, 2⟩
@[reducible] def GG_STATUS.LEARNPEND : Fld := ⟨7, 1⟩
@[reducible] def GG_STATUS.LOWRATE : Fld := ⟨6, 1⟩
@[reducible] def GG_STATUS.EOL : Fld := ⟨5, 1⟩
@[reducible] def GG_STATUS.OVERFULL : Fld := ⟨4, 1⟩
@[reducible] def GG_STATUS.BEYOND : Fld := ⟨3, 1⟩
@[reducible] def GG_STATUS.LEARNED : Fld := ⟨2, 1⟩
@[reducible] def GG_STATUS.ANCHORED : Fld := ⟨1, 1⟩
@[reducible] def GG_STATUS.USABLE : Fld := ⟨0, 1⟩
/-- Sticky flags. -/
@[reducible] def GG_STICKY : Nat := 0x3806
@[reducible] def GG_STICKY.NVBAD : Fld := ⟨7, 1⟩
@[reducible] def GG_STICKY.LEARNLOST : Fld := ⟨6, 1⟩
@[reducible] def GG_STICKY.LCLAMP : Fld := ⟨5, 1⟩
@[reducible] def GG_STICKY.LREJECT : Fld := ⟨4, 1⟩
@[reducible] def GG_STICKY.GAP : Fld := ⟨3, 1⟩
@[reducible] def GG_STICKY.BEYOND : Fld := ⟨2, 1⟩
@[reducible] def GG_STICKY.EMPTY : Fld := ⟨1, 1⟩
@[reducible] def GG_STICKY.FULL : Fld := ⟨0, 1⟩
/-- Charges. -/
@[reducible] def GG_QCNT : Nat := 0x3808
/-- Charges. -/
@[reducible] def GG_QREM : Nat := 0x380C
/-- Charges. -/
@[reducible] def GG_QLEARN : Nat := 0x3810
/-- Charges. -/
@[reducible] def GG_QCAND : Nat := 0x3814
/-- Gauge telemetry. -/
@[reducible] def GG_SOC : Nat := 0x3818
/-- Gauge telemetry. -/
@[reducible] def GG_SOH : Nat := 0x381A
/-- Gauge telemetry. -/
@[reducible] def GG_IAVG : Nat := 0x381C
/-- Gauge telemetry. -/
@[reducible] def GG_TTE : Nat := 0x381E
/-- Gauge currents. -/
@[reducible] def GG_ILOW : Nat := 0x3820
/-- Gauge currents. -/
@[reducible] def GG_IDEAD : Nat := 0x3822
/-- Gauge currents. -/
@[reducible] def GG_ETAPER : Nat := 0x3824
/-- Discharge taper window. -/
@[reducible] def GG_ETIME : Nat := 0x3826
/-- Discharge taper window. -/
@[reducible] def GG_EBAND : Nat := 0x3828
/-- Learning factors. -/
@[reducible] def GG_CEFF : Nat := 0x382A
/-- Learning factors. -/
@[reducible] def GG_LSTEP : Nat := 0x382C
/-- Threshold and checkpoint period. -/
@[reducible] def GG_SOCLOW : Nat := 0x382E
/-- Threshold and checkpoint period. -/
@[reducible] def GG_CKPT : Nat := 0x3830
/-- Counters. -/
@[reducible] def GG_LEARNCNT : Nat := 0x3832
/-- Counters. -/
@[reducible] def GG_GAPCNT : Nat := 0x3834
/-- Pack control. -/
@[reducible] def PK_CTL : Nat := 0x3880
@[reducible] def PK_CTL.CNTCLR : Fld := ⟨1, 1⟩
@[reducible] def PK_CTL.RESCAN : Fld := ⟨0, 1⟩
/-- Tag polling. -/
@[reducible] def PK_CFG : Nat := 0x3882
@[reducible] def PK_CFG.FAILLIM : Fld := ⟨8, 4⟩
@[reducible] def PK_CFG.POLL : Fld := ⟨0, 8⟩
/-- Pack status. -/
@[reducible] def PK_STATUS : Nat := 0x3884
@[reducible] def PK_STATUS.EOLCAUSE : Fld := ⟨8, 2⟩
@[reducible] def PK_STATUS.LIFESEL : Fld := ⟨7, 1⟩
@[reducible] def PK_STATUS.USABLE : Fld := ⟨6, 1⟩
@[reducible] def PK_STATUS.CHEMOK : Fld := ⟨5, 1⟩
@[reducible] def PK_STATUS.TAG : Fld := ⟨3, 2⟩
@[reducible] def PK_STATUS.NTC : Fld := ⟨1, 2⟩
@[reducible] def PK_STATUS.PRESENT : Fld := ⟨0, 1⟩
/-- Sticky flags. -/
@[reducible] def PK_STICKY : Nat := 0x3886
@[reducible] def PK_STICKY.WRFAIL : Fld := ⟨5, 1⟩
@[reducible] def PK_STICKY.SWAP : Fld := ⟨4, 1⟩
@[reducible] def PK_STICKY.REMOVED : Fld := ⟨3, 1⟩
@[reducible] def PK_STICKY.TAGLOST : Fld := ⟨2, 1⟩
@[reducible] def PK_STICKY.TAGERR : Fld := ⟨1, 1⟩
@[reducible] def PK_STICKY.NTCSHORT : Fld := ⟨0, 1⟩
/-- Pack serial. -/
@[reducible] def PK_SERIAL (i : Nat) : Nat := 0x3888 + 0x2 * i
/-- Pack identity and life. -/
@[reducible] def PK_CHEM : Nat := 0x3890
/-- Pack identity and life. -/
@[reducible] def PK_RATEDCAP : Nat := 0x3892
/-- Pack identity and life. -/
@[reducible] def PK_MFG : Nat := 0x3894
/-- Pack identity and life. -/
@[reducible] def PK_TAGLEARN : Nat := 0x3896
/-- Pack identity and life. -/
@[reducible] def PK_CYCLES : Nat := 0x38A0
/-- Throughput. -/
@[reducible] def PK_RATEDTP : Nat := 0x3898
/-- Throughput. -/
@[reducible] def PK_CUMTP : Nat := 0x389C
/-- Pack settings. -/
@[reducible] def PK_SWAPHOLD : Nat := 0x38A2
/-- Pack settings. -/
@[reducible] def PK_WRDELTA : Nat := 0x38A4
/-- Pack settings. -/
@[reducible] def PK_NTCOPEN : Nat := 0x38A6
/-- Pack settings. -/
@[reducible] def PK_NTCSHORT : Nat := 0x38A8
/-- Tag counters. -/
@[reducible] def PK_ERRCNT : Nat := 0x38AA
/-- Tag counters. -/
@[reducible] def PK_TXCNT : Nat := 0x38AC
/-- Tag mailbox control. -/
@[reducible] def PK_XCTL : Nat := 0x38B0
@[reducible] def PK_XCTL.GO : Fld := ⟨15, 1⟩
@[reducible] def PK_XCTL.BUSY : Fld := ⟨14, 1⟩
@[reducible] def PK_XCTL.OP : Fld := ⟨12, 1⟩
@[reducible] def PK_XCTL.PAGE : Fld := ⟨0, 4⟩
/-- Tag mailbox result. -/
@[reducible] def PK_XSTAT : Nat := 0x38B2
@[reducible] def PK_XSTAT.STATUS : Fld := ⟨0, 8⟩
/-- Tag mailbox data. -/
@[reducible] def PK_XBUF (i : Nat) : Nat := 0x38C0 + 0x2 * i

/-! ## 09_kotried_engine.md -/

/-- Engine control. -/
@[reducible] def KE_CTL : Nat := 0x6000
@[reducible] def KE_CTL.DBGEN : Fld := ⟨2, 1⟩
@[reducible] def KE_CTL.CNTCLR : Fld := ⟨0, 1⟩
/-- Furrow masks. -/
@[reducible] def KE_RUN : Nat := 0x6002
/-- Furrow masks. -/
@[reducible] def KE_WAIT : Nat := 0x6004
/-- Furrow masks. -/
@[reducible] def KE_FLT : Nat := 0x6006
/-- Fabric speed. -/
@[reducible] def KE_SPEED : Nat := 0x6008
/-- Fabric speed. -/
@[reducible] def KE_SPEEDSC : Nat := 0x600A
/-- Sticky flags. -/
@[reducible] def KE_STICKY : Nat := 0x600C
@[reducible] def KE_STICKY.DBGREF : Fld := ⟨3, 1⟩
@[reducible] def KE_STICKY.WREF : Fld := ⟨2, 1⟩
@[reducible] def KE_STICKY.EVQOVF : Fld := ⟨1, 1⟩
@[reducible] def KE_STICKY.FAULT : Fld := ⟨0, 1⟩
/-- Counters. -/
@[reducible] def KE_FAULTCNT : Nat := 0x600E
/-- Counters. -/
@[reducible] def KE_EVQOVCNT : Nat := 0x6010
/-- Item select; one value for each accessor. -/
@[reducible] def KE_ITEMSEL : Nat := 0x6020
@[reducible] def KE_ITEMSEL.TAG : Fld := ⟨0, 7⟩
/-- Item status. -/
@[reducible] def KE_ITEMSTAT : Nat := 0x6022
@[reducible] def KE_ITEMSTAT.HELD : Fld := ⟨15, 1⟩
@[reducible] def KE_ITEMSTAT.DONE : Fld := ⟨14, 1⟩
@[reducible] def KE_ITEMSTAT.CODE : Fld := ⟨0, 8⟩
/-- Item descriptor. -/
@[reducible] def KE_ITEM (i : Nat) : Nat := 0x6028 + 0x2 * i
/-- Memory access. -/
@[reducible] def KE_MADDR : Nat := 0x6030
/-- Memory access. -/
@[reducible] def KE_MCFG : Nat := 0x6032
/-- Memory data. -/
@[reducible] def KE_MDATA : Nat := 0x6034
/-- Shared words. -/
@[reducible] def KE_SHARE (i : Nat) : Nat := 0x6040 + 0x2 * i
/-- Breakpoints. -/
@[reducible] def KE_BRK (i : Nat) : Nat := 0x6080 + 0x4 * i
@[reducible] def KE_BRK.FMASK : Fld := ⟨16, 16⟩
@[reducible] def KE_BRK.EN : Fld := ⟨15, 1⟩
@[reducible] def KE_BRK.ADDR : Fld := ⟨0, 14⟩
/-- Furrow control. -/
@[reducible] def KE_FCTL (f : Nat) : Nat := 0x6100 + 0x20 * f
@[reducible] def KE_FCTL.STEP : Fld := ⟨3, 1⟩
@[reducible] def KE_FCTL.RESUME : Fld := ⟨2, 1⟩
@[reducible] def KE_FCTL.HALT : Fld := ⟨1, 1⟩
@[reducible] def KE_FCTL.RESTART : Fld := ⟨0, 1⟩
/-- Furrow state. -/
@[reducible] def KE_FSTATE (f : Nat) : Nat := 0x6102 + 0x20 * f
@[reducible] def KE_FSTATE.PRIO : Fld := ⟨14, 2⟩
@[reducible] def KE_FSTATE.HALTED : Fld := ⟨13, 1⟩
@[reducible] def KE_FSTATE.EVQ : Fld := ⟨8, 5⟩
@[reducible] def KE_FSTATE.WAITK : Fld := ⟨4, 3⟩
@[reducible] def KE_FSTATE.STATE : Fld := ⟨0, 3⟩
/-- Program counters. -/
@[reducible] def KE_FPC (f : Nat) : Nat := 0x6104 + 0x20 * f
@[reducible] def KE_FPC.PC : Fld := ⟨0, 14⟩
/-- Program counters. -/
@[reducible] def KE_FFLTPC (f : Nat) : Nat := 0x610A + 0x20 * f
@[reducible] def KE_FFLTPC.PC : Fld := ⟨0, 14⟩
/-- Flags and stack. -/
@[reducible] def KE_FFLAGS (f : Nat) : Nat := 0x6106 + 0x20 * f
@[reducible] def KE_FFLAGS.DEPTH : Fld := ⟨4, 3⟩
@[reducible] def KE_FFLAGS.ZNCV : Fld := ⟨0, 4⟩
/-- Fault cause and held items. -/
@[reducible] def KE_FFAULT (f : Nat) : Nat := 0x6108 + 0x20 * f
@[reducible] def KE_FFAULT.VALUE : Fld := ⟨0, 8⟩
/-- Fault cause and held items. -/
@[reducible] def KE_FITEMS (f : Nat) : Nat := 0x610C + 0x20 * f
@[reducible] def KE_FITEMS.VALUE : Fld := ⟨0, 8⟩
/-- Register access. -/
@[reducible] def KE_KSEL (f : Nat) : Nat := 0x610E + 0x20 * f
@[reducible] def KE_KSEL.KSEL : Fld := ⟨0, 4⟩
/-- Register access. -/
@[reducible] def KE_KVAL (f : Nat) : Nat := 0x6110 + 0x20 * f

/-! ## 11_command_hopper.md -/

/-- Hopper control. -/
@[reducible] def HOP_CTL : Nat := 0x400
@[reducible] def HOP_CTL.CNTCLR : Fld := ⟨0, 1⟩
/-- Hopper status. -/
@[reducible] def HOP_STATUS : Nat := 0x402
@[reducible] def HOP_STATUS.RECOVERED : Fld := ⟨15, 1⟩
@[reducible] def HOP_STATUS.LASTTAG : Fld := ⟨8, 7⟩
@[reducible] def HOP_STATUS.INFLIGHT : Fld := ⟨0, 8⟩
/-- Sticky flags. -/
@[reducible] def HOP_STICKY : Nat := 0x404
@[reducible] def HOP_STICKY.DRAINTO : Fld := ⟨4, 1⟩
@[reducible] def HOP_STICKY.JNLBAD : Fld := ⟨3, 1⟩
@[reducible] def HOP_STICKY.OVR : Fld := ⟨2, 1⟩
@[reducible] def HOP_STICKY.NVBLK : Fld := ⟨1, 1⟩
@[reducible] def HOP_STICKY.FULL : Fld := ⟨0, 1⟩
/-- Completions written. -/
@[reducible] def HOP_CWR : Nat := 0x406
/-- Read position; one value for each accessor. -/
@[reducible] def HOP_CRD : Nat := 0x408
/-- Function masks. -/
@[reducible] def HOP_FNDIS : Nat := 0x410
@[reducible] def HOP_FNDIS.FURROW : Fld := ⟨16, 16⟩
@[reducible] def HOP_FNDIS.BLOCK : Fld := ⟨12, 3⟩
@[reducible] def HOP_FNDIS.LOOP : Fld := ⟨0, 12⟩
/-- Function masks. -/
@[reducible] def HOP_FNDRAIN : Nat := 0x414
@[reducible] def HOP_FNDRAIN.FURROW : Fld := ⟨16, 16⟩
@[reducible] def HOP_FNDRAIN.BLOCK : Fld := ⟨12, 3⟩
@[reducible] def HOP_FNDRAIN.LOOP : Fld := ⟨0, 12⟩
/-- Counters. -/
@[reducible] def HOP_ACCCNT : Nat := 0x418
/-- Counters. -/
@[reducible] def HOP_REFCNT : Nat := 0x41A
/-- Counters. -/
@[reducible] def HOP_LATECNT : Nat := 0x41C
/-- Counters. -/
@[reducible] def HOP_OVRCNT : Nat := 0x41E
/-- Counters. -/
@[reducible] def HOP_PWRABT : Nat := 0x420
/-- Submission buffer; one value for each accessor. -/
@[reducible] def HOP_SUB (i : Nat) : Nat := 0x480 + 0x2 * i
/-- Doorbell. -/
@[reducible] def HOP_SUBCTL : Nat := 0x490
@[reducible] def HOP_SUBCTL.RING : Fld := ⟨0, 1⟩
/-- Submission status; one value for each accessor. -/
@[reducible] def HOP_SUBSTAT : Nat := 0x492
@[reducible] def HOP_SUBSTAT.PEND : Fld := ⟨15, 1⟩
@[reducible] def HOP_SUBSTAT.ACC : Fld := ⟨14, 1⟩
@[reducible] def HOP_SUBSTAT.REASON : Fld := ⟨8, 4⟩
@[reducible] def HOP_SUBSTAT.TAG : Fld := ⟨0, 7⟩
/-- Unread records; one value for each accessor. -/
@[reducible] def HOP_CAVAIL : Nat := 0x600
@[reducible] def HOP_CAVAIL.OVR : Fld := ⟨15, 1⟩
@[reducible] def HOP_CAVAIL.COUNT : Fld := ⟨0, 9⟩
/-- Next completion; one value for each accessor. -/
@[reducible] def HOP_CNEXT (i : Nat) : Nat := 0x602 + 0x2 * i
/-- Tag status. -/
@[reducible] def HOP_TAGSTAT (i : Nat) : Nat := 0x700 + 0x2 * i
@[reducible] def HOP_TAGSTAT.BUSY : Fld := ⟨15, 1⟩
@[reducible] def HOP_TAGSTAT.HELD : Fld := ⟨14, 1⟩
@[reducible] def HOP_TAGSTAT.DRAIN : Fld := ⟨13, 1⟩
@[reducible] def HOP_TAGSTAT.SOURCE : Fld := ⟨11, 2⟩
@[reducible] def HOP_TAGSTAT.CODE : Fld := ⟨0, 8⟩

/-! ## 12_host_ports_and_ownership.md -/

/-- Device identity. -/
@[reducible] def ID_DEVICE : Nat := 0x0
/-- Device identity. -/
@[reducible] def ID_REV : Nat := 0x2
/-- Unique identifier. -/
@[reducible] def ID_UID (i : Nat) : Nat := 0x4 + 0x2 * i
/-- Straps. -/
@[reducible] def ID_STRAP : Nat := 0xC
@[reducible] def ID_STRAP.ADDR : Fld := ⟨8, 7⟩
@[reducible] def ID_STRAP.CKDLY : Fld := ⟨3, 3⟩
@[reducible] def ID_STRAP.ADSEL : Fld := ⟨0, 3⟩
/-- Accessor; one value for each accessor. -/
@[reducible] def ID_PORT : Nat := 0xE
@[reducible] def ID_PORT.PORT : Fld := ⟨0, 2⟩
/-- Ownership. -/
@[reducible] def ID_OWNER : Nat := 0x10
@[reducible] def ID_OWNER.HANDOVER : Fld := ⟨14, 1⟩
@[reducible] def ID_OWNER.ELECT : Fld := ⟨13, 1⟩
@[reducible] def ID_OWNER.LEASED : Fld := ⟨12, 1⟩
@[reducible] def ID_OWNER.SUCC : Fld := ⟨8, 2⟩
@[reducible] def ID_OWNER.PRIO : Fld := ⟨4, 3⟩
@[reducible] def ID_OWNER.PORT : Fld := ⟨0, 2⟩
/-- Owner's claim. -/
@[reducible] def ID_ONONCE : Nat := 0x12
/-- Owner's claim. -/
@[reducible] def ID_LEASE : Nat := 0x14
/-- Owner's claim. -/
@[reducible] def ID_LEFT : Nat := 0x16
/-- Claim. -/
@[reducible] def ID_CLAIM : Nat := 0x18
@[reducible] def ID_CLAIM.NONCE : Fld := ⟨16, 16⟩
@[reducible] def ID_CLAIM.PRIO : Fld := ⟨13, 3⟩
@[reducible] def ID_CLAIM.LEASE : Fld := ⟨0, 10⟩
/-- Lease renewal. -/
@[reducible] def ID_RENEW : Nat := 0x1C
/-- Owner control. -/
@[reducible] def ID_OCTL : Nat := 0x1E
@[reducible] def ID_OCTL.HGO : Fld := ⟨15, 1⟩
@[reducible] def ID_OCTL.SUCC : Fld := ⟨8, 2⟩
@[reducible] def ID_OCTL.RELEASE : Fld := ⟨0, 1⟩
/-- Election status. -/
@[reducible] def ID_ELECT : Nat := 0x20
@[reducible] def ID_ELECT.LEFT : Fld := ⟨8, 4⟩
@[reducible] def ID_ELECT.CLAIMS : Fld := ⟨0, 3⟩
/-- Port configuration; one value for each accessor. -/
@[reducible] def ID_PCFG : Nat := 0x22
@[reducible] def ID_PCFG.PECLEN : Fld := ⟨8, 8⟩
@[reducible] def ID_PCFG.CMPLATN : Fld := ⟨2, 1⟩
@[reducible] def ID_PCFG.ATTNEN : Fld := ⟨1, 1⟩
@[reducible] def ID_PCFG.PEC : Fld := ⟨0, 1⟩
/-- Port's own ownership status; one value for each accessor. -/
@[reducible] def ID_MYSTAT : Nat := 0x24
@[reducible] def ID_MYSTAT.CLREF : Fld := ⟨4, 1⟩
@[reducible] def ID_MYSTAT.OFFERED : Fld := ⟨3, 1⟩
@[reducible] def ID_MYSTAT.LOST : Fld := ⟨2, 1⟩
@[reducible] def ID_MYSTAT.CLAIMPEND : Fld := ⟨1, 1⟩
@[reducible] def ID_MYSTAT.OWNER : Fld := ⟨0, 1⟩
/-- Port attention timing and time-out. -/
@[reducible] def HP_CFG (n : Nat) : Nat := 0x200 + 0x40 * n
@[reducible] def HP_CFG.REP : Fld := ⟨8, 8⟩
@[reducible] def HP_CFG.TOEN : Fld := ⟨7, 1⟩
@[reducible] def HP_CFG.TATN : Fld := ⟨0, 5⟩
/-- Port status. -/
@[reducible] def HP_STATUS (n : Nat) : Nat := 0x202 + 0x40 * n
@[reducible] def HP_STATUS.ATNHOLD : Fld := ⟨2, 1⟩
@[reducible] def HP_STATUS.XFER : Fld := ⟨1, 1⟩
@[reducible] def HP_STATUS.BUSY : Fld := ⟨0, 1⟩
/-- Attention causes. -/
@[reducible] def HP_ATNSTAT (n : Nat) : Nat := 0x204 + 0x40 * n
@[reducible] def HP_ATNSTAT.LEASE : Fld := ⟨12, 1⟩
@[reducible] def HP_ATNSTAT.ELECT : Fld := ⟨11, 1⟩
@[reducible] def HP_ATNSTAT.OWN : Fld := ⟨10, 1⟩
@[reducible] def HP_ATNSTAT.CMPL : Fld := ⟨9, 1⟩
@[reducible] def HP_ATNSTAT.EV : Fld := ⟨8, 1⟩
@[reducible] def HP_ATNSTAT.EVNUM : Fld := ⟨0, 8⟩
/-- Port sticky flags. -/
@[reducible] def HP_STICKY (n : Nat) : Nat := 0x206 + 0x40 * n
@[reducible] def HP_STICKY.LATE : Fld := ⟨7, 1⟩
@[reducible] def HP_STICKY.OVERLEN : Fld := ⟨6, 1⟩
@[reducible] def HP_STICKY.HALF : Fld := ⟨5, 1⟩
@[reducible] def HP_STICKY.ATNMISS : Fld := ⟨4, 1⟩
@[reducible] def HP_STICKY.TIMEOUT : Fld := ⟨3, 1⟩
@[reducible] def HP_STICKY.PECERR : Fld := ⟨2, 1⟩
@[reducible] def HP_STICKY.NOTOWN : Fld := ⟨1, 1⟩
/-- Port counters. -/
@[reducible] def HP_XFERCNT (n : Nat) : Nat := 0x208 + 0x40 * n
/-- Port counters. -/
@[reducible] def HP_REFCNT (n : Nat) : Nat := 0x20A + 0x40 * n
/-- Port counters. -/
@[reducible] def HP_PECCNT (n : Nat) : Nat := 0x20C + 0x40 * n
/-- Port counters. -/
@[reducible] def HP_ATNCNT (n : Nat) : Nat := 0x20E + 0x40 * n
/-- Port counters. -/
@[reducible] def HP_ATNMISS (n : Nat) : Nat := 0x210 + 0x40 * n
/-- Port counters. -/
@[reducible] def HP_TOCNT (n : Nat) : Nat := 0x212 + 0x40 * n
/-- Port control. -/
@[reducible] def HP_CTL : Nat := 0x2C0
@[reducible] def HP_CTL.CNTCLR : Fld := ⟨0, 1⟩
/-- Attention outputs. -/
@[reducible] def HP_PINSTAT : Nat := 0x2C2
@[reducible] def HP_PINSTAT.INBAND : Fld := ⟨4, 3⟩
@[reducible] def HP_PINSTAT.ATTN1 : Fld := ⟨1, 1⟩
@[reducible] def HP_PINSTAT.ATTN0 : Fld := ⟨0, 1⟩

/-! ## 13_startup_and_device_states.md -/

/-- Device state. -/
@[reducible] def CFG_DSTATE : Nat := 0x5F00
@[reducible] def CFG_DSTATE.LCAUSE : Fld := ⟨12, 4⟩
@[reducible] def CFG_DSTATE.NVWAIT : Fld := ⟨11, 1⟩
@[reducible] def CFG_DSTATE.NEWTPEND : Fld := ⟨10, 1⟩
@[reducible] def CFG_DSTATE.FLUSHING : Fld := ⟨9, 1⟩
@[reducible] def CFG_DSTATE.BOF : Fld := ⟨8, 1⟩
@[reducible] def CFG_DSTATE.WAKE : Fld := ⟨6, 1⟩
@[reducible] def CFG_DSTATE.KILL : Fld := ⟨5, 1⟩
@[reducible] def CFG_DSTATE.PFI : Fld := ⟨4, 1⟩
@[reducible] def CFG_DSTATE.BOOT : Fld := ⟨3, 1⟩
@[reducible] def CFG_DSTATE.STATE : Fld := ⟨0, 3⟩
/-- Last reset. -/
@[reducible] def CFG_RSTCAUSE : Nat := 0x5F02
@[reducible] def CFG_RSTCAUSE.LASTLC : Fld := ⟨12, 4⟩
@[reducible] def CFG_RSTCAUSE.SRC : Fld := ⟨4, 4⟩
@[reducible] def CFG_RSTCAUSE.KIND : Fld := ⟨0, 4⟩
/-- Power-fail configuration. -/
@[reducible] def CFG_DSCFG : Nat := 0x5F04
@[reducible] def CFG_DSCFG.PFIEN : Fld := ⟨0, 1⟩
/-- Device-state control. -/
@[reducible] def CFG_DSCTL : Nat := 0x5F06
@[reducible] def CFG_DSCTL.CNTCLR : Fld := ⟨0, 1⟩
/-- Counters. -/
@[reducible] def CFG_ERSTCNT : Nat := 0x5F08
/-- Counters. -/
@[reducible] def CFG_RCYCCNT : Nat := 0x5F0A
/-- Counters. -/
@[reducible] def CFG_BOCNT : Nat := 0x5F0C
/-- Boot and flush times. -/
@[reducible] def CFG_BOOTLAT : Nat := 0x5F0E
/-- Boot and flush times. -/
@[reducible] def CFG_FLUSHLAT : Nat := 0x5F10
/-- Flush size. -/
@[reducible] def CFG_FLUSHBLK : Nat := 0x5F12
/-- Lowest supply. -/
@[reducible] def CFG_VINMIN : Nat := 0x5F14

/-! ## 14_configuration_and_recorder.md -/

/-- Configuration status. -/
@[reducible] def CFG_STATUS : Nat := 0x5800
@[reducible] def CFG_STATUS.PROBATION : Fld := ⟨15, 1⟩
@[reducible] def CFG_STATUS.PRCNT : Fld := ⟨13, 2⟩
@[reducible] def CFG_STATUS.PENDLOAD : Fld := ⟨12, 1⟩
@[reducible] def CFG_STATUS.SAFE : Fld := ⟨11, 1⟩
@[reducible] def CFG_STATUS.KEYLOCK : Fld := ⟨10, 1⟩
@[reducible] def CFG_STATUS.STAGE : Fld := ⟨5, 3⟩
@[reducible] def CFG_STATUS.PREVVALID : Fld := ⟨4, 1⟩
/-- Slot roles. -/
@[reducible] def CFG_SLOTS : Nat := 0x5802
@[reducible] def CFG_SLOTS.RUNNING : Fld := ⟨8, 2⟩
@[reducible] def CFG_SLOTS.STAGED : Fld := ⟨4, 2⟩
@[reducible] def CFG_SLOTS.PREVIOUS : Fld := ⟨2, 2⟩
@[reducible] def CFG_SLOTS.ACTIVE : Fld := ⟨0, 2⟩
/-- Sticky flags. -/
@[reducible] def CFG_STICKY : Nat := 0x5804
@[reducible] def CFG_STICKY.WREF : Fld := ⟨5, 1⟩
@[reducible] def CFG_STICKY.NVFAIL : Fld := ⟨4, 1⟩
@[reducible] def CFG_STICKY.REGSKIP : Fld := ⟨3, 1⟩
@[reducible] def CFG_STICKY.ROLLBACK : Fld := ⟨2, 1⟩
@[reducible] def CFG_STICKY.VERFAIL : Fld := ⟨1, 1⟩
@[reducible] def CFG_STICKY.STGLOST : Fld := ⟨0, 1⟩
/-- Versions and staging. -/
@[reducible] def CFG_RUNVER : Nat := 0x5808
/-- Versions and staging. -/
@[reducible] def CFG_ACTVER : Nat := 0x580C
/-- Versions and staging. -/
@[reducible] def CFG_PREVVER : Nat := 0x5810
/-- Versions and staging. -/
@[reducible] def CFG_STGVER : Nat := 0x5814
/-- Versions and staging. -/
@[reducible] def CFG_STGLEN : Nat := 0x5818
/-- Versions and staging. -/
@[reducible] def CFG_STGCRC : Nat := 0x581C
/-- NV window page; one value for each accessor. -/
@[reducible] def CFG_NVPAGE : Nat := 0x5820
@[reducible] def CFG_NVPAGE.PAGE : Fld := ⟨0, 5⟩
/-- Configuration control. -/
@[reducible] def CFG_CTL : Nat := 0x5822
@[reducible] def CFG_CTL.CNTCLR : Fld := ⟨0, 1⟩
/-- Counters. -/
@[reducible] def CFG_REGSKIP : Nat := 0x5824
/-- Counters. -/
@[reducible] def CFG_NVFAILCNT : Nat := 0x5826
/-- NV write control; one value for each accessor. -/
@[reducible] def CFG_WCTL : Nat := 0x5840
@[reducible] def CFG_WCTL.GO : Fld := ⟨15, 1⟩
@[reducible] def CFG_WCTL.BUSY : Fld := ⟨14, 1⟩
@[reducible] def CFG_WCTL.TARGET : Fld := ⟨0, 1⟩
/-- NV write offset; one value for each accessor. -/
@[reducible] def CFG_WOFS : Nat := 0x5844
@[reducible] def CFG_WOFS.OFS : Fld := ⟨0, 17⟩
/-- NV write status; one value for each accessor. -/
@[reducible] def CFG_WSTAT : Nat := 0x5848
@[reducible] def CFG_WSTAT.STATUS : Fld := ⟨0, 8⟩
/-- NV write buffer; one value for each accessor. -/
@[reducible] def CFG_WBUF (i : Nat) : Nat := 0x5880 + 0x2 * i
/-- Recorder control. -/
@[reducible] def REC_CTL : Nat := 0x5000
@[reducible] def REC_CTL.SNAP : Fld := ⟨2, 1⟩
@[reducible] def REC_CTL.FLUSH : Fld := ⟨1, 1⟩
@[reducible] def REC_CTL.CNTCLR : Fld := ⟨0, 1⟩
/-- Periodic flush. -/
@[reducible] def REC_CFG : Nat := 0x5002
/-- Recorder status. -/
@[reducible] def REC_STATUS : Nat := 0x5004
@[reducible] def REC_STATUS.FLUSHING : Fld := ⟨15, 1⟩
@[reducible] def REC_STATUS.SNAPPEND : Fld := ⟨11, 4⟩
@[reducible] def REC_STATUS.BUFCNT : Fld := ⟨0, 10⟩
/-- Sticky flags. -/
@[reducible] def REC_STICKY : Nat := 0x5006
@[reducible] def REC_STICKY.SDROP : Fld := ⟨3, 1⟩
@[reducible] def REC_STICKY.DROP : Fld := ⟨2, 1⟩
@[reducible] def REC_STICKY.GAP : Fld := ⟨1, 1⟩
@[reducible] def REC_STICKY.HIGH : Fld := ⟨0, 1⟩
/-- Ring bounds. -/
@[reducible] def REC_NEWEST : Nat := 0x5008
/-- Ring bounds. -/
@[reducible] def REC_OLDEST : Nat := 0x500C
/-- Ring bounds. -/
@[reducible] def REC_SNEWEST : Nat := 0x5010
/-- Ring bounds. -/
@[reducible] def REC_SOLDEST : Nat := 0x5014
/-- Selection; one value for each accessor. -/
@[reducible] def REC_SEL : Nat := 0x5018
/-- Selection; one value for each accessor. -/
@[reducible] def REC_SSEL : Nat := 0x501C
/-- Counters. -/
@[reducible] def REC_LOSTCNT : Nat := 0x5020
/-- Counters. -/
@[reducible] def REC_DROPCNT : Nat := 0x5022
/-- Counters. -/
@[reducible] def REC_SDROPCNT : Nat := 0x5024
/-- Record window; one value for each accessor. -/
@[reducible] def REC_WIN (i : Nat) : Nat := 0x5040 + 0x2 * i
/-- Snapshot window; one value for each accessor. -/
@[reducible] def REC_SWIN (i : Nat) : Nat := 0x5200 + 0x2 * i

/-! ## 15_clocks_and_time.md -/

/-- Clock control. -/
@[reducible] def CLK_CTL : Nat := 0xC00
@[reducible] def CLK_CTL.CNTCLR : Fld := ⟨0, 1⟩
/-- Clock status. -/
@[reducible] def CLK_STATUS : Nat := 0xC02
@[reducible] def CLK_STATUS.OUTCLAMP : Fld := ⟨3, 1⟩
@[reducible] def CLK_STATUS.SWBUSY : Fld := ⟨2, 1⟩
@[reducible] def CLK_STATUS.REFOK : Fld := ⟨1, 1⟩
@[reducible] def CLK_STATUS.PLLLOCK : Fld := ⟨0, 1⟩
/-- Sticky flags. -/
@[reducible] def CLK_STICKY : Nat := 0xC04
@[reducible] def CLK_STICKY.CDEXP : Fld := ⟨3, 1⟩
@[reducible] def CLK_STICKY.UNLOCK : Fld := ⟨2, 1⟩
@[reducible] def CLK_STICKY.MISSING : Fld := ⟨1, 1⟩
@[reducible] def CLK_STICKY.SWREF : Fld := ⟨0, 1⟩
/-- Reference. -/
@[reducible] def CLK_REFKHZ : Nat := 0xC06
/-- Reference. -/
@[reducible] def CLK_BOOTCNT : Nat := 0xC08
/-- Domain sources. -/
@[reducible] def CLK_DSEL : Nat := 0xC0A
@[reducible] def CLK_DSEL.RTCSRC : Fld := ⟨8, 1⟩
@[reducible] def CLK_DSEL.TBSRC : Fld := ⟨4, 1⟩
@[reducible] def CLK_DSEL.PWMSRC : Fld := ⟨0, 1⟩
/-- CLKOUT. -/
@[reducible] def CLK_OUT : Nat := 0xC0C
/-- CLKOUT. -/
@[reducible] def CLK_OUTDIV : Nat := 0xC0E
/-- Counters. -/
@[reducible] def CLK_SWCNT : Nat := 0xC10
/-- Counters. -/
@[reducible] def CLK_LOSTPWM : Nat := 0xC12
/-- Counters. -/
@[reducible] def CLK_LOSTTB : Nat := 0xC14
/-- Counters. -/
@[reducible] def CLK_LOSTRTC : Nat := 0xC16
/-- Counters. -/
@[reducible] def CLK_LOSTOUT : Nat := 0xC18
/-- Timebase. -/
@[reducible] def CLK_TB : Nat := 0xC20
/-- Operating time. -/
@[reducible] def CLK_OPTIME : Nat := 0xC28
@[reducible] def CLK_OPTIME.SEC : Fld := ⟨16, 32⟩
@[reducible] def CLK_OPTIME.FRACT : Fld := ⟨0, 16⟩
/-- Power-cycle count. -/
@[reducible] def CLK_PCYCLE : Nat := 0xC30
@[reducible] def CLK_PCYCLE.COUNT : Fld := ⟨0, 24⟩
/-- Real-time clock. -/
@[reducible] def RTC_TIME : Nat := 0xD00
@[reducible] def RTC_TIME.SEC : Fld := ⟨16, 48⟩
@[reducible] def RTC_TIME.FRACT : Fld := ⟨0, 16⟩
/-- RTC status. -/
@[reducible] def RTC_STATUS : Nat := 0xD08
@[reducible] def RTC_STATUS.CDRUN : Fld := ⟨1, 1⟩
@[reducible] def RTC_STATUS.OSCSTOP : Fld := ⟨0, 1⟩
/-- RTC trim. -/
@[reducible] def RTC_TRIM : Nat := 0xD0A
/-- Countdown. -/
@[reducible] def RTC_CDN : Nat := 0xD0C

/-! ## 16_thermal_and_protection.md -/

/-- Thermal control. -/
@[reducible] def TH_CTL : Nat := 0x3C00
@[reducible] def TH_CTL.CNTCLR : Fld := ⟨0, 1⟩
/-- Thermal status. -/
@[reducible] def TH_STATUS : Nat := 0x3C02
@[reducible] def TH_STATUS.SENSFLT : Fld := ⟨5, 1⟩
@[reducible] def TH_STATUS.RATE : Fld := ⟨4, 1⟩
@[reducible] def TH_STATUS.WARN : Fld := ⟨3, 1⟩
@[reducible] def TH_STATUS.NVHOT : Fld := ⟨2, 1⟩
@[reducible] def TH_STATUS.NVCOLD : Fld := ⟨1, 1⟩
@[reducible] def TH_STATUS.NVINH : Fld := ⟨0, 1⟩
/-- Sticky flags. -/
@[reducible] def TH_STICKY : Nat := 0x3C04
@[reducible] def TH_STICKY.SENSFLT : Fld := ⟨4, 1⟩
@[reducible] def TH_STICKY.RATE : Fld := ⟨3, 1⟩
@[reducible] def TH_STICKY.WARN : Fld := ⟨2, 1⟩
@[reducible] def TH_STICKY.NVINH : Fld := ⟨1, 1⟩
@[reducible] def TH_STICKY.LEVEL : Fld := ⟨0, 1⟩
/-- Die summary and limits. -/
@[reducible] def TH_DIEMAX : Nat := 0x3C06
/-- Die summary and limits. -/
@[reducible] def TH_DIEMIN : Nat := 0x3C08
/-- Die summary and limits. -/
@[reducible] def TH_WARN : Nat := 0x3C0A
/-- Die summary and limits. -/
@[reducible] def TH_HYS : Nat := 0x3C0C
/-- Sensor masks. -/
@[reducible] def TH_HIMASK : Nat := 0x3C0E
@[reducible] def TH_HIMASK.MASK : Fld := ⟨0, 15⟩
/-- Sensor masks. -/
@[reducible] def TH_LOMASK : Nat := 0x3C10
@[reducible] def TH_LOMASK.MASK : Fld := ⟨0, 15⟩
/-- Sensor masks. -/
@[reducible] def TH_RATEMASK : Nat := 0x3C12
@[reducible] def TH_RATEMASK.MASK : Fld := ⟨0, 15⟩
/-- Sensor masks. -/
@[reducible] def TH_FLTMASK : Nat := 0x3C14
@[reducible] def TH_FLTMASK.MASK : Fld := ⟨0, 15⟩
/-- Counters. -/
@[reducible] def TH_SHUTCNT : Nat := 0x3C16
/-- Counters. -/
@[reducible] def TH_NVINHCNT : Nat := 0x3C18
/-- Last shutdown. -/
@[reducible] def TH_LASTSHUT : Nat := 0x3C1A
@[reducible] def TH_LASTSHUT.VALID : Fld := ⟨15, 1⟩
@[reducible] def TH_LASTSHUT.SENSOR : Fld := ⟨0, 3⟩
/-- Sensor configuration. -/
@[reducible] def TH_SCFG (s : Nat) : Nat := 0x3C40 + 0x10 * s
@[reducible] def TH_SCFG.BETA : Fld := ⟨5, 11⟩
@[reducible] def TH_SCFG.FLTMASK : Fld := ⟨4, 1⟩
@[reducible] def TH_SCFG.RATE10EV : Fld := ⟨3, 1⟩
@[reducible] def TH_SCFG.RATE1EV : Fld := ⟨2, 1⟩
@[reducible] def TH_SCFG.LOEV : Fld := ⟨1, 1⟩
@[reducible] def TH_SCFG.HIEV : Fld := ⟨0, 1⟩
/-- Sensor temperature. -/
@[reducible] def TH_TEMP (s : Nat) : Nat := 0x3C42 + 0x10 * s
/-- Sensor limits. -/
@[reducible] def TH_HI (s : Nat) : Nat := 0x3C44 + 0x10 * s
/-- Sensor limits. -/
@[reducible] def TH_LO (s : Nat) : Nat := 0x3C46 + 0x10 * s
/-- Sensor limits. -/
@[reducible] def TH_RATE1 (s : Nat) : Nat := 0x3C48 + 0x10 * s
/-- Sensor limits. -/
@[reducible] def TH_RATE10 (s : Nat) : Nat := 0x3C4A + 0x10 * s
/-- Thermistor divider. -/
@[reducible] def TH_RPU (s : Nat) : Nat := 0x3C4C + 0x10 * s
/-- Thermistor divider. -/
@[reducible] def TH_R25 (s : Nat) : Nat := 0x3C4E + 0x10 * s

/-! ## 17_events_and_watchdog.md -/

/-- Event control. -/
@[reducible] def EVT_CTL : Nat := 0x800
@[reducible] def EVT_CTL.CLRALL : Fld := ⟨0, 1⟩
/-- Highest pending event. -/
@[reducible] def EVT_TOP : Nat := 0x802
@[reducible] def EVT_TOP.VALID : Fld := ⟨15, 1⟩
@[reducible] def EVT_TOP.PRIO : Fld := ⟨8, 2⟩
@[reducible] def EVT_TOP.EVNUM : Fld := ⟨0, 8⟩
/-- Software events. -/
@[reducible] def EVT_SWSET : Nat := 0x804
@[reducible] def EVT_SWSET.SET : Fld := ⟨0, 8⟩
/-- Route window page; one value for each accessor. -/
@[reducible] def EVT_RPAGE : Nat := 0x806
@[reducible] def EVT_RPAGE.PAGE : Fld := ⟨0, 4⟩
/-- Status summary. -/
@[reducible] def EVT_SUMMARY : Nat := 0x808
/-- Event status. -/
@[reducible] def EVT_STAT (i : Nat) : Nat := 0x820 + 0x2 * i
/-- Event routes. -/
@[reducible] def EVT_ROUTE (i : Nat) : Nat := 0x880 + 0x2 * i
@[reducible] def EVT_ROUTE.PRIO : Fld := ⟨14, 2⟩
@[reducible] def EVT_ROUTE.REC : Fld := ⟨12, 2⟩
@[reducible] def EVT_ROUTE.FEN : Fld := ⟨11, 1⟩
@[reducible] def EVT_ROUTE.FURROW : Fld := ⟨7, 4⟩
@[reducible] def EVT_ROUTE.INBAND : Fld := ⟨4, 3⟩
@[reducible] def EVT_ROUTE.ATTN1 : Fld := ⟨3, 1⟩
@[reducible] def EVT_ROUTE.ATTN0 : Fld := ⟨2, 1⟩
/-- Watchdog control. -/
@[reducible] def WDG_CTL : Nat := 0xA00
@[reducible] def WDG_CTL.LOCK : Fld := ⟨15, 1⟩
@[reducible] def WDG_CTL.ESCN : Fld := ⟨8, 4⟩
@[reducible] def WDG_CTL.CNTCLR : Fld := ⟨0, 1⟩
/-- Watchdog status. -/
@[reducible] def WDG_STATUS : Nat := 0xA02
@[reducible] def WDG_STATUS.ESC : Fld := ⟨12, 4⟩
@[reducible] def WDG_STATUS.LASTRST : Fld := ⟨8, 4⟩
@[reducible] def WDG_STATUS.LASTWARN : Fld := ⟨4, 4⟩
@[reducible] def WDG_STATUS.RSTVALID : Fld := ⟨1, 1⟩
@[reducible] def WDG_STATUS.WARNVALID : Fld := ⟨0, 1⟩
/-- Slot masks. -/
@[reducible] def WDG_WARNED : Nat := 0xA04
/-- Slot masks. -/
@[reducible] def WDG_DOUBLE : Nat := 0xA06
/-- Slot masks. -/
@[reducible] def WDG_BAD : Nat := 0xA08
/-- Sticky flags. -/
@[reducible] def WDG_STICKY : Nat := 0xA0A
@[reducible] def WDG_STICKY.ESCAL : Fld := ⟨2, 1⟩
@[reducible] def WDG_STICKY.LOCKREF : Fld := ⟨1, 1⟩
@[reducible] def WDG_STICKY.FOREIGN : Fld := ⟨0, 1⟩
/-- Token seed. -/
@[reducible] def WDG_SEED : Nat := 0xA0C
/-- Counters. -/
@[reducible] def WDG_WARNCNT : Nat := 0xA10
/-- Counters. -/
@[reducible] def WDG_RSTCNT : Nat := 0xA12
/-- Slot configuration. -/
@[reducible] def WDG_SCFG (n : Nat) : Nat := 0xA40 + 0x10 * n
@[reducible] def WDG_SCFG.EN : Fld := ⟨15, 1⟩
@[reducible] def WDG_SCFG.OPEN : Fld := ⟨8, 4⟩
@[reducible] def WDG_SCFG.FURROW : Fld := ⟨0, 4⟩
/-- Slot period. -/
@[reducible] def WDG_PER (n : Nat) : Nat := 0xA42 + 0x10 * n
/-- Slot challenge. -/
@[reducible] def WDG_CHAL (n : Nat) : Nat := 0xA44 + 0x10 * n
/-- Slot answer. -/
@[reducible] def WDG_TOKEN (n : Nat) : Nat := 0xA46 + 0x10 * n
/-- Time remaining. -/
@[reducible] def WDG_LEFT (n : Nat) : Nat := 0xA48 + 0x10 * n
/-- Slot state. -/
@[reducible] def WDG_SSTAT (n : Nat) : Nat := 0xA4A + 0x10 * n
@[reducible] def WDG_SSTAT.STATE : Fld := ⟨0, 3⟩

/-! ## 18_pins_and_package.md -/

/-- General-function pin configuration. -/
@[reducible] def GF_CFG (i : Nat) : Nat := 0xE00 + 0x2 * i
@[reducible] def GF_CFG.OUT : Fld := ⟨2, 1⟩
@[reducible] def GF_CFG.MODE : Fld := ⟨0, 2⟩
/-- General-function pin levels. -/
@[reducible] def GF_IN : Nat := 0xE10
@[reducible] def GF_IN.LEVEL : Fld := ⟨0, 8⟩

/-! ## The access table (R10, R480) -/

/-- One 16-bit word of the register space: its base, two index dimensions (count and stride), the bits a write
stores (RW, RWS, RWC), the bits a write of 1 clears (W1C), the bits that the image loader writes (RWS, RWC), and the
reset word. Bits that neither of the first two masks holds are read-only,
write-only or reserved: a write does not store them. -/
structure Row where
  base : Nat
  n1 : Nat
  s1 : Nat
  n2 : Nat
  s2 : Nat
  stored : BitVec 16
  w1c : BitVec 16
  img : BitVec 16
  reset : BitVec 16
  deriving DecidableEq, Repr

/-- Whether address `a` is one of the words of the row. -/
def Row.holds (r : Row) (a : Nat) : Bool :=
  let d := a - r.base
  r.base ≤ a && d / r.s1 < r.n1 && (d % r.s1) / r.s2 < r.n2 && (d % r.s1) % r.s2 == 0

def rows_id : List Row := [
  ⟨0x0, 1, 0x100000, 1, 0x100000, 0x0, 0x0, 0x0, 0x2412⟩,
  ⟨0x2, 1, 0x100000, 1, 0x100000, 0x0, 0x0, 0x0, 0xB0⟩,
  ⟨0x4, 4, 0x2, 1, 0x100000, 0x0, 0x0, 0x0, 0x0⟩,
  ⟨0xC, 1, 0x100000, 1, 0x100000, 0x0, 0x0, 0x0, 0x0⟩,
  ⟨0xE, 1, 0x100000, 1, 0x100000, 0x0, 0x0, 0x0, 0x0⟩,
  ⟨0x10, 1, 0x100000, 1, 0x100000, 0x0, 0x0, 0x0, 0x0⟩,
  ⟨0x12, 1, 0x100000, 1, 0x100000, 0x0, 0x0, 0x0, 0x0⟩,
  ⟨0x14, 1, 0x100000, 1, 0x100000, 0x0, 0x0, 0x0, 0x0⟩,
  ⟨0x16, 1, 0x100000, 1, 0x100000, 0x0, 0x0, 0x0, 0x0⟩,
  ⟨0x18, 1, 0x100000, 1, 0x100000, 0x0, 0x0, 0x0, 0x0⟩,
  ⟨0x1A, 1, 0x100000, 1, 0x100000, 0x0, 0x0, 0x0, 0x0⟩,
  ⟨0x1C, 1, 0x100000, 1, 0x100000, 0x0, 0x0, 0x0, 0x0⟩,
  ⟨0x1E, 1, 0x100000, 1, 0x100000, 0x0, 0x0, 0x0, 0x0⟩,
  ⟨0x20, 1, 0x100000, 1, 0x100000, 0x0, 0x0, 0x0, 0x0⟩,
  ⟨0x22, 1, 0x100000, 1, 0x100000, 0xFF07, 0x0, 0x0, 0x200⟩,
  ⟨0x24, 1, 0x100000, 1, 0x100000, 0x0, 0x0, 0x0, 0x0⟩]

def rows_hp : List Row := [
  ⟨0x200, 3, 0x40, 1, 0x100000, 0xFF9F, 0x0, 0x0, 0xA85⟩,
  ⟨0x202, 3, 0x40, 1, 0x100000, 0x0, 0x0, 0x0, 0x0⟩,
  ⟨0x204, 3, 0x40, 1, 0x100000, 0x0, 0x0, 0x0, 0x0⟩,
  ⟨0x206, 3, 0x40, 1, 0x100000, 0x0, 0xFE, 0x0, 0x0⟩,
  ⟨0x208, 3, 0x40, 1, 0x100000, 0x0, 0x0, 0x0, 0x0⟩,
  ⟨0x20A, 3, 0x40, 1, 0x100000, 0x0, 0x0, 0x0, 0x0⟩,
  ⟨0x20C, 3, 0x40, 1, 0x100000, 0x0, 0x0, 0x0, 0x0⟩,
  ⟨0x20E, 3, 0x40, 1, 0x100000, 0x0, 0x0, 0x0, 0x0⟩,
  ⟨0x210, 3, 0x40, 1, 0x100000, 0x0, 0x0, 0x0, 0x0⟩,
  ⟨0x212, 3, 0x40, 1, 0x100000, 0x0, 0x0, 0x0, 0x0⟩,
  ⟨0x2C0, 1, 0x100000, 1, 0x100000, 0x0, 0x0, 0x0, 0x0⟩,
  ⟨0x2C2, 1, 0x100000, 1, 0x100000, 0x0, 0x0, 0x0, 0x0⟩]

def rows_hop : List Row := [
  ⟨0x400, 1, 0x100000, 1, 0x100000, 0x0, 0x0, 0x0, 0x0⟩,
  ⟨0x402, 1, 0x100000, 1, 0x100000, 0x0, 0x0, 0x0, 0x0⟩,
  ⟨0x404, 1, 0x100000, 1, 0x100000, 0x0, 0x1F, 0x0, 0x0⟩,
  ⟨0x406, 1, 0x100000, 1, 0x100000, 0x0, 0x0, 0x0, 0x0⟩,
  ⟨0x408, 1, 0x100000, 1, 0x100000, 0x0, 0x0, 0x0, 0x0⟩,
  ⟨0x410, 1, 0x100000, 1, 0x100000, 0x0, 0x0, 0x0, 0x0⟩,
  ⟨0x412, 1, 0x100000, 1, 0x100000, 0x0, 0x0, 0x0, 0x0⟩,
  ⟨0x414, 1, 0x100000, 1, 0x100000, 0x0, 0x0, 0x0, 0x0⟩,
  ⟨0x416, 1, 0x100000, 1, 0x100000, 0x0, 0x0, 0x0, 0x0⟩,
  ⟨0x418, 1, 0x100000, 1, 0x100000, 0x0, 0x0, 0x0, 0x0⟩,
  ⟨0x41A, 1, 0x100000, 1, 0x100000, 0x0, 0x0, 0x0, 0x0⟩,
  ⟨0x41C, 1, 0x100000, 1, 0x100000, 0x0, 0x0, 0x0, 0x0⟩,
  ⟨0x41E, 1, 0x100000, 1, 0x100000, 0x0, 0x0, 0x0, 0x0⟩,
  ⟨0x420, 1, 0x100000, 1, 0x100000, 0x0, 0x0, 0x0, 0x0⟩,
  ⟨0x480, 8, 0x2, 1, 0x100000, 0xFFFF, 0x0, 0x0, 0x0⟩,
  ⟨0x490, 1, 0x100000, 1, 0x100000, 0x0, 0x0, 0x0, 0x0⟩,
  ⟨0x492, 1, 0x100000, 1, 0x100000, 0x0, 0x0, 0x0, 0x0⟩,
  ⟨0x600, 1, 0x100000, 1, 0x100000, 0x0, 0x0, 0x0, 0x0⟩,
  ⟨0x602, 8, 0x2, 1, 0x100000, 0x0, 0x0, 0x0, 0x0⟩,
  ⟨0x700, 128, 0x2, 1, 0x100000, 0x0, 0x0, 0x0, 0x0⟩]

def rows_evt : List Row := [
  ⟨0x800, 1, 0x100000, 1, 0x100000, 0x0, 0x0, 0x0, 0x0⟩,
  ⟨0x802, 1, 0x100000, 1, 0x100000, 0x0, 0x0, 0x0, 0x0⟩,
  ⟨0x804, 1, 0x100000, 1, 0x100000, 0x0, 0x0, 0x0, 0x0⟩,
  ⟨0x806, 1, 0x100000, 1, 0x100000, 0xF, 0x0, 0x0, 0x0⟩,
  ⟨0x808, 1, 0x100000, 1, 0x100000, 0x0, 0x0, 0x0, 0x0⟩,
  ⟨0x820, 16, 0x2, 1, 0x100000, 0x0, 0xFFFF, 0x0, 0x0⟩,
  ⟨0x880, 16, 0x2, 1, 0x100000, 0xFFFC, 0x0, 0xFFFC, 0x0⟩]

def rows_wdg : List Row := [
  ⟨0xA00, 1, 0x100000, 1, 0x100000, 0x8F00, 0x0, 0x8F00, 0x0⟩,
  ⟨0xA02, 1, 0x100000, 1, 0x100000, 0x0, 0x0, 0x0, 0x0⟩,
  ⟨0xA04, 1, 0x100000, 1, 0x100000, 0x0, 0x0, 0x0, 0x0⟩,
  ⟨0xA06, 1, 0x100000, 1, 0x100000, 0x0, 0xFFFF, 0x0, 0x0⟩,
  ⟨0xA08, 1, 0x100000, 1, 0x100000, 0x0, 0xFFFF, 0x0, 0x0⟩,
  ⟨0xA0A, 1, 0x100000, 1, 0x100000, 0x0, 0x7, 0x0, 0x0⟩,
  ⟨0xA0C, 1, 0x100000, 1, 0x100000, 0xFFFF, 0x0, 0xFFFF, 0x0⟩,
  ⟨0xA0E, 1, 0x100000, 1, 0x100000, 0xFFFF, 0x0, 0xFFFF, 0x0⟩,
  ⟨0xA10, 1, 0x100000, 1, 0x100000, 0x0, 0x0, 0x0, 0x0⟩,
  ⟨0xA12, 1, 0x100000, 1, 0x100000, 0x0, 0x0, 0x0, 0x0⟩,
  ⟨0xA40, 16, 0x10, 1, 0x100000, 0x8F0F, 0x0, 0x8F0F, 0x0⟩,
  ⟨0xA42, 16, 0x10, 1, 0x100000, 0xFFFF, 0x0, 0xFFFF, 0x3E8⟩,
  ⟨0xA44, 16, 0x10, 1, 0x100000, 0x0, 0x0, 0x0, 0x0⟩,
  ⟨0xA46, 16, 0x10, 1, 0x100000, 0x0, 0x0, 0x0, 0x0⟩,
  ⟨0xA48, 16, 0x10, 1, 0x100000, 0x0, 0x0, 0x0, 0x0⟩,
  ⟨0xA4A, 16, 0x10, 1, 0x100000, 0x0, 0x0, 0x0, 0x0⟩]

def rows_clk : List Row := [
  ⟨0xC00, 1, 0x100000, 1, 0x100000, 0x0, 0x0, 0x0, 0x0⟩,
  ⟨0xC02, 1, 0x100000, 1, 0x100000, 0x0, 0x0, 0x0, 0x3⟩,
  ⟨0xC04, 1, 0x100000, 1, 0x100000, 0x0, 0xF, 0x0, 0x0⟩,
  ⟨0xC06, 1, 0x100000, 1, 0x100000, 0x0, 0x0, 0x0, 0x61A8⟩,
  ⟨0xC08, 1, 0x100000, 1, 0x100000, 0x0, 0x0, 0x0, 0x0⟩,
  ⟨0xC0A, 1, 0x100000, 1, 0x100000, 0x111, 0x0, 0x111, 0x0⟩,
  ⟨0xC0C, 1, 0x100000, 1, 0x100000, 0xFFFF, 0x0, 0xFFFF, 0x0⟩,
  ⟨0xC0E, 1, 0x100000, 1, 0x100000, 0xFFFF, 0x0, 0xFFFF, 0x0⟩,
  ⟨0xC10, 1, 0x100000, 1, 0x100000, 0x0, 0x0, 0x0, 0x0⟩,
  ⟨0xC12, 1, 0x100000, 1, 0x100000, 0x0, 0x0, 0x0, 0x0⟩,
  ⟨0xC14, 1, 0x100000, 1, 0x100000, 0x0, 0x0, 0x0, 0x0⟩,
  ⟨0xC16, 1, 0x100000, 1, 0x100000, 0x0, 0x0, 0x0, 0x0⟩,
  ⟨0xC18, 1, 0x100000, 1, 0x100000, 0x0, 0x0, 0x0, 0x0⟩,
  ⟨0xC20, 1, 0x100000, 1, 0x100000, 0x0, 0x0, 0x0, 0x0⟩,
  ⟨0xC22, 1, 0x100000, 1, 0x100000, 0x0, 0x0, 0x0, 0x0⟩,
  ⟨0xC24, 1, 0x100000, 1, 0x100000, 0x0, 0x0, 0x0, 0x0⟩,
  ⟨0xC26, 1, 0x100000, 1, 0x100000, 0x0, 0x0, 0x0, 0x0⟩,
  ⟨0xC28, 1, 0x100000, 1, 0x100000, 0x0, 0x0, 0x0, 0x0⟩,
  ⟨0xC2A, 1, 0x100000, 1, 0x100000, 0x0, 0x0, 0x0, 0x0⟩,
  ⟨0xC2C, 1, 0x100000, 1, 0x100000, 0x0, 0x0, 0x0, 0x0⟩,
  ⟨0xC2E, 1, 0x100000, 1, 0x100000, 0x0, 0x0, 0x0, 0x0⟩,
  ⟨0xC30, 1, 0x100000, 1, 0x100000, 0x0, 0x0, 0x0, 0x0⟩,
  ⟨0xC32, 1, 0x100000, 1, 0x100000, 0x0, 0x0, 0x0, 0x0⟩,
  ⟨0xD00, 1, 0x100000, 1, 0x100000, 0x0, 0x0, 0x0, 0x0⟩,
  ⟨0xD02, 1, 0x100000, 1, 0x100000, 0x0, 0x0, 0x0, 0x0⟩,
  ⟨0xD04, 1, 0x100000, 1, 0x100000, 0x0, 0x0, 0x0, 0x0⟩,
  ⟨0xD06, 1, 0x100000, 1, 0x100000, 0x0, 0x0, 0x0, 0x0⟩,
  ⟨0xD08, 1, 0x100000, 1, 0x100000, 0x0, 0x0, 0x0, 0x1⟩,
  ⟨0xD0A, 1, 0x100000, 1, 0x100000, 0xFFFF, 0x0, 0x0, 0x0⟩,
  ⟨0xD0C, 1, 0x100000, 1, 0x100000, 0xFFFF, 0x0, 0x0, 0x0⟩,
  ⟨0xD0E, 1, 0x100000, 1, 0x100000, 0xFFFF, 0x0, 0x0, 0x0⟩]

def rows_gf : List Row := [
  ⟨0xE00, 8, 0x2, 1, 0x100000, 0x7, 0x0, 0x7, 0x0⟩,
  ⟨0xE10, 1, 0x100000, 1, 0x100000, 0x0, 0x0, 0x0, 0x0⟩]

def rows_seq : List Row := [
  ⟨0x1000, 1, 0x100000, 1, 0x100000, 0x0, 0x0, 0x0, 0x0⟩,
  ⟨0x1002, 1, 0x100000, 1, 0x100000, 0xFF, 0x0, 0xFF, 0xA⟩,
  ⟨0x1004, 1, 0x100000, 1, 0x100000, 0x0, 0x0, 0x0, 0x0⟩,
  ⟨0x1006, 1, 0x100000, 1, 0x100000, 0x0, 0x1FF, 0x0, 0x0⟩,
  ⟨0x1008, 1, 0x100000, 1, 0x100000, 0x0, 0x0, 0x0, 0x0⟩,
  ⟨0x100A, 1, 0x100000, 1, 0x100000, 0x0, 0x0, 0x0, 0x0⟩,
  ⟨0x100C, 1, 0x100000, 1, 0x100000, 0x0, 0x0, 0x0, 0x0⟩,
  ⟨0x100E, 1, 0x100000, 1, 0x100000, 0x0, 0x0, 0x0, 0x0⟩,
  ⟨0x1010, 1, 0x100000, 1, 0x100000, 0x0, 0x0, 0x0, 0x0⟩,
  ⟨0x1012, 1, 0x100000, 1, 0x100000, 0x0, 0x0, 0x0, 0x0⟩,
  ⟨0x1014, 1, 0x100000, 1, 0x100000, 0x0, 0x0, 0x0, 0x0⟩,
  ⟨0x1016, 1, 0x100000, 1, 0x100000, 0x0, 0x0, 0x0, 0x0⟩,
  ⟨0x1018, 1, 0x100000, 1, 0x100000, 0x0, 0x0, 0x0, 0x0⟩,
  ⟨0x101A, 1, 0x100000, 1, 0x100000, 0x0, 0x0, 0x0, 0x0⟩,
  ⟨0x101C, 1, 0x100000, 1, 0x100000, 0x0, 0x0, 0x0, 0x0⟩,
  ⟨0x101E, 1, 0x100000, 1, 0x100000, 0x0, 0x0, 0x0, 0xFF⟩,
  ⟨0x1020, 1, 0x100000, 1, 0x100000, 0x0, 0x0, 0x0, 0x0⟩,
  ⟨0x1080, 8, 0x8, 1, 0x100000, 0xFFFF, 0x0, 0xFFFF, 0x0⟩,
  ⟨0x1082, 8, 0x8, 1, 0x100000, 0xFFF, 0x0, 0xFFF, 0x0⟩,
  ⟨0x1084, 8, 0x8, 1, 0x100000, 0x63FF, 0x0, 0x63FF, 0x2000⟩,
  ⟨0x1100, 28, 0x10, 1, 0x100000, 0x7, 0x0, 0x7, 0x0⟩,
  ⟨0x1102, 28, 0x10, 1, 0x100000, 0xFFFF, 0x0, 0xFFFF, 0x3E8⟩,
  ⟨0x1104, 28, 0x10, 1, 0x100000, 0xFFFF, 0x0, 0xFFFF, 0x3E8⟩,
  ⟨0x1106, 28, 0x10, 1, 0x100000, 0xFFFF, 0x0, 0xFFFF, 0x320⟩,
  ⟨0x1108, 28, 0x10, 1, 0x100000, 0x87FF, 0x0, 0x87FF, 0x0⟩,
  ⟨0x110A, 28, 0x10, 1, 0x100000, 0x0, 0x0, 0x0, 0x0⟩,
  ⟨0x110C, 28, 0x10, 1, 0x100000, 0x0, 0x0, 0x0, 0x0⟩,
  ⟨0x110E, 28, 0x10, 1, 0x100000, 0x0, 0x0, 0x0, 0x0⟩,
  ⟨0x1400, 8, 0x100, 1, 0x100000, 0xFFFF, 0x0, 0xFFFF, 0x0⟩,
  ⟨0x1402, 8, 0x100, 1, 0x100000, 0xFFF, 0x0, 0xFFF, 0x0⟩,
  ⟨0x1404, 8, 0x100, 1, 0x100000, 0xFFFF, 0x0, 0xFFFF, 0x64⟩,
  ⟨0x1406, 8, 0x100, 1, 0x100000, 0xFFFF, 0x0, 0xFFFF, 0x32⟩,
  ⟨0x1420, 8, 0x100, 28, 0x8, 0xFFFF, 0x0, 0xFFFF, 0x0⟩,
  ⟨0x1422, 8, 0x100, 28, 0x8, 0xFF, 0x0, 0xFF, 0x0⟩,
  ⟨0x1424, 8, 0x100, 28, 0x8, 0xFFFF, 0x0, 0xFFFF, 0x0⟩,
  ⟨0x1426, 8, 0x100, 28, 0x8, 0xFF, 0x0, 0xFF, 0x0⟩]

def rows_lp : List Row := [
  ⟨0x2000, 12, 0x80, 1, 0x100000, 0xC, 0x0, 0xC, 0x4⟩,
  ⟨0x2002, 12, 0x80, 1, 0x100000, 0x3FFF, 0x0, 0x3FFF, 0x0⟩,
  ⟨0x2004, 12, 0x80, 1, 0x100000, 0xFFF, 0x0, 0xFFF, 0x640⟩,
  ⟨0x2006, 12, 0x80, 1, 0x100000, 0xFFFF, 0x0, 0xFFFF, 0x0⟩,
  ⟨0x2008, 12, 0x80, 1, 0x100000, 0xFFFF, 0x0, 0xFFFF, 0x0⟩,
  ⟨0x200A, 12, 0x80, 1, 0x100000, 0xFFFF, 0x0, 0xFFFF, 0x0⟩,
  ⟨0x2016, 12, 0x80, 1, 0x100000, 0xFFFF, 0x0, 0xFFFF, 0x0⟩,
  ⟨0x2018, 12, 0x80, 1, 0x100000, 0xFFFF, 0x0, 0xFFFF, 0x0⟩,
  ⟨0x201E, 12, 0x80, 1, 0x100000, 0xFFFF, 0x0, 0xFFFF, 0x0⟩,
  ⟨0x200C, 12, 0x80, 1, 0x100000, 0x0, 0x0, 0x0, 0x0⟩,
  ⟨0x200E, 12, 0x80, 1, 0x100000, 0xFFFF, 0x0, 0xFFFF, 0x3E8⟩,
  ⟨0x2010, 12, 0x80, 1, 0x100000, 0xFFFF, 0x0, 0xFFFF, 0x3E8⟩,
  ⟨0x2012, 12, 0x80, 1, 0x100000, 0xFFFF, 0x0, 0xFFFF, 0xE000⟩,
  ⟨0x2014, 12, 0x80, 1, 0x100000, 0x3FF, 0x0, 0x3FF, 0x20⟩,
  ⟨0x201A, 12, 0x80, 1, 0x100000, 0xFFFF, 0x0, 0xFFFF, 0x7FFF⟩,
  ⟨0x201C, 12, 0x80, 1, 0x100000, 0xFFF, 0x0, 0xFFF, 0x30A⟩,
  ⟨0x2020, 12, 0x80, 1, 0x100000, 0xFFFF, 0x0, 0xFFFF, 0x64⟩,
  ⟨0x202A, 12, 0x80, 1, 0x100000, 0xFFFF, 0x0, 0xFFFF, 0x64⟩,
  ⟨0x2022, 12, 0x80, 1, 0x100000, 0xFFFF, 0x0, 0xFFFF, 0x2EE0⟩,
  ⟨0x2024, 12, 0x80, 1, 0x100000, 0xFFFF, 0x0, 0xFFFF, 0x7FFF⟩,
  ⟨0x2026, 12, 0x80, 1, 0x100000, 0xFFFF, 0x0, 0xFFFF, 0x0⟩,
  ⟨0x2028, 12, 0x80, 1, 0x100000, 0xF, 0x0, 0xF, 0x1⟩,
  ⟨0x202C, 12, 0x80, 1, 0x100000, 0xFFFF, 0x0, 0xFFFF, 0x64⟩,
  ⟨0x202E, 12, 0x80, 1, 0x100000, 0xFF, 0x0, 0xFF, 0x40⟩,
  ⟨0x2030, 12, 0x80, 1, 0x100000, 0xFFFF, 0x0, 0xFFFF, 0x64⟩,
  ⟨0x2032, 12, 0x80, 1, 0x100000, 0xFFFF, 0x0, 0xFFFF, 0x1004⟩,
  ⟨0x2034, 12, 0x80, 1, 0x100000, 0xFFFF, 0x0, 0xFFFF, 0x32⟩,
  ⟨0x2036, 12, 0x80, 1, 0x100000, 0x0, 0x0, 0x0, 0x0⟩,
  ⟨0x2038, 12, 0x80, 1, 0x100000, 0x0, 0x1FF, 0x0, 0x0⟩,
  ⟨0x203A, 12, 0x80, 1, 0x100000, 0x0, 0x0, 0x0, 0x0⟩,
  ⟨0x203C, 12, 0x80, 1, 0x100000, 0x0, 0x0, 0x0, 0x0⟩,
  ⟨0x203E, 12, 0x80, 1, 0x100000, 0x0, 0x0, 0x0, 0x0⟩,
  ⟨0x2040, 12, 0x80, 1, 0x100000, 0x0, 0x0, 0x0, 0x0⟩,
  ⟨0x2042, 12, 0x80, 1, 0x100000, 0x0, 0x0, 0x0, 0x0⟩,
  ⟨0x2044, 12, 0x80, 1, 0x100000, 0xFFFF, 0x0, 0xFFFF, 0x0⟩,
  ⟨0x2046, 12, 0x80, 1, 0x100000, 0xFFFF, 0x0, 0xFFFF, 0x0⟩,
  ⟨0x2048, 12, 0x80, 1, 0x100000, 0xFFFF, 0x0, 0xFFFF, 0x0⟩,
  ⟨0x204A, 12, 0x80, 1, 0x100000, 0xFFFF, 0x0, 0xFFFF, 0x0⟩,
  ⟨0x204C, 12, 0x80, 1, 0x100000, 0xFFFF, 0x0, 0xFFFF, 0x0⟩,
  ⟨0x204E, 12, 0x80, 1, 0x100000, 0xFFFF, 0x0, 0xFFFF, 0x0⟩,
  ⟨0x2050, 12, 0x80, 1, 0x100000, 0xFFFF, 0x0, 0xFFFF, 0x8000⟩,
  ⟨0x2052, 12, 0x80, 1, 0x100000, 0xFFFF, 0x0, 0xFFFF, 0x8000⟩,
  ⟨0x2054, 12, 0x80, 1, 0x100000, 0x0, 0x0, 0x0, 0x0⟩,
  ⟨0x2056, 12, 0x80, 1, 0x100000, 0x0, 0x0, 0x0, 0x0⟩,
  ⟨0x2058, 12, 0x80, 1, 0x100000, 0x0, 0x0, 0x0, 0x0⟩,
  ⟨0x205A, 12, 0x80, 1, 0x100000, 0x0, 0x0, 0x0, 0x0⟩,
  ⟨0x205C, 12, 0x80, 1, 0x100000, 0x0, 0x0, 0x0, 0x0⟩,
  ⟨0x205E, 12, 0x80, 1, 0x100000, 0x0, 0x0, 0x0, 0x0⟩,
  ⟨0x2060, 12, 0x80, 1, 0x100000, 0x0, 0x0, 0x0, 0x0⟩]

def rows_ph : List Row := [
  ⟨0x2600, 24, 0x20, 1, 0x100000, 0x1FF, 0x0, 0x1FF, 0xF⟩,
  ⟨0x2602, 24, 0x20, 1, 0x100000, 0xFFFF, 0x0, 0xFFFF, 0x1388⟩,
  ⟨0x2604, 24, 0x20, 1, 0x100000, 0xFFFF, 0x0, 0xFFFF, 0x0⟩,
  ⟨0x2606, 24, 0x20, 1, 0x100000, 0x87FF, 0x0, 0x87FF, 0x0⟩,
  ⟨0x2608, 24, 0x20, 1, 0x100000, 0xFFFF, 0x0, 0xFFFF, 0xFA0⟩,
  ⟨0x260A, 24, 0x20, 1, 0x100000, 0x0, 0x0, 0x0, 0x0⟩,
  ⟨0x260C, 24, 0x20, 1, 0x100000, 0x0, 0x0, 0x0, 0x0⟩,
  ⟨0x260E, 24, 0x20, 1, 0x100000, 0x0, 0x0, 0x0, 0x0⟩,
  ⟨0x2610, 24, 0x20, 1, 0x100000, 0x0, 0x0, 0x0, 0x0⟩,
  ⟨0x2612, 24, 0x20, 1, 0x100000, 0x0, 0x0, 0x0, 0x0⟩]

def rows_vl : List Row := [
  ⟨0x2C00, 4, 0x40, 1, 0x100000, 0x3, 0x0, 0x3, 0x0⟩,
  ⟨0x2C02, 4, 0x40, 1, 0x100000, 0xF007, 0x0, 0xF007, 0x4000⟩,
  ⟨0x2C04, 4, 0x40, 1, 0x100000, 0xFFFF, 0x0, 0xFFFF, 0x64⟩,
  ⟨0x2C06, 4, 0x40, 1, 0x100000, 0xFFFF, 0x0, 0xFFFF, 0x64⟩,
  ⟨0x2C08, 4, 0x40, 1, 0x100000, 0xFFFF, 0x0, 0xFFFF, 0x0⟩,
  ⟨0x2C0A, 4, 0x40, 1, 0x100000, 0xFFFF, 0x0, 0xFFFF, 0x0⟩,
  ⟨0x2C0C, 4, 0x40, 1, 0x100000, 0xFFFF, 0x0, 0xFFFF, 0x0⟩,
  ⟨0x2C0E, 4, 0x40, 4, 0x2, 0xFFFF, 0x0, 0xFFFF, 0x0⟩,
  ⟨0x2C16, 4, 0x40, 1, 0x100000, 0x0, 0x0, 0x0, 0x0⟩,
  ⟨0x2C18, 4, 0x40, 1, 0x100000, 0x0, 0x0, 0x0, 0x0⟩,
  ⟨0x2C1A, 4, 0x40, 1, 0x100000, 0x0, 0x3F, 0x0, 0x0⟩,
  ⟨0x2C1C, 4, 0x40, 1, 0x100000, 0x0, 0x0, 0x0, 0x0⟩,
  ⟨0x2C1E, 4, 0x40, 1, 0x100000, 0x0, 0x0, 0x0, 0x0⟩,
  ⟨0x2C20, 4, 0x40, 1, 0x100000, 0x0, 0x0, 0x0, 0x0⟩,
  ⟨0x2C22, 4, 0x40, 1, 0x100000, 0x0, 0x0, 0x0, 0x0⟩,
  ⟨0x2C24, 4, 0x40, 1, 0x100000, 0x0, 0x0, 0x0, 0x0⟩,
  ⟨0x2C26, 4, 0x40, 1, 0x100000, 0x0, 0x0, 0x0, 0x0⟩,
  ⟨0x2C28, 4, 0x40, 1, 0x100000, 0x0, 0x0, 0x0, 0x0⟩,
  ⟨0x2C2A, 4, 0x40, 1, 0x100000, 0x0, 0x0, 0x0, 0x0⟩,
  ⟨0x2C2C, 4, 0x40, 1, 0x100000, 0x0, 0x0, 0x0, 0x0⟩,
  ⟨0x2C2E, 4, 0x40, 1, 0x100000, 0x0, 0x0, 0x0, 0x0⟩,
  ⟨0x2C30, 4, 0x40, 1, 0x100000, 0x0, 0x0, 0x0, 0x0⟩]

def rows_bg : List Row := [
  ⟨0x3000, 1, 0x100000, 1, 0x100000, 0xF, 0x0, 0xF, 0x0⟩,
  ⟨0x3002, 1, 0x100000, 1, 0x100000, 0x3FF, 0x0, 0x3FF, 0x0⟩,
  ⟨0x3004, 1, 0x100000, 1, 0x100000, 0xFFFF, 0x0, 0xFFFF, 0x0⟩,
  ⟨0x3006, 4, 0x2, 1, 0x100000, 0xFFFF, 0x0, 0xFFFF, 0x0⟩,
  ⟨0x300E, 1, 0x100000, 1, 0x100000, 0xFFFF, 0x0, 0xFFFF, 0x0⟩,
  ⟨0x3010, 1, 0x100000, 1, 0x100000, 0xFFFF, 0x0, 0xFFFF, 0x0⟩,
  ⟨0x3012, 1, 0x100000, 1, 0x100000, 0xFFFF, 0x0, 0xFFFF, 0x0⟩,
  ⟨0x3014, 1, 0x100000, 1, 0x100000, 0xFFFF, 0x0, 0xFFFF, 0x0⟩,
  ⟨0x3016, 4, 0x2, 1, 0x100000, 0xFFFF, 0x0, 0xFFFF, 0x0⟩,
  ⟨0x301E, 1, 0x100000, 1, 0x100000, 0xFFFF, 0x0, 0xFFFF, 0x0⟩,
  ⟨0x3020, 1, 0x100000, 1, 0x100000, 0xFFFF, 0x0, 0xFFFF, 0x0⟩,
  ⟨0x3022, 1, 0x100000, 1, 0x100000, 0xFFFF, 0x0, 0xFFFF, 0x0⟩,
  ⟨0x3024, 1, 0x100000, 1, 0x100000, 0xFFFF, 0x0, 0xFFFF, 0x0⟩,
  ⟨0x3026, 1, 0x100000, 1, 0x100000, 0xFFFF, 0x0, 0xFFFF, 0x0⟩,
  ⟨0x3028, 1, 0x100000, 1, 0x100000, 0xFFFF, 0x0, 0xFFFF, 0x0⟩,
  ⟨0x302A, 1, 0x100000, 1, 0x100000, 0xFFFF, 0x0, 0xFFFF, 0x0⟩,
  ⟨0x302C, 1, 0x100000, 1, 0x100000, 0xFFFF, 0x0, 0xFFFF, 0x0⟩,
  ⟨0x302E, 1, 0x100000, 1, 0x100000, 0xFFFF, 0x0, 0xFFFF, 0x0⟩,
  ⟨0x3030, 1, 0x100000, 1, 0x100000, 0xFFFF, 0x0, 0xFFFF, 0x0⟩,
  ⟨0x3032, 1, 0x100000, 1, 0x100000, 0xFFFF, 0x0, 0xFFFF, 0x0⟩,
  ⟨0x3034, 1, 0x100000, 1, 0x100000, 0xFFFF, 0x0, 0xFFFF, 0xFA⟩,
  ⟨0x3036, 1, 0x100000, 1, 0x100000, 0xFFFF, 0x0, 0xFFFF, 0x0⟩,
  ⟨0x3038, 1, 0x100000, 1, 0x100000, 0xBBBB, 0x0, 0xBBBB, 0x0⟩,
  ⟨0x303A, 1, 0x100000, 1, 0x100000, 0xFF, 0x0, 0xFF, 0x0⟩,
  ⟨0x303C, 1, 0x100000, 1, 0x100000, 0xFF, 0x0, 0xFF, 0x3⟩,
  ⟨0x3040, 1, 0x100000, 1, 0x100000, 0xFFFF, 0x0, 0xFFFF, 0x0⟩,
  ⟨0x3042, 1, 0x100000, 1, 0x100000, 0xFFFF, 0x0, 0xFFFF, 0x0⟩,
  ⟨0x3044, 1, 0x100000, 1, 0x100000, 0xFFFF, 0x0, 0xFFFF, 0x0⟩,
  ⟨0x3046, 1, 0x100000, 1, 0x100000, 0xFFFF, 0x0, 0xFFFF, 0x0⟩,
  ⟨0x3048, 1, 0x100000, 1, 0x100000, 0xFFFF, 0x0, 0xFFFF, 0x0⟩,
  ⟨0x304A, 1, 0x100000, 1, 0x100000, 0xFFF, 0x0, 0xFFF, 0x0⟩,
  ⟨0x304C, 1, 0x100000, 1, 0x100000, 0x0, 0x0, 0x0, 0x0⟩,
  ⟨0x304E, 1, 0x100000, 1, 0x100000, 0x0, 0xFF, 0x0, 0x0⟩,
  ⟨0x3050, 1, 0x100000, 1, 0x100000, 0x0, 0x0, 0x0, 0x0⟩,
  ⟨0x3052, 1, 0x100000, 1, 0x100000, 0x0, 0x0, 0x0, 0x0⟩,
  ⟨0x3054, 4, 0x2, 1, 0x100000, 0x0, 0x0, 0x0, 0x0⟩,
  ⟨0x3066, 1, 0x100000, 1, 0x100000, 0x0, 0x0, 0x0, 0x0⟩,
  ⟨0x306A, 1, 0x100000, 1, 0x100000, 0x0, 0x0, 0x0, 0x0⟩,
  ⟨0x306C, 1, 0x100000, 1, 0x100000, 0x0, 0x0, 0x0, 0x0⟩,
  ⟨0x306E, 1, 0x100000, 1, 0x100000, 0x0, 0x0, 0x0, 0x0⟩,
  ⟨0x3072, 1, 0x100000, 1, 0x100000, 0x0, 0x0, 0x0, 0x0⟩,
  ⟨0x305C, 4, 0x2, 1, 0x100000, 0x0, 0x0, 0x0, 0x0⟩,
  ⟨0x3064, 1, 0x100000, 1, 0x100000, 0x0, 0x0, 0x0, 0x0⟩,
  ⟨0x3068, 1, 0x100000, 1, 0x100000, 0x0, 0x0, 0x0, 0x0⟩,
  ⟨0x3070, 1, 0x100000, 1, 0x100000, 0x0, 0x0, 0x0, 0x0⟩,
  ⟨0x3074, 1, 0x100000, 1, 0x100000, 0x0, 0x0, 0x0, 0x0⟩,
  ⟨0x3076, 1, 0x100000, 1, 0x100000, 0x0, 0x0, 0x0, 0x0⟩,
  ⟨0x3078, 1, 0x100000, 1, 0x100000, 0x0, 0x0, 0x0, 0x0⟩,
  ⟨0x307A, 1, 0x100000, 1, 0x100000, 0x0, 0x0, 0x0, 0x0⟩,
  ⟨0x307C, 1, 0x100000, 1, 0x100000, 0x0, 0x0, 0x0, 0x0⟩,
  ⟨0x307E, 1, 0x100000, 1, 0x100000, 0x0, 0x0, 0x0, 0x0⟩,
  ⟨0x3080, 1, 0x100000, 1, 0x100000, 0x0, 0x0, 0x0, 0x0⟩]

def rows_chg : List Row := [
  ⟨0x3400, 1, 0x100000, 1, 0x100000, 0x3, 0x0, 0x1, 0x0⟩,
  ⟨0x3402, 1, 0x100000, 1, 0x100000, 0x73, 0x0, 0x73, 0x70⟩,
  ⟨0x3404, 1, 0x100000, 1, 0x100000, 0xFFF, 0x0, 0xFFF, 0x7D0⟩,
  ⟨0x3406, 1, 0x100000, 1, 0x100000, 0xFFFF, 0x0, 0xFFFF, 0x0⟩,
  ⟨0x3408, 1, 0x100000, 1, 0x100000, 0xFFFF, 0x0, 0xFFFF, 0x64⟩,
  ⟨0x340A, 1, 0x100000, 1, 0x100000, 0xFFFF, 0x0, 0xFFFF, 0x1194⟩,
  ⟨0x340C, 1, 0x100000, 1, 0x100000, 0xFFFF, 0x0, 0xFFFF, 0x0⟩,
  ⟨0x340E, 1, 0x100000, 1, 0x100000, 0xFFFF, 0x0, 0xFFFF, 0x0⟩,
  ⟨0x3410, 1, 0x100000, 1, 0x100000, 0xFFFF, 0x0, 0xFFFF, 0x0⟩,
  ⟨0x3412, 1, 0x100000, 1, 0x100000, 0xFFFF, 0x0, 0xFFFF, 0x0⟩,
  ⟨0x3414, 1, 0x100000, 1, 0x100000, 0xFFFF, 0x0, 0xFFFF, 0x0⟩,
  ⟨0x3416, 1, 0x100000, 1, 0x100000, 0xFFFF, 0x0, 0xFFFF, 0x6000⟩,
  ⟨0x3418, 1, 0x100000, 1, 0x100000, 0xFFFF, 0x0, 0xFFFF, 0x1E⟩,
  ⟨0x341A, 1, 0x100000, 1, 0x100000, 0xFFFF, 0x0, 0xFFFF, 0x14⟩,
  ⟨0x341C, 1, 0x100000, 1, 0x100000, 0xFFFF, 0x0, 0xFFFF, 0x258⟩,
  ⟨0x341E, 1, 0x100000, 1, 0x100000, 0xFFFF, 0x0, 0xFFFF, 0x1E0⟩,
  ⟨0x3420, 1, 0x100000, 1, 0x100000, 0xFFFF, 0x0, 0xFFFF, 0x3C⟩,
  ⟨0x3422, 1, 0x100000, 1, 0x100000, 0xFFFF, 0x0, 0xFFFF, 0xA00⟩,
  ⟨0x3424, 1, 0x100000, 1, 0x100000, 0xFFFF, 0x0, 0xFFFF, 0x1540⟩,
  ⟨0x3426, 1, 0x100000, 1, 0x100000, 0xFFFF, 0x0, 0xFFFF, 0x1900⟩,
  ⟨0x3428, 1, 0x100000, 1, 0x100000, 0xFFFF, 0x0, 0xFFFF, 0x0⟩,
  ⟨0x342A, 1, 0x100000, 1, 0x100000, 0xFFFF, 0x0, 0xFFFF, 0x0⟩,
  ⟨0x342C, 1, 0x100000, 1, 0x100000, 0xFFFF, 0x0, 0xFFFF, 0x0⟩,
  ⟨0x342E, 1, 0x100000, 1, 0x100000, 0xFFFF, 0x0, 0xFFFF, 0x0⟩,
  ⟨0x3430, 1, 0x100000, 1, 0x100000, 0xFFFF, 0x0, 0xFFFF, 0x0⟩,
  ⟨0x3432, 1, 0x100000, 1, 0x100000, 0xFFFF, 0x0, 0xFFFF, 0x0⟩,
  ⟨0x3434, 1, 0x100000, 1, 0x100000, 0xFFFF, 0x0, 0xFFFF, 0xEE80⟩,
  ⟨0x3436, 1, 0x100000, 1, 0x100000, 0xFFFF, 0x0, 0xFFFF, 0x36⟩,
  ⟨0x3438, 1, 0x100000, 1, 0x100000, 0x80F7, 0x0, 0x80F7, 0x0⟩,
  ⟨0x343A, 1, 0x100000, 1, 0x100000, 0x80F7, 0x0, 0x80F7, 0x0⟩,
  ⟨0x3440, 1, 0x100000, 1, 0x100000, 0x0, 0x0, 0x0, 0x0⟩,
  ⟨0x3442, 1, 0x100000, 1, 0x100000, 0x0, 0x7F, 0x0, 0x0⟩,
  ⟨0x3444, 1, 0x100000, 1, 0x100000, 0x0, 0x0, 0x0, 0x0⟩,
  ⟨0x3446, 1, 0x100000, 1, 0x100000, 0x0, 0x0, 0x0, 0x0⟩,
  ⟨0x3448, 1, 0x100000, 1, 0x100000, 0x0, 0x0, 0x0, 0x0⟩,
  ⟨0x344A, 1, 0x100000, 1, 0x100000, 0x0, 0x0, 0x0, 0x0⟩,
  ⟨0x344C, 1, 0x100000, 1, 0x100000, 0x0, 0x0, 0x0, 0x0⟩,
  ⟨0x344E, 1, 0x100000, 1, 0x100000, 0x0, 0x0, 0x0, 0x0⟩,
  ⟨0x3450, 1, 0x100000, 1, 0x100000, 0x0, 0x0, 0x0, 0x0⟩,
  ⟨0x3454, 1, 0x100000, 1, 0x100000, 0x0, 0x0, 0x0, 0x0⟩,
  ⟨0x3456, 1, 0x100000, 1, 0x100000, 0x0, 0x0, 0x0, 0x0⟩,
  ⟨0x3458, 1, 0x100000, 1, 0x100000, 0x0, 0x0, 0x0, 0x0⟩,
  ⟨0x345A, 1, 0x100000, 1, 0x100000, 0x0, 0x0, 0x0, 0x0⟩,
  ⟨0x345C, 1, 0x100000, 1, 0x100000, 0x0, 0x0, 0x0, 0x0⟩,
  ⟨0x345E, 1, 0x100000, 1, 0x100000, 0x0, 0x0, 0x0, 0x0⟩,
  ⟨0x3460, 1, 0x100000, 1, 0x100000, 0x0, 0x0, 0x0, 0x0⟩]

def rows_gg : List Row := [
  ⟨0x3800, 1, 0x100000, 1, 0x100000, 0x0, 0x0, 0x0, 0x0⟩,
  ⟨0x3802, 1, 0x100000, 1, 0x100000, 0x1, 0x0, 0x1, 0x1⟩,
  ⟨0x3804, 1, 0x100000, 1, 0x100000, 0x0, 0x0, 0x0, 0x0⟩,
  ⟨0x3806, 1, 0x100000, 1, 0x100000, 0x0, 0xFF, 0x0, 0x0⟩,
  ⟨0x3808, 1, 0x100000, 1, 0x100000, 0x0, 0x0, 0x0, 0x0⟩,
  ⟨0x380A, 1, 0x100000, 1, 0x100000, 0x0, 0x0, 0x0, 0x0⟩,
  ⟨0x380C, 1, 0x100000, 1, 0x100000, 0x0, 0x0, 0x0, 0x0⟩,
  ⟨0x380E, 1, 0x100000, 1, 0x100000, 0x0, 0x0, 0x0, 0x0⟩,
  ⟨0x3810, 1, 0x100000, 1, 0x100000, 0x0, 0x0, 0x0, 0x0⟩,
  ⟨0x3812, 1, 0x100000, 1, 0x100000, 0x0, 0x0, 0x0, 0x0⟩,
  ⟨0x3814, 1, 0x100000, 1, 0x100000, 0x0, 0x0, 0x0, 0x0⟩,
  ⟨0x3816, 1, 0x100000, 1, 0x100000, 0x0, 0x0, 0x0, 0x0⟩,
  ⟨0x3818, 1, 0x100000, 1, 0x100000, 0x0, 0x0, 0x0, 0x0⟩,
  ⟨0x381A, 1, 0x100000, 1, 0x100000, 0x0, 0x0, 0x0, 0x0⟩,
  ⟨0x381C, 1, 0x100000, 1, 0x100000, 0x0, 0x0, 0x0, 0x0⟩,
  ⟨0x381E, 1, 0x100000, 1, 0x100000, 0x0, 0x0, 0x0, 0x0⟩,
  ⟨0x3820, 1, 0x100000, 1, 0x100000, 0xFFFF, 0x0, 0xFFFF, 0x14⟩,
  ⟨0x3822, 1, 0x100000, 1, 0x100000, 0xFFFF, 0x0, 0xFFFF, 0x0⟩,
  ⟨0x3824, 1, 0x100000, 1, 0x100000, 0xFFFF, 0x0, 0xFFFF, 0x32⟩,
  ⟨0x3826, 1, 0x100000, 1, 0x100000, 0xFFFF, 0x0, 0xFFFF, 0xC8⟩,
  ⟨0x3828, 1, 0x100000, 1, 0x100000, 0xFFFF, 0x0, 0xFFFF, 0x190⟩,
  ⟨0x382A, 1, 0x100000, 1, 0x100000, 0xFFFF, 0x0, 0xFFFF, 0x7F5C⟩,
  ⟨0x382C, 1, 0x100000, 1, 0x100000, 0xFFFF, 0x0, 0xFFFF, 0xCCD⟩,
  ⟨0x382E, 1, 0x100000, 1, 0x100000, 0xFFFF, 0x0, 0xFFFF, 0x0⟩,
  ⟨0x3830, 1, 0x100000, 1, 0x100000, 0xFFFF, 0x0, 0xFFFF, 0xA⟩,
  ⟨0x3832, 1, 0x100000, 1, 0x100000, 0x0, 0x0, 0x0, 0x0⟩,
  ⟨0x3834, 1, 0x100000, 1, 0x100000, 0x0, 0x0, 0x0, 0x0⟩]

def rows_pk : List Row := [
  ⟨0x3880, 1, 0x100000, 1, 0x100000, 0x0, 0x0, 0x0, 0x0⟩,
  ⟨0x3882, 1, 0x100000, 1, 0x100000, 0xFFF, 0x0, 0xFFF, 0x301⟩,
  ⟨0x3884, 1, 0x100000, 1, 0x100000, 0x0, 0x0, 0x0, 0x0⟩,
  ⟨0x3886, 1, 0x100000, 1, 0x100000, 0x0, 0x3F, 0x0, 0x0⟩,
  ⟨0x3888, 4, 0x2, 1, 0x100000, 0x0, 0x0, 0x0, 0x0⟩,
  ⟨0x3890, 1, 0x100000, 1, 0x100000, 0x0, 0x0, 0x0, 0x0⟩,
  ⟨0x3892, 1, 0x100000, 1, 0x100000, 0x0, 0x0, 0x0, 0x0⟩,
  ⟨0x3894, 1, 0x100000, 1, 0x100000, 0x0, 0x0, 0x0, 0x0⟩,
  ⟨0x3896, 1, 0x100000, 1, 0x100000, 0x0, 0x0, 0x0, 0x0⟩,
  ⟨0x38A0, 1, 0x100000, 1, 0x100000, 0x0, 0x0, 0x0, 0x0⟩,
  ⟨0x3898, 1, 0x100000, 1, 0x100000, 0x0, 0x0, 0x0, 0x0⟩,
  ⟨0x389A, 1, 0x100000, 1, 0x100000, 0x0, 0x0, 0x0, 0x0⟩,
  ⟨0x389C, 1, 0x100000, 1, 0x100000, 0x0, 0x0, 0x0, 0x0⟩,
  ⟨0x389E, 1, 0x100000, 1, 0x100000, 0x0, 0x0, 0x0, 0x0⟩,
  ⟨0x38A2, 1, 0x100000, 1, 0x100000, 0xFFFF, 0x0, 0xFFFF, 0x3C⟩,
  ⟨0x38A4, 1, 0x100000, 1, 0x100000, 0xFFFF, 0x0, 0xFFFF, 0x8CA0⟩,
  ⟨0x38A6, 1, 0x100000, 1, 0x100000, 0xFFF, 0x0, 0xFFF, 0xFC0⟩,
  ⟨0x38A8, 1, 0x100000, 1, 0x100000, 0xFFF, 0x0, 0xFFF, 0x40⟩,
  ⟨0x38AA, 1, 0x100000, 1, 0x100000, 0x0, 0x0, 0x0, 0x0⟩,
  ⟨0x38AC, 1, 0x100000, 1, 0x100000, 0x0, 0x0, 0x0, 0x0⟩,
  ⟨0x38B0, 1, 0x100000, 1, 0x100000, 0x100F, 0x0, 0x0, 0x0⟩,
  ⟨0x38B2, 1, 0x100000, 1, 0x100000, 0x0, 0x0, 0x0, 0x0⟩,
  ⟨0x38C0, 8, 0x2, 1, 0x100000, 0xFFFF, 0x0, 0x0, 0x0⟩]

def rows_th : List Row := [
  ⟨0x3C00, 1, 0x100000, 1, 0x100000, 0x0, 0x0, 0x0, 0x0⟩,
  ⟨0x3C02, 1, 0x100000, 1, 0x100000, 0x0, 0x0, 0x0, 0x0⟩,
  ⟨0x3C04, 1, 0x100000, 1, 0x100000, 0x0, 0x1F, 0x0, 0x0⟩,
  ⟨0x3C06, 1, 0x100000, 1, 0x100000, 0x0, 0x0, 0x0, 0x8000⟩,
  ⟨0x3C08, 1, 0x100000, 1, 0x100000, 0x0, 0x0, 0x0, 0x8000⟩,
  ⟨0x3C0A, 1, 0x100000, 1, 0x100000, 0xFFFF, 0x0, 0xFFFF, 0x2440⟩,
  ⟨0x3C0C, 1, 0x100000, 1, 0x100000, 0xFFFF, 0x0, 0xFFFF, 0x80⟩,
  ⟨0x3C0E, 1, 0x100000, 1, 0x100000, 0x0, 0x0, 0x0, 0x0⟩,
  ⟨0x3C10, 1, 0x100000, 1, 0x100000, 0x0, 0x0, 0x0, 0x0⟩,
  ⟨0x3C12, 1, 0x100000, 1, 0x100000, 0x0, 0x0, 0x0, 0x0⟩,
  ⟨0x3C14, 1, 0x100000, 1, 0x100000, 0x0, 0x0, 0x0, 0x0⟩,
  ⟨0x3C16, 1, 0x100000, 1, 0x100000, 0x0, 0x0, 0x0, 0x0⟩,
  ⟨0x3C18, 1, 0x100000, 1, 0x100000, 0x0, 0x0, 0x0, 0x0⟩,
  ⟨0x3C1A, 1, 0x100000, 1, 0x100000, 0x0, 0x0, 0x0, 0x0⟩,
  ⟨0x3C40, 15, 0x10, 1, 0x100000, 0xFFFF, 0x0, 0xFFFF, 0x7B70⟩,
  ⟨0x3C42, 15, 0x10, 1, 0x100000, 0x0, 0x0, 0x0, 0x8000⟩,
  ⟨0x3C44, 15, 0x10, 1, 0x100000, 0xFFFF, 0x0, 0xFFFF, 0x7FFF⟩,
  ⟨0x3C46, 15, 0x10, 1, 0x100000, 0xFFFF, 0x0, 0xFFFF, 0x8000⟩,
  ⟨0x3C48, 15, 0x10, 1, 0x100000, 0xFFFF, 0x0, 0xFFFF, 0x0⟩,
  ⟨0x3C4A, 15, 0x10, 1, 0x100000, 0xFFFF, 0x0, 0xFFFF, 0x0⟩,
  ⟨0x3CCC, 7, 0x10, 1, 0x100000, 0xFFFF, 0x0, 0xFFFF, 0x3E8⟩,
  ⟨0x3CCE, 7, 0x10, 1, 0x100000, 0xFFFF, 0x0, 0xFFFF, 0x3E8⟩]

def rows_ms : List Row := [
  ⟨0x4000, 1, 0x100000, 1, 0x100000, 0x0, 0x0, 0x0, 0x0⟩,
  ⟨0x4002, 1, 0x100000, 1, 0x100000, 0xF, 0x0, 0x0, 0x0⟩,
  ⟨0x4004, 1, 0x100000, 1, 0x100000, 0x0, 0x0, 0x0, 0x0⟩,
  ⟨0x4006, 1, 0x100000, 1, 0x100000, 0x0, 0x1FF, 0x0, 0x0⟩,
  ⟨0x4008, 1, 0x100000, 1, 0x100000, 0x0, 0x0, 0x0, 0x0⟩,
  ⟨0x400A, 1, 0x100000, 1, 0x100000, 0x7FF, 0x0, 0x0, 0x0⟩,
  ⟨0x400C, 1, 0x100000, 1, 0x100000, 0xFFFF, 0x0, 0xFFFF, 0x0⟩,
  ⟨0x4010, 1, 0x100000, 1, 0x100000, 0x0, 0x0, 0x0, 0x0⟩,
  ⟨0x4012, 1, 0x100000, 1, 0x100000, 0x0, 0x0, 0x0, 0x0⟩,
  ⟨0x4014, 1, 0x100000, 1, 0x100000, 0x0, 0x0, 0x0, 0x0⟩,
  ⟨0x4016, 1, 0x100000, 1, 0x100000, 0x0, 0x0, 0x0, 0x0⟩,
  ⟨0x4018, 1, 0x100000, 1, 0x100000, 0x0, 0x0, 0x0, 0x0⟩,
  ⟨0x4020, 1, 0x100000, 1, 0x100000, 0x0, 0x0, 0x0, 0x0⟩,
  ⟨0x4022, 1, 0x100000, 1, 0x100000, 0x0, 0x0, 0x0, 0x0⟩,
  ⟨0x4024, 1, 0x100000, 1, 0x100000, 0x0, 0xFFFF, 0x0, 0x0⟩,
  ⟨0x4026, 1, 0x100000, 1, 0x100000, 0x0, 0x7FFF, 0x0, 0x0⟩,
  ⟨0x4030, 24, 0x2, 1, 0x100000, 0x0, 0x0, 0x0, 0x0⟩,
  ⟨0x4060, 4, 0x2, 1, 0x100000, 0x0, 0xFFFF, 0x0, 0x0⟩,
  ⟨0x4080, 16, 0x8, 1, 0x100000, 0xFFFF, 0x0, 0xFFFF, 0x0⟩,
  ⟨0x4082, 16, 0x8, 1, 0x100000, 0xFF, 0x0, 0xFF, 0x0⟩,
  ⟨0x4084, 16, 0x8, 1, 0x100000, 0xFFFF, 0x0, 0xFFFF, 0x0⟩,
  ⟨0x4100, 64, 0x4, 1, 0x100000, 0xF81F, 0x0, 0xF81F, 0x0⟩,
  ⟨0x4102, 64, 0x4, 1, 0x100000, 0xFF, 0x0, 0xFF, 0x0⟩]

def rows_rec : List Row := [
  ⟨0x5000, 1, 0x100000, 1, 0x100000, 0x0, 0x0, 0x0, 0x0⟩,
  ⟨0x5002, 1, 0x100000, 1, 0x100000, 0xFFFF, 0x0, 0xFFFF, 0x3C⟩,
  ⟨0x5004, 1, 0x100000, 1, 0x100000, 0x0, 0x0, 0x0, 0x0⟩,
  ⟨0x5006, 1, 0x100000, 1, 0x100000, 0x0, 0xF, 0x0, 0x0⟩,
  ⟨0x5008, 1, 0x100000, 1, 0x100000, 0x0, 0x0, 0x0, 0x0⟩,
  ⟨0x500A, 1, 0x100000, 1, 0x100000, 0x0, 0x0, 0x0, 0x0⟩,
  ⟨0x500C, 1, 0x100000, 1, 0x100000, 0x0, 0x0, 0x0, 0x0⟩,
  ⟨0x500E, 1, 0x100000, 1, 0x100000, 0x0, 0x0, 0x0, 0x0⟩,
  ⟨0x5010, 1, 0x100000, 1, 0x100000, 0x0, 0x0, 0x0, 0x0⟩,
  ⟨0x5012, 1, 0x100000, 1, 0x100000, 0x0, 0x0, 0x0, 0x0⟩,
  ⟨0x5014, 1, 0x100000, 1, 0x100000, 0x0, 0x0, 0x0, 0x0⟩,
  ⟨0x5016, 1, 0x100000, 1, 0x100000, 0x0, 0x0, 0x0, 0x0⟩,
  ⟨0x5018, 1, 0x100000, 1, 0x100000, 0xFFFF, 0x0, 0x0, 0x0⟩,
  ⟨0x501A, 1, 0x100000, 1, 0x100000, 0xFFFF, 0x0, 0x0, 0x0⟩,
  ⟨0x501C, 1, 0x100000, 1, 0x100000, 0xFFFF, 0x0, 0x0, 0x0⟩,
  ⟨0x501E, 1, 0x100000, 1, 0x100000, 0xFFFF, 0x0, 0x0, 0x0⟩,
  ⟨0x5020, 1, 0x100000, 1, 0x100000, 0x0, 0x0, 0x0, 0x0⟩,
  ⟨0x5022, 1, 0x100000, 1, 0x100000, 0x0, 0x0, 0x0, 0x0⟩,
  ⟨0x5024, 1, 0x100000, 1, 0x100000, 0x0, 0x0, 0x0, 0x0⟩,
  ⟨0x5040, 16, 0x2, 1, 0x100000, 0x0, 0x0, 0x0, 0x0⟩,
  ⟨0x5200, 256, 0x2, 1, 0x100000, 0x0, 0x0, 0x0, 0x0⟩]

def rows_cfg : List Row := [
  ⟨0x5800, 1, 0x100000, 1, 0x100000, 0x0, 0x0, 0x0, 0x0⟩,
  ⟨0x5802, 1, 0x100000, 1, 0x100000, 0x0, 0x0, 0x0, 0x24⟩,
  ⟨0x5804, 1, 0x100000, 1, 0x100000, 0x0, 0x3F, 0x0, 0x0⟩,
  ⟨0x5808, 1, 0x100000, 1, 0x100000, 0x0, 0x0, 0x0, 0x0⟩,
  ⟨0x580A, 1, 0x100000, 1, 0x100000, 0x0, 0x0, 0x0, 0x0⟩,
  ⟨0x580C, 1, 0x100000, 1, 0x100000, 0x0, 0x0, 0x0, 0x0⟩,
  ⟨0x580E, 1, 0x100000, 1, 0x100000, 0x0, 0x0, 0x0, 0x0⟩,
  ⟨0x5810, 1, 0x100000, 1, 0x100000, 0x0, 0x0, 0x0, 0x0⟩,
  ⟨0x5812, 1, 0x100000, 1, 0x100000, 0x0, 0x0, 0x0, 0x0⟩,
  ⟨0x5814, 1, 0x100000, 1, 0x100000, 0x0, 0x0, 0x0, 0x0⟩,
  ⟨0x5816, 1, 0x100000, 1, 0x100000, 0x0, 0x0, 0x0, 0x0⟩,
  ⟨0x5818, 1, 0x100000, 1, 0x100000, 0x0, 0x0, 0x0, 0x0⟩,
  ⟨0x581A, 1, 0x100000, 1, 0x100000, 0x0, 0x0, 0x0, 0x0⟩,
  ⟨0x581C, 1, 0x100000, 1, 0x100000, 0x0, 0x0, 0x0, 0x0⟩,
  ⟨0x581E, 1, 0x100000, 1, 0x100000, 0x0, 0x0, 0x0, 0x0⟩,
  ⟨0x5820, 1, 0x100000, 1, 0x100000, 0x1F, 0x0, 0x0, 0x0⟩,
  ⟨0x5822, 1, 0x100000, 1, 0x100000, 0x0, 0x0, 0x0, 0x0⟩,
  ⟨0x5824, 1, 0x100000, 1, 0x100000, 0x0, 0x0, 0x0, 0x0⟩,
  ⟨0x5826, 1, 0x100000, 1, 0x100000, 0x0, 0x0, 0x0, 0x0⟩,
  ⟨0x5840, 1, 0x100000, 1, 0x100000, 0x1, 0x0, 0x0, 0x0⟩,
  ⟨0x5844, 1, 0x100000, 1, 0x100000, 0xFFFF, 0x0, 0x0, 0x0⟩,
  ⟨0x5846, 1, 0x100000, 1, 0x100000, 0x1, 0x0, 0x0, 0x0⟩,
  ⟨0x5848, 1, 0x100000, 1, 0x100000, 0x0, 0x0, 0x0, 0x0⟩,
  ⟨0x5880, 32, 0x2, 1, 0x100000, 0xFFFF, 0x0, 0x0, 0x0⟩]

def rows_ds : List Row := [
  ⟨0x5F00, 1, 0x100000, 1, 0x100000, 0x0, 0x0, 0x0, 0x8⟩,
  ⟨0x5F02, 1, 0x100000, 1, 0x100000, 0x0, 0x0, 0x0, 0x1⟩,
  ⟨0x5F04, 1, 0x100000, 1, 0x100000, 0x1, 0x0, 0x1, 0x1⟩,
  ⟨0x5F06, 1, 0x100000, 1, 0x100000, 0x0, 0x0, 0x0, 0x0⟩,
  ⟨0x5F08, 1, 0x100000, 1, 0x100000, 0x0, 0x0, 0x0, 0x0⟩,
  ⟨0x5F0A, 1, 0x100000, 1, 0x100000, 0x0, 0x0, 0x0, 0x0⟩,
  ⟨0x5F0C, 1, 0x100000, 1, 0x100000, 0x0, 0x0, 0x0, 0x0⟩,
  ⟨0x5F0E, 1, 0x100000, 1, 0x100000, 0x0, 0x0, 0x0, 0x0⟩,
  ⟨0x5F10, 1, 0x100000, 1, 0x100000, 0x0, 0x0, 0x0, 0x0⟩,
  ⟨0x5F12, 1, 0x100000, 1, 0x100000, 0x0, 0x0, 0x0, 0x0⟩,
  ⟨0x5F14, 1, 0x100000, 1, 0x100000, 0x0, 0x0, 0x0, 0xFFFF⟩]

def rows_ke : List Row := [
  ⟨0x6000, 1, 0x100000, 1, 0x100000, 0x4, 0x0, 0x0, 0x0⟩,
  ⟨0x6002, 1, 0x100000, 1, 0x100000, 0x0, 0x0, 0x0, 0x0⟩,
  ⟨0x6004, 1, 0x100000, 1, 0x100000, 0x0, 0x0, 0x0, 0x0⟩,
  ⟨0x6006, 1, 0x100000, 1, 0x100000, 0x0, 0x0, 0x0, 0x0⟩,
  ⟨0x6008, 1, 0x100000, 1, 0x100000, 0x0, 0x0, 0x0, 0x0⟩,
  ⟨0x600A, 1, 0x100000, 1, 0x100000, 0x0, 0x0, 0x0, 0x0⟩,
  ⟨0x600C, 1, 0x100000, 1, 0x100000, 0x0, 0xF, 0x0, 0x0⟩,
  ⟨0x600E, 1, 0x100000, 1, 0x100000, 0x0, 0x0, 0x0, 0x0⟩,
  ⟨0x6010, 1, 0x100000, 1, 0x100000, 0x0, 0x0, 0x0, 0x0⟩,
  ⟨0x6020, 1, 0x100000, 1, 0x100000, 0x7F, 0x0, 0x0, 0x0⟩,
  ⟨0x6022, 1, 0x100000, 1, 0x100000, 0x0, 0x0, 0x0, 0x0⟩,
  ⟨0x6028, 4, 0x2, 1, 0x100000, 0x0, 0x0, 0x0, 0x0⟩,
  ⟨0x6030, 1, 0x100000, 1, 0x100000, 0xFFFF, 0x0, 0x0, 0x0⟩,
  ⟨0x6032, 1, 0x100000, 1, 0x100000, 0x1, 0x0, 0x0, 0x0⟩,
  ⟨0x6034, 1, 0x100000, 1, 0x100000, 0xFFFF, 0x0, 0x0, 0x0⟩,
  ⟨0x6036, 1, 0x100000, 1, 0x100000, 0xFFFF, 0x0, 0x0, 0x0⟩,
  ⟨0x6040, 32, 0x2, 1, 0x100000, 0xFFFF, 0x0, 0x0, 0x0⟩,
  ⟨0x6080, 4, 0x4, 1, 0x100000, 0xBFFF, 0x0, 0x0, 0x0⟩,
  ⟨0x6082, 4, 0x4, 1, 0x100000, 0xFFFF, 0x0, 0x0, 0x0⟩,
  ⟨0x6100, 16, 0x20, 1, 0x100000, 0x0, 0x0, 0x0, 0x0⟩,
  ⟨0x6102, 16, 0x20, 1, 0x100000, 0x0, 0x0, 0x0, 0x0⟩,
  ⟨0x6104, 16, 0x20, 1, 0x100000, 0x3FFF, 0x0, 0x0, 0x0⟩,
  ⟨0x610A, 16, 0x20, 1, 0x100000, 0x0, 0x0, 0x0, 0x0⟩,
  ⟨0x6106, 16, 0x20, 1, 0x100000, 0xF, 0x0, 0x0, 0x0⟩,
  ⟨0x6108, 16, 0x20, 1, 0x100000, 0x0, 0x0, 0x0, 0x0⟩,
  ⟨0x610C, 16, 0x20, 1, 0x100000, 0x0, 0x0, 0x0, 0x0⟩,
  ⟨0x610E, 16, 0x20, 1, 0x100000, 0xF, 0x0, 0x0, 0x0⟩,
  ⟨0x6110, 16, 0x20, 1, 0x100000, 0xFFFF, 0x0, 0x0, 0x0⟩,
  ⟨0x6112, 16, 0x20, 1, 0x100000, 0xFFFF, 0x0, 0x0, 0x0⟩]

def rows_res : List Row := [
  ⟨0x8000, 2048, 0x2, 1, 0x100000, 0x0, 0x0, 0x0, 0x0⟩]

def rows_plan : List Row := [
  ⟨0x11000, 2048, 0x10, 1, 0x100000, 0xFFFF, 0x0, 0xFFFF, 0x0⟩,
  ⟨0x11002, 2048, 0x10, 1, 0x100000, 0xFF9F, 0x0, 0xFF9F, 0x0⟩,
  ⟨0x11004, 2048, 0x10, 1, 0x100000, 0xFFFF, 0x0, 0xFFFF, 0x0⟩,
  ⟨0x11006, 2048, 0x10, 1, 0x100000, 0xFFF, 0x0, 0xFFF, 0xFFF⟩,
  ⟨0x11008, 2048, 0x10, 1, 0x100000, 0xFFF, 0x0, 0xFFF, 0x0⟩,
  ⟨0x1100A, 2048, 0x10, 1, 0x100000, 0xFF, 0x0, 0xFF, 0x0⟩,
  ⟨0x1100C, 2048, 0x10, 1, 0x100000, 0x0, 0x0, 0x0, 0x0⟩,
  ⟨0x1100E, 2048, 0x10, 1, 0x100000, 0x0, 0x0, 0x0, 0x0⟩]

/-- The rows that can hold address `a`, found by the block map (R478). -/
def rowsAt (a : Nat) : List Row :=
  if a < 0x200 then rows_id else
  if a < 0x300 then rows_hp else
  if a < 0x800 then rows_hop else
  if a < 0xA00 then rows_evt else
  if a < 0xC00 then rows_wdg else
  if a < 0xE00 then rows_clk else
  if a < 0x1000 then rows_gf else
  if a < 0x2000 then rows_seq else
  if a < 0x2600 then rows_lp else
  if a < 0x2900 then rows_ph else
  if a < 0x2D00 then rows_vl else
  if a < 0x3400 then rows_bg else
  if a < 0x3800 then rows_chg else
  if a < 0x3880 then rows_gg else
  if a < 0x3C00 then rows_pk else
  if a < 0x4000 then rows_th else
  if a < 0x4800 then rows_ms else
  if a < 0x5800 then rows_rec else
  if a < 0x5F00 then rows_cfg else
  if a < 0x6000 then rows_ds else
  if a < 0x8000 then rows_ke else
  if a < 0x9000 then rows_res else
  if a < 0x19000 then rows_plan else
  []

/-- Registers of more than two bytes: base, two index dimensions, and bytes (R7). -/
structure Wide where
  base : Nat
  n1 : Nat
  s1 : Nat
  n2 : Nat
  s2 : Nat
  bytes : Nat
  deriving DecidableEq, Repr

/-- The base address of the value that holds address `a`, if it is one of these. -/
def Wide.at (w : Wide) (a : Nat) : Option (Nat × Nat) :=
  let d := a - w.base
  if w.base ≤ a && d / w.s1 < w.n1 && (d % w.s1) / w.s2 < w.n2 && (d % w.s1) % w.s2 < w.bytes
  then some (a - (d % w.s1) % w.s2, w.bytes) else none

def wides : List Wide := [
  ⟨0x2044, 12, 0x80, 1, 0x100000, 4⟩,
  ⟨0x2048, 12, 0x80, 1, 0x100000, 4⟩,
  ⟨0x204C, 12, 0x80, 1, 0x100000, 4⟩,
  ⟨0x2C24, 4, 0x40, 1, 0x100000, 4⟩,
  ⟨0x2C28, 4, 0x40, 1, 0x100000, 4⟩,
  ⟨0x3040, 1, 0x100000, 1, 0x100000, 4⟩,
  ⟨0x3044, 1, 0x100000, 1, 0x100000, 4⟩,
  ⟨0x3048, 1, 0x100000, 1, 0x100000, 4⟩,
  ⟨0x1008, 1, 0x100000, 1, 0x100000, 4⟩,
  ⟨0x100C, 1, 0x100000, 1, 0x100000, 4⟩,
  ⟨0x1010, 1, 0x100000, 1, 0x100000, 4⟩,
  ⟨0x1014, 1, 0x100000, 1, 0x100000, 4⟩,
  ⟨0x1018, 1, 0x100000, 1, 0x100000, 4⟩,
  ⟨0x1080, 8, 0x8, 1, 0x100000, 4⟩,
  ⟨0x1400, 8, 0x100, 1, 0x100000, 4⟩,
  ⟨0x1420, 8, 0x100, 28, 0x8, 4⟩,
  ⟨0x1424, 8, 0x100, 28, 0x8, 4⟩,
  ⟨0x4020, 1, 0x100000, 1, 0x100000, 4⟩,
  ⟨0x4024, 1, 0x100000, 1, 0x100000, 4⟩,
  ⟨0x4080, 16, 0x8, 1, 0x100000, 4⟩,
  ⟨0x3434, 1, 0x100000, 1, 0x100000, 4⟩,
  ⟨0x3454, 1, 0x100000, 1, 0x100000, 4⟩,
  ⟨0x3458, 1, 0x100000, 1, 0x100000, 4⟩,
  ⟨0x3808, 1, 0x100000, 1, 0x100000, 4⟩,
  ⟨0x380C, 1, 0x100000, 1, 0x100000, 4⟩,
  ⟨0x3810, 1, 0x100000, 1, 0x100000, 4⟩,
  ⟨0x3814, 1, 0x100000, 1, 0x100000, 4⟩,
  ⟨0x3898, 1, 0x100000, 1, 0x100000, 4⟩,
  ⟨0x389C, 1, 0x100000, 1, 0x100000, 4⟩,
  ⟨0x6034, 1, 0x100000, 1, 0x100000, 4⟩,
  ⟨0x6080, 4, 0x4, 1, 0x100000, 4⟩,
  ⟨0x6110, 16, 0x20, 1, 0x100000, 4⟩,
  ⟨0x410, 1, 0x100000, 1, 0x100000, 4⟩,
  ⟨0x414, 1, 0x100000, 1, 0x100000, 4⟩,
  ⟨0x18, 1, 0x100000, 1, 0x100000, 4⟩,
  ⟨0x5808, 1, 0x100000, 1, 0x100000, 4⟩,
  ⟨0x580C, 1, 0x100000, 1, 0x100000, 4⟩,
  ⟨0x5810, 1, 0x100000, 1, 0x100000, 4⟩,
  ⟨0x5814, 1, 0x100000, 1, 0x100000, 4⟩,
  ⟨0x5818, 1, 0x100000, 1, 0x100000, 4⟩,
  ⟨0x581C, 1, 0x100000, 1, 0x100000, 4⟩,
  ⟨0x5844, 1, 0x100000, 1, 0x100000, 4⟩,
  ⟨0x5008, 1, 0x100000, 1, 0x100000, 4⟩,
  ⟨0x500C, 1, 0x100000, 1, 0x100000, 4⟩,
  ⟨0x5010, 1, 0x100000, 1, 0x100000, 4⟩,
  ⟨0x5014, 1, 0x100000, 1, 0x100000, 4⟩,
  ⟨0x5018, 1, 0x100000, 1, 0x100000, 4⟩,
  ⟨0x501C, 1, 0x100000, 1, 0x100000, 4⟩,
  ⟨0xC20, 1, 0x100000, 1, 0x100000, 8⟩,
  ⟨0xC28, 1, 0x100000, 1, 0x100000, 8⟩,
  ⟨0xC30, 1, 0x100000, 1, 0x100000, 4⟩,
  ⟨0xD00, 1, 0x100000, 1, 0x100000, 8⟩,
  ⟨0xD0C, 1, 0x100000, 1, 0x100000, 4⟩,
  ⟨0xA0C, 1, 0x100000, 1, 0x100000, 4⟩]

/-- Base and width in bytes of the value that holds address `a`: two where no wider register lies (R5, R7). -/
def valueAt (a : Nat) : Nat × Nat := ((wides.findSome? (·.at a))).getD (a / 2 * 2, 2)

/-- The row of address `a`, if the address holds a register. -/
def rowAt (a : Nat) : Option Row := (rowsAt a).find? (·.holds a)

end Sys2Proof.R
end

