-- ==== Sys2Proof/Machine/State.lean ====
section
/-!
DEFINITION. The state of the NT2412 as plain data: one register file, and for each block the state that no register
holds. Machine/RegMap.lean says what an unlisted register reads as; State.reset lists nothing.
-/

namespace Sys2Proof.Machine

open Sys2Proof

/-- Why the machine stops. The spec has no event that stops the block: a furrow fault and LATCHED are next states. -/
inductive Fault where
  /-- Raised by nobody: no command of the table stops the machine. Safe. -/
  | none
  deriving DecidableEq, Repr

/-- Why a command is refused. -/
inductive Refusal where
  /-- Raised by an arm of exec whose command has no meaning yet. Safe: nothing is claimed of it. -/
  | notModelled (mnemonic : String)
  deriving DecidableEq, Repr

/-! ## The engine (09_kotried_engine.md) -/

/-- State of a furrow (R246). -/
inductive FState where
  | disabled | stopped | ready | running | waiting | faulted
  deriving DecidableEq, Repr

/-- Atomic operations of R278. -/
inductive AtomOp where
  | set | clr | add | xch
  deriving DecidableEq, Repr

/-- A register-space access that a furrow has issued and that has not completed (R248, R277, R278, R282). -/
inductive Access where
  | load (d : KReg) (a : BitVec 16) (sx : Bool)
  | store (a : BitVec 16) (v : BitVec 16)
  | atom (op : AtomOp) (d : KReg) (a : BitVec 16) (v : BitVec 16)
  | cas (d : KReg) (a : BitVec 16) (v : BitVec 16)
  | wdc (d : KReg) (slot : WSlot)
  | wda (slot : WSlot) (token : BitVec 16)
  | trigSeq (s : Nat)
  | trigUrg (e : Nat)
  | post (tag : Tag) (status : BitVec 8) (result : BitVec 64)
  deriving DecidableEq, Repr

/-- What a WAITING furrow waits for (R256, R281). A time-out of 0 is none. -/
inductive Wait where
  | none
  | event (d : KReg) (timeout : Nat)
  | ticks (n : Nat)
  | until (t : BitVec 32)
  | seq (s : SeqNo) (timeout : Nat)
  | access (a : Access)
  deriving DecidableEq, Repr

/-- The state of one furrow (R245, R246, R256, R258, R259, R264). -/
structure FurrowSt where
  k : Vector (BitVec 32) 16
  z : Bool
  n : Bool
  c : Bool
  v : Bool
  pc : BitVec 14
  stack : List (BitVec 14)
  prio : Fin 4
  entry : BitVec 14
  k0 : BitVec 32
  queue : List (BitVec 9)
  st : FState
  wait : Wait
  /-- The tick at which the wait was issued (R256, R281). -/
  waitAt : Nat
  halted : Bool
  stepping : Bool
  fault : BitVec 8
  fltpc : BitVec 14
  held : List Tag
  deriving DecidableEq, Repr

/-- A furrow before any image is loaded: DISABLED (R246). -/
def FurrowSt.init : FurrowSt :=
  { k := Vector.replicate 16 0, z := false, n := false, c := false, v := false, pc := 0, stack := [], prio := 0,
    entry := 0, k0 := 0, queue := [], st := .disabled, wait := .none, waitAt := 0, halted := false, stepping := false,
    fault := 0, fltpc := 0, held := [] }

/-- The engine (R244, R247, R251, R252, R257, R263 to R265). -/
structure EngineSt where
  furrows : Vector FurrowSt 16
  /-- The CODE section, from word 0 (R251). -/
  code : List (BitVec 32)
  /-- Data memory: cells of bytes in canonical form (R252). -/
  data : List Host.Cell
  /-- The DISPATCH map: byte i for code 0x80 + i (R265). -/
  dispatch : List Byte
  /-- Debug granted by the FURROWS section (R264, R265). -/
  debugGranted : Bool
  /-- The furrow that each core issued last, 0 to 3 within the core (R247). -/
  last : Vector (Fin 4) 4
  /-- The furrows have started (R263). -/
  started : Bool
  deriving DecidableEq, Repr

/-! ## Register-space access of one accessor (R6 to R8, R313) -/

/-- Held bytes of a write in progress, the shadow of a wide read, and the word a port captured at an even byte. -/
structure AccSt where
  /-- Bytes of one value that wait for its highest byte: address and byte. -/
  held : List (Nat × Byte)
  /-- Base address and remaining bytes of a frozen wide value. -/
  shadow : Option (Nat × List Byte)
  /-- Even address and word captured for a port (R313). -/
  capture : Option (Nat × BitVec 16)
  deriving DecidableEq, Repr

def AccSt.init : AccSt := { held := [], shadow := none, capture := none }

/-! ## The hopper (11_command_hopper.md) -/

/-- Where an accepted item stands (R288, R290, R257, R258). -/
inductive ItemStage where
  /-- Accepted, not yet carried out. -/
  | accepted
  /-- Carried out by a block, not yet complete. -/
  | running
  /-- Waits for room in its furrow's queue (R257). -/
  | waitRoom (f : Furrow)
  /-- Its entry is in the queue of a furrow. -/
  | queued (f : Furrow)
  /-- A furrow holds it (R258). -/
  | taken (f : Furrow)
  /-- Complete; kept while a furrow holds its tag (R258). -/
  | done
  deriving DecidableEq, Repr

/-- A submitted item (R287): `source` is 0 to 2 for a port and 3 for the engine. -/
structure Item where
  tag : Tag
  code : Byte
  flags : Byte
  args : Vector (BitVec 16) 6
  cookie : BitVec 16
  source : Fin 4
  /-- The stamp of R295 at acceptance. -/
  stamp : BitVec 32
  stage : ItemStage
  deriving DecidableEq, Repr

/-- A completion record (R294). -/
structure Completion where
  tag : Tag
  status : BitVec 6
  source : Fin 4
  cookie : BitVec 16
  result : BitVec 64
  stamp : BitVec 32
  deriving DecidableEq, Repr

/-- A journal slot (R303). -/
structure JSlot where
  tag : Tag
  seq : BitVec 32
  item : Item
  /-- Whether the slot's check value matches its contents (R304). -/
  crcOk : Bool
  /-- The status of a CLOSED slot; none while it is OPEN. -/
  closed : Option (BitVec 6)
  deriving DecidableEq, Repr

/-- A drain in progress (R301): the function, the DISABLE item, the items in flight at its acceptance and the number
ended so far. -/
structure Drain where
  fn : Fin 32
  tag : Tag
  atStart : Nat
  ended : Nat
  deriving DecidableEq, Repr

/-- A reset that is due (R293, R428, R429, R262). -/
inductive PendingReset where
  | none
  | engine (src : BitVec 4)
  | railCycle (src : BitVec 4)
  deriving DecidableEq, Repr

/-- The hopper (R286 to R305). -/
structure HopperSt where
  /-- Items in acceptance order; a completed item stays while a furrow holds its tag. -/
  items : List Item
  /-- The completion ring, newest first, at most 256 (R297). -/
  ring : List Completion
  /-- Journal slots that have been written, OPEN and CLOSED, at most one to a tag (R303). -/
  journal : List JSlot
  /-- Closes that are due: tag and status. -/
  closes : List (Tag × BitVec 6)
  jseq : BitVec 32
  /-- A tag has been assigned since POR (R289). -/
  assigned : Bool
  drains : List Drain
  /-- The record that reader 0 to 3 has frozen (R298). -/
  frozen : Vector (Option Completion) 4
  /-- HOP_CAVAIL.OVR of each reader. -/
  ovr : Vector Bool 4
  crd : Vector (BitVec 16) 4
  pendingReset : PendingReset
  /-- The watchdog has asked for the reset that is due (R433). -/
  wdgReset : Bool
  /-- The tags of ENGINE_RESET and RAIL_CYCLE items whose journal closes must be written first (R293). -/
  resetTags : List Tag
  deriving DecidableEq, Repr

/-! ## Host ports and ownership (12_host_ports_and_ownership.md) -/

/-- A claim (R319). -/
structure Claim where
  prio : BitVec 3
  lease : BitVec 10
  nonce : BitVec 16
  deriving DecidableEq, Repr

/-- What goes on on a port's bus: nothing, bytes written to the device, bytes read from it, or the bytes of an answer frame
that are still to go out (R324, R325). -/
inductive BusDir where
  | idle
  | write
  | read
  | answer (rest : List Byte)
  deriving DecidableEq, Repr

/-- Ownership (R318 to R322). Times are timebase ticks. -/
structure OwnSt where
  leased : Bool
  port : Port
  prio : BitVec 3
  nonce : BitVec 16
  lease : BitVec 10
  leaseEnd : Nat
  elect : Bool
  electEnd : Nat
  claims : Vector (Option Claim) 3
  offer : Option Port
  offerEnd : Nat
  /-- A lease ran out in the election that is open, and its OWNER_CHANGED is still to come (R330). -/
  changeDue : Bool
  deriving DecidableEq, Repr

/-- One port (R312 to R326). -/
structure PortSt where
  ptr : BitVec 16
  /-- The OWN cause of attention (R322). -/
  ownCause : Bool
  /-- Less than a quarter of the lease remains: the LEASE cause (R326). -/
  leaseCause : Bool
  /-- The causes present at the last miss and since (bits 8 to 12 of HP_ATNSTAT): a miss with another cause raises
  ATTN_UNANSWERED (R323). -/
  missed : BitVec 16
  /-- The bytes the port last sent on its bus. -/
  tx : List Byte
  /-- How the last bytes written to the port were acknowledged: true for ACK. -/
  acks : List Bool
  dir : BusDir
  /-- The bytes received since the address byte of the write under way. -/
  rx : List Byte
  /-- A data byte of the write under way has been refused, and every later one is (R317). -/
  refused : Bool
  /-- ID_PCFG.PEC as the last START found it (R316). -/
  pec : Bool
  /-- The bytes on the wire that the next PEC byte covers (R316). -/
  wire : List Byte
  /-- Data bytes that the read under way has sent. -/
  sent : Nat
  deriving DecidableEq, Repr

/-! ## Start-up and device states (13_startup_and_device_states.md) -/

/-- Where the device stands between DARK and t11 (R334, R335, R340). -/
inductive BootPhase where
  /-- No supply (DARK), or a POR whose boot has not started. -/
  | dark
  /-- t1: HB0 soft-starts. -/
  | hb0
  /-- t2: HB1 starts. -/
  | hb1
  /-- t4: OSCVDD on, the start delay runs. -/
  | startDelay
  /-- OSCVDD off for 10 ms after a failed attempt. -/
  | oscOff
  /-- t6: the PLL locks. -/
  | locking
  /-- t7: ports answer; the NV check waits or runs. -/
  | nvCheck
  /-- t10: the image is loaded. -/
  | loading
  /-- After the load, before t11. -/
  | loaded
  /-- t11 passed: the state of CFG_DSTATE holds. -/
  | up
  /-- NEWT (R340). -/
  | newt
  deriving DecidableEq, Repr

/-- Device state and power-fail path (R334 to R347). -/
structure BootSt where
  phase : BootPhase
  /-- Failed attempts of R335. -/
  attempts : Nat
  /-- The boot in progress is a wake (R341), not a POR. -/
  isWake : Bool
  /-- A POR of KILL that waits until the restart comparator has cleared (R345, R410). -/
  killDue : Bool
  /-- The boot in progress is a thermal restart: THERMAL_RESTART is raised at t11 (R410). -/
  thermal : Bool
  /-- VINMAX stands below V_BO (R346). -/
  vinLow : Bool
  deriving DecidableEq, Repr

/-! ## Configuration, NV and recorder (14_configuration_and_recorder.md) -/

/-- The role record (R358). Slots are 0 to 2; `stage` is CFG_STATUS.STAGE. -/
structure RoleRec where
  active : Fin 3
  previous : Fin 3
  staged : Fin 3
  stage : BitVec 3
  prevValid : Bool
  probation : Bool
  prCount : BitVec 2
  verActive : BitVec 32
  verPrevious : BitVec 32
  verStaged : BitVec 32
  /-- LENGTH and CRC-32 that CFG_STAGE_OPEN gave for the staged image (R360). -/
  stgLen : BitVec 32
  stgCrc : BitVec 32
  deriving DecidableEq, Repr

/-- A blank role record: the spec gives none before manufacture (log entry 4). -/
def RoleRec.blank : RoleRec :=
  { active := 0, previous := 1, staged := 2, stage := 0, prevValid := false, probation := false, prCount := 0,
    verActive := 0, verPrevious := 0, verStaged := 0, stgLen := 0, stgCrc := 0 }

/-- A block write started through a write buffer (R356): the set of the writer (0 to 2 a port, 3 the engine), none once a port
has lost ownership and its set is cleared, the NV offset and the 64 bytes. -/
structure BlockWrite where
  set : Option (Fin 4)
  addr : Nat
  bytes : List Byte
  deriving DecidableEq, Repr

/-- One of the two copies that NV holds of a block of the device's own (R222, R358, R372, R390): whether its CRC-32 checks,
its write sequence number, and what it holds. -/
structure NvCopy (α : Type) where
  good : Bool
  seq : BitVec 32
  val : α
  deriving DecidableEq, Repr

/-- Both copies of a block that holds `v` when the device leaves manufacture. -/
def NvCopy.made {α : Type} (v : α) : Vector (NvCopy α) 2 := Vector.replicate 2 { good := true, seq := 0, val := v }

/-- The sequence mark (R372): the bound M, and the first number S of the present stretch. -/
structure SeqMark where
  m : BitVec 32
  s : BitVec 32
  deriving DecidableEq, Repr

/-- The counters area (R389, R390): operating time in 1/65,536 s, and the power-cycle count. -/
structure Counters where
  op : Nat
  pcycle : BitVec 24
  deriving DecidableEq, Repr

/-- A block that the device has written for itself and whose read-back is outstanding (R354): an open or a close in the
journal, a record by the address of its block, or a copy of the sequence mark, of the role record, of the gauge record or of the counters. -/
inductive NvJob where
  | journal (tag : Tag)
  | record (addr : Nat)
  | mark (i : Fin 2)
  | role (i : Fin 2)
  | gauge (i : Fin 2)
  | time (i : Fin 2)
  deriving DecidableEq, Repr

/-- Configuration and NV (R353 to R366). -/
structure CfgSt where
  role : RoleRec
  /-- The copies of the role record in NV (R358), and a write of it that waits until NV writes are allowed (R346). -/
  roleNv : Vector (NvCopy RoleRec) 2
  roleDue : Bool
  /-- Blocks whose read-back is outstanding, oldest first (R354). -/
  checks : List NvJob
  opener : Option (Fin 4)
  pendLoad : Bool
  safe : Bool
  /-- Slot of the running image, 3 for the safe image. -/
  running : Fin 4
  keyLock : Bool
  /-- The frequency in kHz that the identity area declares, written at manufacture: none for a device whose ordering code has
  no suffix (R3, R379). -/
  refKhz : Option (BitVec 16)
  /-- Block writes that have started, oldest first, and writers whose block write waits for its turn (R354, R356). -/
  writes : List BlockWrite
  waits : List (Fin 4)
  /-- Items whose role-record write is pending, oldest first (R358). -/
  roleItems : List Tag
  /-- NV: canonical cells (R353). -/
  nv : List Host.Cell
  nvWrites : Nat
  deriving DecidableEq, Repr

/-- A record (R368), less its sequence check, which is computed when it is shown or written. -/
structure Rec where
  seq : BitVec 32
  sec : BitVec 32
  fract : BitVec 16
  pcycle : BitVec 24
  clean : Bool
  type : Byte
  arg : Byte
  data : List Byte
  deriving DecidableEq, Repr

/-- A staged snapshot (R369): its number and its bytes 0 to 507. -/
structure Snap where
  num : BitVec 32
  bytes : List Byte
  deriving DecidableEq, Repr

/-- The recorder (R367 to R375). -/
structure RecSt where
  next : BitVec 32
  buf : List Rec
  snaps : List Snap
  snapNext : BitVec 32
  /-- Run of dropped numbers not yet reported: first and last (R374). -/
  dropped : Option (BitVec 32 × BitVec 32)
  /-- The sequence mark, its copies in NV, and a write of it that waits until NV writes are allowed (R372, R355). -/
  mark : SeqMark
  markNv : Vector (NvCopy SeqMark) 2
  markDue : Bool
  /-- The last flush left the buffer empty, so the mark is due before the next number (R372). -/
  clean : Bool
  flushing : Bool
  /-- The flush under way has ended its ring stage; blocks of the oldest staged snapshot that it has written; a block of it
  failed twice (R354, R370). -/
  ringDone : Bool
  snapAt : Nat
  failed : Bool
  /-- A flush asked for after the ring stage follows the one under way, and REC_FLUSH items that wait for it (R376). -/
  again : Bool
  later : List Tag
  /-- 64-byte blocks that the power-fail flush has written (R352). -/
  blocks : Nat
  /-- Numbers that the scan at start-up found lost and that are not yet reported: first and last (R373). -/
  gap : Option (BitVec 32 × BitVec 32)
  /-- A record is held, and a snapshot is held: REC_OLDEST and REC_NEWEST, REC_SOLDEST and REC_SNEWEST bound them. -/
  anyRec : Bool
  anySnap : Bool
  deriving DecidableEq, Repr

/-! ## Clocks (15_clocks_and_time.md) -/

/-- Clock domains whose source can be switched (R381, R382). -/
inductive Domain where
  | pwm | tb | rtc
  deriving DecidableEq, Repr

/-- Counters of time. `tb` counts 1 us ticks; operating time and the RTC count 1/65,536 s, with one remainder of the
tick below a count in 1/1,000,000. -/
structure ClockSt where
  tb : BitVec 64
  /-- Operating time since first operation, in 1/65,536 s (R389). -/
  op : Nat
  /-- The newt domain was lost and operating time has not yet been resumed (R389). -/
  opLost : Bool
  /-- The power-cycle count (R390), the copies of the counters area in NV, and a save of operating time that waits until NV
  writes are allowed and nothing comes before it (R389, R354). -/
  pcycle : BitVec 24
  saved : Vector (NvCopy Counters) 2
  opDue : Bool
  rtc : BitVec 64
  rtcRem : Nat
  /-- Counts to the next step of the countdown, which steps every 64 CKD_RTC cycles (R393). -/
  cdnSub : Nat
  /-- The correction by RTC_TRIM that has not yet made a count, in parts of 10^9 of a count (R391). -/
  trimAcc : Int
  /-- The domain whose source is being switched (R382), the ticks of CKD_TB that its switch has lost so far, and the tick at
  which it last restarted (R384). -/
  switching : Option Domain
  gap : Nat
  restartAt : Nat
  /-- RTC_SETs that wait for the next edge of CKD_RTC (R391, R394). -/
  rtcSet : List (Tag × BitVec 64)
  /-- CLKOUT is held low after a change of source or division (R385). -/
  outHold : Bool
  deriving DecidableEq, Repr

/-! ## Watchdog (17_events_and_watchdog.md) -/

/-- One watchdog slot (R424 to R428). -/
structure WdgSlot where
  running : Bool
  chal : BitVec 16
  replaced : Option (BitVec 16)
  /-- A challenge has been drawn: the one that the next replaces is kept (R425). -/
  drawn : Bool
  windowOpen : Bool
  warned : Bool
  /-- Start of the present period in timebase ticks. -/
  start : Nat
  /-- A token was accepted since the last watchdog reset (R429). -/
  answered : Bool
  /-- OPEN and FURROW as taken at the slot's last period start (R431). -/
  open16 : Nat
  furrow : Furrow
  deriving DecidableEq, Repr

def WdgSlot.init : WdgSlot :=
  { running := false, chal := 0, replaced := none, drawn := false, windowOpen := false, warned := false, start := 0, answered := false,
    open16 := 0, furrow := 0 }

/-! ## Pins -/

/-- What the PWM pin of a phase does in the present period (R31, R32): mid, low, or high for the on-time and then low. -/
inductive PwmDrive where
  | mid | low | pulse
  deriving DecidableEq, Repr

/-- Levels of a three-level output (R31). -/
inductive PwmLevel where
  | mid | low | high
  deriving DecidableEq, Repr

/-- What an output pin does: high impedance, or a driven level. -/
inductive PinDrive where
  | z | mid | low | high
  deriving DecidableEq, Repr

/-- Pins: filtered XPGn and XENn levels (R128), FDENn, VIO, and the domain that the pull-downs of XENn need. -/
structure PinSt where
  xpg : Vector Bool 16
  xen : Vector Bool 16
  /-- FDENn driven low; released otherwise (R16, R17). -/
  fdenLow : BitVec 4
  /-- VIO is good (R443, R451). -/
  vio : Bool
  /-- The VIO level measured at t3, from which the pads take their thresholds until the next POR or wake (R443). -/
  vioLevel : Option VioLevel
  /-- The newt domain is lost: in DARK no pull-down acts on XENn (R437, R440). -/
  newtLost : Bool
  deriving DecidableEq, Repr

/-- Instructions of the test access port (R456). -/
inductive JtagInstr where
  | extest | idcode | sample | highz | clamp | bypass
  deriving DecidableEq, Repr

/-- The test access port: its instruction, and the register between JTDI and JTDO. -/
structure JtagSt where
  ir : JtagInstr
  dr : BitVec 32
  deriving DecidableEq, Repr

/-! ## Loops and phases (02_regulation_loops.md) -/

/-- The five coefficients of a bank (R40, R42). -/
structure Bank where
  b0 : BitVec 32
  b1 : BitVec 32
  b2 : BitVec 32
  a1 : BitVec 16
  a2 : BitVec 16
  deriving DecidableEq, Repr

/-- One phase (R29, R31 to R33, R62). -/
structure PhaseSt where
  drive : PwmDrive
  /-- Rounding remainder carried to the next period, in 1/65,536 of an edge step. -/
  rem : Int
  /-- On-time of the present period in 78.125 ps steps; 0 when no pulse is produced. -/
  onTime : Nat
  /-- Offset from the loop's period start in 78.125 ps steps (R29). -/
  offset : Nat
  /-- The pulse of the present period was cut short, and the run of such periods. -/
  cut : Bool
  cutRun : Nat
  /-- Delay-line taps in use, taken at the period start (R65). -/
  taps : BitVec 16
  deriving DecidableEq, Repr

def PhaseSt.init : PhaseSt :=
  { drive := .mid, rem := 0, onTime := 0, offset := 0, cut := false, cutRun := 0, taps := 0 }

/-- One loop: what its registers do not show. -/
structure LoopSt where
  /-- The active bank (R42). -/
  bank : Bank
  /-- Compensator states v, w, d and the two last samples used (R40). -/
  v : Int
  w : Int
  d : Int
  e1 : Int
  e2 : Int
  /-- The computation in progress, its sample and its bank, and the newest result that waits (R45). -/
  busy : Option (Int × Bank)
  waiting : Option Int
  /-- The duty handed to the edge scheduler, after feed-forward (R35). -/
  duty : Nat
  /-- The target in use, and the accumulator of the reference below 0.125 mV (R51). -/
  target : Nat
  refAcc : Nat
  /-- Phases switch (R52 t1). -/
  switching : Bool
  /-- The ramp of the soft-start is in progress (R51, R52). -/
  ssRamp : Bool
  /-- The first loop period start after t0 has not come (R52). -/
  ssWait : Bool
  /-- t2 has passed; t3 has passed. -/
  ramped : Bool
  up : Bool
  /-- The soft-start rate kept when LP_SSSLEW was written 0 (R50). -/
  ssRate : Option Nat
  /-- Diode emulation, feed-forward and OFFMODE as they apply now: taken at a period start (R50). -/
  diode : Bool
  vff : Bool
  offMode : Bool
  /-- Phases go to mid at the next loop period start (R54). -/
  offPend : Bool
  /-- LP_PGDLY has passed within the window of the present target (R51). -/
  dwelled : Bool
  uvArmed : Bool
  /-- The last error-converter readings of the output, newest first (LP_VOUT). -/
  recent : List (BitVec 16)
  /-- LP_IOUT at the last loop period start (R59). -/
  iLast : Int
  /-- A load step came in soft-start or in a transition: the hold starts at PG, or as STATE reads REGULATING again (R66). -/
  holdPend : Bool
  /-- Shedding is suspended by LP_IPHDN (R60). -/
  shedSusp : Bool
  /-- R48 clamped the target of the LOOP_SETV item in progress. -/
  setvClamped : Bool
  /-- The interval of R64: sums and counts of errors and of sense-node results (0.125 mV), and whether it is skipped. -/
  errSum : Int
  errCnt : Nat
  senseSum : Nat
  senseCnt : Nat
  spoiled : Bool
  deriving DecidableEq, Repr

def LoopSt.init : LoopSt :=
  { bank := { b0 := 0, b1 := 0, b2 := 0, a1 := 0x8000, a2 := 0x8000 }, v := 0, w := 0, d := 0, e1 := 0, e2 := 0,
    busy := none, waiting := none, duty := 0, target := 0, refAcc := 0, switching := false, ssRamp := false, ssWait := false,
    ramped := false, up := false, ssRate := none, diode := false, vff := false, offMode := false, offPend := false, dwelled := false, uvArmed := false,
    recent := [], iLast := 0, holdPend := false, shedSusp := false, setvClamped := false, errSum := 0, errCnt := 0,
    senseSum := 0, senseCnt := 0, spoiled := false }

/-! ## Velong links (03_velong_link.md) -/

/-- One link: what its registers do not show. -/
structure LinkSt where
  /-- SEQ and response of the last command answered with ACK or NAK (R80). -/
  stored : Option (BitVec 4 × BitVec 32)
  /-- Read-clear bits of the status word (R85). -/
  bits : BitVec 16
  /-- Consecutive bad command frames (R88). -/
  errs : Nat
  /-- A good frame has come since the last PROTOCOL event (R90). -/
  protoArmed : Bool
  /-- EN was written 0 during a frame (R92). -/
  disPend : Bool
  /-- THROTTLE_TIMEOUT was raised for the present REQ (R86). -/
  thrRaised : Bool
  /-- A THRACK has come since the last change of REQ (R106). -/
  thrAcked : Bool
  /-- The link has been enabled since POR or wake: VLDOn is driven (R69). -/
  driven : Bool
  deriving DecidableEq, Repr

def LinkSt.init : LinkSt :=
  { stored := none, bits := 0, errs := 0, protoArmed := false, disPend := false, thrRaised := false, thrAcked := false, driven := false }

/-! ## Measurement (06_measurement.md) -/

/-- A conversion on a converter (R161, R165): the entry, the samples still to take, those taken and their sum. -/
structure Conv where
  entry : Nat
  left : Nat
  taken : Nat
  sum : Nat
  ovr : Bool
  resamp : Bool
  urgent : Bool
  /-- The instant of its next sample, in counts of 1.25 ns (R159 to R161). -/
  instant : Nat
  seat : Fin 24
  /-- The run it belongs to: its sequence and the run's number (R164); no meaning for an urgent one. -/
  seq : SeqNo
  run : Nat
  /-- The accessor of an urgent request (19 for the device itself), and the number of the request (R181). -/
  src : Fin 20
  req : Nat
  deriving DecidableEq, Repr

/-- One seat, numbered 4q + s: entries that are due with their earliest instants, urgent requests that wait in arrival order
(R166), the conversion that they abandoned (R165), and the end of the seat's last conversion. -/
structure SeatSt where
  due : List (Nat × Nat)
  urgents : List Conv
  resume : Option Conv
  freeAt : Nat
  deriving DecidableEq, Repr

/-- One sequence: its divider count, the number of runs started, the entries of the latest run not yet sampled, and the runs
not yet done, oldest first, each with its number and its entries not yet stored (R162, R164). -/
structure SeqSt where
  div : Nat
  runs : Nat
  toSample : List Nat
  toStore : List (Nat × List Nat)
  deriving DecidableEq, Repr

/-- A trigger timer that has been started: the tick of the write that started it, and the tick at which it last ticked
(R163). -/
structure TimerSt where
  start : Nat
  last : Option Nat
  deriving DecidableEq, Repr

/-- Measurement (R150 to R175). -/
structure MeasSt where
  convs : Vector (Option Conv) 24
  seats : Vector SeatSt 24
  seqs : Vector SeqSt 64
  /-- Sampling instant of each entry's stored result, by entry. -/
  instants : List (Nat × Nat)
  /-- The start-up pass is complete: sequences run (R174). -/
  running : Bool
  /-- Converters that have not completed a bay calibration since the pass (R174). -/
  uncal : List Adc
  /-- Tick at which each converter's last calibration ended (MS_ADCSTAT.AGE). -/
  calAt : Vector Nat 24
  /-- Converters that have left their seat and still finish a conversion (R173). -/
  leaving : List Adc
  timers : Vector (Option TimerSt) 16
  /-- The number of urgent requests that each accessor has made (MS_URGENT.PEND). -/
  reqs : Vector Nat 20
  deriving DecidableEq, Repr

/-! ## The drill (05_sequencing_and_supervision.md) -/

/-- The drill: what its registers do not show (R129 to R146). -/
structure DrillSt where
  /-- Tick of t0 of the operation in progress, and of each rail's on-slot. -/
  t0 : Nat
  onAt : Vector Nat 28
  /-- Rails whose off-slot is still to come. -/
  offDue : BitVec 28
  /-- Rails that are FAILED under FAILACT 1 (R133). -/
  lossOnly : BitVec 28
  /-- Rails with PGSRC NONE whose rise time-out has elapsed (R127). -/
  elapsed : BitVec 28
  /-- Phase 2 of a switch has started (R142). -/
  phase2 : Bool
  /-- Cause of the first failure of the operation, 0 for none, with its tick and its rail; and the tick of the last failure of
  any operation: of two failures in one tick the lower index is the first (R144, R145). -/
  firstFail : Nat
  firstAt : Nat
  firstRail : Nat
  lastAt : Nat
  /-- A rail failed during a power-down: the OFF completes with a warning (R141). -/
  warned : Bool
  /-- Rails still to go off in a fault shutdown, in order (R135). -/
  gap : List Rail
  /-- Rails still to be shed by the Guard, in order (R112). -/
  shedList : List Rail
  /-- A rail-cycle reset waits for the power-down, and its profile (R145). -/
  cycle : Option Profile
  /-- A rail-cycle reset waits for the end of the switch in progress. -/
  cycleSwitch : Bool
  /-- Reset outputs that PREOFF holds, and outputs that owe a stretch (R146). -/
  preoff : BitVec 8
  owed : BitVec 8
  deriving DecidableEq, Repr

/-! ## Gauge and pack (08_gauge_and_pack.md) -/

/-- A copy of the gauge record in NV (R222). `valid` is its CRC-32 check. -/
structure GaugeRec where
  valid : Bool
  seq : BitVec 32
  qcnt : BitVec 32
  qlearn : BitVec 32
  serial : BitVec 64
  thru : Nat
  cycles : BitVec 16
  anchored : Bool
  trav : BitVec 2
  learned : Bool
  learnPend : Bool
  deriving DecidableEq, Repr

/-- The record that a device leaves manufacture with: it holds no pack (R225). -/
def GaugeRec.blank : GaugeRec :=
  { valid := true, seq := 0, qcnt := 0, qlearn := 0, serial := 0, thru := 0, cycles := 0, anchored := false, trav := 0,
    learned := false, learnPend := false }

/-- An anchor (R216). -/
inductive Anchor where
  | none | full | empty
  deriving DecidableEq, Repr

/-- The gauge: what its registers do not show (R211 to R225). -/
structure GaugeSt where
  /-- Charge below 1 mC, in 1/65,536 mC. -/
  frac : Nat
  /-- Sampling instant of the last result of entry 5, in counts of 1.25 ns. -/
  lastAt : Option Nat
  /-- The low rate stood at that result: the first result after a change of rate has its true weight (R212). -/
  lowAt : Bool
  /-- Instants of the first of the latest results that are all below GG_ILOW (R212), and, within an open window, all at a
  discharge current of GG_ETAPER or below (R216). -/
  quietAt : Option Nat
  taperAt : Option Nat
  /-- The running second of GG_IAVG: codes times counts, and counts. -/
  avgSum : Int
  avgTime : Nat
  /-- The last anchor recognised. -/
  last : Anchor
  /-- A discharge taper window is open (R216). -/
  window : Bool
  socArmed : Bool
  copies : Vector GaugeRec 2
  /-- GG_QLEARN that records carry while a learn is deferred (R224). -/
  savedLearn : BitVec 32
  /-- A record waits for NV writes to be allowed (R223). -/
  recPend : Bool
  /-- Cumulative throughput, and since the last rise of the cycle count, in 1/65,536 mC (R239). -/
  thru : Nat
  thruCycle : Nat
  /-- Cumulative throughput at the last life record, in C. -/
  thruWritten : Nat
  deriving DecidableEq, Repr

/-- A transaction with the tag (R233, R236, R237): `read` is the device's own of pages 0 to 3, at presence or `again` at a
RESCAN; `life` is a life record that waits, whose page and contents are fixed when it is sent. -/
inductive TagOp where
  | ping
  | read (page : Fin 4) (again : Bool)
  | life
  | boxRead (page : Fin 16)
  | boxWrite (page : Fin 16) (data : List Byte)
  | lifeWrite (page : Fin 16) (data : List Byte)
  | verify (page : Fin 16) (data : List Byte) (life : Bool)
  deriving DecidableEq, Repr

/-- The pack: what its registers do not show (R226 to R240). -/
structure PackSt where
  /-- A pack has been read since the start: PK_SERIAL is that of a pack. -/
  known : Bool
  /-- The gauge record used at the start, until a pack is read (R225). -/
  restored : Option GaugeRec
  removedAt : Option Nat
  /-- Page 1 was readable: the rated throughput is known. -/
  rated : Bool
  /-- Update number of the newer life page, and whether a life page was readable. -/
  update : Byte
  lifeOk : Bool
  /-- The instant, us, since which PACKNTC has read open, or not open (R226). -/
  ntcAt : Option Nat
  /-- The tag's type as it was last read, and the bytes of pages 0 to 3 read so far. -/
  type : Byte
  pages : List Byte
  /-- Transactions, oldest first; with `busy` the first is under way. -/
  queue : List TagOp
  busy : Bool
  /-- The last attempt began with a wake pulse, and the instant, us, of the line's last activity (R231). -/
  wake : Bool
  lineAt : Option Nat
  attempts : Nat
  /-- The bytes of the last request sent. -/
  request : List Byte
  /-- The last transaction was good: the next failed attempt raises TAG_ERROR (R235). -/
  good : Bool
  fails : Nat
  /-- The pack is inside its charge and discharge windows, and has been judged (R186). -/
  inCharge : Bool
  inDischarge : Bool
  judged : Bool
  deriving DecidableEq, Repr

/-! ## Charger (07_battery_power_path.md) -/

/-- Operating region of the stage (R184). -/
inductive Region where
  | buck | boost | buckBoost
  deriving DecidableEq, Repr

/-- A leg of the stage: mid, high-side held on, or switching: its on-time and its offset in the period, in steps of
78.125 ps (R182 to R184). -/
inductive Leg where
  | mid | high | switch (on offset : Nat)
  deriving DecidableEq, Repr

/-- Stage values that wait while the stage runs (R209). -/
structure StageCfg where
  period : BitVec 16
  phen : BitVec 2
  lind : BitVec 16
  ibw : BitVec 16
  cbus : BitVec 16
  vbw : BitVec 16
  deriving DecidableEq, Repr

/-- The current, voltage and temperature settings in use: those of the last stage period start (R209). -/
structure ChgSets where
  ichg : Word
  ipre : Word
  itaper : Word
  vcv : Word
  vrech : Word
  vempty : Word
  cvhys : Word
  tdrate : Word
  txstart : Word
  txstop : Word
  deriving DecidableEq, Repr

/-- The times in use: those of the last start of a pulse or rest (R209). -/
structure ChgTimes where
  tpulse : Word
  trest : Word
  ttaper : Word
  tsafe : Word
  tpre : Word
  deriving DecidableEq, Repr

/-- The charger: what its registers do not show (R182 to R202). -/
structure ChgSt where
  /-- Offset corrections of CSP - CSN, VBATS and VBUSS in tenths of an LSB (R185). -/
  ofs : Vector Int 3
  /-- The latest samples at a period start: battery current in 10 mA, battery and bus voltage in mV (R184, R191). -/
  iNow : Int
  vNow : Nat
  vbus : Nat
  region : Region
  /-- Legs A0, B0, A1, B1. -/
  legs : Vector Leg 4
  /-- What the last rounded on-time of each leg left over, in 1/65,536 of a step (R183). -/
  rems : Vector Int 4
  /-- Current reference, 10 mA. -/
  iref : Int
  /-- Integrators of the current, the bus-voltage and the battery-voltage controller, in 1/65,536 of their outputs (R191). -/
  curInt : Int
  busInt : Int
  limInt : Int
  /-- Period starts in BUSREG from the zero crossing on, up to 3; 3 at once when entered from ASSIST (R191). -/
  zeroRun : Nat
  /-- Consecutive period starts in CHARGE with CHG_ILIM 0, up to 8 (R190). -/
  idleRun : Nat
  sets : ChgSets
  times : ChgTimes
  /-- I_CC of the pulse in progress, and CHG_TPULSE as it was taken for it (R206, R209). -/
  iccPulse : Nat
  pulseLen : Nat
  /-- The stage's values in force. -/
  cfg : StageCfg
  inRest : Bool
  /-- The tick at which the rest in progress began (R196). -/
  restAt : Nat
  /-- A safety expiry waits for the end of the rest that ends in the same second (R206). -/
  expiry : Bool
  /-- The present cycle is not valid for the taper; taper time in tenths of a second, and its cycles (R198). -/
  cycleBad : Bool
  assisted : Bool
  taper : Nat
  taperCycles : Nat
  /-- A precharge of this cycle has begun, and the microseconds since (R195). -/
  preBegun : Bool
  preUs : Nat
  /-- The running second of the safety timers: microseconds, current sum, I_CC at its start, and CHG_TEQ below 1/4 s in
  1/65,536 (R199, R206). -/
  secUs : Nat
  secSum : Int
  iccSec : Nat
  teqFrac : Nat
  /-- Charge drawn since DONE, in 10 nC. -/
  drawn : Nat
  /-- Consecutive periods cut, and the present one is cut (R194). -/
  ocRun : Nat
  cut : Bool
  /-- Discharge is refused after an under-voltage trip. -/
  uvBlock : Bool
  deriving DecidableEq, Repr

/-- A lamp: the pattern (MODE and N) that it shows, and the phase it is in (R203). -/
structure LampSt where
  mode : Nat
  n : Nat
  phase : Nat
  deriving DecidableEq, Repr

/-! ## Budget Guard (04_budget_guard.md) -/

/-- The Guard: what its registers do not show (R94 to R124). -/
structure GuardSt where
  /-- The loader has written the Guard's registers (R119, R122). -/
  started : Bool
  /-- The fitted, enabled channels, as the last frame or the start took them from BG_CFG (R110, R121). -/
  on : BitVec 4
  /-- A complete frame has come since the start: BG_CEIL may rise (R123). -/
  framed : Bool
  /-- The last results of entries 0 to 4: a missing one leaves its quantity as it was (R98). -/
  codes : Vector (BitVec 12) 5
  ovrs : Vector Bool 5
  /-- Filtered room, in 1/65,536 of 0.1 W (R99). -/
  room : Int
  /-- Trim, in 1/65,536 of a unit of `room` (R100). -/
  trim : Int
  /-- The stage has left assist and the room has not exceeded BG_AHYS since: BG_CEIL stays 0 (R103). -/
  ceilHeld : Bool
  /-- Assist that the stage is commanded to supply, in units of `room`: in RETURN, the ramped assist (R104, R105, R114). -/
  assist : Int
  /-- Consecutive frames with a missing result (R98). -/
  missed : Nat
  /-- Links whose level the Guard has raised, the most recent first (R107). -/
  raised : List Link
  /-- Frames of the present interval above BG_ALLOW + BG_AHYS, and whether BREACH has been raised for it (R109). -/
  overRun : Nat
  breached : Bool
  deriving DecidableEq, Repr

/-! ## Thermal (16_thermal_and_protection.md) -/

/-- One sensor: the results of the present 100 ms, whether one was missing, the means of the last 10 s, newest first, and
the states of its two rates (R403). Temperatures in 1/64 degree C. -/
structure ThSensor where
  sum : Int
  cnt : Nat
  broken : Bool
  means : List Int
  fast : Bool
  slow : Bool
  deriving DecidableEq, Repr

def ThSensor.init : ThSensor := { sum := 0, cnt := 0, broken := false, means := [], fast := false, slow := false }

/-- The thermal block: its sensors, and a restart comparator that reads 125 degrees C or above (R408, R410). -/
structure ThermSt where
  sensors : Vector ThSensor 15
  hot : Bool
  deriving DecidableEq, Repr


/-- The device: every register and all internal state. -/
structure Dev where
  /-- The register file: address key and word, keys strictly rising, no word equal to what an unlisted key reads as. -/
  regs : List (Nat × BitVec 16)
  accs : Vector AccSt 19
  engine : EngineSt
  hopper : HopperSt
  own : OwnSt
  ports : Vector PortSt 3
  boot : BootSt
  cfg : CfgSt
  recorder : RecSt
  clock : ClockSt
  wdg : Vector WdgSlot 16
  /-- Posting and recording of events have opened: routes are loaded (R422) and furrows have started. -/
  routesLive : Bool
  /-- The model's own counter of free values (log entry 2). -/
  freeCount : Nat
  pins : PinSt
  phases : Vector PhaseSt 24
  loops : Vector LoopSt 12
  links : Vector LinkSt 4
  meas : MeasSt
  drill : DrillSt
  gauge : GaugeSt
  pack : PackSt
  chg : ChgSt
  lamps : Vector LampSt 2
  guard : GuardSt
  therm : ThermSt
  jtag : JtagSt
  deriving DecidableEq, Repr

/-- The state: the device, and the commands that wait, first in, first out. -/
structure State where
  dev : Dev
  pending : List Instr
  deriving DecidableEq, Repr

/-- The pack block before the tag is read. -/
def PackSt.init : PackSt :=
  { known := false, restored := none, removedAt := none, rated := false, update := 0, lifeOk := false,
    ntcAt := none, type := 0, pages := [], queue := [], busy := false, wake := false, lineAt := none, attempts := 0, request := [], good := true, fails := 0, inCharge := false, inDischarge := false,
    judged := false }

/-- The charger at boot: OFF, every leg at mid (R205). -/
def ChgSt.init : ChgSt :=
  { ofs := Vector.replicate 3 0, iNow := 0, vNow := 0, vbus := 0, region := .buckBoost, legs := Vector.replicate 4 .mid,
    rems := Vector.replicate 4 0, iref := 0, curInt := 0, busInt := 0, limInt := 0, zeroRun := 0, idleRun := 0,
    sets :=
      { ichg := 0, ipre := 0x0064, itaper := 0, vcv := 0, vrech := 0, vempty := 0, cvhys := 0, tdrate := 0x0A00,
        txstart := 0x1540, txstop := 0x1900 },
    times := { tpulse := 0x001E, trest := 0x0014, ttaper := 0x0258, tsafe := 0x01E0, tpre := 0x003C },
    iccPulse := 0, pulseLen := 30,
    cfg := { period := 0x07D0, phen := 0, lind := 0, ibw := 0, cbus := 0, vbw := 0 }, inRest := false, restAt := 0, expiry := false, cycleBad := false,
    assisted := false, taper := 0, taperCycles := 0, preBegun := false, preUs := 0, secUs := 0, secSum := 0,
    iccSec := 0, teqFrac := 0, drawn := 0,
    ocRun := 0, cut := false, uvBlock := false }

/-- The Guard before it starts: STATE OFF (R122). -/
def GuardSt.init : GuardSt :=
  { started := false, on := 0, framed := false, codes := #v[0x800, 0x800, 0x800, 0x800, 0], ovrs := Vector.replicate 5 false, room := 0,
    trim := 0, ceilHeld := false, assist := 0, missed := 0, raised := [], overRun := 0, breached := false }


/-- The device right after a POR by supply, before the boot path's t0 (R329, R334, R344). -/
def Dev.reset : Dev :=
  { regs := []
    accs := Vector.replicate 19 AccSt.init
    engine :=
      { furrows := Vector.replicate 16 FurrowSt.init, code := [], data := [], dispatch := [], debugGranted := false,
        last := Vector.replicate 4 3, started := false }
    hopper :=
      { items := [], ring := [], journal := [], closes := [], jseq := 0, assigned := false, drains := [],
        frozen := Vector.replicate 4 none, ovr := Vector.replicate 4 false, crd := Vector.replicate 4 0,
        pendingReset := .none, wdgReset := false, resetTags := [] }
    own :=
      { leased := false, port := 0, prio := 0, nonce := 0, lease := 0, leaseEnd := 0, elect := false, electEnd := 0,
        claims := Vector.replicate 3 none, offer := none, offerEnd := 0, changeDue := false }
    ports := Vector.replicate 3
      { ptr := 0, ownCause := false, leaseCause := false, missed := 0, tx := [], acks := [], dir := .idle, rx := [], refused := false,
        pec := false, wire := [], sent := 0 }
    boot :=
      { phase := .dark, attempts := 0, isWake := false, killDue := false, thermal := false, vinLow := false }
    cfg :=
      { role := RoleRec.blank, roleNv := NvCopy.made RoleRec.blank, roleDue := false, checks := [], opener := none, pendLoad := false, safe := false, running := 0, keyLock := false, refKhz := none,
        writes := [], waits := [], roleItems := [], nv := [], nvWrites := 0 }
    recorder :=
      { next := 0, buf := [], snaps := [], snapNext := 0, dropped := none, mark := { m := 0, s := 0 }, markNv := NvCopy.made { m := 0, s := 0 }, markDue := false, clean := true,
        flushing := false, ringDone := false, snapAt := 0, failed := false, again := false, later := [], blocks := 0,
        gap := none, anyRec := false, anySnap := false }
    clock :=
      { tb := 0, op := 0, opLost := true, pcycle := 1, saved := NvCopy.made { op := 0, pcycle := 0 }, opDue := false, rtc := 0, rtcRem := 0, cdnSub := 0, trimAcc := 0,
        switching := none, gap := 0, restartAt := 0, rtcSet := [], outHold := false }
    wdg := Vector.replicate 16 WdgSlot.init
    routesLive := false
    freeCount := 0
    pins := { xpg := Vector.replicate 16 false, xen := Vector.replicate 16 false, fdenLow := 0, vio := true, vioLevel := none, newtLost := true }
    phases := Vector.replicate 24 PhaseSt.init
    loops := Vector.replicate 12 LoopSt.init
    links := Vector.replicate 4 LinkSt.init
    meas :=
      { convs := Vector.replicate 24 none, seats := Vector.replicate 24 { due := [], urgents := [], resume := none, freeAt := 0 },
        seqs := Vector.replicate 64 { div := 0, runs := 0, toSample := [], toStore := [] }, instants := [], running := false,
        uncal := [], calAt := Vector.replicate 24 0, leaving := [], timers := Vector.replicate 16 none,
        reqs := Vector.replicate 20 0 }
    drill :=
      { t0 := 0, onAt := Vector.replicate 28 0, offDue := 0, lossOnly := 0, elapsed := 0, phase2 := false, firstFail := 0,
        firstAt := 0, firstRail := 0, lastAt := 0,
        warned := false, gap := [], shedList := [], cycle := none, cycleSwitch := false, preoff := 0, owed := 0 }
    gauge :=
      { frac := 0, lastAt := none, lowAt := false, quietAt := none, taperAt := none, avgSum := 0, avgTime := 0, last := .none, window := false, socArmed := true,
        copies := Vector.replicate 2 GaugeRec.blank, savedLearn := 0, recPend := false, thru := 0, thruCycle := 0,
        thruWritten := 0 }
    pack := PackSt.init
    chg := ChgSt.init
    lamps := #v[{ mode := 0, n := 0, phase := 0 }, { mode := 0, n := 0, phase := 0 }]
    guard := GuardSt.init
    therm := { sensors := Vector.replicate 15 ThSensor.init, hot := false }
    jtag := { ir := .idcode, dr := 0x12412E6B }
  }

/-- The machine right after reset: the device after a POR by supply, and an empty queue. -/
def State.reset : State := { dev := Dev.reset, pending := [] }

end Sys2Proof.Machine
end

