-- ==== Sys2Proof/Machine/Ops.lean ====
section
/-!
DEFINITION. The named operations over the state: the register file and its fields, sparse byte memories, events (R415),
records (R367), completions (R297), posts to furrows (R255), ownership (R322) and the gate of register writes (R317,
R253). Every meaning is written over these.
-/

namespace Sys2Proof

/-- The set of an accessor where all furrows share one (R286, R356), and where each furrow has its own (R8). -/
def Acc.sharedSet : Acc → Nat
  | .port p => p.val
  | .furrow _ => 3
def Acc.ownSet : Acc → Nat
  | .port p => p.val
  | .furrow f => 4 + f.val

/-- The set of the image loader, for the route page of its own (R435). -/
abbrev loaderSet : Nat := 20

/-- Index of an accessor's held bytes and shadow. -/
def Acc.index : Acc → Fin 19
  | .port p => ⟨p.val, by omega⟩
  | .furrow f => ⟨3 + f.val, by omega⟩

/-- Completion and hopper source of an accessor (R294). -/
def Acc.source : Acc → Fin 4
  | .port p => ⟨p.val, by omega⟩
  | .furrow _ => 3

/-- Fields of a word and of a 32-bit value. -/
def Fld.of (f : Fld) (w : Nat) : Nat := w / 2 ^ f.lo % 2 ^ f.w
def Fld.put (f : Fld) (w v : Nat) : Nat := w - (f.of w) * 2 ^ f.lo + v % 2 ^ f.w * 2 ^ f.lo

end Sys2Proof

namespace Sys2Proof.Machine

open Sys2Proof Sys2Proof.R

/-! ## Sparse maps in canonical form -/

/-- Insert a key into a list of strictly rising keys that does not hold it. -/
def insertKey {α : Type} (k : Nat) (v : α) : List (Nat × α) → List (Nat × α)
  | [] => [(k, v)]
  | (j, w) :: t => if k < j then (k, v) :: (j, w) :: t else (j, w) :: insertKey k v t

/-- Remove a key. -/
def eraseKey {α : Type} (k : Nat) (m : List (Nat × α)) : List (Nat × α) := m.filter (fun c => c.1 ≠ k)

/-- The value listed at a key. -/
def lookupKey {α : Type} (k : Nat) : List (Nat × α) → Option α
  | [] => none
  | (j, w) :: t => if j = k then some w else lookupKey k t

/-! ## The register file -/

/-- The word that register key `a` holds after reset and whenever it is unlisted (R480, R152). Keys from 0x20000 up are
the per-accessor copies of `a mod 0x20000`. -/
def resetWord (a : Nat) : Word :=
  if 0x4030 ≤ a ∧ a < 0x4060 then
    let i := (a - 0x4030) / 2
    BitVec.ofNat 16 ((if i = 11 ∨ i = 23 then 0x4000 else 0) + i / 4 * 0x800 + i % 4 * 0x200)
  else match rowAt (a % 0x20000) with
    | some r => r.reset
    | none => 0

/-- Read a word of the register file. -/
def regGet (m : List (Nat × Word)) (a : Nat) : Word := (lookupKey a m).getD (resetWord a)

/-- Write a word of the register file, keeping its canonical form. -/
def regSet (m : List (Nat × Word)) (a : Nat) (v : Word) : List (Nat × Word) :=
  if v = resetWord a then eraseKey a m else insertKey a v (eraseKey a m)

/-- The canonical form of the register file: keys strictly rising, and no word that an unlisted key reads as. -/
def regWf (m : List (Nat × Word)) : Bool :=
  m.Pairwise (fun x y => x.1 < y.1) ∧ ∀ c ∈ m, c.2 ≠ resetWord c.1

/-- Home key of route `e` (R417): routes stand behind a page window. -/
def routeKey (e : Nat) : Nat := 0x10000 + 2 * e

/-- Home key of the NEW bits of plan entry `e`: bit n for reader n (R168). -/
def newKey (e : Nat) : Nat := 0x19000 + 2 * e

/-- Home key of a per-accessor register: sets 0 to 2 are the ports, 3 the engine, 4 + f furrow f (R8). -/
def accKey (set : Nat) (a : Nat) : Nat := 0x20000 * (set + 1) + a

/-- Read and write one word. -/
def Dev.rd (d : Dev) (a : Nat) : Word := regGet d.regs a
def Dev.wr (d : Dev) (a : Nat) (v : Word) : Dev := { d with regs := regSet d.regs a v }

/-- A word as a number, and as a signed number. -/
def Dev.rn (d : Dev) (a : Nat) : Nat := (d.rd a).toNat
def Dev.rs (d : Dev) (a : Nat) : Int := (d.rd a).toInt
def Dev.wn (d : Dev) (a : Nat) (v : Nat) : Dev := d.wr a (BitVec.ofNat 16 v)
def Dev.wi (d : Dev) (a : Nat) (v : Int) : Dev := d.wr a (BitVec.ofInt 16 v)

/-- Values of two and four words, low word first (R5). -/
def Dev.rd32 (d : Dev) (a : Nat) : BitVec 32 := d.rd (a + 2) ++ d.rd a
def Dev.wr32 (d : Dev) (a : Nat) (v : BitVec 32) : Dev := (d.wr a (v.setWidth 16)).wr (a + 2) ((v >>> 16).setWidth 16)
def Dev.rn32 (d : Dev) (a : Nat) : Nat := (d.rd32 a).toNat
def Dev.rs32 (d : Dev) (a : Nat) : Int := (d.rd32 a).toInt
def Dev.wn32 (d : Dev) (a : Nat) (v : Nat) : Dev := d.wr32 a (BitVec.ofNat 32 v)
def Dev.wi32 (d : Dev) (a : Nat) (v : Int) : Dev := d.wr32 a (BitVec.ofInt 32 v)

/-- Fields of registers. -/
def Dev.fld (d : Dev) (a : Nat) (f : Fld) : Nat := if f.lo + f.w ≤ 16 then f.of (d.rn a) else f.of (d.rn32 a)
def Dev.setFld (d : Dev) (a : Nat) (f : Fld) (v : Nat) : Dev :=
  if f.lo + f.w ≤ 16 then d.wn a (f.put (d.rn a) v) else d.wn32 a (f.put (d.rn32 a) v)
def Dev.flag (d : Dev) (a : Nat) (f : Fld) : Bool := d.fld a f ≠ 0
def Dev.setFlag (d : Dev) (a : Nat) (f : Fld) (b : Bool) : Dev := d.setFld a f (if b then 1 else 0)

/-- Bit `i` of a mask of one or more words. -/
def Dev.mbit (d : Dev) (a i : Nat) : Bool := (d.rd (a + 2 * (i / 16))).getLsbD (i % 16)
def Dev.setMbit (d : Dev) (a i : Nat) (b : Bool) : Dev :=
  let k := a + 2 * (i / 16)
  let m : Word := (1 : Word) <<< (i % 16)
  d.wr k (if b then d.rd k ||| m else d.rd k &&& ~~~m)

/-- Counters that saturate at 0xFFFF, and counters that wrap. -/
def Dev.bump (d : Dev) (a : Nat) : Dev := d.wr a (satInc (d.rd a))
def Dev.bumpBy (d : Dev) (a n : Nat) : Dev := d.wr a (satAdd (d.rd a) n)
def Dev.bumpWrap (d : Dev) (a : Nat) : Dev := d.wr a (d.rd a + 1)

/-- Clear several registers. -/
def Dev.zero (d : Dev) (as : List Nat) : Dev := as.foldl (fun e a => e.wr a 0) d

/-- Apply a step when a condition holds. -/
def Dev.when (d : Dev) (b : Bool) (f : Dev → Dev) : Dev := if b then f d else d

/-- A free value of `w` bits: nothing constrains it (log entry 2). -/
def Dev.free (d : Dev) (w : Nat) : BitVec w × Dev :=
  (BitVec.ofNat w (Config.free d.freeCount), { d with freeCount := d.freeCount + 1 })

/-- A step of the device that always answers a next state. -/
def State.step1 (s : State) (f : Dev → Dev) : Host.Outcome State Fault Refusal := .next { s with dev := f s.dev }

/-! ## Byte memories -/

/-- A byte of a canonical memory; an unlisted address reads 0 (R252; NV: log entry 3). -/
def cellGet (m : List Host.Cell) (a : Nat) : Byte := (lookupKey a m).getD 0

/-- Write a byte, keeping the canonical form. -/
def cellSet (m : List Host.Cell) (a : Nat) (v : Byte) : List Host.Cell :=
  if v = 0 then eraseKey a m else insertKey a v (eraseKey a m)

/-- The canonical form of a memory. -/
def cellWf (m : List Host.Cell) : Bool := m.Pairwise (fun x y => x.1 < y.1) ∧ ∀ c ∈ m, c.2 ≠ 0

/-- Read and write runs of bytes. -/
def cellRead (m : List Host.Cell) (a : Nat) : Nat → List Byte
  | 0 => []
  | n + 1 => cellGet m a :: cellRead m (a + 1) n
def cellWrite (m : List Host.Cell) (a : Nat) : List Byte → List Host.Cell
  | [] => m
  | b :: bs => cellWrite (cellSet m a b) (a + 1) bs

/-- Little-endian values in a memory. -/
def cellVal (m : List Host.Cell) (a n : Nat) : Nat := valLE (cellRead m a n)

/-! ## Device state -/

/-- States of CFG_DSTATE.STATE (R338). -/
abbrev dsIdle : Nat := 0
abbrev dsRun : Nat := 1
abbrev dsLifeline : Nat := 2
abbrev dsLatched : Nat := 3

def Dev.dstate (d : Dev) : Nat := d.fld CFG_DSTATE CFG_DSTATE.STATE
def Dev.latched (d : Dev) : Bool := d.dstate = dsLatched
def Dev.isUp (d : Dev) : Bool := d.boot.phase = .up && !d.latched

/-- The device is past t7 of the boot path (R334), or in LATCHED (R335). -/
def Dev.pastLock (d : Dev) : Bool :=
  d.latched || d.boot.phase = .nvCheck || d.boot.phase = .loading || d.boot.phase = .loaded || d.boot.phase = .up

/-- The core domain has been released: from t3 of the boot path, outside NEWT (R334, R340). -/
def Dev.coreOn (d : Dev) : Bool :=
  d.latched ||
    match d.boot.phase with
    | .dark | .hb0 | .hb1 | .newt => false
    | _ => true

/-- The ports answer: from t7 on, and in LATCHED, while VIO is there (R334, R335, R451). -/
def Dev.portsAnswer (d : Dev) : Bool := d.pastLock && d.pins.vio

/-- A read by an accessor is answered: on a port while the ports answer; a furrow reads whenever it runs. -/
def Dev.mayRead (d : Dev) (acc : Acc) : Bool :=
  match acc with
  | .port _ => d.portsAnswer
  | .furrow _ => true

/-- Levels of the XENn pins: they fall to their pull-downs without VIO (R440, R451). -/
def Dev.xenPins (d : Dev) : Vector Bool 16 := if d.pins.vio then d.pins.xen else Vector.replicate 16 false

/-- The timebase runs (R334, R388). -/
def Dev.tbRuns (d : Dev) : Bool := d.pastLock && !d.latched

/-- The image is loaded and the blocks run: after the loader, outside NEWT and LATCHED (R334, R409). -/
def Dev.blocksRun (d : Dev) : Bool := !d.latched && (decide (d.boot.phase = .loaded) || decide (d.boot.phase = .up))

/-- NV writes are refused by temperature (R355), and the brown-out flag is set (R346). -/
def Dev.nvInhibit (d : Dev) : Bool := d.flag TH_STATUS TH_STATUS.NVINH
def Dev.bof (d : Dev) : Bool := d.flag CFG_DSTATE CFG_DSTATE.BOF

/-- NVWAIT: the boot stands at t8 while the brown-out flag or the inhibit is set (R336). -/
def Dev.syncWait (d : Dev) : Dev :=
  if d.boot.phase = .nvCheck && !d.latched then d.setFlag CFG_DSTATE CFG_DSTATE.NVWAIT (d.bof || d.nvInhibit) else d

/-- The timebase as a number of ticks. -/
def Dev.now (d : Dev) : Nat := d.clock.tb.toNat

/-- The declared frequency of the reference, kHz: a blank field acts as 25,000 (R3, R379). -/
def Dev.refKhz (d : Dev) : Nat := match d.cfg.refKhz with
  | some f => f.toNat
  | none => 25000

/-- Operating time: seconds, and the fraction in 1/65,536 s (R368). -/
def Dev.opSec (d : Dev) : Nat := d.clock.op / 65536
def Dev.opFract (d : Dev) : Nat := d.clock.op % 65536

/-- The completion stamp of R295. -/
def Dev.stamp (d : Dev) : BitVec 32 := BitVec.ofNat 32 (d.opSec % 2 ^ 24 * 256 + d.opFract / 256)

/-! ## Furrows and their queues -/

def Dev.fur (d : Dev) (f : Furrow) : FurrowSt := d.engine.furrows[f]
def Dev.setFur (d : Dev) (f : Furrow) (x : FurrowSt) : Dev :=
  { d with engine := { d.engine with furrows := d.engine.furrows.set f x } }
def Dev.modFur (d : Dev) (f : Furrow) (g : FurrowSt → FurrowSt) : Dev := d.setFur f (g (d.fur f))

/-- Post event `e` to furrow `f` (R255, R417): nothing for a furrow that is DISABLED, STOPPED or FAULTED, nor for an
event that already waits; a full queue sets EVQOVF and counts. -/
def Dev.postEvent (d : Dev) (f : Furrow) (e : Nat) : Dev :=
  let x := d.fur f
  if x.st = .disabled ∨ x.st = .stopped ∨ x.st = .faulted then d
  else if BitVec.ofNat 9 e ∈ x.queue then d
  else if 16 ≤ x.queue.length then (d.setFlag KE_STICKY KE_STICKY.EVQOVF true).bump KE_EVQOVCNT
  else d.modFur f fun x => { x with queue := x.queue ++ [BitVec.ofNat 9 e] }

/-! ## The recorder (R367 to R374) -/

/-- Bytes 0 to 29 of a record (R368). -/
def Rec.body (r : Rec) : List Byte :=
  bytesLE 4 r.seq.toNat ++ bytesLE 4 r.sec.toNat ++ bytesLE 2 r.fract.toNat ++ bytesLE 3 r.pcycle.toNat ++
    [if r.clean then 0x80 else 0, r.type, r.arg] ++ (r.data ++ List.replicate 14 0).take 14

/-- The 32 bytes of a record: CHECK is the low half of the CRC-32 of the others. -/
def Rec.bytes (r : Rec) : List Byte := r.body ++ bytesLE 2 (crc32 r.body).toNat

/-- Event-ring and snapshot-ring addresses in NV (R353, R369, R370). -/
def recAddr (seq : Nat) : Nat := 0x48000 + 32 * (seq % 3072)
def snapAddr (num : Nat) : Nat := 0x60000 + 512 * (num % 128)

/-- Write bytes to NV. -/
def Dev.nvWrite (d : Dev) (a : Nat) (bs : List Byte) : Dev :=
  { d with cfg := { d.cfg with nv := cellWrite d.cfg.nv a bs, nvWrites := d.cfg.nvWrites + 1 } }

/-- A block whose read-back has failed after its retry: what its 64 bytes hold is free (R354; log entry 156). -/
def Dev.nvSpoil (d : Dev) (a : Nat) : Dev :=
  let (x, d) := d.free 512
  d.nvWrite (a / 64 * 64) (bytesLE 64 x.toNat)

/-- A block that the device writes for itself: its read-back is outstanding (R354). -/
def Dev.nvMade (d : Dev) (j : NvJob) : Dev :=
  { d with cfg := { d.cfg with nvWrites := d.cfg.nvWrites + 1, checks := d.cfg.checks ++ [j] } }

/-- The copy of a block that the next write replaces: one whose check fails, else the one with the older sequence number. -/
def olderCopy {α : Type} (cs : Vector (NvCopy α) 2) : Fin 2 :=
  if !cs[0].good then 0 else if !cs[1].good then 1 else if cs[0].seq.toNat ≤ cs[1].seq.toNat then 0 else 1

/-- The copies after a write of `v` (R222, R358), and after one whose read-backs failed (R354). -/
def writeCopy {α : Type} (cs : Vector (NvCopy α) 2) (v : α) : Vector (NvCopy α) 2 :=
  cs.set (olderCopy cs) { good := true, seq := BitVec.ofNat 32 (max cs[0].seq.toNat cs[1].seq.toNat + 1), val := v }
def spoilCopy {α : Type} (cs : Vector (NvCopy α) 2) (i : Fin 2) : Vector (NvCopy α) 2 := cs.set i { cs[i] with good := false }

/-- What the copies give at a start: the valid one with the newer sequence number, or `dflt` where neither is valid (log
entry 151). -/
def governs {α : Type} (cs : Vector (NvCopy α) 2) (dflt : α) : α :=
  let x := cs[1 - olderCopy cs]
  let y := cs[olderCopy cs]
  if x.good then x.val else if y.good then y.val else dflt

/-- REC_STATUS follows the buffer, the staged snapshots and the flush. -/
def Dev.syncRec (d : Dev) : Dev :=
  let d := d.setFld REC_STATUS REC_STATUS.BUFCNT d.recorder.buf.length
  let d := d.setFld REC_STATUS REC_STATUS.SNAPPEND d.recorder.snaps.length
  d.setFlag REC_STATUS REC_STATUS.FLUSHING d.recorder.flushing

/-- The sequence mark is written where a write of it is due and the inhibit does not hold it (R346, R355). -/
def Dev.putMark (d : Dev) : Dev :=
  let r := d.recorder
  if !r.markDue || d.nvInhibit then d
  else ({ d with recorder := { r with markNv := writeCopy r.markNv r.mark, markDue := false } }).nvMade (.mark (olderCopy r.markNv))

/-- Give the next record its number, writing the sequence mark first when R372 asks for it. -/
def Dev.takeSeq (d : Dev) : BitVec 32 × Dev :=
  let r := d.recorder
  let n := r.next
  let mark : SeqMark := if r.clean then { m := n + 256, s := n } else if n = r.mark.m then { r.mark with m := n + 256 } else r.mark
  let due := r.markDue || r.clean || decide (n = r.mark.m)
  (n, ({ d with recorder := { r with next := n + 1, mark := mark, markDue := due, clean := false } }).putMark)

/-- The rings' bounds after record `n` is held (R375): at most 3,072 records are held. -/
def Dev.holdRecord (d : Dev) (n : BitVec 32) : Dev :=
  let first := !d.recorder.anyRec
  let d := { d with recorder := { d.recorder with anyRec := true } }
  let d := d.wr32 REC_NEWEST n
  if first then d.wr32 REC_OLDEST n
  else if 3071 < (n - d.rd32 REC_OLDEST).toNat then d.wr32 REC_OLDEST (n - 3071) else d

/-- In LATCHED by REFBOOT no record is made or written (R335). -/
def Dev.recordsOff (d : Dev) : Bool := decide (d.fld CFG_DSTATE CFG_DSTATE.LCAUSE = 4)

/-- A record goes to NV as soon as it is buffered: while the brown-out flag stays set after the ring stage of the flush, and
the inhibit does not hold it (R347, R355, R376). -/
def Dev.atOnce (d : Dev) : Bool :=
  d.bof && (!d.flag CFG_DSTATE CFG_DSTATE.FLUSHING || d.recorder.ringDone) && !d.nvInhibit && !d.recordsOff

/-- The bytes that a write of one record alone puts at its place: the second half of its block, not yet filled, is blank
(R370). -/
def Rec.place (r : Rec) : List Byte := if r.seq.toNat % 2 = 0 then r.bytes ++ List.replicate 32 0 else r.bytes

/-- The buffered records go to NV, oldest first, where they are written as soon as they are made. -/
def Dev.putBuffer (d : Dev) : Dev :=
  if !d.atOnce then d
  else
    let rs := d.recorder.buf
    let d := rs.foldl (fun (d : Dev) (r : Rec) =>
      ({ d with cfg := { d.cfg with nv := cellWrite d.cfg.nv (recAddr r.seq.toNat) r.place } }).nvMade (.record (recAddr r.seq.toNat))) d
    { d with recorder := { d.recorder with buf := [] } }

/-- Make a record with the next number and buffer it. A full buffer drops it, which keeps its number (R374). No event is
raised here. -/
def Dev.bufferRec (d : Dev) (type arg : Byte) (data : List Byte) : Dev :=
  if d.recordsOff then d
  else
  let (n, d) := d.takeSeq
  let r : Rec := { seq := n, sec := BitVec.ofNat 32 d.opSec, fract := BitVec.ofNat 16 d.opFract,
                   pcycle := d.clock.pcycle, clean := false, type := type, arg := arg, data := data }
  if 512 ≤ d.recorder.buf.length then
    let run := match d.recorder.dropped with
      | some (a, _) => some (a, n)
      | none => some (n, n)
    ((({ d with recorder := { d.recorder with dropped := run } }).bump REC_DROPCNT).setFlag REC_STICKY
      REC_STICKY.DROP true)
  else ((({ d with recorder := { d.recorder with buf := d.recorder.buf ++ [r] } }).putBuffer).holdRecord n).syncRec

/-! ## Loops, phases and the rails of a link (R28, R81) -/

/-- The loop that a value of PH_CFG.LOOP names; 12 to 15 name none (R28, R68). -/
def loopOf (v : Nat) : Option Loop := if h : v < 12 then some ⟨v, h⟩ else none

/-- The loop of a phase, and the phases of a loop. -/
def Dev.phaseLoop (d : Dev) (m : Phase) : Option Loop := loopOf (d.fld (PH_CFG m) PH_CFG.LOOP)
def Dev.phasesOf (d : Dev) (n : Loop) : List Phase := (List.finRange 24).filter fun m => d.phaseLoop m = some n

/-- Whether loop `n` names rail `r` of link `k` and has a phase (R81). -/
def Dev.claims (d : Dev) (n : Loop) (k : Link) (r : Fin 4) : Bool :=
  d.fld (LP_CFG n) LP_CFG.LINK = k.val && d.fld (LP_CFG n) LP_CFG.LINKRAIL = r.val && !(d.phasesOf n).isEmpty

/-- The loop mapped to rail `r` of link `k`: the lowest that claims it (R81). -/
def Dev.railLoop (d : Dev) (k : Link) (r : Fin 4) : Option Loop := (List.finRange 12).find? fun n => d.claims n k r

/-- VL_STATUS as it reads: RAILMAP and MAPCONF follow the mapping (R81, R93). -/
def Dev.viewVlStatus (d : Dev) (k : Link) : Word :=
  let map := (List.finRange 4).foldl (fun a r => if (d.railLoop k r).isSome then a + 2 ^ r.val else a) 0
  let conf := (List.finRange 4).any fun r => 1 < ((List.finRange 12).filter fun n => d.claims n k r).length
  BitVec.ofNat 16 (VL_STATUS.MAPCONF.put (VL_STATUS.RAILMAP.put (d.rn (VL_STATUS k)) map) (if conf then 1 else 0))

/-! ## Events (R415 to R422) -/

/-- Whether event `e` is pending. -/
def Dev.evtPending (d : Dev) (e : Nat) : Bool := d.mbit (EVT_STAT 0) e

/-- The status and sticky register that an EVENT record carries (R368, R419): those of the block that owns the event's
range; 0 where the block has none (log entry 12). -/
def evtBlock (e : Nat) : Option Nat × Option Nat :=
  if e < 8 then (some CFG_DSTATE, none)
  else if e < 9 then (none, some KE_STICKY)
  else if e < 16 then (some CFG_STATUS, some CFG_STICKY)
  else if e < 24 then (some (HP_STATUS 0), some (HP_STICKY 0))
  else if e < 32 then (some HOP_STATUS, some HOP_STICKY)
  else if e < 40 then (some CLK_STATUS, some CLK_STICKY)
  else if e < 48 then (some WDG_STATUS, some WDG_STICKY)
  else if e < 96 then (some (LP_STATUS ((e - 48) / 4)), some (LP_STICKY ((e - 48) / 4)))
  else if e < 112 then (some (VL_STATUS ((e - 96) / 4)), some (VL_STICKY ((e - 96) / 4)))
  else if e < 128 then (some BG_STATUS, some BG_STICKY)
  else if e < 148 then (some SEQ_STATUS, some SEQ_STICKY)
  else if e < 192 then (some MS_STATUS, some MS_STICKY)
  else if e < 208 then (some CHG_STATUS, some CHG_STICKY)
  else if e < 214 ∨ e = 220 ∨ e = 223 then (some PK_STATUS, some PK_STICKY)
  else if e < 224 then (some GG_STATUS, some GG_STICKY)
  else if e < 240 then (some TH_STATUS, some TH_STICKY)
  else if e < 248 then (some REC_STATUS, some REC_STICKY)
  else (none, none)

/-- A status or sticky register as a read shows it: of those that records carry only VL_STATUS shows more than it stores. -/
def Dev.statusWord (d : Dev) (a : Nat) : Word :=
  let k : Link := Fin.ofNat 4 ((a - VL_STATUS 0) / 0x40)
  if a = VL_STATUS k then d.viewVlStatus k else d.rd a

/-- DATA of the EVENT record of event `e` with the block words given (R368). -/
def Dev.evtData (d : Dev) (blk : Option Nat × Option Nat) : List Byte :=
  let w (o : Option Nat) : List Byte := bytesLE 2 (match o with | some a => (d.statusWord a).toNat | none => 0)
  w blk.1 ++ w blk.2 ++ bytesLE 1 d.dstate ++ bytesLE 1 (d.fld SEQ_STATUS SEQ_STATUS.STATE) ++
    bytesLE 2 (d.rn BG_PTOT) ++ bytesLE 2 (d.rn BG_VBUS) ++ bytesLE 2 (d.rn TH_DIEMAX)

/-- The status bit and the post of a raise (R415 steps 1 and 2). -/
def Dev.evtSetPost (d : Dev) (e : Nat) : Dev :=
  let d := d.setMbit (EVT_STAT 0) e true
  if d.routesLive && d.engine.started && d.flag (routeKey e) EVT_ROUTE.FEN then
    d.postEvent (Fin.ofNat 16 (d.fld (routeKey e) EVT_ROUTE.FURROW)) e
  else d

/-- Whether a raise of `e` that finds its status bit as `was` is recorded (R419, R422). What is recorded whatever its routing
is so before the routes are loaded too (R386, R407; log entry 50). -/
def Dev.evtRecorded (d : Dev) (e : Nat) (was always : Bool) : Bool :=
  always || (d.routesLive &&
    match d.fld (routeKey e) EVT_ROUTE.REC with
    | 0 => false
    | 1 => !was
    | _ => true)

/-- One raise whose record starts no flush: used for events that the recorder itself raises. -/
def Dev.raisePlain (d : Dev) (e : Nat) : Dev :=
  let was := d.evtPending e
  let d := d.evtSetPost e
  if d.evtRecorded e was false then d.bufferRec 0x01 (BitVec.ofNat 8 e) (d.evtData (evtBlock e)) else d

/-- A flush of the recorder from its ring stage on (R370): it ends with REC_FLUSH_DONE or FLUSH_DONE. -/
def Dev.beginFlush (d : Dev) : Dev :=
  ({ d with recorder := { d.recorder with flushing := true, ringDone := false, snapAt := 0, failed := false, again := false } }).syncRec

/-- A flush is asked for: one under way takes what is there, unless its ring stage has ended; then a new one follows (R376). -/
def Dev.startFlush (d : Dev) : Dev :=
  if !d.recorder.flushing then d.beginFlush
  else if d.recorder.ringDone then { d with recorder := { d.recorder with again := true } }
  else d

/-- Buffer a record, and raise BUFFER_HIGH and flush when the buffer reaches 384 (R370). -/
def Dev.record (d : Dev) (type arg : Byte) (data : List Byte) : Dev :=
  let before := d.recorder.buf.length
  let d := d.bufferRec type arg data
  if before < 384 && 384 ≤ d.recorder.buf.length then
    ((d.setFlag REC_STICKY REC_STICKY.HIGH true).startFlush).raisePlain 244
  else d

/-- Raise event `e` with the block words of `blk`; `always` is the record "whatever its routing" (R415, R419). -/
def Dev.raiseWith (d : Dev) (e : Nat) (blk : Option Nat × Option Nat) (always : Bool) : Dev :=
  let was := d.evtPending e
  let d := d.evtSetPost e
  if d.evtRecorded e was always then d.record 0x01 (BitVec.ofNat 8 e) (d.evtData blk) else d

/-- Raise event `e` (R415). -/
def Dev.raise (d : Dev) (e : Nat) : Dev := d.raiseWith e (evtBlock e) false

/-- Raise an event of a host port (EV016 to EV023), whose record carries that port's words. -/
def Dev.raisePort (d : Dev) (p : Port) (e : Nat) : Dev :=
  d.raiseWith e (some (HP_STATUS p), some (HP_STICKY p)) false

/-- Order of events raised in one instant (R420): highest priority first, then lowest number. -/
def Dev.evtBefore (d : Dev) (x y : Nat) : Bool :=
  let px := d.fld (routeKey x) EVT_ROUTE.PRIO
  let py := d.fld (routeKey y) EVT_ROUTE.PRIO
  py < px || (px = py && x ≤ y)

def Dev.insertEvt (d : Dev) (e : Nat) : List Nat → List Nat
  | [] => [e]
  | x :: xs => if d.evtBefore e x then e :: x :: xs else x :: d.insertEvt e xs

/-- Raise several events in one instant, in the order of R420. -/
def Dev.raiseAll (d : Dev) (es : List Nat) : Dev :=
  (es.foldr (fun e l => d.insertEvt e l) []).foldl Dev.raise d

/-! ## The hopper (R289, R294 to R301) -/

/-- Items in flight (R289). -/
def Dev.inFlight (d : Dev) : List Item := d.hopper.items.filter (fun i => i.stage ≠ .done)

/-- The in-flight item under a tag. -/
def Dev.item (d : Dev) (tag : Tag) : Option Item := d.inFlight.find? (fun i => i.tag = tag)

/-- Whether some furrow holds a tag (R258). -/
def Dev.tagHeld (d : Dev) (tag : Tag) : Bool := d.engine.furrows.toList.any (fun x => decide (tag ∈ x.held))

/-- HOP_STATUS.INFLIGHT follows the items. -/
def Dev.syncHop (d : Dev) : Dev := d.setFld HOP_STATUS HOP_STATUS.INFLIGHT d.inFlight.length

/-- The furrow that DISPATCH maps code 0x80 + i to (R257, R265). -/
def Dev.dispatchOf (d : Dev) (code : Byte) : Option Furrow :=
  match d.engine.dispatch[code.toNat - 0x80]? with
  | some b => if b.getLsbD 7 then some (Fin.ofNat 16 (b.toNat % 16)) else none
  | none => none

/-- The function of an item, on which DISABLE acts (R291, R300). -/
def Dev.fnOf (d : Dev) (i : Item) : Option (Fin 32) :=
  let c := i.code.toNat
  if 0x10 ≤ c ∧ c ≤ 0x13 then some 12
  else if c = 0x18 then (if i.args[0].toNat < 12 then some (Fin.ofNat 32 i.args[0].toNat) else none)
  else if 0x20 ≤ c ∧ c ≤ 0x24 then some 13
  else if c = 0x38 ∨ c = 0x39 then some 14
  else if 0x80 ≤ c then (d.dispatchOf i.code).map (fun f => Fin.ofNat 32 (16 + f.val))
  else none

/-- Unread records of reader `r`. -/
def Dev.unread (d : Dev) (r : Fin 4) : Nat := (d.rd HOP_CWR - d.hopper.crd[r]).toNat

/-- A reader more than 256 records behind moves to the oldest record; READER_OVERRUN is raised with it (R298). -/
def Dev.overrun (d : Dev) (r : Fin 4) : Dev :=
  if 256 < d.unread r then
    let skip := d.unread r - 256
    let d := { d with hopper := { d.hopper with crd := d.hopper.crd.set r (d.rd HOP_CWR - 256),
                                                ovr := d.hopper.ovr.set r true } }
    (d.setFlag HOP_STICKY HOP_STICKY.OVR true).bumpBy HOP_OVRCNT skip
  else d

/-- The bytes of a completion record (R294). -/
def Completion.bytes (c : Completion) : List Byte :=
  bytesLE 1 c.tag.val ++ bytesLE 1 (c.status.toNat + 64 * c.source.val) ++ bytesLE 2 c.cookie.toNat ++
    bytesLE 8 c.result.toNat ++ bytesLE 4 c.stamp.toNat

/-- Write a completion record to the ring and raise COMPLETION; readers left behind are moved in the same instant (R297, R298,
R420). -/
def Dev.pushCompletion (d : Dev) (c : Completion) : Dev :=
  let d := { d with hopper := { d.hopper with ring := (c :: d.hopper.ring).take 256 } }
  let d := d.bumpWrap HOP_CWR
  let late := (List.finRange 4).filter fun r => decide (256 < d.unread r)
  ((((d.overrun 0).overrun 1).overrun 2).overrun 3).raiseAll (24 :: late.map fun _ => 25)

/-- Remove the entry of a tag from every furrow's queue. -/
def Dev.unqueue (d : Dev) (tag : Tag) : Dev :=
  { d with engine := { d.engine with furrows := d.engine.furrows.map fun x =>
      { x with queue := x.queue.filter (fun e => e ≠ BitVec.ofNat 9 (256 + tag.val)) } } }

/-- Record the completion of the in-flight item under `tag`: the first completion stands, a later one finds nothing.
The journal close becomes due (R303); FLAGS.NOTE copies the record to the recorder (R295). Drains are settled by
`complete`. -/
def Dev.completeOne (d : Dev) (tag : Tag) (status : Nat) (result : BitVec 64) : Dev :=
  match d.item tag with
  | none => d
  | some i =>
    let c : Completion := { tag := tag, status := BitVec.ofNat 6 status, source := i.source, cookie := i.cookie,
                            result := result, stamp := d.stamp }
    let items := if d.tagHeld tag
      then d.hopper.items.map (fun j => if j.tag = tag then { j with stage := .done } else j)
      else d.hopper.items.filter (fun j => j.tag ≠ tag)
    let d := d.unqueue tag
    let d := { d with hopper := { d.hopper with items := items,
                                                closes := d.hopper.closes ++ [(tag, BitVec.ofNat 6 status)] } }
    let d := d.syncHop
    let d := d.when (i.flags.getLsbD 0) fun d => d.record 0x06 0 (c.bytes.take 12)
    d.pushCompletion c

/-- Whether an in-flight item belongs to function `fn`. -/
def Dev.fnBusy (d : Dev) (fn : Fin 32) : Bool := d.inFlight.any (fun i => d.fnOf i = some fn)

/-- A drain whose function has no item left in flight ends, and its DISABLE completes DONE (R301 step 4). -/
def Dev.settleDrains (d : Dev) : Dev :=
  d.hopper.drains.foldl (fun d x =>
    if d.fnBusy x.fn then d
    else
      let d := { d with hopper := { d.hopper with drains := d.hopper.drains.filter (fun y => y.fn ≠ x.fn) } }
      let d := d.setMbit HOP_FNDRAIN x.fn false
      d.completeOne x.tag 0x00 (BitVec.ofNat 64 (x.atStart + 2 ^ 32 * x.ended))) d

/-- Complete the in-flight item under `tag` with a status and a result (R296, R297), and settle the drains. -/
def Dev.complete (d : Dev) (tag : Tag) (status : Nat) (result : BitVec 64) : Dev :=
  (d.completeOne tag status result).settleDrains

/-- A result of two 32-bit halves (R291). -/
def result2 (lo hi : Nat) : BitVec 64 := BitVec.ofNat 64 (lo % 2 ^ 32 + 2 ^ 32 * (hi % 2 ^ 32))

/-- Complete several items of one instant in rising tag order (R306). -/
def Dev.completeEach (d : Dev) (ts : List (Tag × Nat)) : Dev :=
  (List.finRange 128).foldl (fun d t =>
    match ts.find? (fun x => x.1 = t) with
    | some x => d.complete t x.2 0
    | none => d) d
def Dev.completeAll (d : Dev) (tags : List Tag) (status : Nat) : Dev := d.completeEach (tags.map fun t => (t, status))

/-- Set the stage of an item. -/
def Dev.setStage (d : Dev) (tag : Tag) (st : ItemStage) : Dev :=
  { d with hopper := { d.hopper with
      items := d.hopper.items.map (fun i => if i.tag = tag ∧ i.stage ≠ .done then { i with stage := st } else i) } }

/-- The larger of two resets that are due (R433). -/
def PendingReset.join : PendingReset → PendingReset → PendingReset
  | .none, y => y
  | x, .none => x
  | .railCycle a, _ => .railCycle a
  | _, .railCycle b => .railCycle b
  | .engine a, .engine _ => .engine a

/-! ## Configuration status and staging (R358, R360) -/

/-- CFG_STATUS, CFG_SLOTS and the version registers show the role record as it stands (R358). -/
def Dev.syncCfg (d : Dev) : Dev :=
  let c := d.cfg
  let r := c.role
  let d := d.wn CFG_STATUS ((if r.probation then 0x8000 else 0) + r.prCount.toNat * 0x2000 +
    (if c.pendLoad then 0x1000 else 0) + (if c.safe then 0x0800 else 0) + (if c.keyLock then 0x0400 else 0) +
    r.stage.toNat * 0x20 + (if r.prevValid then 0x10 else 0))
  let d := d.wn CFG_SLOTS (c.running.val * 0x100 + r.staged.val * 0x10 + r.previous.val * 4 + r.active.val)
  ((d.wr32 CFG_ACTVER r.verActive).wr32 CFG_PREVVER r.verPrevious).wr32 CFG_STGVER r.verStaged

/-- A role-record write that has ended with a good read-back (R354, R358). -/
def Dev.setRole (d : Dev) (r : RoleRec) : Dev :=
  ({ d with cfg := { d.cfg with
    role := r, roleNv := writeCopy d.cfg.roleNv r, roleDue := false, nvWrites := d.cfg.nvWrites + 1 } }).syncCfg

/-- The device's own role-record write, where NV writes are allowed: its read-back is outstanding. -/
def Dev.roleResume (d : Dev) : Dev :=
  if d.nvInhibit || d.bof || !d.cfg.roleDue then d
  else ({ d with cfg := { d.cfg with roleNv := writeCopy d.cfg.roleNv d.cfg.role, roleDue := false } }).nvMade
    (.role (olderCopy d.cfg.roleNv))

/-- The device changes the role record by itself. Its write waits while NV writes are refused (R346, R355). -/
def Dev.ownRole (d : Dev) (r : RoleRec) : Dev :=
  ({ d with cfg := { d.cfg with role := r, roleDue := true } }).syncCfg.roleResume

/-- DATA of a CONFIG record (R368). -/
def cfgData (ver other : BitVec 32) (slot : Nat) : List Byte :=
  bytesLE 4 ver.toNat ++ bytesLE 4 other.toNat ++ bytesLE 1 slot

/-- A staging that is WRITING is discarded (R360). -/
def Dev.discardStaging (d : Dev) : Dev :=
  if d.cfg.role.stage = 1 then
    let r := d.cfg.role
    let d := { d with cfg := { d.cfg with opener := none } }
    let d := d.ownRole { r with stage := 0 }
    (d.setFlag CFG_STICKY CFG_STICKY.STGLOST true).record 0x08 3 (cfgData r.verStaged 0 r.staged.val)
  else d

/-! ## Ownership (R318 to R322) -/

/-- Whether port `p` is the owner. -/
def Dev.isOwner (d : Dev) (p : Port) : Bool := d.own.port = p

/-- Debug closes and halted furrows resume (R264). -/
def Dev.closeDebug (d : Dev) : Dev :=
  let d := d.setFlag KE_CTL KE_CTL.DBGEN false
  { d with engine := { d.engine with furrows := d.engine.furrows.map fun x => { x with halted := false, stepping := false } } }

/-- The registers of one accessor set that a loss of ownership clears: the submission buffer (R286) and the NV write
set (R356). -/
def ownedRegs (set : Nat) : List Nat :=
  (List.range 8).map (fun i => accKey set (HOP_SUB i)) ++ (List.range 32).map (fun i => accKey set (CFG_WBUF i)) ++
    [accKey set CFG_WOFS, accKey set (CFG_WOFS + 2), accKey set CFG_WCTL, accKey set CFG_WSTAT]

/-- A writer's set is cleared: a block write that has begun completes and is reported to nobody (R343), one that waits does not
start. -/
def Dev.dropWrites (d : Dev) (set : Nat) : Dev :=
  { d with cfg := { d.cfg with
    writes := d.cfg.writes.map fun (w : BlockWrite) => { w with set := w.set.filter fun x => x.val ≠ set }
    waits := d.cfg.waits.filter (fun w => w.val ≠ set) } }

/-- What the passing of ownership to port `p` does in the same instant (R322). A port that keeps the device changes nothing
here. -/
def Dev.passTo (d : Dev) (p : Port) : Dev :=
  let old := d.own.port
  if old = p then d
  else
    let d := { d with own := { d.own with port := p } }
    let d := { d with accs := d.accs.set old.val AccSt.init }
    let d := d.zero (ownedRegs old.val)
    let d := d.dropWrites old.val
    let d := d.closeDebug
    let d := { d with ports := d.ports.map fun (x : PortSt) => { x with ownCause := true } }
    d.when (decide (d.cfg.opener = some (Fin.ofNat 4 old.val))) Dev.discardStaging

/-- OWNER_CHANGED, where ownership passes to port `p` (R331). -/
def Dev.passEvt (d : Dev) (p : Port) : List Nat := if d.own.port = p then [] else [16]

/-- An election window opens (R319, R321): 10 ms on the timebase. -/
def Dev.windowOpen (d : Dev) : Dev := { d with own := { d.own with elect := true, electEnd := d.now + 10000 } }
def Dev.openWindow (d : Dev) : Dev := d.windowOpen.raise 17

/-- Claims that were held while an offer stood, and no window is open for them (R321). -/
def Dev.claimsHeld (d : Dev) : Bool := d.own.claims.toList.any Option.isSome && !d.own.elect

/-- The events `es` of a change of ownership are raised, with ELECTION_START where claims held while an offer stood open their
window now (R321, R420). -/
def Dev.ownEvents (d : Dev) (es : List Nat) : Dev :=
  if d.claimsHeld then d.windowOpen.raiseAll (es ++ [17]) else d.raiseAll es

/-- No port is owner under a nearly spent lease any more: the LEASE cause is absent everywhere (R326). -/
def Dev.leaseFresh (d : Dev) : Dev :=
  { d with ports := d.ports.map fun (x : PortSt) => { x with leaseCause := false, missed := x.missed &&& ~~~0x1000#16 } }

/-- Ownership is in default (R318): HP0, with no priority and no lease. A standing offer lapses (R321). -/
def Dev.ownNone (d : Dev) : Dev :=
  Dev.leaseFresh { d with own := { d.own with leased := false, prio := 0, nonce := 0, lease := 0, leaseEnd := 0, offer := none } }
/-- HANDOVER_FAILED, where an offer lapses. -/
def Dev.lapseEvt (d : Dev) : List Nat := if d.own.offer.isSome then [19] else []

/-- Ownership returns to default by a release (R320). -/
def Dev.ownDefault (d : Dev) : Dev := (d.ownNone.passTo 0).ownEvents (d.lapseEvt ++ d.passEvt 0)

/-- Ownership returns to default at the end of the lease (R320). In an election the former owner no longer counts as a
claimant, and OWNER_CHANGED waits for the decision (R330). -/
def Dev.ownExpire (d : Dev) : Dev :=
  let old := d.own.port
  if d.own.elect then
    let own := { d.own with claims := d.own.claims.set old.val none, changeDue := decide (old ≠ 0) || d.own.changeDue }
    (({ d with own := own }).ownNone.passTo 0).raiseAll (18 :: d.lapseEvt)
  else (d.ownNone.passTo 0).ownEvents (18 :: d.lapseEvt ++ d.passEvt 0)

/-- Ownership becomes leased to port `p` under a claim (R319, R321), and claims held meanwhile open their window. -/
def Dev.ownLease (d : Dev) (p : Port) (c : Claim) : Dev :=
  let d := { d with own := { d.own with leased := true, prio := c.prio, nonce := c.nonce, lease := c.lease,
                                        leaseEnd := d.now + 100000 * c.lease.toNat } }
  (d.leaseFresh.passTo p).ownEvents (d.passEvt p)

/-! ## The gate of register writes (R253, R317) -/

/-- The read-selection registers that every port may write (R317). -/
def readSelect (a : Nat) : Bool :=
  a / 2 * 2 = MS_PLANPAGE || a / 2 * 2 = EVT_RPAGE || a / 4 * 4 = REC_SEL || a / 4 * 4 = REC_SSEL || a / 2 * 2 = CFG_NVPAGE

/-- Whether port `p` may write address `a` now: the ownership block and the read-selection registers always, every
other address only the owner, after boot and outside LATCHED (R317). -/
def Dev.portMay (d : Dev) (p : Port) (a : Nat) : Bool :=
  a < 0x200 || readSelect a || (d.isOwner p && !d.flag CFG_DSTATE CFG_DSTATE.BOOT && !d.latched)

/-- A refused data byte of port `p` (R317): WRITE_REFUSED is raised once for each rise of NOTOWN. -/
def Dev.refuseWrite (d : Dev) (p : Port) : Dev :=
  let was := d.flag (HP_STICKY p) HP_STICKY.NOTOWN
  let d := (d.setFlag (HP_STICKY p) HP_STICKY.NOTOWN true).bump (HP_REFCNT p)
  d.when (!was) fun d => d.raisePort p 20

/-- Whether a furrow may write address `a` (R253): not the ID_ and HP_ blocks as R478 bounds them (log entry 154), watchdog slot 15, KE_FCTL, KE_FPC,
KE_FFLAGS, KE_KVAL and KE_MDATA. KE_CTL.DBGEN is judged with its value. -/
def furrowMay (a : Nat) : Bool :=
  !(a < 0x2C4 || (WDG_SCFG 15 ≤ a && a < WDG_SCFG 15 + 16) || (KE_MDATA ≤ a && a < KE_MDATA + 4) ||
    (0x6100 ≤ a && a < 0x6300 &&
      ((a - 0x6100) % 0x20 < 2 || ((a - 0x6100) % 0x20 / 2 = 2) || ((a - 0x6100) % 0x20 / 2 = 3) ||
        ((a - 0x6100) % 0x20 / 4 = 4))))

/-- The held bytes and shadow of an accessor (R8). -/
def Dev.accSt (d : Dev) (acc : Acc) : AccSt := d.accs[acc.index]
def Dev.modAcc (d : Dev) (acc : Acc) (g : AccSt → AccSt) : Dev :=
  { d with accs := d.accs.set acc.index (g d.accs[acc.index]) }

/-- A write of a whole value discards what its accessor holds of any value (R6, R7). -/
def Dev.dropHeld (d : Dev) (acc : Acc) : Dev := d.modAcc acc fun x => { x with held := [] }

/-- Let an accessor's write of the byte at address `a` take effect, or refuse it: a port that may not write gets NACK (R317), a
furrow's write is ignored and sets WREF (R253). Nothing happens while the ports do not answer. A refused write leaves what the
accessor holds as it is (DESIGN CHOICE, log entry 146). -/
def Dev.permit (d : Dev) (acc : Acc) (a : Nat) (eff : Dev → Dev) : Dev :=
  match acc with
  | .port p => if !d.portsAnswer then d else if d.portMay p a then eff d else d.refuseWrite p
  | .furrow _ => if furrowMay a then eff d else d.setFlag KE_STICKY KE_STICKY.WREF true

/-- The same for a write of the whole value at address `a`. -/
def Dev.gate (d : Dev) (acc : Acc) (a : Nat) (eff : Dev → Dev) : Dev := d.permit acc a fun d => eff (d.dropHeld acc)

/-- Store a word under the access table (R10): stored bits take the written value, W1C bits written 1 clear, the rest
keep theirs. -/
def Dev.storeWord (d : Dev) (key : Nat) (a : Nat) (v : Word) : Dev :=
  match rowAt a with
  | none => d
  | some r =>
    let old := d.rd key
    d.wr key (((old &&& ~~~r.stored) ||| (v &&& r.stored)) &&& ~~~(v &&& r.w1c))

end Sys2Proof.Machine
end

