-- ==== Sys2Proof/Machine/Attention.lean ====
section
/-!
DEFINITION. The causes of attention of the host ports (12_host_ports_and_ownership.md, R323, R326): what HP_ATNSTAT shows, and
which causes a miss has already reported.
-/

namespace Sys2Proof.Machine

open Sys2Proof Sys2Proof.R

def Dev.port (d : Dev) (p : Port) : PortSt := d.ports[p]
def Dev.modPort (d : Dev) (p : Port) (g : PortSt → PortSt) : Dev := { d with ports := d.ports.set p (g d.ports[p]) }

/-- Pending events whose route has the bit `bit`. -/
def Dev.routedPending (d : Dev) (bit : Nat) : List Nat :=
  (List.range 256).filter fun e => d.evtPending e && (d.rd (routeKey e)).getLsbD bit

/-- The event of highest priority, lowest number among equals (R420). -/
def Dev.topEvent (d : Dev) (es : List Nat) : Option Nat := (es.foldr (fun e l => d.insertEvt e l) []).head?

/-- Unread completions are a cause of port `p` (R326). -/
def Dev.cmplCause (d : Dev) (p : Port) : Bool :=
  d.flag (accKey p ID_PCFG) ID_PCFG.CMPLATN && 0 < d.unread ⟨p.val, by omega⟩

/-- HP_ATNSTAT of port `p` (R326). -/
def Dev.atnStat (d : Dev) (p : Port) : Word :=
  let ev := d.topEvent (d.routedPending (4 + p.val))
  let x := d.port p
  BitVec.ofNat 16 ((if x.leaseCause && d.own.leased && d.isOwner p then 0x1000 else 0) +
    (if d.own.elect then 0x0800 else 0) + (if x.ownCause then 0x0400 else 0) +
    (if d.cmplCause p then 0x0200 else 0) + (match ev with | some e => 0x0100 + e | none => 0))

/-- Bits 8 to 12 of HP_ATNSTAT: the causes present. -/
def Dev.causes (d : Dev) (p : Port) : Word := d.atnStat p &&& 0x1F00#16

/-- A cause that is no longer present counts as new when it arises again (R323). -/
def Dev.trimPort (d : Dev) (p : Port) : Dev :=
  if (d.port p).missed = 0 then d else d.modPort p fun x => { x with missed := x.missed &&& d.causes p }
def Dev.trimMissed (d : Dev) : Dev := ((d.trimPort 0).trimPort 1).trimPort 2

/-- Port `p` has read the high byte of its HP_ATNSTAT: OWN clears (R326). -/
def Dev.seenOwn (d : Dev) (p : Port) : Dev :=
  d.modPort p fun x => { x with ownCause := false, missed := x.missed &&& ~~~0x0400#16 }

end Sys2Proof.Machine
end

