-- ==== Sys2Proof/Machine/Words.lean ====
section
/-!
DEFINITION. The instruction words of CODE (R269, R270): the command that a word spells, by the opcode map of R270 and the
fields of R273 to R282.
-/

namespace Sys2Proof.Machine

open Sys2Proof

/-- The command that word `w` spells when furrow `f` issues it; none for an illegal word (R270). -/
def kDecode (f : Furrow) (w : BitVec 32) : Option Instr :=
  let d : KReg := Fin.ofNat 16 (kD w)
  let a : KReg := Fin.ofNat 16 (kA w)
  let b : KReg := Fin.ofNat 16 (kB w)
  let sh : BitVec 5 := BitVec.ofNat 5 (kSh w)
  let imm : BitVec 16 := BitVec.ofNat 16 (kImm w)
  let n5 : BitVec 5 := BitVec.ofNat 5 (kImm w)
  let target : BitVec 14 := BitVec.ofNat 14 (kImm w)
  let slot : WSlot := Fin.ofNat 16 (kImm w)
  let m : MAddr := if kM w % 2 = 0 then .abs imm else .idx a imm
  let src : TSrc := if kM w % 2 = 0 then .imm imm else .reg a
  if !kLegal w then none
  else match kOp w with
    | 0x01 => some (.nop f)
    | 0x02 => some (.add f d a b)
    | 0x03 => some (.adds f d a b)
    | 0x04 => some (.sub f d a b)
    | 0x05 => some (.subs f d a b)
    | 0x06 => some (.and f d a b)
    | 0x07 => some (.or f d a b)
    | 0x08 => some (.xor f d a b)
    | 0x09 => some (.shl f d a b)
    | 0x0A => some (.shr f d a b)
    | 0x0B => some (.sar f d a b)
    | 0x0C => some (.cmp f a b)
    | 0x0D => some (.min f d a b)
    | 0x0E => some (.max f d a b)
    | 0x0F => some (.mul f d a b)
    | 0x10 => some (.mulq f d a b sh)
    | 0x11 => some (.mac f d a b sh)
    | 0x12 => some (.msu f d a b sh)
    | 0x13 => some (.abs f d a)
    | 0x14 => some (.neg f d a)
    | 0x18 => some (.movi f d imm)
    | 0x19 => some (.movhi f d imm)
    | 0x1A => some (.addi f d a imm)
    | 0x1B => some (.andi f d a imm)
    | 0x1C => some (.ori f d a imm)
    | 0x1D => some (.xori f d a imm)
    | 0x1E => some (.cmpi f a imm)
    | 0x1F => some (.tsti f a imm)
    | 0x20 => some (.shli f d a n5)
    | 0x21 => some (.shri f d a n5)
    | 0x22 => some (.sari f d a n5)
    | 0x24 => some (.ldb f d m)
    | 0x25 => some (.ldbs f d m)
    | 0x26 => some (.ldh f d m)
    | 0x27 => some (.ldhs f d m)
    | 0x28 => some (.ldw f d m)
    | 0x29 => some (.stb f d m)
    | 0x2A => some (.sth f d m)
    | 0x2B => some (.stw f d m)
    | 0x2C => some (.ldr f d (2 ≤ kM w) m)
    | 0x2D => some (.str f d m)
    | 0x2E =>
      some (match kM w with
        | 0 => .atomSet f d a imm
        | 1 => .atomClr f d a imm
        | 2 => .atomAdd f d a imm
        | _ => .atomXch f d a imm)
    | 0x2F => some (.cas f d a imm)
    | 0x30 => some (.b f (BitVec.ofNat 4 (kD w)) target)
    | 0x31 => some (.call f target)
    | 0x32 => some (.ret f)
    | 0x33 => some (.jmp f a)
    | 0x34 => some (.callr f a)
    | 0x35 => some (.rdtb f d)
    | 0x36 => some (.wdc f d slot)
    | 0x37 => some (.wda f a slot)
    | 0x38 => some (.waitE f d src)
    | 0x39 => some (.waitT f src)
    | 0x3A => some (.waitTa f a)
    | 0x3B => some (.waitS f a imm)
    | 0x3C => some (if kM w < 2 then .trigS f src else .trigU f src)
    | 0x3D => some (.post f d a b)
    | 0x3E => some (.sig f (Fin.ofNat 8 (kImm w)))
    | 0x3F => some (.stop f)
    | _ => none

end Sys2Proof.Machine
end

