-- ==== Sys2Proof/Machine/Engine.lean ====
section
/-!
DEFINITION. The Kotried engine (09_kotried_engine.md): issue and scheduling, faults, queue entries and items, restart and
debug, and the commands of the KE_ block that need no other block.
-/

namespace Sys2Proof.Machine

open Sys2Proof Sys2Proof.R

/-! ## Issue (R246, R247, R251, R263, R264) -/

/-- The engine runs: after t11, outside NEWT and LATCHED (R263). -/
def Dev.engineOn (d : Dev) : Bool := d.isUp && d.engine.started

/-- The furrow could issue: READY, and not halted unless one step is allowed (R246, R264). -/
def FurrowSt.issuable (x : FurrowSt) : Bool := x.st = .ready && (!x.halted || x.stepping)

/-- Furrow `i` of core `c` (R244). -/
def coreFurrow (c i : Fin 4) : Furrow := Fin.ofNat 16 (4 * c.val + i.val)

/-- The core of a furrow, and its place within it. -/
def coreOf (f : Furrow) : Fin 4 := Fin.ofNat 4 (f.val / 4)
def placeOf (f : Furrow) : Fin 4 := Fin.ofNat 4 (f.val % 4)

/-- Whether the core of `f` chooses `f` next (R247): the highest priority, and among equals round robin from the furrow
after the one that issued last. -/
def Dev.chosen (d : Dev) (f : Furrow) : Bool :=
  let x := d.fur f
  let last := d.engine.last[coreOf f]
  let turn (i : Fin 4) : Nat := (i.val + 7 - last.val) % 4
  x.issuable && (List.finRange 4).all fun i =>
    let y := d.fur (coreFurrow (coreOf f) i)
    i = placeOf f || !y.issuable || y.prio < x.prio || (y.prio = x.prio && turn (placeOf f) < turn i)

/-- An armed breakpoint names the furrow's address (R264). A furrow that steps passes it (log entry 21). -/
def Dev.atBreak (d : Dev) (f : Furrow) : Bool :=
  d.flag KE_CTL KE_CTL.DBGEN && !(d.fur f).stepping && (List.range 4).any fun b =>
    d.flag (KE_BRK b) KE_BRK.EN && d.fld (KE_BRK b) KE_BRK.ADDR = (d.fur f).pc.toNat &&
      (d.fld (KE_BRK b) KE_BRK.FMASK).testBit f.val

/-! ## Items and queue entries (R255, R257, R258) -/

/-- Items that a furrow no longer holds and that have completed leave the list (R258). -/
def Dev.dropDone (d : Dev) : Dev :=
  { d with hopper := { d.hopper with
      items := d.hopper.items.filter fun i => decide (i.stage ≠ .done) || d.tagHeld i.tag } }

/-- The in-flight items that furrow `f` holds, and those in its queue. -/
def Dev.itemsHeld (d : Dev) (f : Furrow) : List Tag :=
  (d.inFlight.filter fun i => i.stage = .taken f).map (·.tag)
def Dev.itemsQueued (d : Dev) (f : Furrow) : List Tag :=
  (d.inFlight.filter fun i => i.stage = .queued f).map (·.tag)

/-- The oldest queue entry goes to register `r`, and an item entry makes the furrow hold the item (R256, R258, R281). -/
def Dev.deliver (d : Dev) (f : Furrow) (r : KReg) : Dev :=
  match (d.fur f).queue with
  | [] => d
  | e :: rest =>
    let tag : Tag := Fin.ofNat 128 (e.toNat % 128)
    let isItem := e.getLsbD 8
    let d := d.modFur f fun x =>
      { x with queue := rest, k := x.k.set r (e.setWidth 32), c := false,
               held := if isItem then x.held ++ [tag] else x.held }
    d.when isItem fun d => d.setStage tag (.taken f)

/-! ## Faults (R259, R260) -/

/-- Fault causes of R259. -/
abbrev fltIllegal : Nat := 1
abbrev fltCodeAddr : Nat := 2
abbrev fltDataAddr : Nat := 3
abbrev fltAlign : Nat := 4
abbrev fltStackOvf : Nat := 5
abbrev fltStackUnf : Nat := 6
abbrev fltBadPost : Nat := 7
abbrev fltBadSeq : Nat := 8

/-- Furrow `f` faults with `cause` at its present address (R260); CHG_CTL.HOLD is cleared (R205). -/
def Dev.furrowFault (d : Dev) (f : Furrow) (cause : Nat) : Dev :=
  let x := d.fur f
  let tags := d.itemsHeld f ++ d.itemsQueued f
  let d := d.modFur f fun x =>
    { x with st := .faulted, wait := .none, fault := BitVec.ofNat 8 cause, fltpc := x.pc, queue := [], held := [] }
  let d := ((d.setFlag KE_STICKY KE_STICKY.FAULT true).bump KE_FAULTCNT).setFlag CHG_CTL CHG_CTL.HOLD false
  let d := (d.completeAll tags 0x3F).dropDone
  let d := d.raise 8
  (d.record 0x09 2 (bytesLE 1 f.val ++ bytesLE 1 cause ++ bytesLE 2 x.pc.toNat)).startFlush

/-- The instruction word at the furrow's address; none at or beyond the loaded length of CODE (R251). -/
def Dev.codeWord (d : Dev) (f : Furrow) : Option (BitVec 32) := d.engine.code[(d.fur f).pc.toNat]?

/-- The command that the word at the furrow's address spells (R269, R270). -/
def Dev.command (d : Dev) (f : Furrow) : Option Instr := (d.codeWord f).bind (kDecode f)

/-- Furrow `f` issues the word at its address, where that is the one meant (`here`), with the effect `body`. Nothing happens
when its core does not choose it, or another word stands there (log entry 133); a breakpoint halts it first (R264); an
address at or beyond the loaded length of CODE faults CODEADDR (R251). -/
def Dev.issueWord (d : Dev) (f : Furrow) (here : Bool) (body : FurrowSt → Dev → Dev) : Dev :=
  if !(d.engineOn && d.chosen f) then d
  else if d.atBreak f then d.modFur f fun x => { x with halted := true }
  else
    let e := { d with engine := { d.engine with last := d.engine.last.set (coreOf f) (placeOf f) } }
    let e := e.modFur f fun x => { x with stepping := false }
    if d.engine.code.length ≤ (d.fur f).pc.toNat then e.furrowFault f fltCodeAddr
    else if here then body (e.fur f) e
    else d

/-- Furrow `f` issues the instruction `i`. -/
def Dev.issue (d : Dev) (f : Furrow) (i : Instr) (body : FurrowSt → Dev → Dev) : Dev :=
  d.issueWord f (decide (d.command f = some i)) body

/-- The instruction ends: its furrow moves on to the next address. -/
def Dev.retire (d : Dev) (f : Furrow) (g : FurrowSt → FurrowSt) : Dev :=
  d.modFur f fun x => { g x with pc := x.pc + 1 }

/-- Move the furrow to WAITING at the next address (R248). -/
def Dev.retireWait (d : Dev) (f : Furrow) (w : Wait) (g : FurrowSt → FurrowSt) : Dev :=
  d.modFur f fun x => { g x with pc := x.pc + 1, st := .waiting, wait := w, waitAt := d.now }

/-- The wait ends and the furrow becomes READY (R246). -/
def Dev.wake (d : Dev) (f : Furrow) : Dev := d.modFur f fun x => { x with st := .ready, wait := .none }

/-- The done bit of a sequence (R164). -/
def Dev.seqDone (d : Dev) (s : SeqNo) : Bool := d.mbit (MS_SEQDONE 0) s.val

/-- The state of a furrow at its entry (R261). -/
def FurrowSt.start (x : FurrowSt) : FurrowSt :=
  { x with k := (Vector.replicate 16 0).set 0 x.k0, z := false, n := false, c := false, v := false, pc := x.entry,
           stack := [], queue := [], st := .ready, wait := .none }

/-! ## Commands -/

/-- WAIT_RESUME (R256, R281): the awaited entry, tick or done bit has arrived on the timebase or in the state; otherwise the
furrow goes on waiting. -/
def Dev.waitResume (d : Dev) (f : Furrow) : Dev :=
  let x := d.fur f
  if x.st ≠ .waiting then d
  else match x.wait with
    | .event r _ => if x.queue.isEmpty then d else (d.deliver f r).wake f
    | .ticks n => if x.waitAt + n ≤ d.now then d.wake f else d
    | .until k => if 0 ≤ (d.clock.tb.setWidth 32 - k).toInt then d.wake f else d
    | .seq s _ => if d.seqDone s then (d.modFur f fun x => { x with c := false }).wake f else d
    | _ => d

/-- WAIT_TIMEOUT (R256, R281): once the time-out's ticks have passed, C reports it; an arrival in the same tick wins. A wait
without time-out has none. -/
def Dev.waitTimeout (d : Dev) (f : Furrow) : Dev :=
  let x := d.fur f
  if x.st ≠ .waiting then d
  else match x.wait with
    | .event r t =>
      if t = 0 ∨ d.now < x.waitAt + t then d
      else if !x.queue.isEmpty then (d.deliver f r).wake f
      else (d.modFur f fun x => { x with k := x.k.set r 0x0000FFFF#32, c := true }).wake f
    | .seq s t =>
      if t = 0 ∨ d.now < x.waitAt + t then d else (d.modFur f fun x => { x with c := !d.seqDone s }).wake f
    | _ => d

/-- An item accepted before `tag` still waits for room in the queue of `f`. -/
def Dev.roomAwaited (d : Dev) (tag : Tag) (f : Furrow) : Bool :=
  (d.inFlight.takeWhile fun i => i.tag ≠ tag).any fun i => i.stage = .waitRoom f

/-- Give an item to its handler furrow, or complete it at once; items reach a queue in acceptance order (R257). -/
def Dev.handOver (d : Dev) (tag : Tag) (code : Byte) : Dev :=
  match d.dispatchOf code with
  | none => d.complete tag 0x21 0
  | some f =>
    let x := d.fur f
    if x.st = .stopped ∨ x.st = .disabled then d.complete tag 0x23 0
    else if x.st = .faulted then d.complete tag 0x3F 0
    else if 16 ≤ x.queue.length || d.roomAwaited tag f then d.setStage tag (.waitRoom f)
    else (d.modFur f fun x => { x with queue := x.queue ++ [BitVec.ofNat 9 (256 + tag.val)] }).setStage tag (.queued f)

/-- ITEM_POST_DEFERRED (R257): the oldest item that waits for room in a queue where an entry is free is posted. In LATCHED
items stay open (R306). -/
def Dev.itemPostDeferred (d : Dev) : Dev :=
  if d.latched then d
  else match d.inFlight.find? (fun i => match i.stage with
    | .waitRoom f => decide ((d.fur f).queue.length < 16)
    | _ => false) with
  | none => d
  | some i => d.handOver i.tag i.code

/-- SHED_REQUEST, which is raised again at the restart of furrows after an engine reset or a fault, while tier 4 stands and
the deficit remains (R24, R108, R115). -/
def Dev.shedEvt (d : Dev) : List Nat := if d.flag BG_STATUS BG_STATUS.T4 && decide (0 < d.rn BG_DEFICIT) then [120] else []
def Dev.shedAgain (d : Dev) : Dev := d.raiseAll d.shedEvt

/-- KE_FCTL.RESTART (R261). -/
def Dev.furrowRestart (d : Dev) (f : Furrow) : Dev :=
  let x := d.fur f
  if x.st = .stopped then d.modFur f FurrowSt.start
  else if x.st = .faulted then (d.modFur f FurrowSt.start).shedAgain
  else d

/-- Whether debug is open (R264). -/
def Dev.debugOpen (d : Dev) : Bool := d.flag KE_CTL KE_CTL.DBGEN

/-- A write of KE_CTL.DBGEN by the owner host (R264). -/
def Dev.writeDbgen (d : Dev) (en : Bool) : Dev :=
  if !en then d.closeDebug
  else if d.engine.debugGranted then d.setFlag KE_CTL KE_CTL.DBGEN true
  else d.setFlag KE_STICKY KE_STICKY.DBGREF true

/-- The word that KE_MDATA shows (R264): data memory at the byte address, 0 above it, or a code word. -/
def Dev.mdataWord (d : Dev) : BitVec 32 :=
  let a := d.rn KE_MADDR
  if d.rn KE_MCFG % 2 = 1 then (d.engine.code[a]?).getD 0
  else BitVec.ofNat 32 (if 0xA000 ≤ a then 0 else cellVal d.engine.data a 4)

/-- KE_MADDR advances by 4 bytes or 1 word after each whole access. -/
def Dev.mdataAdvance (d : Dev) : Dev := d.wn KE_MADDR (d.rn KE_MADDR + if d.rn KE_MCFG % 2 = 1 then 1 else 4)

/-- A whole write of KE_MDATA: data memory only, and only with debug open. -/
def Dev.mdataWrite (d : Dev) (v : BitVec 32) : Dev :=
  if !d.debugOpen then d
  else
    let a := d.rn KE_MADDR
    let d := if d.rn KE_MCFG % 2 = 1 ∨ 0xA000 < a + 4 then d
      else { d with engine := { d.engine with data := cellWrite d.engine.data a (bytesLE 4 v.toNat) } }
    d.mdataAdvance

def execWaitResume (f : Furrow) (s : State) : Host.Outcome State Fault Refusal := s.step1 (·.waitResume f)
def execWaitTimeout (f : Furrow) (s : State) : Host.Outcome State Fault Refusal := s.step1 (·.waitTimeout f)
def execItemPostDeferred (s : State) : Host.Outcome State Fault Refusal := s.step1 Dev.itemPostDeferred

def execFurrowRestart (acc : Acc) (f : Furrow) (s : State) : Host.Outcome State Fault Refusal :=
  s.step1 fun d => d.gate acc (KE_FCTL f) (·.furrowRestart f)

/-- KE_FCTL.HALT with debug open: the furrow halts at the end of its instruction (R264). -/
def Dev.furrowHalt (d : Dev) (f : Furrow) : Dev := d.when d.debugOpen (·.modFur f fun x => { x with halted := true })
def execFurrowHalt (acc : Acc) (f : Furrow) (s : State) : Host.Outcome State Fault Refusal :=
  s.step1 fun d => d.gate acc (KE_FCTL f) (·.furrowHalt f)

/-- KE_FCTL.RESUME with debug open (R264). -/
def Dev.furrowResume (d : Dev) (f : Furrow) : Dev :=
  d.when d.debugOpen (·.modFur f fun x => { x with halted := false, stepping := false })
def execFurrowResume (acc : Acc) (f : Furrow) (s : State) : Host.Outcome State Fault Refusal :=
  s.step1 fun d => d.gate acc (KE_FCTL f) (·.furrowResume f)

/-- KE_FCTL.STEP with debug open: the furrow issues one instruction, then halts (R264). -/
def Dev.furrowStep (d : Dev) (f : Furrow) : Dev :=
  d.when d.debugOpen (·.modFur f fun x => { x with halted := true, stepping := true })
def execFurrowStep (acc : Acc) (f : Furrow) (s : State) : Host.Outcome State Fault Refusal :=
  s.step1 fun d => d.gate acc (KE_FCTL f) (·.furrowStep f)

/-- A furrow's write of DBGEN is ignored and sets WREF (R253); the owner's follows R264. -/
def execKeDbgenWrite (acc : Acc) (en : Bool) (s : State) : Host.Outcome State Fault Refusal :=
  s.step1 fun d => d.gate acc KE_CTL fun d => match acc with
    | .furrow _ => d.setFlag KE_STICKY KE_STICKY.WREF true
    | .port _ => d.writeDbgen en

/-- KE_CTL.CNTCLR (R268). -/
def Dev.keCntclr (d : Dev) : Dev := d.zero [KE_FAULTCNT, KE_EVQOVCNT]
def execKeCntclr (acc : Acc) (s : State) : Host.Outcome State Fault Refusal := s.step1 fun d => d.gate acc KE_CTL Dev.keCntclr

/-- KE_MDATA_ACCESS (R264): the owner host writes a word, or reads the word at KE_MADDR, which goes out on its bus. A read
of the whole value releases the port's shadow of another (R8). -/
def execKeMdataAccess (p : Port) (wr : Option (BitVec 32)) (s : State) : Host.Outcome State Fault Refusal :=
  s.step1 fun d => match wr with
    | some v => d.gate (.port p) KE_MDATA (·.mdataWrite v)
    | none =>
      if d.portsAnswer && d.isOwner p && d.debugOpen then
        let w := d.mdataWord
        let d := d.modAcc (.port p) fun x => { x with shadow := none }
        ({ d with ports := d.ports.set p { d.ports[p] with tx := bytesLE 4 w.toNat } }).mdataAdvance
      else d

end Sys2Proof.Machine
end

