-- ==== Sys2Proof/Machine/Events.lean ====
section
/-!
DEFINITION. Event status and routes, and the task watchdog (17_events_and_watchdog.md).
-/

namespace Sys2Proof.Machine

open Sys2Proof Sys2Proof.R

/-! ## Events -/

/-- Clear the status bits written 1 (R416). -/
def Dev.clearStat (d : Dev) (i : Nat) (v : Word) : Dev := (d.wr (EVT_STAT i) (d.rd (EVT_STAT i) &&& ~~~v)).trimMissed

/-- Raise the software events whose bits are 1 (R421). -/
def Dev.swSet (d : Dev) (v : Word) : Dev :=
  d.raiseAll (((List.range 8).filter fun n => v.getLsbD n).map fun n => 248 + n)

/-- Write the route of event `e`: bits 1 and 0 are reserved (R417). -/
def Dev.writeRoute (d : Dev) (e : Nat) (v : Word) : Dev := (d.wr (routeKey e) (v &&& 0xFFFC#16)).trimMissed

def execEvtStatClear (acc : Acc) (i : Fin 16) (v : BitVec 16) (s : State) : Host.Outcome State Fault Refusal :=
  s.step1 fun d => d.gate acc (EVT_STAT i) (·.clearStat i v)

/-- EVT_CTL.CLRALL (R416). -/
def Dev.clrAll (d : Dev) : Dev := (d.zero ((List.range 16).map fun i => EVT_STAT i)).trimMissed
def execEvtClrall (acc : Acc) (s : State) : Host.Outcome State Fault Refusal := s.step1 fun d => d.gate acc EVT_CTL Dev.clrAll
def execEvtSwset (acc : Acc) (v : BitVec 16) (s : State) : Host.Outcome State Fault Refusal :=
  s.step1 fun d => d.gate acc EVT_SWSET (·.swSet v)
def execEvtRouteWrite (acc : Acc) (e : Fin 256) (v : BitVec 16) (s : State) : Host.Outcome State Fault Refusal :=
  s.step1 fun d => d.gate acc (EVT_ROUTE (e.val % 16)) (·.writeRoute e v)

/-! ## Watchdog tokens (R425 to R427) -/

/-- The token for challenge `c` in slot `n` under a seed (R426). -/
def wdgToken (seed : BitVec 32) (n : Nat) (c : Word) : Word :=
  let a := c ^^^ seed.setWidth 16
  let b : Word := a * 0x00D7#16 + (seed >>> 16).setWidth 16 + BitVec.ofNat 16 (0x0101 * n)
  b.rotateLeft n

def Dev.slot (d : Dev) (n : WSlot) : WdgSlot := d.wdg[n]
def Dev.modSlot (d : Dev) (n : WSlot) (g : WdgSlot → WdgSlot) : Dev := { d with wdg := d.wdg.set n (g d.wdg[n]) }

/-- A slot pauses while its furrow is halted by debug (R424); slot 15 has no furrow. -/
def Dev.slotPaused (d : Dev) (n : WSlot) : Bool := n.val ≠ 15 && (d.fur (d.slot n).furrow).halted

/-- The watchdog's clock runs: the furrows have started and the device is neither in NEWT nor LATCHED (R432). -/
def Dev.wdgOn (d : Dev) : Bool := d.engineOn

/-- A new challenge is drawn, which differs from the one it replaces; the slot keeps that one (R425). -/
def Dev.drawChallenge (d : Dev) (n : WSlot) : Dev :=
  let x := d.slot n
  let (r, d) := d.free 16
  let c := if r = x.chal then r + 1 else r
  d.modSlot n fun x => { x with chal := c, replaced := if x.drawn then some x.chal else none, drawn := true }

/-- A slot that does not run, as it is without a period. -/
def WdgSlot.stopped (x : WdgSlot) : WdgSlot := { x with running := false, warned := false, windowOpen := false }

/-- The slot's period begins: OPEN and FURROW are taken now, and a slot whose EN is 0 stops (R431). -/
def Dev.beginPeriod (d : Dev) (n : WSlot) : Dev :=
  if d.flag (WDG_SCFG n) WDG_SCFG.EN then
    let op := d.fld (WDG_SCFG n) WDG_SCFG.OPEN
    d.modSlot n fun x =>
      { x with running := true, windowOpen := decide (op = 0), warned := false, start := d.now, open16 := op,
               furrow := Fin.ofNat 16 (d.fld (WDG_SCFG n) WDG_SCFG.FURROW) }
  else d.modSlot n WdgSlot.stopped

/-- A slot starts a period under R424, with a new challenge; one whose EN is 0 stops. -/
def Dev.startPeriod (d : Dev) (n : WSlot) : Dev :=
  if d.flag (WDG_SCFG n) WDG_SCFG.EN then (d.drawChallenge n).beginPeriod n else d.modSlot n WdgSlot.stopped

/-- Every enabled slot starts when the furrows start (R424). -/
def Dev.startSlots (d : Dev) : Dev := (List.finRange 16).foldl (fun d n => d.startPeriod n) d

/-- An offer of `token` to slot `n` by a furrow, or by the owner host (none), judged in the order of R427. The answer is
whether it was accepted. -/
def Dev.offer (d : Dev) (n : WSlot) (by_ : Option Furrow) (token : Word) : Bool × Dev :=
  let x := d.slot n
  let tk := wdgToken (d.rd32 WDG_SEED) n.val
  if !(x.running && d.wdgOn) then (false, d)
  else if n.val ≠ 15 && by_ ≠ some x.furrow then (false, d.setFlag WDG_STICKY WDG_STICKY.FOREIGN true)
  else if (x.replaced.map tk) = some token || (token = tk x.chal && !x.windowOpen) then
    (false, (d.setMbit WDG_DOUBLE n.val true).raise 43)
  else if token = tk x.chal then (true, ((d.modSlot n fun x => { x with answered := true }).drawChallenge n).beginPeriod n)
  else (false, (d.setMbit WDG_BAD n.val true).raise 44)

/-- WDG_PER in ticks: 0 acts as 1 ms. -/
def Dev.slotPeriod (d : Dev) (n : WSlot) : Nat := 1000 * max 1 (d.rn (WDG_PER n))

/-- The time since the start of a slot's present period, in ticks (R431: a write of WDG_PER does not move that start). -/
def Dev.slotElapsed (d : Dev) (n : WSlot) : Nat := d.now - (d.slot n).start

/-- A slot counts: it runs, the watchdog is on, and no debug halt pauses it (R424, R432). -/
def Dev.slotCounts (d : Dev) (n : WSlot) : Bool := (d.slot n).running && d.wdgOn && !d.slotPaused n

/-- OPEN/16 of the slot's period has passed, against WDG_PER as it is now (R427, R431). -/
def Dev.openPart (d : Dev) (n : WSlot) : Bool := decide ((d.slot n).open16 * d.slotPeriod n ≤ 16 * d.slotElapsed n)

/-- The slot's period is over (R428), and its window is due to open (R427). -/
def Dev.periodOver (d : Dev) (n : WSlot) : Bool := d.slotCounts n && decide (d.slotPeriod n ≤ d.slotElapsed n)
def Dev.windowDue (d : Dev) (n : WSlot) : Bool := d.slotCounts n && d.openPart n

/-- WDG_PER of a slot has changed: the window of a period in progress is measured against the new value, and a warning keeps it
open (R428, R431). -/
def Dev.judgeWindow (d : Dev) (n : WSlot) : Dev :=
  d.when (d.slot n).running (·.modSlot n fun x => { x with windowOpen := x.warned || d.openPart n })

/-- WDG_TOKEN_WRITE: a token written by a furrow or by the owner host. Slot 15 is the host's: a furrow's write of it is
refused by the gate (R430). -/
def execWdgTokenWrite (acc : Acc) (n : WSlot) (v : BitVec 16) (s : State) : Host.Outcome State Fault Refusal :=
  s.step1 fun d => d.gate acc (WDG_TOKEN n) fun d =>
    (d.offer n (match acc with | .furrow f => some f | .port _ => none) v).2

/-! ## Periods, warnings and resets (R428, R429) -/

/-- Whether every enabled slot has had a token accepted since the last watchdog reset. -/
def Dev.allAnswered (d : Dev) : Bool :=
  (List.finRange 16).all fun n => !d.flag (WDG_SCFG n) WDG_SCFG.EN || (d.slot n).answered

/-- A watchdog reset is due already, whatever else asked for a reset (R433: two slots that expire together make one). -/
def Dev.wdgResetDue (d : Dev) : Bool := d.hopper.wdgReset

/-- The watchdog asks for a reset: one of the larger kind with what is due (R433). -/
def Dev.wdgAsks (d : Dev) (p : PendingReset) : Dev :=
  { d with hopper := { d.hopper with pendingReset := d.hopper.pendingReset.join p, wdgReset := true } }

/-- The reset stage of slot `n` (R428 step 2, R429). -/
def Dev.wdgReset (d : Dev) (n : WSlot) : Dev :=
  let d := d.bump WDG_RSTCNT
  if d.wdgResetDue then
    d.setFld WDG_STATUS WDG_STATUS.LASTRST (min (d.fld WDG_STATUS WDG_STATUS.LASTRST) n.val)
  else
    let d := (d.setFld WDG_STATUS WDG_STATUS.LASTRST n.val).setFlag WDG_STATUS WDG_STATUS.RSTVALID true
    let esc := clampNat 15 ((if d.allAnswered then 0 else d.fld WDG_STATUS WDG_STATUS.ESC) + 1)
    let escn := d.fld WDG_CTL WDG_CTL.ESCN
    let d := { d with wdg := d.wdg.map fun (x : WdgSlot) => { x with answered := false } }
    if escn ≠ 0 ∧ escn ≤ esc then
      let d := (d.setFld WDG_STATUS WDG_STATUS.ESC 0).setFlag WDG_STICKY WDG_STICKY.ESCAL true
      (d.wdgAsks (.railCycle 1)).raiseAll [41, 42]
    else
      ((d.setFld WDG_STATUS WDG_STATUS.ESC esc).wdgAsks (.engine 1)).raise 41

/-- The warning of slot `n`: its period starts again with the window open, and takes OPEN and FURROW as a period start does
(R428, R431). -/
def Dev.warnSlot (d : Dev) (n : WSlot) : Dev :=
  d.modSlot n fun x =>
    { x with warned := true, windowOpen := true, start := d.now, open16 := d.fld (WDG_SCFG n) WDG_SCFG.OPEN,
             furrow := Fin.ofNat 16 (d.fld (WDG_SCFG n) WDG_SCFG.FURROW) }

/-- WDG_PERIOD_END: the period of slot `n` ends without a token. -/
def Dev.periodEnd (d : Dev) (n : WSlot) : Dev :=
  let x := d.slot n
  if !d.periodOver n then d
  else if x.warned then d.wdgReset n
  else
    let d := d.warnSlot n
    let d := (d.setFld WDG_STATUS WDG_STATUS.LASTWARN n.val).setFlag WDG_STATUS WDG_STATUS.WARNVALID true
    let d := (d.bump WDG_WARNCNT).raise 40
    if d.flag (WDG_SCFG n) WDG_SCFG.EN then d
    else d.modSlot n WdgSlot.stopped

def execWdgPeriodEnd (n : WSlot) (s : State) : Host.Outcome State Fault Refusal := s.step1 (·.periodEnd n)

/-- WDG_WINDOW_OPEN: OPEN/16 of the period has passed (R427). -/
def execWdgWindowOpen (n : WSlot) (s : State) : Host.Outcome State Fault Refusal :=
  s.step1 fun d => d.when (d.windowDue n) fun d =>
    d.modSlot n fun x => { x with windowOpen := true }

/-- WDG_CTL.CNTCLR (R432). -/
def Dev.wdgCntclr (d : Dev) : Dev := (d.zero [WDG_WARNCNT, WDG_RSTCNT]).setFld WDG_STATUS WDG_STATUS.ESC 0
def execWdgCntclr (acc : Acc) (s : State) : Host.Outcome State Fault Refusal := s.step1 fun d => d.gate acc WDG_CTL Dev.wdgCntclr

/-- A write of the watchdog's configuration (R431): WDG_CTL, WDG_SCFG, WDG_PER or WDG_SEED. `loader` is the image loader,
which LOCK does not refuse; LOCK does not cover WDG_SEED. -/
def Dev.writeWdg (d : Dev) (a : Nat) (v : Word) (loader : Bool) : Dev :=
  let locked := !loader && d.flag WDG_CTL WDG_CTL.LOCK
  if a = WDG_CTL then
    let changes := (d.rd WDG_CTL &&& 0x8F00#16) ≠ (v &&& 0x8F00#16)
    let d := if locked && changes then d.setFlag WDG_STICKY WDG_STICKY.LOCKREF true else d.storeWord WDG_CTL WDG_CTL v
    d.when (v.getLsbD 0) Dev.wdgCntclr
  else if !(WDG_SCFG 0 ≤ a ∧ a < WDG_SCFG 16 ∧ a % 16 < 4) then d.storeWord a a v
  else if locked then d.setFlag WDG_STICKY WDG_STICKY.LOCKREF true
  else
    let n : WSlot := Fin.ofNat 16 ((a - WDG_SCFG 0) / 16)
    if a = WDG_SCFG n then
      let d := d.storeWord a a (if n.val = 15 then v &&& 0xFFF0#16 else v)
      d.when (v.getLsbD 15 && !(d.slot n).running && d.wdgOn) (·.startPeriod n)
    else (d.storeWord a a v).judgeWindow n

/-- The registers that R431 names: WDG_CTL, WDG_SCFG and WDG_PER. -/
def isWdgConfig (a : Nat) : Bool := a = WDG_CTL || (decide (WDG_SCFG 0 ≤ a) && decide (a < WDG_SCFG 16) && (a % 16 = 0 || a % 16 = 2))

/-- WDG_CONFIG_WRITE: a write elsewhere is none of the watchdog's configuration, and changes nothing. -/
def execWdgConfigWrite (acc : Acc) (addr v : BitVec 16) (s : State) : Host.Outcome State Fault Refusal :=
  s.step1 fun d => d.gate acc addr.toNat fun d => d.when (isWdgConfig addr.toNat) (·.writeWdg addr.toNat v false)

end Sys2Proof.Machine
end

