-- ==== Sys2Proof/Machine/Lamps.lean ====
section
/-!
DEFINITION. What CHG_STATUS says of the stage and of the charge cycle, and the status lamps that follow it
(07_battery_power_path.md).
-/

namespace Sys2Proof.Machine

open Sys2Proof Sys2Proof.R

/-! ## What CHG_STATUS says (R190, R195) -/

/-- CHG_STATUS.MODE. -/
abbrev cmOff : Nat := 0
abbrev cmConnect : Nat := 1
abbrev cmReady : Nat := 2
abbrev cmCharge : Nat := 3
abbrev cmAssist : Nat := 4
abbrev cmBusreg : Nat := 5
def Dev.cmode (d : Dev) : Nat := d.fld CHG_STATUS CHG_STATUS.MODE

/-- CHG_STATUS.PHASE. -/
abbrev cpOff : Nat := 0
abbrev cpQualify : Nat := 1
abbrev cpCC : Nat := 2
abbrev cpCV : Nat := 3
abbrev cpDone : Nat := 4
abbrev cpSuspend : Nat := 5
abbrev cpFault : Nat := 6
def Dev.cphase (d : Dev) : Nat := d.fld CHG_STATUS CHG_STATUS.PHASE
def Dev.pulsing (d : Dev) : Bool := d.cphase = cpCC || d.cphase = cpCV

def Dev.packUsable (d : Dev) : Bool := d.flag PK_STATUS PK_STATUS.USABLE
def Dev.tempHold (d : Dev) : Bool := d.flag CHG_STATUS CHG_STATUS.TEMPHOLD

/-! ## Status lamps (R203, R204) -/

/-- The standard code of a lamp: MODE and N. -/
def Dev.lampCode (d : Dev) (l : Fin 2) : Nat × Nat :=
  let m := d.cmode
  let p := d.cphase
  if l = 0 then
    if m = cmAssist || m = cmBusreg then (3, 0)
    else if p = cpSuspend || (d.tempHold && (p = cpQualify || p = cpCC || p = cpCV)) then (4, 2)
    else if p = cpQualify || p = cpCC || p = cpCV then (2, 0)
    else if p = cpDone then (1, 0)
    else (0, 0)
  else if !d.flag PK_STATUS PK_STATUS.PRESENT then (4, 1)
  else if !d.packUsable then (4, 2)
  else if p = cpFault then (4, 3)
  else if d.flag GG_STATUS GG_STATUS.EOL then (4, 4)
  else if d.fld SEQ_STATUS SEQ_STATUS.STATE = 7 then (4, 5)
  else if d.cfg.safe then (4, 6)
  else (0, 0)

def lampReg (l : Fin 2) : Nat := CHG_LAMP0 + 2 * l.val

/-- The pattern that a lamp shows now. -/
def Dev.lampWanted (d : Dev) (l : Fin 2) : Nat × Nat :=
  let x := d.lamps[l]
  if d.boot.phase = .dark then (0, 0)
  else if d.latched then (if l = 1 then (1, 0) else (x.mode, x.n))
  else if d.boot.phase = .newt then (x.mode, x.n)
  else if !d.blocksRun then (if d.boot.isWake then (x.mode, x.n) else if l = 1 then (3, 0) else (0, 0))
  else if d.flag (lampReg l) CHG_LAMP0.SRC then (d.fld (lampReg l) CHG_LAMP0.MODE, d.fld (lampReg l) CHG_LAMP0.N)
  else d.lampCode l

/-- Phases of a pattern, and whether the lamp sinks in phase `k`. -/
def lampLen (mode n : Nat) : Nat := if mode = 2 ∨ mode = 3 then 2 else if mode = 4 then 2 * max 1 n + 1 else 1
def lampSinks (mode n k : Nat) : Bool :=
  if mode = 1 then true else if mode = 2 || mode = 3 then k = 0 else if mode = 4 then k % 2 = 0 && decide (k < 2 * max 1 n)
  else false

/-- The pin: a pattern just selected stands at its beginning. -/
def Dev.lampOn (d : Dev) (l : Fin 2) : Bool :=
  let w := d.lampWanted l
  let x := d.lamps[l]
  lampSinks w.1 w.2 (if w = (x.mode, x.n) then x.phase else 0)

/-- The pattern in use is noted: a pattern that a write or a change of state has just selected starts from its beginning, and
one that already showed goes on (R203). -/
def Dev.lampSync (d : Dev) : Dev :=
  let at_ (l : Fin 2) : LampSt :=
    let w := d.lampWanted l
    let x := d.lamps[l]
    { mode := w.1, n := w.2, phase := if w = (x.mode, x.n) then x.phase else 0 }
  { d with lamps := #v[at_ 0, at_ 1] }

/-- LAMP_PATTERN_STEP. -/
def Dev.lampStep (d : Dev) (l : Fin 2) : Dev :=
  let w := d.lampWanted l
  let x := d.lamps[l]
  let k := if w = (x.mode, x.n) then x.phase else 0
  { d with lamps := d.lamps.set l { mode := w.1, n := w.2, phase := (k + 1) % lampLen w.1 w.2 } }

end Sys2Proof.Machine
end

