-- ==== Sys2Proof/Machine/Links.lean ====
section
/-!
DEFINITION. What other blocks do with the phases, the Velong links and the snapshots: the phases of a loop (R28), the rail
mapping (R81), the status word and attention (R84, R85), throttle requests (R86), and snapshots (R369).
-/

namespace Sys2Proof.Machine

open Sys2Proof Sys2Proof.R

/-! ## Loops and phases -/

def Dev.loop (d : Dev) (n : Loop) : LoopSt := d.loops[n]
def Dev.modLoop (d : Dev) (n : Loop) (g : LoopSt → LoopSt) : Dev := { d with loops := d.loops.set n (g d.loops[n]) }
def Dev.phase (d : Dev) (m : Phase) : PhaseSt := d.phases[m]
def Dev.modPhase (d : Dev) (m : Phase) (g : PhaseSt → PhaseSt) : Dev := { d with phases := d.phases.set m (g d.phases[m]) }

/-- LP_STATUS.STATE (R67). -/
abbrev lsOff : Nat := 0
abbrev lsSoftStart : Nat := 1
abbrev lsRegulating : Nat := 2
abbrev lsTransition : Nat := 3
abbrev lsSoftStop : Nat := 4
abbrev lsOvLatched : Nat := 5
def Dev.lstate (d : Dev) (n : Loop) : Nat := d.fld (LP_STATUS n) LP_STATUS.STATE
def Dev.setLstate (d : Dev) (n : Loop) (v : Nat) : Dev := d.setFld (LP_STATUS n) LP_STATUS.STATE v

/-- PH_STATE.STATE (R68). -/
abbrev psOff : Nat := 0
abbrev psActive : Nat := 1
abbrev psLeaving : Nat := 2
abbrev psFallow : Nat := 3
abbrev psJoining : Nat := 4
def Dev.pstate (d : Dev) (m : Phase) : Nat := d.fld (PH_STATE m) PH_STATE.STATE
def Dev.setPstate (d : Dev) (m : Phase) (v : Nat) : Dev := d.setFld (PH_STATE m) PH_STATE.STATE v

/-- The interleave position of a phase (R29). -/
def Dev.order (d : Dev) (m : Phase) : Nat := d.fld (PH_CFG m) PH_CFG.ORDER

/-- The phase of lowest or highest ORDER of a list. -/
def Dev.lowestOrder (d : Dev) (ms : List Phase) : Option Phase :=
  ms.foldl (fun b m => match b with
    | none => some m
    | some x => if d.order m < d.order x then some m else some x) none
def Dev.highestOrder (d : Dev) (ms : List Phase) : Option Phase :=
  ms.foldl (fun b m => match b with
    | none => some m
    | some x => if d.order x < d.order m then some m else some x) none

/-! ## Velong links -/

def Dev.link (d : Dev) (k : Link) : LinkSt := d.links[k]
def Dev.modLink (d : Dev) (k : Link) (g : LinkSt → LinkSt) : Dev := { d with links := d.links.set k (g d.links[k]) }

/-- VL_STATUS.STATE (R87). -/
abbrev vlDisabled : Nat := 0
abbrev vlWait : Nat := 1
abbrev vlUp : Nat := 2
abbrev vlLost : Nat := 3
def Dev.vlState (d : Dev) (k : Link) : Nat := d.fld (VL_STATUS k) VL_STATUS.STATE
def Dev.setVlState (d : Dev) (k : Link) (v : Nat) : Dev := d.setFld (VL_STATUS k) VL_STATUS.STATE v

/-- The link and rail that a loop is mapped to, if it is the mapped loop of one. -/
def Dev.mappedRail (d : Dev) (n : Loop) : Option (Link × Fin 4) :=
  let k : Link := Fin.ofNat 4 (d.fld (LP_CFG n) LP_CFG.LINK)
  let r : Fin 4 := Fin.ofNat 4 (d.fld (LP_CFG n) LP_CFG.LINKRAIL)
  if d.railLoop k r = some n then some (k, r) else none

/-- Attention follows the read-clear bits: VLDOn low between frames of an enabled link (R84), while its pad acts (R437,
R451). -/
def Dev.syncAttn (d : Dev) (k : Link) : Dev :=
  d.setFlag (VL_STATUS k) VL_STATUS.ATTN (d.flag (VL_CTL k) VL_CTL.ATTNEN && (d.link k).bits ≠ 0 &&
    !d.flag (VL_STATUS k) VL_STATUS.FRAME && d.vlState k ≠ vlDisabled && d.blocksRun && d.pins.vio)

/-- Set read-clear bits of the status word (R85). -/
def Dev.vlSetBits (d : Dev) (k : Link) (m : Word) : Dev :=
  (d.modLink k fun x => { x with bits := x.bits ||| m }).syncAttn k

/-- Read-clear bits of the rail of a mapped loop: SETTLE, FAULT and RAILOFF. -/
def Dev.vlSettle (d : Dev) (n : Loop) : Dev :=
  match d.mappedRail n with
  | some (k, r) => d.vlSetBits k ((1 : Word) <<< (12 + r.val))
  | none => d
def Dev.vlFault (d : Dev) (n : Loop) : Dev :=
  match d.mappedRail n with
  | some (k, r) => d.vlSetBits k ((1 : Word) <<< (8 + r.val))
  | none => d
def Dev.vlRailOff (d : Dev) (n : Loop) : Dev :=
  match d.mappedRail n with
  | some (k, _) => d.vlSetBits k 0x0010#16
  | none => d

def Dev.thrReq (d : Dev) (k : Link) : Nat := d.fld (VL_THRSTAT k) VL_THRSTAT.REQ
def Dev.thrAck (d : Dev) (k : Link) : Nat := d.fld (VL_THRSTAT k) VL_THRSTAT.ACK

/-- The acknowledged level (R86). -/
def Dev.setAck (d : Dev) (k : Link) (v : Nat) : Dev :=
  let d := d.setFld (VL_THRSTAT k) VL_THRSTAT.ACK v
  d.setFlag (VL_THRSTAT k) VL_THRSTAT.PEND (v < d.thrReq k)

/-- The requested level: a change sets THRCHG and raises attention (R86). -/
def Dev.setReq (d : Dev) (k : Link) (v : Nat) : Dev :=
  if d.thrReq k = v then d
  else
    let d := d.setFld (VL_THRSTAT k) VL_THRSTAT.REQ v
    let d := d.setFlag (VL_THRSTAT k) VL_THRSTAT.PEND (d.thrAck k < v)
    (d.modLink k fun x => { x with thrRaised := false, thrAcked := false }).vlSetBits k 0x0020#16

/-- The status word of R85. -/
def Dev.vlWord (d : Dev) (k : Link) : Word :=
  let pg := (List.finRange 4).foldl (fun a r =>
    match d.railLoop k r with
    | some n => if d.flag (LP_STATUS n) LP_STATUS.PG then a + 2 ^ r.val else a
    | none => a) 0
  (d.link k).bits ||| BitVec.ofNat 16 (64 * d.thrReq k + pg)

/-! ## Snapshots (R369) -/

/-- The levels of 16 pins as a number. -/
def levels16 (v : Vector Bool 16) : Nat :=
  (List.finRange 16).foldl (fun a i => if v[i] then a + 2 ^ i.val else a) 0

/-- Bytes 20 to 507 of a snapshot. -/
def Dev.telemetry (d : Dev) : List Byte :=
  let w (a : Nat) : List Byte := bytesLE 2 (d.rn a)
  let l (a : Nat) : List Byte := bytesLE 4 (d.rn32 a)
  (List.range 12).flatMap (fun n => w (LP_VOUT n)) ++ (List.range 12).flatMap (fun n => w (LP_IOUT n)) ++
    (List.range 24).flatMap (fun m => w (PH_IOUT m)) ++
    (List.range 4).flatMap (fun i => w (BG_I i)) ++ w BG_VBUS ++ w BG_PTOT ++ w BG_PSYS ++ w BG_CEIL ++ w BG_DEFICIT ++
    w CHG_IBAT ++ w CHG_VBAT ++
    (List.range 15).flatMap (fun i => w (TH_TEMP i)) ++
    (List.range 16).flatMap (fun x =>
      bytesLE 2 (if d.flag (SEQ_RAUXENT (12 + x)) SEQ_RAUXENT.VALID
        then d.rn (MS_RESULT (d.fld (SEQ_RAUXENT (12 + x)) SEQ_RAUXENT.ENTRY)) % 4096 else 0)) ++
    (List.range 12).flatMap (fun n => w (LP_STATUS n)) ++
    w SEQ_STATUS ++ l SEQ_GOOD ++ l SEQ_RAILON ++ l SEQ_FAILED ++ w BG_STATUS ++ w CHG_STATUS ++ w GG_SOC ++
    w CFG_DSTATE ++ bytesLE 2 (levels16 d.pins.xpg) ++ bytesLE 2 (levels16 d.xenPins) ++ w SEQ_RSTSTAT ++
    (List.range 128).flatMap (fun e => w (MS_RESULT e))

/-- The bounds of the snapshots held, after number `n` is held: 128 slots (R375). -/
def Dev.holdSnap (d : Dev) (n : BitVec 32) : Dev :=
  let first := !d.recorder.anySnap
  let d := { d with recorder := { d.recorder with anySnap := true } }
  let d := d.wr32 REC_SNEWEST n
  if first then d.wr32 REC_SOLDEST n
  else if 127 < (n - d.rd32 REC_SOLDEST).toNat then d.wr32 REC_SOLDEST (n - 127) else d

/-- Take a snapshot: cause, rail index (255 for none) and cause code. It is staged, or dropped when 8 are pending. -/
def Dev.takeSnapshot (d : Dev) (cause rail code : Nat) : Dev :=
  let info (num : BitVec 32) : List Byte := bytesLE 4 num.toNat ++ bytesLE 1 rail ++ bytesLE 1 code
  if 8 ≤ d.recorder.snaps.length then
    let d := (d.bump REC_SDROPCNT).setFlag REC_STICKY REC_STICKY.SDROP true
    (d.record 0x05 (BitVec.ofNat 8 cause) (info 0xFFFFFFFF#32)).raise 243
  else
    let num := d.recorder.snapNext
    let seq := d.recorder.next
    let bytes := bytesLE 4 num.toNat ++ bytesLE 4 seq.toNat ++ bytesLE 4 d.opSec ++ bytesLE 2 d.opFract ++
      bytesLE 3 d.clock.pcycle.toNat ++ bytesLE 1 cause ++ bytesLE 1 rail ++ bytesLE 1 code ++ d.telemetry
    let d := d.record 0x05 (BitVec.ofNat 8 cause) (info num)
    let r : RecSt := { d.recorder with snapNext := num + 1, snaps := d.recorder.snaps ++ [{ num := num, bytes := bytes }] }
    let d := ({ d with recorder := r }).holdSnap num
    (d.startFlush).raise 242

end Sys2Proof.Machine
end

