-- ==== Sys2Proof/Machine/Gauge.lean ====
section
/-!
DEFINITION. The gauge (08_gauge_and_pack.md, R211 to R225, R239, R240): charge counting, anchors, learned capacity, the
gauge record, throughput and end of life, and the transactions with the tag that they ask for (R232 to R235). Commands
are in Machine/Pack.lean.
-/

namespace Sys2Proof.Machine

open Sys2Proof Sys2Proof.R

def Dev.modGauge (d : Dev) (g : GaugeSt → GaugeSt) : Dev := { d with gauge := g d.gauge }
def Dev.modPack (d : Dev) (g : PackSt → PackSt) : Dev := { d with pack := g d.pack }
def Dev.modChg (d : Dev) (g : ChgSt → ChgSt) : Dev := { d with chg := g d.chg }

/-! ## Chemistry (R186) -/

/-- The limits of a chemistry: voltages in mV, temperatures in degrees C. -/
structure Chem where
  vcvMax : Nat
  pulse : Nat
  ov : Nat
  pre : Nat
  dead : Nat
  uv : Nat
  emptyMin : Nat
  emptyDef : Nat
  deriving DecidableEq, Repr

/-- The table of R186; the temperature windows are the same for all three. -/
def chemOf (code : Nat) : Option Chem :=
  match code with
  | 1 => some ⟨14400, 14600, 14800, 10000, 6000, 10000, 10800, 11200⟩
  | 2 => some ⟨12450, 12600, 12750, 9000, 6000, 9000, 9600, 9900⟩
  | 3 => some ⟨16400, 16450, 16500, 12000, 8000, 12000, 12800, 13200⟩
  | _ => none

/-- The chemistry in use; none when there is no usable pack. -/
def Dev.chem (d : Dev) : Option Chem := chemOf (d.rn CHG_CHEM % 256)

/-- Limits of the charge and discharge windows in 1/64 degree C. -/
def chargeLo : Int := 0
def chargeHi : Int := 45 * 64
def dischargeLo : Int := -20 * 64
def dischargeHi : Int := 60 * 64

/-- CHG_VEMPTY in use, mV: 0 selects the chemistry's default, and the setting is clamped from below. -/
def Dev.vempty (d : Dev) : Nat :=
  match d.chem with
  | some c => if d.chg.sets.vempty = 0 then c.emptyDef else max c.emptyMin d.chg.sets.vempty.toNat
  | none => d.chg.sets.vempty.toNat

/-! ## Transactions with the tag (R232, R233, R235) -/

/-- Half-bits of 25 us of a frame on PACKID, true for high (R230): SYNC, then every byte's bits from the highest on, a 1 low
then high and a 0 high then low. After the last one the sender releases the line. -/
def tagSync : List Bool := [false, false, false, true, true, true]
def lineBit (b : Bool) : List Bool := [!b, b]
def lineByte (x : Byte) : List Bool :=
  lineBit (x.getLsbD 7) ++ lineBit (x.getLsbD 6) ++ lineBit (x.getLsbD 5) ++ lineBit (x.getLsbD 4) ++
    lineBit (x.getLsbD 3) ++ lineBit (x.getLsbD 2) ++ lineBit (x.getLsbD 1) ++ lineBit (x.getLsbD 0)
def tagLine (bs : List Byte) : List Bool := tagSync ++ bs.flatMap lineByte

/-- A byte of eight bits, the highest first. -/
def bitsByte (l : List Bool) : Byte := BitVec.ofNat 8 (l.foldl (fun n b => 2 * n + b.toNat) 0)

/-- The bytes of a frame's half-bits after SYNC; none where a bit has no mid-bit edge or the last byte is cut short. -/
def lineData : List Bool → Option (List Byte)
  | [] => some []
  | a7 :: b7 :: a6 :: b6 :: a5 :: b5 :: a4 :: b4 :: a3 :: b3 :: a2 :: b2 :: a1 :: b1 :: a0 :: b0 :: t =>
    if a7 = b7 || a6 = b6 || a5 = b5 || a4 = b4 || a3 = b3 || a2 = b2 || a1 = b1 || a0 = b0 then none
    else (lineData t).map (bitsByte [b7, b6, b5, b4, b3, b2, b1, b0] :: ·)
  | _ => none

/-- The bytes of a frame, which begins with SYNC. -/
def lineBytes (l : List Bool) : Option (List Byte) := if l.take 6 = tagSync then lineData (l.drop 6) else none

/-- The request of a transaction, with its CRC-8. -/
def TagOp.request (o : TagOp) : List Byte :=
  let body : List Byte := match o with
    | .ping => [0x5A]
    | .life => []
    | .read p _ => [0xA1, BitVec.ofNat 8 p.val]
    | .boxRead p => [0xA1, BitVec.ofNat 8 p.val]
    | .boxWrite p bs => [0xB2, BitVec.ofNat 8 p.val] ++ bs
    | .lifeWrite p bs => [0xB2, BitVec.ofNat 8 p.val] ++ bs
    | .verify p _ _ => [0xA1, BitVec.ofNat 8 p.val]
  body ++ [crc8 body]

/-! ## Life records and end of life (R238 to R240) -/

/-- Rated capacity in mC: 0.01 Ah is 36 C. -/
def Dev.ratedMc (d : Dev) : Nat := 36000 * d.rn PK_RATEDCAP

/-- Page of a life record: 15 bytes and their CRC-8. -/
def Dev.lifePage (d : Dev) (update : Byte) : List Byte :=
  let eol := d.flag GG_STATUS GG_STATUS.EOL
  let ln := d.flag GG_STATUS GG_STATUS.LEARNED
  let body := bytesLE 4 (d.rn32 PK_CUMTP) ++ bytesLE 2 (d.rn PK_CYCLES) ++
    bytesLE 2 (divRound (d.rn32 GG_QLEARN) 36000).toNat ++ bytesLE 1 ((if eol then 1 else 0) + (if ln then 2 else 0)) ++
    [update] ++ List.replicate 5 0
  body ++ [crc8 body]

/-- A life record as it is sent: to the older of pages 2 and 3, with the successor of the newer one's number (R239). -/
def Dev.lifeOp (d : Dev) : TagOp :=
  .lifeWrite (if d.flag PK_STATUS PK_STATUS.LIFESEL then 2 else 3) (d.lifePage (d.pack.update + 1))

/-! ## The queue of transactions (R231, R235 to R237) -/

/-- The next transaction starts when none is under way and the line may be driven (R229): PK_TXCNT counts it, and its first
request goes out, after a wake pulse when the line has been idle for 10 ms. -/
def Dev.tagKick (d : Dev) : Dev :=
  if d.pack.busy || !d.blocksRun then d
  else match d.pack.queue with
    | [] => d
    | o :: rest =>
      let o := if o = .life then d.lifeOp else o
      let wake := match d.pack.lineAt with
        | some t => decide (10000 ≤ d.now - t)
        | none => true
      (d.modPack fun x =>
        { x with queue := o :: rest, busy := true, attempts := 0, request := o.request, wake := wake,
                 lineAt := some d.now }).bumpWrap PK_TXCNT

/-- A further transaction waits for those before it (R237). -/
def Dev.tagPush (d : Dev) (o : TagOp) : Dev := (d.modPack fun x => { x with queue := x.queue ++ [o] }).tagKick

/-- The level of PACKID in half-bit `k` of the request under way: high is released. It is released where no request goes out,
and while the gauge does not run: in DARK, boot, NEWT and LATCHED (R229, R230). -/
def Dev.packidLevel (d : Dev) (k : Nat) : Bool :=
  !d.blocksRun || !d.pack.busy || ((tagLine d.pack.request).getD k true)

/-- A life record is due (R239), unless a learn is deferred (R224) or no pack is present. -/
def Dev.lifeWrite (d : Dev) : Dev :=
  if d.flag GG_STATUS GG_STATUS.LEARNPEND || !d.flag PK_STATUS PK_STATUS.PRESENT then d
  else (d.modGauge fun g => { g with thruWritten := d.rn32 PK_CUMTP }).tagPush .life

/-- The two conditions of R240. -/
def Dev.eolCapacity (d : Dev) : Bool :=
  d.flag GG_STATUS GG_STATUS.LEARNED && decide (10 * d.rn32 GG_QLEARN < 7 * d.ratedMc)
def Dev.eolThroughput (d : Dev) : Bool := d.pack.rated && decide (d.rn32 PK_RATEDTP < d.rn32 PK_CUMTP)

/-- End of life is declared when a condition holds; EOLCAUSE shows what holds. `fresh` is whether the tag lacks the
flag. -/
def Dev.checkEol (d : Dev) : Dev :=
  if !d.flag PK_STATUS PK_STATUS.PRESENT then d
  else
    let c := d.eolCapacity
    let t := d.eolThroughput
    let d := d.setFld PK_STATUS PK_STATUS.EOLCAUSE ((if c then 1 else 0) + (if t then 2 else 0))
    if (c || t) && !d.flag GG_STATUS GG_STATUS.EOL then
      ((d.setFlag GG_STATUS GG_STATUS.EOL true).lampSync.raise 220).lifeWrite
    else d

/-! ## The gauge record (R222 to R224) -/

/-- Write a record to the copy with the older sequence number. Until a pack has been read the gauge's state is that of the
copy it started from (R225). -/
def Dev.putGauge (d : Dev) : Dev :=
  let g := d.gauge
  let i : Fin 2 := if g.copies[0].seq.toNat ≤ g.copies[1].seq.toNat then 0 else 1
  let newest := if i = 0 then g.copies[1].seq else g.copies[0].seq
  let pend := d.flag GG_STATUS GG_STATUS.LEARNPEND
  let now : GaugeRec :=
    { valid := true, seq := newest + 1, qcnt := d.rd32 GG_QCNT, qlearn := if pend then g.savedLearn else d.rd32 GG_QLEARN,
      serial := d.rd (PK_SERIAL 3) ++ d.rd (PK_SERIAL 2) ++ d.rd (PK_SERIAL 1) ++ d.rd (PK_SERIAL 0), thru := g.thru / 65536,
      cycles := d.rd PK_CYCLES, anchored := d.flag GG_STATUS GG_STATUS.ANCHORED,
      trav := BitVec.ofNat 2 (d.fld GG_STATUS GG_STATUS.TRAV), learned := d.flag GG_STATUS GG_STATUS.LEARNED,
      learnPend := pend }
  let r : GaugeRec := match d.pack.restored with
    | some x => { x with valid := true, seq := newest + 1, learnPend := false }
    | none => now
  (d.modGauge fun x => { x with copies := x.copies.set i r, recPend := false }).nvMade (.gauge i)

/-- The order of precedence of R354 among the blocks that the device has written for itself. -/
def NvJob.rank : NvJob → Nat
  | .journal _ => 0
  | .record _ | .mark _ | .role _ => 1
  | .gauge _ | .time _ => 2

/-- A block that comes before a gauge record is pending (R354): of the journal, of a flush, or of the role record. -/
def Dev.blocksAhead (d : Dev) : Bool :=
  d.cfg.checks.any (fun j => decide (j.rank < 2)) || !d.hopper.closes.isEmpty || d.recorder.flushing || !d.cfg.roleItems.isEmpty

/-- A gauge record or a save of operating time cannot start: NV writes are refused, or others come first (R346, R354,
R355). -/
def Dev.gaugeHeld (d : Dev) : Bool := d.nvInhibit || d.bof || d.blocksAhead

/-- A record is written, or waits (R223). -/
def Dev.gaugeRecord (d : Dev) : Dev := if d.gaugeHeld then d.modGauge fun g => { g with recPend := true } else d.putGauge

/-- The counters area is written (R389, R390). -/
def Dev.putCounters (d : Dev) : Dev :=
  let c := d.clock
  ({ d with clock := { c with saved := writeCopy c.saved { op := c.op, pcycle := c.pcycle }, opDue := false } }).nvMade
    (.time (olderCopy c.saved))

/-- Operating time is written to the counters area, or waits (R389, R354). -/
def Dev.saveOpTime (d : Dev) : Dev :=
  if d.gaugeHeld then { d with clock := { d.clock with opDue := true } } else d.putCounters

/-- What waited for NV is written as far as NV writes are allowed and the order of R354 lets it: the sequence mark and the
records of a brown-out, a role record, a gauge record, a save of operating time. -/
def Dev.nvResume (d : Dev) : Dev :=
  let d := (d.putMark.putBuffer).roleResume
  let d := d.when (d.gauge.recPend && !d.gaugeHeld) Dev.putGauge
  d.when (d.clock.opDue && !d.gaugeHeld) Dev.putCounters

/-- The brown-out flag clears: a deferred learn is written to NV and to the tag (R224), where the gauge runs (R229). -/
def Dev.learnResume (d : Dev) : Dev :=
  if d.flag GG_STATUS GG_STATUS.LEARNPEND && d.blocksRun then
    let d := d.setFlag GG_STATUS GG_STATUS.LEARNPEND false
    ((d.modGauge fun g => { g with savedLearn := d.rd32 GG_QLEARN }).gaugeRecord).lifeWrite
  else d

/-! ## Reports (R214, R215, R220, R241) -/

/-- The gauge's reports follow the count. -/
def Dev.gaugeReport (d : Dev) : Dev :=
  let q := d.rs32 GG_QCNT
  let anch := d.flag GG_STATUS GG_STATUS.ANCHORED
  let beyond := anch && q ≤ 0 && d.gauge.last ≠ .empty && !d.flag GG_STATUS GG_STATUS.BEYOND
  let d := d.when beyond fun d => (d.setFlag GG_STATUS GG_STATUS.BEYOND true).setFlag GG_STICKY GG_STICKY.BEYOND true
  let d := d.when (anch && decide ((d.rn32 GG_QLEARN : Int) < q) && d.gauge.last ≠ .full)
    (·.setFlag GG_STATUS GG_STATUS.OVERFULL true)
  let rem := if anch then q.toNat else 0
  let d := d.wn32 GG_QREM rem
  let soc := if rem = 0 || d.flag GG_STATUS GG_STATUS.BEYOND then 0
    else if d.flag GG_STATUS GG_STATUS.OVERFULL then 10000
    else (clampInt 0 10000 (divQ (rem * 10000) (d.rn32 GG_QLEARN))).toNat
  let d := d.wn GG_SOC soc
  let d := d.wn GG_SOH (fitU16 (divQ (d.rn32 GG_QLEARN * 10000) d.ratedMc)).toNat
  let i := d.rs GG_IAVG
  let d := d.wn GG_TTE (if i < 0 then min 0xFFFF (rem / (600 * i.natAbs)) else 0xFFFF)
  let low := d.rn GG_SOCLOW
  let isLow := anch && low ≠ 0 && decide (soc < low) && d.gauge.socArmed
  let d := d.when isLow (·.modGauge fun g => { g with socArmed := false })
  let d := d.when (decide (low + 100 < soc)) (·.modGauge fun g => { g with socArmed := true })
  d.raiseAll ((if beyond then [219] else []) ++ if isLow then [221] else [])

/-- A traverse is spoiled (R217). -/
def Dev.spoil (d : Dev) : Dev := d.setFld GG_STATUS GG_STATUS.TRAV 0

/-! ## Anchors and learning (R216 to R220) -/

/-- A candidate of an unspoiled traverse (R220). -/
def Dev.learn (d : Dev) (cand : Int) : Dev :=
  let d := d.wi32 GG_QCAND cand
  let r : Int := d.ratedMc
  let ql : Int := d.rn32 GG_QLEARN
  if 2 * cand < r || 6 * r < 5 * cand then (d.setFlag GG_STICKY GG_STICKY.LREJECT true).raise 217
  else
    let step := divRound (d.rn GG_LSTEP * ql) 32768
    let far := decide ((d.rn GG_LSTEP : Int) * ql < 32768 * (cand - ql).natAbs)
    let new := if far then (if ql < cand then ql + step else ql - step) else cand
    let d := d.when far (·.setFlag GG_STICKY GG_STICKY.LCLAMP true)
    let d := ((d.wi32 GG_QLEARN new).setFlag GG_STATUS GG_STATUS.LEARNED true).bump GG_LEARNCNT
    let d := if d.bof then d.setFlag GG_STATUS GG_STATUS.LEARNPEND true
      else d.modGauge fun g => { g with savedLearn := d.rd32 GG_QLEARN }
    d.raise 216

/-- What every anchor does after GG_QCNT is set: record, life record and end of life. -/
def Dev.anchored (d : Dev) (a : Anchor) (trav : Nat) : Dev :=
  let d := (d.setFlag GG_STATUS GG_STATUS.ANCHORED true).setFld GG_STATUS GG_STATUS.TRAV trav
  let d := (d.setFlag GG_STATUS GG_STATUS.BEYOND false).setFlag GG_STATUS GG_STATUS.OVERFULL false
  let d := d.modGauge fun g => { g with last := a, frac := 0 }
  ((d.gaugeReport.gaugeRecord).lifeWrite).checkEol

/-- FULL anchor: the charger enters DONE through the taper condition. -/
def Dev.fullAnchor (d : Dev) : Dev :=
  let d := d.when (d.fld GG_STATUS GG_STATUS.TRAV = 2 && d.flag GG_CFG GG_CFG.CHGLEARN)
    fun d => d.learn (divRound (d.rs32 GG_QCNT * d.rn GG_CEFF) 32768)
  let d := (d.wr32 GG_QCNT (d.rd32 GG_QLEARN)).setFlag GG_STICKY GG_STICKY.FULL true
  (d.anchored .full 1).raise 214

/-- EMPTY anchor: a discharge taper window completes. -/
def Dev.emptyAnchor (d : Dev) : Dev :=
  let d := d.modGauge fun g => { g with window := false }
  let d := d.when (d.fld GG_STATUS GG_STATUS.TRAV = 1) fun d => d.learn (d.rn32 GG_QLEARN - d.rs32 GG_QCNT)
  let d := (d.wr32 GG_QCNT 0).setFlag GG_STICKY GG_STICKY.EMPTY true
  (d.anchored .empty 2).raise 215

/-- The window of R216 opens when CLAMP rises, and closes when the stage leaves ASSIST and BUSREG or the pack rises
above CHG_VEMPTY + GG_EBAND. A rise within an open window changes nothing. -/
def Dev.openWindowG (d : Dev) : Dev :=
  d.modGauge fun g => { g with window := true, taperAt := if g.window then g.taperAt else none }
def Dev.holdWindow (d : Dev) (vbat : Nat) : Dev :=
  if d.gauge.window && !((d.cmode = cmAssist || d.cmode = cmBusreg) && decide (vbat ≤ d.vempty + d.rn GG_EBAND)) then
    d.modGauge fun g => { g with window := false }
  else d

/-! ## Counting (R211 to R213, R239) -/

/-- The interval of the present rate in counts of 1.25 ns; up to the first result after a change of rate, that of the slower
one (R212, R213). -/
def Dev.gaugeInterval (d : Dev) : Nat :=
  if d.flag GG_STATUS GG_STATUS.LOWRATE || d.gauge.lowAt then 50000000 else 200000

/-- The high rate applies. -/
def Dev.highRate (d : Dev) : Dev := d.setFlag GG_STATUS GG_STATUS.LOWRATE false

/-- Whether the current of code `c` reaches `n` units of 10 mA: one code is 39.0625 uV over CHG_RSHUNT. -/
def Dev.currentBelow (d : Dev) (c : Int) (n : Nat) : Bool := c.natAbs * 390625 < n * 100 * d.rn CHG_RSHUNT

/-- Throughput of a discharge of `q` parts of 1/65,536 mC: cycle count and the life record that PK_WRDELTA asks for. -/
def Dev.addThroughput (d : Dev) (q : Nat) : Dev :=
  let d := d.modGauge fun g => { g with thru := g.thru + q, thruCycle := g.thruCycle + q }
  let d := d.wn32 PK_CUMTP (min (d.gauge.thru / 65536000) 0xFFFFFFFF)
  let rated := 65536 * d.ratedMc
  let d := d.when (rated ≠ 0 && decide (rated ≤ d.gauge.thruCycle)) fun d =>
    (d.modGauge fun g => { g with thruCycle := g.thruCycle - rated }).bump PK_CYCLES
  let d := d.when (decide (d.gauge.thruWritten + max 1 (d.rn PK_WRDELTA) ≤ d.rn32 PK_CUMTP)) Dev.lifeWrite
  d.checkEol

/-- The mean of GG_IAVG: one second of results. -/
def Dev.gaugeAverage (d : Dev) (c : Int) (n : Nat) : Dev :=
  let d := d.modGauge fun g => { g with avgSum := g.avgSum + c * n, avgTime := g.avgTime + n }
  if 800000000 ≤ d.gauge.avgTime then
    let d := d.wi GG_IAVG (fitS16 (divQ (d.gauge.avgSum * 390625) (d.gauge.avgTime * 100 * d.rn CHG_RSHUNT)))
    d.modGauge fun g => { g with avgSum := 0, avgTime := 0 }
  else d

/-- A result of entry 5, sampled at instant `t` in counts of 1.25 ns. -/
def Dev.gaugeCurrent (d : Dev) (code t : Nat) : Dev :=
  let c : Int := (code : Int) - 2048
  let prev := d.gauge.lastAt
  let lim := 2 * d.gaugeInterval
  let low := d.flag GG_STATUS GG_STATUS.LOWRATE
  let quiet := d.currentBelow c (d.rn GG_ILOW)
  let taper := d.gauge.window && decide (-c * 390625 ≤ (d.rn GG_ETAPER * 100 * d.rn CHG_RSHUNT : Nat))
  let d := d.modGauge fun g =>
    { g with lastAt := some t, lowAt := low, quietAt := if quiet then some (g.quietAt.getD t) else none,
             taperAt := if taper then some (g.taperAt.getD t) else none }
  let d := d.when (!quiet) Dev.highRate
  match prev with
  | none => d
  | some p =>
    let n := min (t - p) lim
    let d := d.when (decide (lim < t - p)) fun d => ((d.setFlag GG_STICKY GG_STICKY.GAP true).bump GG_GAPCNT).spoil
    let c := if d.currentBelow c (d.rn GG_IDEAD) then 0 else c
    let inc := if c = 0 then 0 else divQ (16 * c * n) (5 * d.rn CHG_RSHUNT)
    let total := d.rs32 GG_QCNT * 65536 + d.gauge.frac + inc
    let q := total / 65536
    let sat := clampInt (-2147483648) 2147483647 q
    let d := (d.wi32 GG_QCNT sat).modGauge fun g => { g with frac := (total % 65536).toNat }
    let d := d.when (sat ≠ q) Dev.spoil
    let d := d.when (inc < 0) (·.addThroughput inc.natAbs)
    (d.gaugeAverage c n).gaugeReport

/-- How long, in counts of 1.25 ns, the results from instant `since` to the last one cover. -/
def Dev.runOf (d : Dev) (since : Option Nat) : Option Nat :=
  match since, d.gauge.lastAt with
  | some a, some b => some (b - a)
  | _, _ => none

/-- Every result for 1 s has been below GG_ILOW (R212); the discharge current has stayed at GG_ETAPER or below for GG_ETIME, in
10 ms, within the open window (R216). -/
def Dev.quietLong (d : Dev) : Bool := (d.runOf d.gauge.quietAt).any fun n => decide (800000000 ≤ n)
def Dev.taperLong (d : Dev) : Bool :=
  d.gauge.window && (d.runOf d.gauge.taperAt).any fun n => decide (8000000 * max 1 (d.rn GG_ETIME) ≤ n)

/-- Pack voltage from a code of entry 6, mV (R185, R211). -/
def Dev.planVbat (d : Dev) (code : Nat) : Nat := (divRound (25 * code * d.rn CHG_VBATDIV) 16384).toNat

/-- A result of entry 6. -/
def Dev.gaugeVoltage (d : Dev) (code : Nat) : Dev := d.holdWindow (d.planVbat code)

/-! ## Start (R225) -/

/-- The gauge reads both copies: the valid one with the newer sequence number is used, once a pack is read. -/
def Dev.gaugeStart (d : Dev) : Dev :=
  let g := d.gauge
  let newer := if g.copies[0].seq.toNat ≤ g.copies[1].seq.toNat then g.copies[1] else g.copies[0]
  let older := if g.copies[0].seq.toNat ≤ g.copies[1].seq.toNat then g.copies[0] else g.copies[1]
  let used := if newer.valid then some newer else if older.valid then some older else none
  let lost := (!newer.valid && older.valid) || (match used with | some r => r.learnPend | none => false)
  let d := d.modPack fun x => { x with restored := some (used.getD { GaugeRec.blank with serial := 0 }), known := false }
  let d := d.modGauge fun g =>
    { g with frac := 0, lastAt := none, lowAt := false, quietAt := none, taperAt := none, avgSum := 0, avgTime := 0, last := .none, window := false,
             socArmed := true }
  let d := d.when used.isNone fun d => (d.setFlag GG_STICKY GG_STICKY.NVBAD true).raise 222
  d.when lost fun d => (d.setFlag GG_STICKY GG_STICKY.LEARNLOST true).raise 218

end Sys2Proof.Machine
end

