-- ==== Sys2Proof/Machine/Charger.lean ====
section
/-!
DEFINITION. The battery stage, the pulse charge cycle, the pack's limits and the status lamps
(07_battery_power_path.md).
-/

namespace Sys2Proof.Machine

open Sys2Proof Sys2Proof.R

/-! ## Phases, limits and temperatures (R186 to R189, R195) -/

/-- Causes of CHG_FAULT (R201). -/
abbrev cfSafety : Nat := 1
abbrev cfSafetyThermal : Nat := 2
abbrev cfPreTimeout : Nat := 3
abbrev cfDead : Nat := 4
abbrev cfPackOv : Nat := 5
abbrev cfStageOc : Nat := 6
abbrev cfConnect : Nat := 7
abbrev cfConfig : Nat := 8
abbrev cfNoStage : Nat := 9

def Dev.phen (d : Dev) : Nat := d.fld CHG_CFG CHG_CFG.PHEN

/-- A stage period start takes the current, voltage and temperature settings (R209). -/
def Dev.takeSets (d : Dev) : Dev :=
  let s : ChgSets :=
    { ichg := d.rd CHG_ICHG, ipre := d.rd CHG_IPRE, itaper := d.rd CHG_ITAPER, vcv := d.rd CHG_VCV, vrech := d.rd CHG_VRECH,
      vempty := d.rd CHG_VEMPTY, cvhys := d.rd CHG_CVHYS, tdrate := d.rd CHG_TDRATE, txstart := d.rd CHG_TXSTART,
      txstop := d.rd CHG_TXSTOP }
  d.modChg fun x => { x with sets := s }

/-- The start of a pulse or rest takes the times (R209). -/
def Dev.takeTimes (d : Dev) : Dev :=
  let t : ChgTimes :=
    { tpulse := d.rd CHG_TPULSE, trest := d.rd CHG_TREST, ttaper := d.rd CHG_TTAPER, tsafe := d.rd CHG_TSAFE,
      tpre := d.rd CHG_TPRE }
  d.modChg fun x => { x with times := t }

/-- I_CC in 10 mA: CHG_ICHG, 0.5 C of the rated capacity, and 20 A (R187). -/
def Dev.iccNow (d : Dev) : Nat := min d.chg.sets.ichg.toNat (min (d.rn PK_RATEDCAP / 2) 2000)
/-- I_CC: a pulse in progress keeps the one that it began with (R206). -/
def Dev.icc (d : Dev) : Nat := if d.pulsing && !d.chg.inRest then d.chg.iccPulse else d.iccNow
/-- The precharge current (R187). -/
def Dev.ipre (d : Dev) : Nat := min d.chg.sets.ipre.toNat d.icc

/-- CHG_VCV in use: clamped to V_CV max (R186). -/
def Dev.vcv (d : Dev) : Nat :=
  match d.chem with
  | some c => min d.chg.sets.vcv.toNat c.vcvMax
  | none => d.chg.sets.vcv.toNat

/-- Settings that R186 clamps set CLAMPED. -/
def Dev.checkClamped (d : Dev) : Dev :=
  match d.chem with
  | some c => d.when (decide (c.vcvMax < d.rn CHG_VCV) || (d.rn CHG_VEMPTY ≠ 0 && decide (d.rn CHG_VEMPTY < c.emptyMin)))
      (·.setFlag CHG_STICKY CHG_STICKY.CLAMPED true)
  | none => d

/-- A setting limited to its range: values outside act as the nearer limit. -/
def within (lo hi v : Nat) : Nat := if v < lo then lo else if hi < v then hi else v
def Dev.tpulse (d : Dev) : Nat := within 1 60 d.chg.times.tpulse.toNat
def Dev.trest (d : Dev) : Nat := within 1 100 d.chg.times.trest.toNat
def Dev.ttaper (d : Dev) : Nat := max 1 d.chg.times.ttaper.toNat
/-- CHG_TSAFE and CHG_TPRE in seconds. -/
def Dev.tsafe (d : Dev) : Nat := 60 * max 1 d.chg.times.tsafe.toNat
def Dev.tpre (d : Dev) : Nat := 60 * max 1 d.chg.times.tpre.toNat
def Dev.cvstep (d : Dev) : Nat := within 0x4000 0x7F00 (d.rn CHG_CVSTEP)

/-- A reading of TH_TEMP that is valid (R397). -/
def Dev.temp (d : Dev) (s : Nat) : Option Int := if d.rd (TH_TEMP s) = 0x8000#16 then none else some (d.rs (TH_TEMP s))

/-- A current scaled by a temperature distance and clipped to 0 to I_CC. -/
def derate (icc : Nat) (num den : Int) : Nat := (clampInt 0 icc (divRound (icc * num) (max 1 den).toNat)).toNat

/-- The pack's term of R189; CHG_TDRATE at or above the window's upper limit acts as 5 degrees below it. -/
def Dev.packCeiling (d : Dev) : Nat :=
  match d.temp 14 with
  | none => 0
  | some t =>
    let r := if chargeHi ≤ d.chg.sets.tdrate.toInt then chargeHi - 320 else d.chg.sets.tdrate.toInt
    derate d.icc (chargeHi - t) (chargeHi - r)

/-- The stage thermistor's term, absent when TXSEL names none; without a valid reading it is 0 (R399). -/
def Dev.stageCeiling (d : Dev) : Nat :=
  let x := d.fld CHG_CFG CHG_CFG.TXSEL
  if 6 ≤ x then d.icc
  else match d.temp (8 + x) with
    | none => 0
    | some t => derate d.icc (d.chg.sets.txstop.toInt - t) (d.chg.sets.txstop.toInt - d.chg.sets.txstart.toInt)

/-- The thermal ceiling (R189). -/
def Dev.thermalCeiling (d : Dev) : Nat := if d.tempHold then 0 else min d.packCeiling d.stageCeiling

/-- BG_ETACHG and BG_ETAAST as they are used: above their range, 0x8000 (R95, log entry 20). -/
def Dev.etaChg (d : Dev) : Nat := min (d.rn BG_ETACHG) 0x8000
def Dev.etaAst (d : Dev) : Nat := min (d.rn BG_ETAAST) 0x8000

/-- BG_CEIL as a battery current in 10 mA (R188). -/
def Dev.guardCeiling (d : Dev) : Nat :=
  if d.rn BG_CEIL = 0 then 0
  else (clampInt 0 65535 (divQ (10000 * d.rn BG_CEIL * d.etaChg) (32768 * d.rn CHG_VBAT))).toNat

/-- CHG_ILIM (R188). -/
def Dev.ilim (d : Dev) : Nat :=
  if d.flag CHG_CTL CHG_CTL.HOLD then 0
  else if d.cphase = cpQualify && d.flag CHG_STATUS CHG_STATUS.PRE then min d.ipre (min d.guardCeiling d.thermalCeiling)
  else if d.pulsing && !d.chg.inRest then min (d.rn CHG_IPULSE) (min d.guardCeiling d.thermalCeiling)
  else 0

/-! ## Stage modes (R190, R193, R209) -/

/-- Values of the stage that were held take effect (R209). -/
def Dev.applyStage (d : Dev) : Dev :=
  let c : StageCfg := { period := d.rd CHG_PERIOD, phen := BitVec.ofNat 2 d.phen, lind := d.rd CHG_LIND,
                        ibw := d.rd CHG_IBW, cbus := d.rd CHG_CBUS, vbw := d.rd CHG_VBW }
  d.modChg fun x => { x with cfg := c }

/-- Every leg at mid. -/
def Dev.stageMid (d : Dev) : Dev := d.modChg fun x => { x with legs := Vector.replicate 4 .mid }

/-- The stage discharges the pack. -/
def Dev.discharging (d : Dev) : Bool := d.cmode = cmAssist || d.cmode = cmBusreg

/-- The controllers on a change of mode (R191): at rest with the stage at mid; in BUSREG the bus controller starts at the
present assist current, or at zero; the battery-voltage controller starts anew when it changes its side (log entry 127). -/
def ChgSt.steer (x : ChgSt) (was m : Nat) : ChgSt :=
  let dis (k : Nat) : Bool := k = cmAssist || k = cmBusreg
  let x := { x with zeroRun := 0, idleRun := 0, limInt := if dis was = dis m then x.limInt else 0 }
  if m = cmOff || m = cmReady then
    { x with iref := 0, curInt := 0, busInt := 0, limInt := 0, rems := Vector.replicate 4 0 }
  else if m = cmBusreg then
    (if was = cmAssist then { x with busInt := 65536 * x.iref, zeroRun := 3 } else { x with busInt := 0 })
  else x

/-- Assist ends: a rest that it interrupted is taken again as a full one from here (R196). -/
def Dev.restAnew (d : Dev) : Dev :=
  if d.pulsing && d.chg.inRest then d.takeTimes.modChg fun x => { x with assisted := false, restAt := d.now } else d

/-- Change CHG_STATUS.MODE: the controllers, the gauge's rate, its taper window, CLAMP, VLIM and the lamps follow. -/
def Dev.setMode (d : Dev) (m : Nat) : Dev :=
  let was := d.cmode
  let d := d.when (was = cmAssist && m ≠ cmAssist) Dev.restAnew
  let d := (d.setFld CHG_STATUS CHG_STATUS.MODE m).modChg (·.steer was m)
  let d := d.when (m ≠ cmOff && m ≠ cmReady) Dev.highRate
  let d := d.when (m = cmOff || m = cmReady) fun d => d.stageMid.applyStage
  let d := d.when (m ≠ cmAssist && m ≠ cmBusreg) fun d =>
    (d.setFlag CHG_STATUS CHG_STATUS.CLAMP false).modGauge fun g => { g with window := false }
  (d.when (m ≠ cmCharge) (·.setFlag CHG_STATUS CHG_STATUS.VLIM false)).lampSync

/-- BATFET opens or closes. -/
def Dev.setBatfet (d : Dev) (b : Bool) : Dev :=
  if d.flag CHG_STATUS CHG_STATUS.BATFET = b then d
  else (d.setFlag CHG_STATUS CHG_STATUS.BATFET b).raise (if b then 201 else 202)

/-- Set the phase: leaving QUALIFY ends a precharge, and OFF ends the cycle with its suspension count (R195, R206). -/
def Dev.setPhase (d : Dev) (p : Nat) : Dev :=
  let d := d.setFld CHG_STATUS CHG_STATUS.PHASE p
  let d := d.when (p ≠ cpQualify) (·.setFlag CHG_STATUS CHG_STATUS.PRE false)
  (d.when (p = cpOff) (·.setFld CHG_STATUS CHG_STATUS.SUSPCNT 0)).lampSync

/-- The stage in OFF: every CPWM pin at mid, BATFET open; any phase but FAULT goes to OFF (R190, R195). -/
def Dev.stageDown (d : Dev) : Dev :=
  let d := d.when (d.cphase ≠ cpFault) fun d => (d.setPhase cpOff).setFlag CHG_STATUS CHG_STATUS.THLIM false
  (d.setMode cmOff).setFlag CHG_STATUS CHG_STATUS.BATFET false
/-- BATFET_OPEN, where the switch opens with it. -/
def Dev.openEvt (d : Dev) : List Nat := if d.flag CHG_STATUS CHG_STATUS.BATFET then [202] else []

/-- Entry to OFF. -/
def Dev.stageOff (d : Dev) : Dev := d.stageDown.raiseAll d.openEvt

/-- FAULT (R201), raised in one instant with the events `es` of what made it (R420): a charger in FAULT keeps its cause. -/
def Dev.faultWith (d : Dev) (cause : Nat) (es : List Nat) : Dev :=
  if d.cphase = cpFault then d.raiseAll es
  else
    let d := ((d.setPhase cpFault).wn CHG_FAULT cause).bump CHG_FLTCNT
    let d := (d.setFlag CHG_STICKY CHG_STICKY.FAULT true).setFlag CHG_STATUS CHG_STATUS.THLIM false
    (d.stageDown.wn CHG_ILIM 0).raiseAll (200 :: d.openEvt ++ es)
def Dev.chgFault (d : Dev) (cause : Nat) : Dev := d.faultWith cause []

/-- A new charge cycle in QUALIFY with new timers; the suspension count is kept on a resume (R195). -/
def Dev.startCycle (d : Dev) (keep : Bool) (event : Nat) : Dev :=
  let d := (d.setPhase cpQualify).setFlag CHG_STATUS CHG_STATUS.PRE false
  let d := d.when (!keep) (·.setFld CHG_STATUS CHG_STATUS.SUSPCNT 0)
  let d := d.zero [CHG_TEQ, CHG_TEQ + 2, CHG_TWALL, CHG_TWALL + 2]
  let d := d.modChg fun x =>
    { x with preBegun := false, preUs := 0, inRest := false, cycleBad := false, assisted := false, taper := 0,
             taperCycles := 0, secUs := 0, secSum := 0, teqFrac := 0, expiry := false }
  d.takeTimes.raise event

/-- A new cycle may start: CHGEN, no HOLD, and the device in RUN or IDLE. -/
def Dev.mayCharge (d : Dev) : Bool :=
  d.flag CHG_CTL CHG_CTL.CHGEN && !d.flag CHG_CTL CHG_CTL.HOLD && (d.dstate = dsRun || d.dstate = dsIdle)
def Dev.stageAble (d : Dev) : Bool := d.cmode = cmReady || d.cmode = cmCharge || d.cmode = cmAssist

/-- The charger follows its inputs: the stage's connection, the rows to OFF and out of OFF, THLIM, CHG_ILIM, and the
start of CHARGE (R188 to R190, R195). -/
def Dev.chgUpdate (d : Dev) : Dev :=
  if !d.blocksRun then d
  else
    let d := d.when (!d.packUsable && d.cmode ≠ cmOff) Dev.stageOff
    let d := d.when (d.packUsable && d.cmode = cmOff && d.cphase ≠ cpFault) (·.setMode cmConnect)
    let able := d.packUsable && d.mayCharge && d.stageAble
    let d := d.when (!able && d.cphase ≠ cpFault && d.cphase ≠ cpOff) (·.setPhase cpOff)
    let d := d.when (able && d.cphase = cpOff && d.cmode = cmReady && !d.tempHold) (·.startCycle false 192)
    let d := d.setFlag CHG_STATUS CHG_STATUS.THLIM (d.pulsing && decide (d.thermalCeiling < d.rn CHG_IPULSE))
    let d := d.wn CHG_ILIM d.ilim
    let bad := d.pulsing && (d.tempHold || d.cmode = cmAssist ||
      (!d.chg.inRest && decide (d.rn CHG_ILIM < d.rn CHG_IPULSE)))
    let d := d.modChg fun x =>
      { x with cycleBad := x.cycleBad || bad, assisted := x.assisted || (d.cmode = cmAssist : Bool) }
    d.when (d.cmode = cmReady && d.rn CHG_ILIM ≠ 0) (·.setMode cmCharge)

/-! ## Assist and hand-over, as the Guard commands them (R104, R111, R113, R190, R206) -/

/-- The pack and the charger allow assist: usable, not in FAULT, inside the discharge window. -/
def Dev.packAssists (d : Dev) : Bool := d.packUsable && d.cphase ≠ cpFault && d.pack.inDischarge

/-- The stage enters ASSIST, from READY or CHARGE, unless an under-voltage trip refuses discharge. -/
def Dev.stageAssist (d : Dev) : Dev :=
  if (d.cmode = cmReady || d.cmode = cmCharge) && !d.chg.uvBlock then (d.setMode cmAssist).chgUpdate else d

/-- Assist ends: at once to CHARGE while CHG_ILIM is above 0, else to READY. -/
def Dev.stageRelease (d : Dev) : Dev :=
  if d.cmode = cmAssist then
    let d := d.chgUpdate
    (d.setMode (if d.rn CHG_ILIM = 0 then cmReady else cmCharge)).chgUpdate
  else d

/-- Hand-over: to BUSREG from whatever mode, or to READY where no assist is possible or an under-voltage trip refuses
discharge. In CONNECT the switch closes at once either way (R202, R206; log entry 128). -/
def Dev.stageHandover (d : Dev) (possible : Bool) : Dev :=
  if possible && !d.chg.uvBlock then ((d.setBatfet true).setMode cmBusreg).chgUpdate
  else if d.cmode = cmOff || d.cmode = cmReady then d.chgUpdate
  else ((d.setBatfet true).setMode cmReady).chgUpdate

/-- RETURN starts: the stage leaves bus regulation for current mode, and an open discharge window closes (R241). -/
def Dev.stageReturn (d : Dev) : Dev :=
  if d.cmode = cmBusreg then ((d.setMode cmAssist).chgUpdate).modGauge fun g => { g with window := false } else d

/-! ## Sensing (R185, R194) -/

/-- Battery current in 10 mA, battery and bus voltage in mV, from codes of the charger's own converters (CSP - CSN, VBATS,
VBUSS), each with its offset correction. -/
def Dev.senseVals (d : Dev) (cs vb vs : Nat) : Int × Int × Int :=
  let x (i : Fin 3) (c : Nat) : Int := 10 * c + d.chg.ofs[i]
  (fitS16 (divQ ((x 0 cs - 20480) * 390625) (1000 * d.rn CHG_RSHUNT)),
    fitU16 (divRound (x 1 vb * 25 * d.rn CHG_VBATDIV) 163840), fitU16 (divRound (x 2 vs * 25 * d.rn BG_VBUSDIV) 163840))

/-- The 1 us means, which CHG_IBAT and CHG_VBAT report; the block after an under-voltage trip ends 200 mV above it (R194). -/
def Dev.chgSense (d : Dev) (cs vb vs : Nat) : Dev :=
  let v := d.senseVals cs vb vs
  let d := (d.wi CHG_IBAT v.1).wi CHG_VBAT v.2.1
  match d.chem with
  | some c => d.when (decide ((c.uv : Int) + 200 < v.2.1)) (·.modChg fun y => { y with uvBlock := false })
  | none => d

/-- The latest single samples, at a period start. -/
def Dev.takeSamples (d : Dev) (cs vb vs : Nat) : Dev :=
  let v := d.senseVals cs vb vs
  d.modChg fun y => { y with iNow := v.1, vNow := v.2.1.toNat, vbus := v.2.2.toNat }

/-- The battery current that the charger hands the Guard: 0 in OFF. -/
def Dev.ibatForGuard (d : Dev) : Int := if d.cmode = cmOff then 0 else d.rs CHG_IBAT

/-- One step of the offset correction toward a plan result: at most 0.1 LSB. -/
def ofsStep (ofs : Int) (own plan : Nat) : Int := ofs + clampInt (-1) 1 ((10 * plan : Int) - (10 * own + ofs))

/-- CHG_SENSE_CHECK: the 10 ms means of the charger's own converters, against entries 5, 6 and 4. -/
def Dev.senseCheck (d : Dev) (cs vb vs : Nat) : Dev :=
  let r (e : Nat) : Nat := d.rn (MS_RESULT e) % 4096
  d.modChg fun x =>
    { x with ofs := #v[ofsStep x.ofs[0] cs (r 5), ofsStep x.ofs[1] vb (r 6), ofsStep x.ofs[2] vs (r 4)] }

/-! ## The stage period (R184, R191, R192) -/

/-- The operating region of source and sink voltages. -/
def regionOf (src sink : Nat) : Region :=
  if 11 * sink ≤ 10 * src then .buck else if 10 * src ≤ 9 * sink then .boost else .buckBoost

/-- Whether the source-side and the sink-side leg of a region switch; a leg that does not is held with its high side on. -/
def Region.switches : Region → Bool × Bool
  | .buck => (true, false)
  | .boost => (false, true)
  | .buckBoost => (true, true)

/-- Output and next integrator of a PI controller with the gains `g`, both within `lo` to `hi`, in 1/65,536 of the output
(log entry 127). -/
def piStep (g : Nat × Nat) (lo hi err acc : Int) : Int × Int :=
  let acc := clampInt lo hi (acc + g.2 * err)
  (divRound (clampInt lo hi (acc + g.1 * err)) 65536, acc)

/-- 2 pi, and the magnitude of 1 + j/5 (a PI controller whose zero lies at a fifth of its crossover), in parts of 10^15. -/
abbrev twoPi : Nat := 6283185307179586
abbrev zeroGain : Nat := 1019803902718557

/-- The gain num/den of controller `k`, rounded down or up as the device does (log entry 127). -/
def gainOf (k : Nat) (integral : Bool) (num den : Nat) : Nat :=
  if den = 0 then (Config.divZero num).toNat
  else num / den + (if num % den ≠ 0 && Config.gainUp k integral num den then 1 else 0)

/-- Proportional and integral gain of a PI controller whose proportional gain is num/den in 1/65,536 and whose crossover is
`hz`: with the zero at hz/5 the integrator gains 2 pi (hz/5) (1.25 ns) of it for each count of the period (R191). -/
def piGains (k num den hz period : Nat) : Nat × Nat :=
  (gainOf k false num den, gainOf k true (num * (twoPi * hz * period)) (den * (4000000000 * 1000000000000000)))

/-- The gains of the current controller: unity at CHG_IBW with CHG_LIND over the number of phases, driven from the source
voltage; duty in 1/65,536 for 10 mA. -/
def Dev.currentGains (d : Dev) : Nat × Nat :=
  let c := d.chg.cfg
  let n := if c.phen = 3 then 2 else 1
  let src := if d.discharging then d.chg.vNow else d.chg.vbus
  piGains 0 (twoPi * c.ibw.toNat * c.lind.toNat * 4294967296) (n * src * zeroGain * 100000) (1000 * c.ibw.toNat) c.period.toNat

/-- The gains of the bus-voltage controller: unity at CHG_VBW with the current into CHG_CBUS; 10 mA for 1 mV. -/
def Dev.busGains (d : Dev) : Nat × Nat :=
  let c := d.chg.cfg
  piGains 1 (twoPi * c.vbw.toNat * c.cbus.toNat * 65536) (zeroGain * 10000000) c.vbw.toNat c.period.toNat

/-- The gains of the battery-voltage controller: the spec gives no plant for its crossover, so the proportional gain is free;
its zero fixes the integral gain. -/
def Dev.voltGains (d : Dev) : Nat × Nat :=
  let c := d.chg.cfg
  piGains 2 (Config.voltGain c.vbw.toNat d.chg.vNow) 1 c.vbw.toNat c.period.toNat

def Dev.assiLim (d : Dev) : Int := clampNat 4000 (d.rn BG_ASSILIM)

/-- The current that the mode asks for, in 10 mA, positive into the battery, and the bus controller's integrator: in ASSIST
the Guard's power, in BUSREG the output of the bus controller, which regulates the bus at BG_VLIFE (R190, R191). -/
def Dev.stageAim (d : Dev) : Int × Int :=
  let lim := d.assiLim
  let m := d.cmode
  if m = cmConnect then (200, d.chg.busInt)
  else if m = cmCharge then (d.rn CHG_ILIM, d.chg.busInt)
  else if m = cmAssist then
    (-(clampInt 0 lim (divQ (d.guard.assist / 65536 * 327680000) (d.rn CHG_VBAT * d.etaAst))), d.chg.busInt)
  else if m = cmBusreg then piStep d.busGains (-(65536 * lim)) 0 ((d.chg.vbus : Int) - d.rn BG_VLIFE) d.chg.busInt
  else (0, d.chg.busInt)

/-- What V_BAT lies beyond the limit of the battery-voltage controller, in mV: above the pulse voltage limit in CHARGE,
below CHG_VEMPTY while discharging (R188, R191, R192). -/
def Dev.voltBeyond (d : Dev) : Option Int :=
  if d.discharging then some ((d.vempty : Int) - d.chg.vNow)
  else if d.cmode = cmCharge then d.chem.map fun c => (d.chg.vNow : Int) - c.pulse
  else none

/-- What the battery-voltage controller takes from the size of the current, its next integrator, and whether it limits. -/
def Dev.voltCut (d : Dev) (aim : Int) : Int × Int × Bool :=
  match d.voltBeyond with
  | none => (0, 0, false)
  | some e =>
    let r := piStep d.voltGains 0 (65536 * aim.natAbs) e d.chg.limInt
    (r.1, r.2, 0 ≤ e || 0 < r.1)

/-- One leg of a period: an on-time of `duty` parts of 65,536, rounded to 78.125 ps with the remainder carried (R33, R183);
the second of two phases lies half a period later (R182). -/
def Dev.placeLeg (d : Dev) (i : Fin 4) (switches : Bool) (duty : Int) : Leg × Int :=
  let c := d.chg.cfg
  if !c.phen.getLsbD (i.val / 2) then (.mid, 0)
  else if !switches then (.high, 0)
  else
    let total := duty * (16 * c.period.toNat) + d.chg.rems[i]
    let steps := divRound total 65536
    (.switch steps.toNat (if i.val < 2 || c.phen ≠ 3 then 0 else 8 * c.period.toNat), total - steps * 65536)

/-- The current controller and the legs of a period (R182 to R184, R191): legs A lie on the battery side. Its output is the
part of the period in which the source-side leg is high and the sink-side leg low: both raise the current (log entry 127). -/
def Dev.stageDrive (d : Dev) (iref : Int) : Dev :=
  let dis := d.discharging
  let vb := d.chg.vNow
  let vs := d.chg.vbus
  let r := if dis then regionOf vb vs else regionOf vs vb
  let err := if dis then d.chg.iNow - iref else iref - d.chg.iNow
  let u := piStep d.currentGains 0 (65535 * 65536) err d.chg.curInt
  let sw := r.switches
  let leg (i : Fin 4) : Leg × Int :=
    if decide (i.val % 2 = 0) = dis then d.placeLeg i sw.1 u.1 else d.placeLeg i sw.2 (65536 - u.1)
  d.modChg fun x =>
    { x with iref := iref, region := r, curInt := u.2, legs := #v[(leg 0).1, (leg 1).1, (leg 2).1, (leg 3).1],
             rems := #v[(leg 0).2, (leg 1).2, (leg 2).2, (leg 3).2] }

/-- The counts of a period start: a period that over-current cut, the periods since the current crossed zero in BUSREG, and
those in CHARGE at a ceiling of 0 (R190, R191, R194). -/
def Dev.countPeriod (d : Dev) : Dev :=
  let bus := decide (d.cmode = cmBusreg)
  let idle := d.cmode = cmCharge && d.rn CHG_ILIM = 0
  d.modChg fun x =>
    { x with ocRun := if x.cut then x.ocRun else 0,
             cut := false,
             zeroRun := if !bus then 0 else if x.zeroRun = 0 && 0 < x.iNow then 0 else min 3 (x.zeroRun + 1),
             idleRun := if idle then min 8 (x.idleRun + 1) else 0 }

/-- The stage stands in bus regulation: two complete periods after the battery current crossed zero (R191). -/
def Dev.busStands (d : Dev) : Bool := d.cmode = cmBusreg && decide (3 ≤ d.chg.zeroRun)

/-- The reference and the legs of a period that begins, with CLAMP, VLIM and the EMPTY window (R188, R190 to R192, R216). -/
def Dev.stageLoop (d : Dev) : Dev :=
  let aim := d.stageAim
  let cut := d.voltCut aim.1
  let d := d.modChg fun x => { x with busInt := aim.2, limInt := cut.2.1 }
  let clamp := d.discharging && cut.2.2
  let rose := clamp && !d.flag CHG_STATUS CHG_STATUS.CLAMP
  let d := (d.setFlag CHG_STATUS CHG_STATUS.CLAMP clamp).setFlag CHG_STATUS CHG_STATUS.VLIM (!d.discharging && cut.2.2)
  let d := d.when rose fun d => (d.raise 203).openWindowG
  if d.cmode = cmOff || d.cmode = cmReady then d
  else d.stageDrive (if d.discharging then aim.1 + cut.1 else aim.1 - cut.1)

/-- STAGE_PERIOD_START with the latest samples of the charger's converters. -/
def Dev.stagePeriod (d : Dev) (cs vb vs : Nat) : Dev :=
  if !d.blocksRun then d
  else
    let d := ((d.takeSamples cs vb vs).takeSets.chgUpdate).countPeriod
    (d.holdWindow d.chg.vNow).stageLoop

/-- The level of a CPWM pin `t` steps of 78.125 ps into the period: mid, high or low (R31, R182). -/
def Leg.level (l : Leg) (period t : Nat) : PwmLevel :=
  match l with
  | .mid => .mid
  | .high => .high
  | .switch on offset => if (t + 16 * period - offset) % (16 * period) < on then .high else .low

/-! ## Hardware limits of the stage (R194) -/

/-- PACK_OV_TRIP. -/
def Dev.packOv (d : Dev) : Dev :=
  if !d.blocksRun || d.chem.isNone then d else d.stageMid.faultWith cfPackOv [205]

/-- PACK_UV_TRIP: the stage goes to READY and refuses discharge. -/
def Dev.packUv (d : Dev) : Dev :=
  if d.blocksRun && (d.cmode = cmAssist || d.cmode = cmBusreg) then
    let d := (d.setFlag CHG_STICKY CHG_STICKY.UVTRIP true).modChg fun x => { x with uvBlock := true }
    (d.setMode cmReady).chgUpdate
  else d

/-- STAGE_OC, in every mode: the period is cut; 8 consecutive ones are a FAULT. -/
def Dev.stageOc (d : Dev) : Dev :=
  if !d.blocksRun || d.chg.cut then d
  else
    let d := (d.setFlag CHG_STICKY CHG_STICKY.OCP true).bump CHG_OCPCNT
    let d := d.stageMid.modChg fun x => { x with cut := true, ocRun := x.ocRun + 1 }
    if 8 ≤ d.chg.ocRun then (d.modChg fun x => { x with ocRun := 0 }).faultWith cfStageOc [204] else d

/-! ## The charge cycle (R195 to R200) -/

/-- Start of a pulse with a current. -/
def Dev.startPulse (d : Dev) (i : Nat) : Dev :=
  let d := (d.wn CHG_IPULSE i).takeTimes
  let icc := d.iccNow
  let len := d.tpulse
  (d.modChg fun x =>
    { x with inRest := false, cycleBad := false, assisted := false, iccPulse := icc, pulseLen := len }).chgUpdate

/-- PULSE-CC and PULSE-CV entered. -/
def Dev.enterCC (d : Dev) : Dev := (((d.setPhase cpCC).raise 193)).startPulse d.iccNow
def Dev.enterCV (d : Dev) : Dev :=
  let d := (d.setPhase cpCV).modChg fun x => { x with taper := 0, taperCycles := 0 }
  (d.raise 194).startPulse (divRound (d.iccNow * d.cvstep) 32768).toNat

/-- DONE through the taper condition: the gauge's FULL anchor. -/
def Dev.enterDone (d : Dev) : Dev :=
  let d := ((d.setPhase cpDone).bump CHG_CYCCNT).modChg fun x => { x with drawn := 0 }
  (d.raise 195).fullAnchor.chgUpdate

/-- QUALIFY_REST_END: the voltage and the largest battery current (10 mA) of the qualifying rest. -/
def Dev.qualifyEnd (d : Dev) (v imax : Nat) : Dev :=
  match d.chem with
  | none => d
  | some c =>
    if !d.blocksRun || d.cphase ≠ cpQualify || d.flag CHG_STATUS CHG_STATUS.PRE || 5 < imax then d
    else if c.ov ≤ v then d.chgFault cfPackOv
    else if v < c.dead then d.chgFault cfDead
    else if d.tempHold then d
    else if v < c.pre then
      let d := (d.setFlag CHG_STATUS CHG_STATUS.PRE true).wn CHG_IPULSE d.ipre
      (d.takeTimes.modChg fun x => { x with preBegun := true }).chgUpdate
    else if v < d.vcv then d.enterCC
    else d.enterCV

/-- PRECHARGE_DONE: a new qualifying rest. -/
def Dev.prechargeDone (d : Dev) : Dev :=
  if d.blocksRun && d.cphase = cpQualify && d.flag CHG_STATUS CHG_STATUS.PRE && !d.tempHold then
    ((d.setFlag CHG_STATUS CHG_STATUS.PRE false).takeTimes).chgUpdate
  else d

/-- PRE_TIMEOUT: CHG_TPRE minutes from the first precharge of the cycle on, rests between spells included. -/
def Dev.preTimeout (d : Dev) : Dev :=
  if d.blocksRun && d.cphase = cpQualify && d.chg.preBegun && decide (d.tpre * 1000000 ≤ d.chg.preUs) then d.chgFault cfPreTimeout else d

/-- PULSE_END. -/
def Dev.pulseEnd (d : Dev) : Dev :=
  if d.blocksRun && d.pulsing && !d.chg.inRest then
    (d.takeTimes.modChg fun x =>
      { x with inRest := true, assisted := (d.cmode = cmAssist : Bool), restAt := d.now }).chgUpdate
  else d

/-- The next pulse current in PULSE-CV (R197). -/
def Dev.nextPulse (d : Dev) (v : Nat) : Nat :=
  let i := d.rn CHG_IPULSE
  if d.vcv ≤ v then max (divRound (i * d.cvstep) 32768).toNat (d.chg.sets.itaper.toNat / 4)
  else if v + d.chg.sets.cvhys.toNat < d.vcv then min (divRound (i * 32768) d.cvstep).toNat d.icc
  else i

/-- The taper count after a cycle of mean current `iavg` and rest voltage `v` (R198). -/
def Dev.taperCycle (d : Dev) (v : Nat) (iavg : Int) : Dev :=
  if d.chg.cycleBad then d
  else if iavg ≤ d.chg.sets.itaper.toNat && decide (d.vcv ≤ v + d.chg.sets.cvhys.toNat) then
    d.modChg fun x => { x with taper := x.taper + 10 * x.pulseLen + d.trest, taperCycles := x.taperCycles + 1 }
  else d.modChg fun x => { x with taper := 0, taperCycles := 0 }
def Dev.tapered (d : Dev) : Bool := 2 ≤ d.chg.taperCycles && decide (10 * d.ttaper ≤ d.chg.taper)

/-- REST_END: the rest voltage, the largest battery current from 1 ms on, and the mean current of the cycle. A rest that
is not valid is taken again. -/
def Dev.endRest (d : Dev) (v imax : Nat) (iavg : Int) : Dev :=
  if 5 < imax || d.chg.assisted then
    d.takeTimes.modChg fun x => { x with assisted := (d.cmode = cmAssist : Bool), restAt := d.now }
  else
    let d := d.wn CHG_VREST v
    if d.tempHold then d.startPulse (if d.cphase = cpCC then d.iccNow else d.rn CHG_IPULSE)
    else if d.cphase = cpCC then
      if d.vcv ≤ v then d.enterCV else d.startPulse d.iccNow
    else
      let d := d.taperCycle v iavg
      if d.tapered then d.enterDone else d.startPulse (d.nextPulse v)

/-- A safety timer has reached its end: CHG_TEQ, in 1/4 s, CHG_TSAFE; CHG_TWALL three times it (R199). -/
def Dev.safetyDue (d : Dev) : Bool := decide (4 * d.tsafe ≤ d.rn32 CHG_TEQ) || decide (3 * d.tsafe ≤ d.rn32 CHG_TWALL)

/-- What an expiry of a safety timer does (R199, R200). -/
def Dev.expire (d : Dev) : Dev :=
  let d := d.modChg fun x => { x with expiry := false }
  if !d.pulsing then d
  else if !d.flag CHG_STATUS CHG_STATUS.THLIM then d.chgFault cfSafety
  else
    let n := d.fld CHG_STATUS CHG_STATUS.SUSPCNT
    if n < 2 then
      let d := ((d.setPhase cpSuspend).setFld CHG_STATUS CHG_STATUS.SUSPCNT (n + 1)).setFlag CHG_STICKY CHG_STICKY.SUSPEND true
      (d.raise 198).chgUpdate
    else d.chgFault cfSafetyThermal

/-- A rest of PULSE-CV ends in the second that runs: it may meet the taper condition, which comes before the expiry (R195,
R206). In TEMPHOLD no taper is judged. -/
def Dev.taperMayCome (d : Dev) : Bool :=
  let due := d.chg.restAt + 100000 * d.trest
  d.cphase = cpCV && d.chg.inRest && !d.tempHold && decide (d.now ≤ due + d.chg.secUs) &&
    decide (due + d.chg.secUs < d.now + 1000000)

/-- SAFETY_EXPIRY: where a rest ends in the same second, the expiry waits for it (log entry 150). -/
def Dev.safetyExpiry (d : Dev) : Dev :=
  if !d.blocksRun || !d.pulsing || !d.safetyDue then d
  else if d.taperMayCome then d.modChg fun x => { x with expiry := true }
  else d.expire

/-- A rest has ended, and with it the wait of an expiry. -/
def Dev.restEnd (d : Dev) (v imax : Nat) (iavg : Int) : Dev :=
  if !d.blocksRun || !d.pulsing || !d.chg.inRest then d
  else (d.endRest v imax iavg).when d.chg.expiry Dev.expire

/-- CHARGE_RESUME: the thermal ceiling has been equal to I_CC for 60 s. -/
def Dev.chargeResume (d : Dev) : Dev :=
  if d.blocksRun && d.cphase = cpSuspend && !d.tempHold && d.thermalCeiling = d.icc then (d.startCycle true 199).chgUpdate else d

/-- RECHARGE: the pack stands below CHG_VRECH with the stage idle, or enough charge has been drawn. -/
def Dev.recharge (d : Dev) : Dev :=
  let low := decide (d.rn CHG_VBAT < d.chg.sets.vrech.toNat) && decide ((d.rs CHG_IBAT).natAbs ≤ 5)
  let drawn := decide (d.rn32 CHG_QRECH * 100000 < d.chg.drawn)
  if d.blocksRun && d.cphase = cpDone && !d.tempHold && (low || drawn) then (d.startCycle false 196).chgUpdate else d

/-- CHG_CTL.RESTART. -/
def Dev.chgRestart (d : Dev) : Dev :=
  if d.blocksRun && d.cphase ≠ cpFault && d.mayCharge && d.stageAble then (d.startCycle false 192).chgUpdate else d

/-! ## Faults and configuration (R182, R201, R209, R210) -/

/-- FAULT is left; another cause that is present enters it again at once. -/
def Dev.leaveFault (d : Dev) : Dev :=
  let d := d.setPhase cpOff
  let ov := match d.chem with | some c => decide (c.ov < d.rn CHG_VBAT) | none => false
  if d.phen = 0 then d.chgFault cfNoStage
  else if d.flag CHG_STATUS CHG_STATUS.CFGERR then d.chgFault cfConfig
  else if ov then d.chgFault cfPackOv
  else d.chgUpdate

/-- Whether FLTCLR clears the present cause (R201). -/
def Dev.fltClears (d : Dev) : Bool :=
  let v := d.rn CHG_VBAT
  match d.rn CHG_FAULT, d.chem with
  | 4, some c => decide (c.dead ≤ v)
  | 5, some c => decide (v + 200 < c.ov)
  | 8, _ => false
  | 9, _ => false
  | _, _ => true
def Dev.fltclr (d : Dev) : Dev :=
  if !d.blocksRun || d.cphase ≠ cpFault then d
  else if d.fltClears then d.leaveFault
  else d.setFlag CHG_STICKY CHG_STICKY.FLTREF true

/-- A pack with another serial number clears the causes of the pack. -/
def Dev.swapClears (d : Dev) : Dev := if d.cphase = cpFault && decide (d.rn CHG_FAULT ≤ 5) then d.leaveFault else d

/-- The conditions of R210. -/
def Dev.chgCfgBad (d : Dev) : Bool :=
  let t := d.rn CHG_PERIOD % 4096
  let ibw := d.rn CHG_IBW
  t < 800 || 4000 < t || d.phen = 2 || d.rn CHG_LIND = 0 || d.rn CHG_CBUS = 0 || d.rn CHG_RSHUNT = 0 ||
    d.rn CHG_VBATDIV = 0 || ibw = 0 || 800000 < ibw * 6 * t || d.rn CHG_VBW = 0 || 100 * ibw < d.rn CHG_VBW ||
    10 * d.rn CHG_IOCP ≤ 11 * max (d.rn CHG_ICHG) (clampNat 4000 (d.rn BG_ASSILIM)) ||
    d.rn CHG_ICHG ≤ d.rn CHG_ITAPER ||
    (d.fld CHG_CFG CHG_CFG.TXSEL < 6 && decide (d.rs CHG_TXSTOP ≤ d.rs CHG_TXSTART))

/-- CFGERR and the causes CONFIG and NOSTAGE follow the registers (R182, R201, R210). -/
def Dev.evalChg (d : Dev) : Dev :=
  let bad := d.chgCfgBad
  let was := d.flag CHG_STATUS CHG_STATUS.CFGERR
  let d := d.setFlag CHG_STATUS CHG_STATUS.CFGERR bad
  let d := d.when (bad && !was) (·.raise 207)
  let d := d.when (d.cmode = cmOff || d.cmode = cmReady) Dev.applyStage
  let d := (d.when (d.cmode = cmOff) Dev.takeSets).lampSync
  let inFault := d.cphase = cpFault
  let cause := d.rn CHG_FAULT
  if d.phen = 0 then
    if inFault then d.when (cause = cfConfig) (·.wn CHG_FAULT cfNoStage) else d.chgFault cfNoStage
  else if inFault && cause = cfNoStage && d.phen ≠ 2 then d.leaveFault
  else if inFault && cause = cfConfig && !bad then d.leaveFault
  else if bad then d.chgFault cfConfig
  else d.chgUpdate

/-- A write of CHG_CTL. -/
def Dev.writeChgCtl (d : Dev) (v : Word) : Dev :=
  let d := d.storeWord CHG_CTL CHG_CTL v
  let d := d.when (v.getLsbD 4) (·.zero [CHG_CYCCNT, CHG_FLTCNT, CHG_OCPCNT])
  let d := d.chgUpdate
  let d := d.when (v.getLsbD 3) Dev.fltclr
  d.when (v.getLsbD 2) Dev.chgRestart

/-- The loader's write of a register of the block: it is not judged by itself (R210). -/
def Dev.loadChg (d : Dev) (a : Nat) (v : BitVec 32) : Dev :=
  if a = CHG_QRECH then d.wr32 a v else d.storeWord a a (v.setWidth 16)

/-- A write of a register of the block by a host or a furrow; CHG_QRECH takes 32 bits. -/
def Dev.writeChg (d : Dev) (a : Nat) (v : BitVec 32) : Dev :=
  let d := if a = CHG_CTL then d.writeChgCtl (v.setWidth 16)
    else if a = CHG_QRECH then d.wr32 a v
    else (d.storeWord a a (v.setWidth 16)).when (decide (a = CHG_VCV) || decide (a = CHG_VEMPTY)) Dev.checkClamped
  d.when d.blocksRun Dev.evalChg

/-! ## The pack's temperature windows (R186) -/

/-- One window, judged at a valid reading: entered 2 degrees inside its limits, left at them. -/
def inWindow (lo hi t : Int) (judged was : Bool) : Bool :=
  if judged && !was then lo + 128 ≤ t && t ≤ hi - 128 else lo ≤ t && t ≤ hi

/-- A new reading of the pack thermistor has been taken: windows, TEMPHOLD and what follows. -/
def Dev.judgePack (d : Dev) : Dev :=
  let d := match d.temp 14 with
    | none => d.modPack fun x => { x with inCharge := false, inDischarge := false, judged := false }
    | some t => d.modPack fun x =>
      { x with inCharge := inWindow chargeLo chargeHi t x.judged x.inCharge,
               inDischarge := inWindow dischargeLo dischargeHi t x.judged x.inDischarge, judged := true }
  let hold := d.packUsable && !d.pack.inCharge
  let rose := hold && !d.tempHold
  let d := (d.setFlag CHG_STATUS CHG_STATUS.TEMPHOLD hold).lampSync
  (d.when rose (·.raise 197)).chgUpdate

/-! ## Time (R195, R199) -/

/-- One microsecond of the charger: the precharge timer, the second of the safety timers, whose mean current counts as 0 when
negative, and the charge drawn since DONE. -/
def Dev.chgTick (d : Dev) : Dev :=
  if !d.blocksRun then d
  else
    let i := d.rs CHG_IBAT
    let d := d.when (d.cphase = cpDone && decide (i < 0)) (·.modChg fun x => { x with drawn := x.drawn + i.natAbs })
    let d := d.when (d.cphase = cpQualify && d.chg.preBegun) (·.modChg fun x => { x with preUs := x.preUs + 1 })
    if !d.pulsing then d
    else
      let icc := d.iccNow
      let d := d.modChg fun x =>
        { x with secUs := x.secUs + 1, secSum := x.secSum + i, iccSec := if x.secUs = 0 then icc else x.iccSec }
      if d.chg.secUs < 1000000 then d
      else
        let inc := max 65536 (divQ (262144 * d.chg.secSum) (1000000 * d.chg.iccSec)).toNat
        let t := d.chg.teqFrac + inc
        let d := (d.wn32 CHG_TEQ (d.rn32 CHG_TEQ + t / 65536)).wn32 CHG_TWALL (d.rn32 CHG_TWALL + 1)
        (d.modChg fun x => { x with secUs := 0, secSum := 0, teqFrac := t % 65536 }).when d.chg.expiry Dev.expire

/-! ## Commands -/

/-- STAGE_PERIOD_START: the latest codes of the charger's converters (CSP - CSN, VBATS, VBUSS). -/
def execStagePeriodStart (cs vb vs : BitVec 12) (s : State) : Host.Outcome State Fault Refusal :=
  s.step1 (·.stagePeriod cs.toNat vb.toNat vs.toNat)
def execPackConnected (s : State) : Host.Outcome State Fault Refusal :=
  s.step1 fun d => d.when (d.blocksRun && d.cmode = cmConnect) fun d => ((d.setBatfet true).setMode cmReady).chgUpdate
def execConnectTimeout (s : State) : Host.Outcome State Fault Refusal :=
  s.step1 fun d => d.when (d.blocksRun && d.cmode = cmConnect) (·.chgFault cfConnect)
def execChargeToReady (s : State) : Host.Outcome State Fault Refusal :=
  s.step1 fun d => d.when (d.blocksRun && d.cmode = cmCharge && decide (8 ≤ d.chg.idleRun)) (·.setMode cmReady)
/-- CHG_SENSE_CHECK: the 10 ms means, as codes. -/
def execChgSenseCheck (cs vb vs : BitVec 12) (s : State) : Host.Outcome State Fault Refusal :=
  s.step1 fun d => d.when d.blocksRun (·.senseCheck cs.toNat vb.toNat vs.toNat)
def execSenseMismatch (s : State) : Host.Outcome State Fault Refusal :=
  s.step1 fun d => d.when d.blocksRun fun d => (d.setFlag CHG_STICKY CHG_STICKY.SENSE true).raise 206
def execPackOvTrip (s : State) : Host.Outcome State Fault Refusal := s.step1 Dev.packOv
def execPackUvTrip (s : State) : Host.Outcome State Fault Refusal := s.step1 Dev.packUv
def execStageOc (s : State) : Host.Outcome State Fault Refusal := s.step1 Dev.stageOc
/-- QUALIFY_REST_END: rest voltage in mV, and the largest current of the rest in 10 mA. -/
def execQualifyRestEnd (v imax : BitVec 16) (s : State) : Host.Outcome State Fault Refusal :=
  s.step1 (·.qualifyEnd v.toNat imax.toNat)
def execPrechargeDone (s : State) : Host.Outcome State Fault Refusal := s.step1 Dev.prechargeDone
def execPreTimeout (s : State) : Host.Outcome State Fault Refusal := s.step1 Dev.preTimeout
def execPulseEnd (s : State) : Host.Outcome State Fault Refusal := s.step1 Dev.pulseEnd
/-- REST_END: rest voltage in mV, largest current in 10 mA, and the cycle's mean current in 10 mA, signed. -/
def execRestEnd (v imax iavg : BitVec 16) (s : State) : Host.Outcome State Fault Refusal :=
  s.step1 (·.restEnd v.toNat imax.toNat iavg.toInt)
def execSafetyExpiry (s : State) : Host.Outcome State Fault Refusal := s.step1 Dev.safetyExpiry
def execChargeResume (s : State) : Host.Outcome State Fault Refusal := s.step1 Dev.chargeResume
def execRecharge (s : State) : Host.Outcome State Fault Refusal := s.step1 Dev.recharge
def execChgRestart (acc : Acc) (s : State) : Host.Outcome State Fault Refusal :=
  s.step1 fun d => d.gate acc CHG_CTL Dev.chgRestart
def execChgFltclr (acc : Acc) (s : State) : Host.Outcome State Fault Refusal :=
  s.step1 fun d => d.gate acc CHG_CTL Dev.fltclr
/-- CHG_HOLD: HOLD is written, CHGEN keeps its value. -/
def execChgHold (acc : Acc) (hold : Bool) (s : State) : Host.Outcome State Fault Refusal :=
  s.step1 fun d => d.gate acc CHG_CTL fun d => (d.setFlag CHG_CTL CHG_CTL.HOLD hold).chgUpdate
def execChgCntclr (acc : Acc) (s : State) : Host.Outcome State Fault Refusal :=
  s.step1 fun d => d.gate acc CHG_CTL (·.zero [CHG_CYCCNT, CHG_FLTCNT, CHG_OCPCNT])
/-- CHG_CONFIG_WRITE: a value of 16 bits, or of 32 at CHG_QRECH. -/
def execChgConfigWrite (acc : Acc) (addr : BitVec 16) (v : BitVec 32) (s : State) : Host.Outcome State Fault Refusal :=
  s.step1 fun d => d.gate acc addr.toNat fun d =>
    d.when (decide (0x3400 ≤ addr.toNat ∧ addr.toNat < 0x343C)) (·.writeChg addr.toNat v)
/-- LAMP_PATTERN_STEP: CKD_RTC times the patterns, which stand still in NEWT while the reference is gone (R381, R387). -/
def execLampPatternStep (l : Fin 2) (s : State) : Host.Outcome State Fault Refusal :=
  s.step1 fun d => d.when (decide (d.boot.phase ≠ .newt) || d.flag CLK_STATUS CLK_STATUS.REFOK) (·.lampStep l)

end Sys2Proof.Machine
end

