-- ==== Sys2Proof/Machine/Hopper.lean ====
section
/-!
DEFINITION. The command hopper (11_command_hopper.md): doorbells, the checks of R290, completion windows, journal closes,
DISABLE and ENABLE, and the commands that need no other block.
-/

namespace Sys2Proof.Machine

open Sys2Proof Sys2Proof.R

/-! ## Acceptance (R286 to R289) -/

/-- Whether a tag is free: no item in flight under it and no furrow holds it (R289). -/
def Dev.tagFree (d : Dev) (t : Tag) : Bool := (d.item t).isNone && !d.tagHeld t

/-- The first free tag after the tag assigned last, counting modulo 128; the first item after POR starts at 0
(R289, log entry 31). -/
def Dev.nextTag (d : Dev) : Option Tag :=
  let start := if d.hopper.assigned then d.fld HOP_STATUS HOP_STATUS.LASTTAG + 1 else 0
  ((List.range 128).map fun i => (Fin.ofNat 128 (start + i) : Tag)).find? d.tagFree

/-- The descriptor in an accessor's submission buffer (R287), with its tag and source. -/
def Dev.descriptor (d : Dev) (set : Nat) (tag : Tag) (src : Fin 4) : Item :=
  let w (i : Nat) : Word := d.rd (accKey set (HOP_SUB i))
  { tag := tag, code := loByte (w 0), flags := hiByte (w 0), args := #v[w 1, w 2, w 3, w 4, w 5, w 6],
    cookie := w 7, source := src, stamp := d.stamp, stage := .accepted }

/-- A refused doorbell (R288). -/
def Dev.refuseBell (d : Dev) (set reason : Nat) : Dev :=
  (d.wn (accKey set HOP_SUBSTAT) (reason * 0x100)).bump HOP_REFCNT

/-- An accepted item: its journal slot is opened, then it is in flight (R288, R303). -/
def Dev.acceptItem (d : Dev) (set : Nat) (i : Item) : Dev :=
  let h := d.hopper
  let slot : JSlot := { tag := i.tag, seq := h.jseq, item := i, crcOk := true, closed := none }
  let h : HopperSt := { h with
    items := h.items ++ [i], assigned := true, jseq := h.jseq + 1, closes := h.closes.filter (fun c => c.1 ≠ i.tag),
    journal := h.journal.filter (fun (j : JSlot) => j.tag ≠ i.tag) ++ [slot] }
  let d := ({ d with hopper := h }).nvMade (.journal i.tag)
  let d := (d.setFld HOP_STATUS HOP_STATUS.LASTTAG i.tag.val).syncHop
  let d := d.wn (HOP_TAGSTAT i.tag) (i.source.val * 0x800 + i.code.toNat)
  (d.wn (accKey set HOP_SUBSTAT) (0x4000 + i.tag.val)).bumpWrap HOP_ACCCNT

/-- The doorbell of an accessor: the conditions of R288 in their order. -/
def Dev.doorbell (d : Dev) (acc : Acc) : Dev :=
  let set := acc.sharedSet
  if d.flag CFG_DSTATE CFG_DSTATE.BOOT || d.flag CFG_DSTATE CFG_DSTATE.NEWTPEND ||
      decide (d.hopper.pendingReset ≠ .none) || !d.hopper.resetTags.isEmpty || (d.isUp && !d.engine.started) then d.refuseBell set 3
  else match (if 128 ≤ d.inFlight.length then none else d.nextTag) with
    | none => ((d.setFlag HOP_STICKY HOP_STICKY.FULL true).refuseBell set 1).raise 26
    | some t =>
      if d.nvInhibit then (d.setFlag HOP_STICKY HOP_STICKY.NVBLK true).refuseBell set 2
      else d.acceptItem set (d.descriptor set t acc.source)

/-! ## Carrying an item out (R290) -/

/-- Argument `i` of an item, and two arguments as one 32-bit value. -/
def Item.arg (it : Item) (i : Fin 6) : Nat := it.args[i].toNat
def Item.arg32 (it : Item) (i : Fin 6) (j : Fin 6) : Nat := it.arg i + 65536 * it.arg j

/-- The arguments from index `k` on are 0. -/
def Item.unusedZero (it : Item) (k : Nat) : Bool := (it.args.toList.drop k).all fun w => w = 0

/-- A reserved code, a reserved flag, a non-zero unused argument or an argument outside its range (R290, R291). -/
def Item.bad (it : Item) : Bool :=
  (it.flags &&& 0xFE#8) ≠ 0 ||
    match it.code.toNat with
    | 0x00 => !it.unusedZero 0
    | 0x01 => !it.unusedZero 2 || 127 < it.arg 0
    | 0x02 => !it.unusedZero 2 || it.arg 0 = 15 || 31 < it.arg 0
    | 0x03 => !it.unusedZero 1 || it.arg 0 = 15 || 31 < it.arg 0
    | 0x10 => !it.unusedZero 1 || 7 < it.arg 0
    | 0x11 => !it.unusedZero 0
    | 0x12 => !it.unusedZero 1 || 7 < it.arg 0
    | 0x13 => !it.unusedZero 0
    | 0x18 => !it.unusedZero 3 || 11 < it.arg 0
    | 0x20 => !it.unusedZero 4
    | 0x21 => !it.unusedZero 0
    | 0x22 => !it.unusedZero 2
    | 0x23 => !it.unusedZero 2
    | 0x24 => !it.unusedZero 0
    | 0x30 => !it.unusedZero 0
    | 0x31 => !it.unusedZero 0
    | 0x32 => !it.unusedZero 2
    | 0x33 => !it.unusedZero 4
    | 0x38 => false
    | 0x39 => !it.unusedZero 0
    | c => c < 0x80

/-- Whether an item's function is disabled or draining (R290, R301). -/
def Dev.fnClosed (d : Dev) (it : Item) : Bool :=
  match d.fnOf it with
  | some fn => d.mbit HOP_FNDIS fn.val
  | none => false

/-- Carry out the accepted item under `tag` if its code is `code`: bad arguments and a closed function complete it at
once (R290). Nothing happens for a tag whose item is not an accepted one of that code, nor outside the running states,
where items stay open (R306). -/
def Dev.carry (d : Dev) (tag : Tag) (isCode : Nat → Bool) (body : Item → Dev → Dev) : Dev :=
  match d.item tag with
  | none => d
  | some it =>
    if !d.isUp || decide (it.stage ≠ .accepted) || !isCode it.code.toNat then d
    else if it.bad then d.complete tag 0x21 0
    else if d.fnClosed it then d.complete tag 0x23 0
    else body it d

/-- In-flight items of a code that a block is carrying out. -/
def Dev.runningItems (d : Dev) (code : Nat) : List Item :=
  d.inFlight.filter fun i => i.stage = .running && i.code.toNat = code

/-! ## DISABLE, ENABLE and drains (R300, R301) -/

def Dev.disable (d : Dev) (it : Item) : Dev :=
  let fn : Fin 32 := Fin.ofNat 32 (it.arg 0)
  if fn.val < 12 && d.mbit SEQ_RAILON fn.val then d.complete it.tag 0x23 0
  else if d.mbit HOP_FNDRAIN fn.val then d.complete it.tag 0x22 0
  else if d.mbit HOP_FNDIS fn.val then d.complete it.tag 0x00 0
  else
    let n := (d.inFlight.filter fun i => d.fnOf i = some fn).length
    let d := (d.setMbit HOP_FNDIS fn.val true).setMbit HOP_FNDRAIN fn.val true
    let x : Drain := { fn := fn, tag := it.tag, atStart := n, ended := 0 }
    let d := { d with hopper := { d.hopper with drains := d.hopper.drains ++ [x] } }
    let d := (d.setStage it.tag .running).raise 29
    d.settleDrains

def Dev.enable (d : Dev) (it : Item) : Dev :=
  let fn := it.arg 0
  if d.mbit HOP_FNDRAIN fn then d.complete it.tag 0x22 0
  else if d.mbit HOP_FNDIS fn then ((d.setMbit HOP_FNDIS fn false).raise 30).complete it.tag 0x00 0
  else d.complete it.tag 0x00 0

/-- The drain time ends (R301 step 3). In LATCHED items stay open (R306). -/
def Dev.drainTimeout (d : Dev) (tag : Tag) : Dev :=
  if !d.isUp then d
  else match d.hopper.drains.find? (fun x => x.tag = tag) with
  | none => d
  | some x =>
    let left := (d.inFlight.filter fun i => d.fnOf i = some x.fn).map (·.tag)
    let d := { d with hopper := { d.hopper with
      drains := d.hopper.drains.map fun (y : Drain) => if y.tag = tag then { y with ended := y.ended + left.length } else y } }
    let d := d.when (!left.isEmpty) fun d => (d.setFlag HOP_STICKY HOP_STICKY.DRAINTO true).raise 31
    (d.completeAll left 0x13).settleDrains

/-! ## Completion windows (R298) -/

/-- The record that reader `r` sees: the frozen one, or its next unread one. -/
def Dev.windowRec (d : Dev) (r : Fin 4) : Option Completion :=
  match d.hopper.frozen[r] with
  | some c => some c
  | none => if d.unread r = 0 then none else d.hopper.ring[d.unread r - 1]?

/-- Byte `i` of the window of reader `r`. -/
def Dev.windowByte (d : Dev) (r : Fin 4) (i : Nat) : Byte :=
  match d.windowRec r with
  | some c => (c.bytes[i]?).getD 0
  | none => 0

/-- Reading byte 0 freezes the record, reading byte 15 releases it and advances HOP_CRD. -/
def Dev.windowRead (d : Dev) (r : Fin 4) (i : Nat) : Dev :=
  if d.unread r = 0 then d
  else if i = 0 then { d with hopper := { d.hopper with frozen := d.hopper.frozen.set r (d.windowRec r) } }
  else if i = 15 then
    Dev.trimMissed { d with hopper := { d.hopper with frozen := d.hopper.frozen.set r none,
                                                      crd := d.hopper.crd.set r (d.hopper.crd[r] + 1) } }
  else d

/-- HOP_CAVAIL of reader `r`. -/
def Dev.cavail (d : Dev) (r : Fin 4) : Word :=
  BitVec.ofNat 16 ((if d.hopper.ovr[r] then 0x8000 else 0) + d.unread r)

/-- Bytes that a read sends back: they go out on the bus of a port. -/
def Dev.answer (d : Dev) (acc : Acc) (bs : List Byte) : Dev :=
  match acc with
  | .port p => { d with ports := d.ports.set p { d.ports[p] with tx := bs } }
  | .furrow _ => d

/-! ## Commands -/

def execDoorbell (acc : Acc) (s : State) : Host.Outcome State Fault Refusal :=
  s.step1 fun d => d.gate acc HOP_SUBCTL (·.doorbell acc)

/-- HOP_RESERVED_CODE (R290). -/
def execHopReservedCode (tag : Tag) (s : State) : Host.Outcome State Fault Refusal :=
  s.step1 fun d => match d.item tag with
    | some it => d.when (d.isUp && decide (it.stage = .accepted) && it.bad) (·.complete tag 0x21 0)
    | none => d

/-- NOP: DONE, with the operating time as in R295. -/
def execHopNop (tag : Tag) (s : State) : Host.Outcome State Fault Refusal :=
  s.step1 fun d => d.carry tag (· = 0x00) fun _ d => d.complete tag 0x00 (result2 0 d.stamp.toNat)

def execDisable (tag : Tag) (s : State) : Host.Outcome State Fault Refusal :=
  s.step1 fun d => d.carry tag (· = 0x02) fun it d => d.disable it
def execEnable (tag : Tag) (s : State) : Host.Outcome State Fault Refusal :=
  s.step1 fun d => d.carry tag (· = 0x03) fun it d => d.enable it
def execDrainTimeout (tag : Tag) (s : State) : Host.Outcome State Fault Refusal := s.step1 (·.drainTimeout tag)

/-- A reset item: DONE; its reset follows the journal close of this completion (R293). -/
def Dev.resetItem (d : Dev) (tag : Tag) : Dev :=
  let d := { d with hopper := { d.hopper with resetTags := d.hopper.resetTags ++ [tag] } }
  d.complete tag 0x00 0

/-- ENGINE_RESET: an engine reset follows (R293). -/
def execEngineReset (tag : Tag) (s : State) : Host.Outcome State Fault Refusal :=
  s.step1 fun d => d.carry tag (· = 0x30) fun _ d => d.resetItem tag

/-- RAIL_CYCLE: a rail-cycle reset follows (R293). -/
def execRailCycle (tag : Tag) (s : State) : Host.Outcome State Fault Refusal :=
  s.step1 fun d => d.carry tag (· = 0x31) fun _ d => d.resetItem tag

/-- The reset that the item under `tag` asks for: its journal slot names the item. -/
def Dev.resetKind (d : Dev) (tag : Tag) : PendingReset :=
  match d.hopper.journal.find? (fun (j : JSlot) => j.tag = tag) with
  | some j => if j.item.code = 0x31 then .railCycle 2 else .engine 2
  | none => .engine 2

/-- A journal slot rewritten CLOSED with `status`. -/
def JSlot.close (j : JSlot) (status : BitVec 6) : JSlot := { j with crcOk := true, closed := some status }

/-- JOURNAL_CLOSE (R303): the slot of a completed item is rewritten CLOSED, once NV writes are allowed (R306). The close
of an ENGINE_RESET or RAIL_CYCLE item makes its reset due (R293). -/
def Dev.journalClose (d : Dev) (tag : Tag) : Dev :=
  match d.hopper.closes.find? (fun c => c.1 = tag) with
  | none => d
  | some (_, status) =>
    if d.nvInhibit then d
    else
      let h := d.hopper
      let due := tag ∈ h.resetTags
      let h : HopperSt := { h with
        closes := h.closes.filter (fun c => c.1 ≠ tag)
        journal := h.journal.map fun (j : JSlot) => if j.tag = tag then j.close status else j
        resetTags := h.resetTags.filter (· ≠ tag)
        pendingReset := if due then h.pendingReset.join (d.resetKind tag) else h.pendingReset }
      ({ d with hopper := h }).nvMade (.journal tag)
def execJournalClose (tag : Tag) (s : State) : Host.Outcome State Fault Refusal := s.step1 (·.journalClose tag)

/-- REC_MARK: a MARK record with the item's 12 bytes; the result is its number (R291). -/
def execRecMark (tag : Tag) (s : State) : Host.Outcome State Fault Refusal :=
  s.step1 fun d => d.carry tag (· = 0x38) fun it d =>
    let n := d.recorder.next
    let d := d.record 0x07 (BitVec.ofNat 8 it.source.val) (it.args.toList.flatMap fun w => [loByte w, hiByte w])
    d.complete tag 0x00 (result2 n.toNat 0)

/-- REC_FLUSH (R371): FAILED_TEMPERATURE at once under the inhibit; otherwise it completes with its flush: the one under way,
or the next one where that has ended its ring stage. -/
def Dev.recFlush (d : Dev) (tag : Tag) : Dev :=
  if d.nvInhibit then d.complete tag 0x33 0
  else
    let late := d.recorder.flushing && d.recorder.ringDone
    let d := d.when late fun d => { d with recorder := { d.recorder with later := d.recorder.later ++ [tag] } }
    (d.setStage tag .running).startFlush
def execRecFlush (tag : Tag) (s : State) : Host.Outcome State Fault Refusal :=
  s.step1 fun d => d.carry tag (· = 0x39) fun _ d => d.recFlush tag

/-- PROGRAM_COMMAND: codes 0x80 to 0xFF go to their furrow (R257). -/
def execProgramCommand (tag : Tag) (s : State) : Host.Outcome State Fault Refusal :=
  s.step1 fun d => d.carry tag (0x80 ≤ ·) fun it d => d.handOver tag it.code

def execHopCnextRead (acc : Acc) (i : Fin 16) (s : State) : Host.Outcome State Fault Refusal :=
  s.step1 fun d => d.when (d.mayRead acc) fun d =>
    let r : Fin 4 := acc.source
    (d.answer acc [d.windowByte r i.val]).windowRead r i.val

/-- HOP_CAVAIL_READ: reading the high byte clears OVR (R298). -/
def execHopCavailRead (acc : Acc) (s : State) : Host.Outcome State Fault Refusal :=
  s.step1 fun d => d.when (d.mayRead acc) fun d =>
    let r : Fin 4 := acc.source
    let d := d.answer acc [hiByte (d.cavail r)]
    { d with hopper := { d.hopper with ovr := d.hopper.ovr.set r false } }

/-- HOP_CTL.CNTCLR (R309). -/
def Dev.hopCntclr (d : Dev) : Dev := d.zero [HOP_ACCCNT, HOP_REFCNT, HOP_LATECNT, HOP_OVRCNT]
def execHopCntclr (acc : Acc) (s : State) : Host.Outcome State Fault Refusal := s.step1 fun d => d.gate acc HOP_CTL Dev.hopCntclr

end Sys2Proof.Machine
end

