-- ==== Sys2Proof/Machine/Loops.lean ====
section
/-!
DEFINITION. The regulation loops and phases (02_regulation_loops.md): configuration checks, setpoints, the reference, the
compensator, soft-start and soft-stop, shedding, sharing and protection. The drill's part in a loop's rail is in
Machine/Drill.lean, the commands in Machine/LoopCommands.lean.
-/

namespace Sys2Proof.Machine

open Sys2Proof Sys2Proof.R

/-! ## Configuration (R30, R36, R38, R41, R47, R49, R60, R482) -/

/-- Sense attenuation (R36). -/
def Dev.atten (d : Dev) (n : Loop) : Nat := 2 ^ d.fld (LP_CFG n) LP_CFG.ATTEN

/-- Bottom and top of the sense range, 0.125 mV (R36). -/
def Dev.senseLo (d : Dev) (n : Loop) : Nat := 2000 * d.atten n
def Dev.senseHi (d : Dev) (n : Loop) : Nat := 12800 * d.atten n

/-- Samples per period (R38). -/
def Dev.osr (d : Dev) (n : Loop) : Nat := 2 ^ d.fld (LP_CFG n) LP_CFG.OSR

/-- The causes of R49. -/
def Dev.limitsBad (d : Dev) (n : Loop) : Bool :=
  let out (v : Nat) : Bool := v < d.senseLo n || d.senseHi n < v
  d.rn (LP_OV n) ≤ d.rn (LP_VMAX n) || d.rn (LP_VMIN n) ≤ d.rn (LP_UV n) || out (d.rn (LP_VMIN n)) ||
    out (d.rn (LP_VMAX n)) || d.rn (LP_SSSLEW n) = 0

/-- A pole coefficient outside 0x0001 to 0x8000 (R41). -/
def poleBad (a : Word) : Bool := a = 0 || 0x8000 < a.toNat

/-- Two assigned phases hold one ORDER (R60). -/
def Dev.orderClash (d : Dev) (n : Loop) : Bool :=
  let ms := d.phasesOf n
  ms.any fun a => ms.any fun b => a < b && d.order a = d.order b

/-- Every cause of CFGERR (R482). 25 MS/s is one sample in 32 counts of 1.25 ns (R38). -/
def Dev.loopCfgBad (d : Dev) (n : Loop) : Bool :=
  let t := d.fld (LP_PERIOD n) LP_PERIOD.PERIOD
  let b := (d.loop n).bank
  t < 400 || 4000 < t || d.fld (LP_CFG n) LP_CFG.ATTEN = 3 || 4 < d.fld (LP_CFG n) LP_CFG.OSR || t < 32 * d.osr n ||
    d.fld (LP_CFG n) LP_CFG.SPSRC = 3 || poleBad b.a1 || poleBad b.a2 || d.limitsBad n || d.orderClash n

/-- Evaluate CFGERR: it reads 0 unless the loop is OFF. -/
def Dev.evalCfgErr (d : Dev) (n : Loop) : Dev :=
  d.setFlag (LP_STATUS n) LP_STATUS.CFGERR (d.lstate n = lsOff && d.loopCfgBad n)

/-- A setpoint fault: SPFAULT and the event EV051 + 4n (R47 to R49). -/
def Dev.spFault (d : Dev) (n : Loop) : Dev :=
  (d.setFlag (LP_STICKY n) LP_STICKY.SPFAULT true).raise (51 + 4 * n.val)

/-! ## Currents (R55) -/

/-- LP_IOUT is the sum over the assigned phases, LP_POUT the product with LP_VOUT. -/
def Dev.sumIout (d : Dev) (n : Loop) : Dev :=
  let i := fitS16 ((d.phasesOf n).foldl (fun a m => a + d.rs (PH_IOUT m)) 0)
  let d := d.wi (LP_IOUT n) i
  d.wi (LP_POUT n) (fitU16 (divRound (i * d.rn (LP_VOUT n)) 80000))

/-- LP_VOUT, and LP_POUT with it. -/
def Dev.setVout (d : Dev) (n : Loop) (v : Nat) : Dev := (d.wn (LP_VOUT n) v).sumIout n

/-! ## Phases in and out of service (R29, R31, R58) -/

def Dev.activePhases (d : Dev) (n : Loop) : List Phase := (d.phasesOf n).filter fun m => d.pstate m = psActive

/-- Rank of a phase among others. -/
def Dev.rankIn (d : Dev) (all : List Phase) (m : Phase) : Nat := (all.filter fun x => d.order x < d.order m).length

/-- Phases take the offsets of R29 under the spacing of the phases `all`. -/
def Dev.spaceOver (d : Dev) (n : Loop) (all ms : List Phase) : Dev :=
  let t := 16 * d.fld (LP_PERIOD n) LP_PERIOD.PERIOD
  ms.foldl (fun (d : Dev) (m : Phase) => d.modPhase m fun x =>
    { x with offset := (divRound (d.rankIn all m * t) all.length).toNat }) d

/-- ACTPH and the offsets of R29 follow the active phases. While phases re-enter, the spacing is the one that it will be with
them (R59). -/
def Dev.respace (d : Dev) (n : Loop) : Dev :=
  let act := d.activePhases n
  let d := d.setFld (LP_STATUS n) LP_STATUS.ACTPH act.length
  d.spaceOver n ((d.phasesOf n).filter fun m => d.pstate m = psActive || d.pstate m = psJoining) act

/-- A phase that carries no current: mid, with PH_IOUT at 0 (R31, R55). OCNOW shows its last period, which has ended. -/
def Dev.idlePhase (d : Dev) (m : Phase) (st : Nat) : Dev :=
  let d := ((d.setPstate m st).wn (PH_IOUT m) 0).setFlag (PH_STATE m) PH_STATE.OCNOW (d.phase m).cut
  d.modPhase m fun x => { x with drive := .mid, onTime := 0, cutRun := 0 }

/-- Every phase of a loop that is FALLOW or LEAVING becomes JOINING, its trim reset and its PH_IOUT at 0, and re-enters at
the period start of the full spacing (R55, R59, R60). -/
def Dev.rejoin (d : Dev) (n : Loop) : Dev :=
  let all := d.phasesOf n
  let back := all.filter fun m => d.pstate m = psFallow || d.pstate m = psLeaving
  let d := back.foldl (fun (d : Dev) (m : Phase) => ((d.setPstate m psJoining).wn (PH_TRIM m) 0).wn (PH_IOUT m) 0) d
  (d.spaceOver n all back).sumIout n

/-- Shedding is suspended while LP_IPHDN is not below LP_IPHUP (R60). -/
def Dev.evalShed (d : Dev) (n : Loop) : Dev :=
  let susp := d.flag (LP_CTL n) LP_CTL.SHEDEN && decide (d.rs (LP_IPHUP n) ≤ d.rs (LP_IPHDN n))
  let was := (d.loop n).shedSusp
  let d := d.modLoop n fun x => { x with shedSusp := susp }
  if susp && !was then (d.setFlag (LP_STICKY n) LP_STICKY.SHEDCFG true).rejoin n else d

/-- A load step (R59). In soft-start and in a transition it only counts, and its hold starts later (R66, log entry 116). -/
def Dev.loadStep (d : Dev) (n : Loop) : Dev :=
  let d := ((d.bump (LP_STEP_CNT n)).setFlag (LP_STICKY n) LP_STICKY.STEP true).modLoop n fun x => { x with spoiled := true }
  if d.lstate n = lsRegulating then (d.rejoin n).setFlag (LP_STATUS n) LP_STATUS.STEPHOLD true
  else d.modLoop n fun x => { x with holdPend := true }

/-- STATE reads REGULATING: a hold that waited for it starts (R66). -/
def Dev.regulate (d : Dev) (n : Loop) : Dev :=
  let hold := (d.loop n).holdPend
  let d := (d.setLstate n lsRegulating).modLoop n fun x => { x with holdPend := false }
  d.when hold (·.setFlag (LP_STATUS n) LP_STATUS.STEPHOLD true)

/-! ## Setpoints (R47, R48, R51, R292) -/

/-- The reference for a target: the odd LSBs of the attenuation are dropped (R39). -/
def Dev.refGoal (d : Dev) (n : Loop) : Nat := (d.loop n).target / d.atten n * d.atten n

/-- The reference as it is applied after attenuation, also within a ramp (R39). -/
def Dev.refOut (d : Dev) (n : Loop) : Nat := d.rn (LP_VREF n) / d.atten n * d.atten n

/-- The LOOP_SETV items in progress on loop `n` end (R292). -/
def Dev.endSetv (d : Dev) (n : Loop) (status : Nat) : Dev :=
  ((d.runningItems 0x18).filter fun i => i.arg 0 = n.val).foldl (fun d i =>
    d.complete i.tag status (result2 (d.rn (LP_VSET n)) (d.rn (LP_VOUT n)))) d

/-- A target becomes the loop's target: a change restarts the dwell and, after the first power-good, starts a ramp at LP_SLEW
(R51); before it, also after t2, the reference goes on at LP_SSSLEW (R52). -/
def Dev.newTarget (d : Dev) (n : Loop) (v : Nat) : Dev :=
  if (d.loop n).target = v then d
  else
    let ss := decide (d.lstate n = lsSoftStart)
    let d := d.modLoop n fun x => { x with target := v, dwelled := false, ssRamp := ss || (x.ssRamp && !x.up) }
    let d := d.setFlag (LP_STATUS n) LP_STATUS.SETTLED false
    if d.lstate n = lsRegulating ∨ d.lstate n = lsTransition then
      if d.rn (LP_VREF n) = d.refGoal n then d.regulate n else d.setLstate n lsTransition
    else d

/-- A setpoint clamped to LP_VMIN and LP_VMAX (R48). -/
def Dev.clampSet (d : Dev) (n : Loop) (v : Nat) : Nat :=
  if v < d.rn (LP_VMIN n) then d.rn (LP_VMIN n) else if d.rn (LP_VMAX n) < v then d.rn (LP_VMAX n) else v

/-- A write of LP_VSET by its owner: the answer is whether R48 clamped it. Items that waited for the former target end with
LP_VSET as it was accepted for them (R291, R292). -/
def Dev.setTarget (d : Dev) (n : Loop) (v : Nat) : Bool × Dev :=
  let c := d.clampSet n v
  let d := d.endSetv n 0x01
  let d := d.when (c ≠ v) (·.spFault n)
  (c ≠ v, (d.wn (LP_VSET n) c).newTarget n c)

/-- The loader's LP_VSET stands as it is written (R47, R362): R48 applies when it is used. -/
def Dev.loadVset (d : Dev) (n : Loop) (v : Nat) : Dev := ((d.endSetv n 0x01).wn (LP_VSET n) v).newTarget n v

/-- The target of a running loop comes under R48 as LP_VMIN and LP_VMAX stand at a sample (R48, R50). LP_VSET stays as it is
(log entry 119). -/
def Dev.limitTarget (d : Dev) (n : Loop) : Dev :=
  let c := d.clampSet n (d.loop n).target
  if c = (d.loop n).target then d
  else ((d.spFault n).modLoop n fun x => { x with setvClamped := true }).newTarget n c

/-- LP_CFG.SPSRC of an accessor (R47): 0 the owner host, 1 furrows. -/
def spsrcOf : Acc → Nat
  | .port _ => 0
  | .furrow _ => 1

/-- LP_VSET_WRITE: accepted from the setpoint owner, ignored with a setpoint fault from any other (R47). -/
def Dev.writeVset (d : Dev) (n : Loop) (src : Nat) (v : Nat) : Dev :=
  if d.fld (LP_CFG n) LP_CFG.SPSRC = src then (d.setTarget n v).2 else d.spFault n

/-- SETTLED rises: the link's SETTLE bit is set and LOOP_SETV completes (R83, R292). -/
def Dev.settle (d : Dev) (n : Loop) : Dev :=
  if d.flag (LP_STATUS n) LP_STATUS.SETTLED then d
  else
    let d := (d.setFlag (LP_STATUS n) LP_STATUS.SETTLED true).vlSettle n
    d.endSetv n (if (d.loop n).setvClamped then 0x01 else 0x00)

/-! ## Off, power-good and protection (R54, R62) -/

/-- The loop leaves regulation: no phase switches, no computation runs. -/
def LoopSt.still (x : LoopSt) : LoopSt :=
  { x with switching := false, ssWait := false, offPend := false, dwelled := false, uvArmed := false, busy := none,
           waiting := none, holdPend := false, recent := [], spoiled := true }

/-- STATE reads OFF and every phase is at mid (R54). -/
def Dev.goOff (d : Dev) (n : Loop) : Dev :=
  let d := (d.setLstate n lsOff).modLoop n LoopSt.still
  let d := ((d.setFlag (LP_STATUS n) LP_STATUS.PG false).setFlag (LP_STATUS n) LP_STATUS.SETTLED false).setFlag
    (LP_STATUS n) LP_STATUS.STEPHOLD false
  let d := (d.phasesOf n).foldl (fun d m => d.idlePhase m psOff) d
  let d := ((d.respace n).sumIout n).evalCfgErr n
  (d.vlRailOff n).endSetv n 0x31

/-- The loop's off-slot (R54, R50). -/
def Dev.softStop (d : Dev) (n : Loop) : Dev :=
  if d.lstate n = lsOff ∨ d.lstate n = lsOvLatched then d
  else
    let d := d.modLoop n fun x => { x with uvArmed := false }
    let d := (d.setFlag (LP_STATUS n) LP_STATUS.PG false).setFlag (LP_STATUS n) LP_STATUS.SETTLED false
    if (d.loop n).offMode && d.rn (LP_SSSLEW n) ≠ 0 then (d.setLstate n lsSoftStop).modLoop n fun x => { x with refAcc := 0 }
    else d.modLoop n fun x => { x with offPend := true }

/-- A failed rail's loop goes to mid at its next period start, unless it is OV-latched (R135 step 1). -/
def Dev.cutLoop (d : Dev) (n : Loop) : Dev :=
  if d.lstate n = lsOff ∨ d.lstate n = lsOvLatched then d
  else
    let d := d.modLoop n fun x => { x with uvArmed := false, offPend := true }
    (d.setFlag (LP_STATUS n) LP_STATUS.PG false).setFlag (LP_STATUS n) LP_STATUS.SETTLED false

/-- The OV latch: every assigned phase drives low and holds low (R62). -/
def Dev.ovLatch (d : Dev) (n : Loop) : Dev :=
  let d := (d.setLstate n lsOvLatched).modLoop n LoopSt.still
  let d := ((d.setFlag (LP_STATUS n) LP_STATUS.PG false).setFlag (LP_STATUS n) LP_STATUS.SETTLED false).setFlag
    (LP_STATUS n) LP_STATUS.STEPHOLD false
  let d := (d.phasesOf n).foldl (fun d m => (d.idlePhase m psOff).modPhase m fun x => { x with drive := .low }) d
  let d := ((d.respace n).sumIout n).setFlag (LP_STATUS n) LP_STATUS.CFGERR false
  let d := d.setFlag (LP_STICKY n) LP_STICKY.OV true
  let d := (d.raise (48 + 4 * n.val)).vlFault n
  d.endSetv n 0x31

/-- The loop's comparators are armed: it has a phase, and CFGERR is clear (R61). -/
def Dev.armed (d : Dev) (n : Loop) : Bool :=
  d.blocksRun && !(d.phasesOf n).isEmpty && !d.flag (LP_STATUS n) LP_STATUS.CFGERR

/-- LOOP_OV_TRIP (R61, R62). -/
def Dev.ovTrip (d : Dev) (n : Loop) : Dev := if d.armed n && d.lstate n ≠ lsOvLatched then d.ovLatch n else d

/-- LOOP_UV (R62). -/
def Dev.uvReport (d : Dev) (n : Loop) : Dev :=
  if !d.blocksRun || !(d.loop n).uvArmed then d
  else
    let d := (d.setFlag (LP_STICKY n) LP_STICKY.UV true).setFlag (LP_STATUS n) LP_STATUS.PG false
    (d.raise (49 + 4 * n.val)).vlFault n

/-- The condition of a loop over-current report, with the comparator armed (R61, R62). -/
def Dev.ocStands (d : Dev) (n : Loop) : Bool :=
  let p := d.fld (LP_OCCFG n) LP_OCCFG.PERSIST
  d.armed n && (decide (d.rs (LP_OCTHR n) < d.rs (LP_IOUT n)) ||
    (p ≠ 0 && (d.phasesOf n).any fun m => p ≤ (d.phase m).cutRun))

/-- LOOP_OC (R62). -/
def Dev.ocReport (d : Dev) (n : Loop) : Dev :=
  if d.ocStands n then
    ((d.setFlag (LP_STICKY n) LP_STICKY.OC true).raise (50 + 4 * n.val)).vlFault n
  else d

/-- OVCLR: acts only on an OV latch with the output below LP_UV (R63). -/
def Dev.ovclr (d : Dev) (n : Loop) : Dev :=
  if d.lstate n = lsOvLatched && d.rn (LP_VOUT n) < d.rn (LP_UV n) then d.goOff n else d

/-! ## Soft-start (R52, R53) -/

/-- The loop's on-slot, with the output `vout` on the sense pins. A start that R482 refuses reports R49, as a setpoint fault
with its sticky flag (log entry 118). -/
def Dev.softStart (d : Dev) (n : Loop) (vout : Nat) : Dev :=
  if d.lstate n ≠ lsOff then d
  else
    let d := d.evalCfgErr n
    if d.flag (LP_STATUS n) LP_STATUS.CFGERR || (d.phasesOf n).isEmpty then d.when (d.limitsBad n) (·.spFault n)
    else
      let c := d.clampSet n (d.loop n).target
      let d := d.when (c ≠ (d.loop n).target) (·.spFault n)
      let d := (d.wn (LP_PREBIAS n) vout).setVout n vout
      let d := d.wn (LP_VREF n) (if vout < d.senseLo n then 0 else vout)
      let cfg := LP_CFG n
      let d := d.modLoop n fun x =>
        { x.still with target := c, refAcc := 0, ssRamp := true, ssWait := true, ramped := false, up := false, ssRate := none,
                       diode := true, vff := d.flag cfg LP_CFG.VFF, offMode := d.flag cfg LP_CFG.OFFMODE, e1 := 0, e2 := 0,
                       iLast := 0, errSum := 0, errCnt := 0, senseSum := 0, senseCnt := 0 }
      let d := (d.phasesOf n).foldl (fun d m => d.wn (PH_TRIM m) 0) d
      ((d.setLstate n lsSoftStart).setFlag (LP_STATUS n) LP_STATUS.CFGERR false).evalShed n

/-- The feed-forward factor as a fraction, between 0.5 and 2.0 (R35). With LP_VFFNOM and V_BUS both 0 it is 2.0 (DESIGN CHOICE,
log entry 142). -/
def Dev.ffFactor (d : Dev) (n : Loop) : Nat × Nat :=
  let a := d.rn (LP_VFFNOM n)
  let b := d.rn BG_VBUS
  if 2 * b < a then (2, 1) else if 2 * a < b then (1, 2) else if b = 0 then (2, 1) else (a, b)

/-- t1: the reference exceeds the output by 1 EC LSB, and all assigned phases begin switching; after a t3 that came without
switching (R53), t1 is still to come. v, w and d start from the duty that matches the output at the present bus voltage; with
V_BUS at 0 that is LP_DMAX (DESIGN CHOICE, log entry 142). -/
def Dev.switchOn (d : Dev) (n : Loop) (vout : Nat) : Dev :=
  let vb := d.rn BG_VBUS
  let at_bus := if vb = 0 then d.rn (LP_DMAX n) else (divRound (vout * 8192) vb).toNat
  let f := d.ffFactor n
  let duty := if (d.loop n).vff then (divRound (at_bus * f.2) f.1).toNat else at_bus
  let st := clampInt 0 (min 2147483647 ((d.rn (LP_DMAX n) : Int) * 65536)) ((duty : Int) * 65536)
  let d := d.modLoop n fun x => { x with switching := true, v := st, w := st, d := st, duty := min at_bus 65535 }
  let d := d.wn (LP_DUTY n) (divRound st 65536).toNat
  ((d.phasesOf n).foldl (fun d m =>
    (d.setPstate m psActive).modPhase m fun x => { x with drive := .mid, rem := 0, cut := false }) d).respace n

/-! ## Error samples and the reference (R37 to R39, R51) -/

/-- Move a reference toward its goal by `num` parts of 1,600,000 of 0.125 mV. -/
def refMove (ref acc goal num : Nat) : Nat × Nat :=
  let a := acc + num
  let k := a / 1600000
  if ref < goal then (if goal - ref ≤ k then (goal, 0) else (ref + k, a % 1600000))
  else if ref - goal ≤ k then (goal, 0) else (ref - k, a % 1600000)

/-- The slew in force: SSSLEW in soft-stop and until the ramp of the soft-start ends, which may be after its power-good (R53);
LP_SLEW otherwise; none applies the target at once (R51, R52, R54). -/
def Dev.slewNow (d : Dev) (n : Loop) : Option Nat :=
  if d.lstate n = lsSoftStop then some (d.rn (LP_SSSLEW n))
  else if (d.loop n).ssRamp then some (((d.loop n).ssRate).getD (d.rn (LP_SSSLEW n)))
  else if d.rn (LP_SLEW n) = 0 then none
  else some (d.rn (LP_SLEW n))

/-- The reference moves one step (R51). One sample lasts PERIOD x 1.25 ns / OSR. -/
def Dev.refStep (d : Dev) (n : Loop) : Dev :=
  let x := d.loop n
  if d.lstate n = lsSoftStart && x.ssWait then d
  else
    let goal := if d.lstate n = lsSoftStop then min (d.senseLo n) (d.rn (LP_VREF n)) else d.refGoal n
    let ref := d.rn (LP_VREF n)
    let r := match d.slewNow n with
      | none => (goal, 0)
      | some s => refMove ref x.refAcc goal (s * d.fld (LP_PERIOD n) LP_PERIOD.PERIOD * 16 / d.osr n)
    let d := (d.wn (LP_VREF n) r.1).modLoop n fun x =>
      { x with refAcc := r.2, spoiled := x.spoiled || decide (r.1 ≠ ref) }
    if r.1 ≠ goal then d
    else if d.lstate n = lsSoftStop then d.goOff n
    else
      let d := d.modLoop n fun x => { x with ramped := true, ssRamp := false }
      let d := d.when (d.lstate n = lsTransition) (·.regulate n)
      d.when (d.lstate n = lsRegulating && (d.loop n).dwelled) (·.settle n)

/-- The error sample for output `vout` (R36, R37): one EC LSB is 2.5 units of 0.125 mV at x1. -/
def Dev.errSample (d : Dev) (n : Loop) (vout : Nat) : Int × Bool :=
  let diff : Int := (d.refOut n : Int) - vout
  let win : Int := 640 * d.atten n
  (clampInt (-256) 255 (divRound (2 * diff) (5 * d.atten n)), -win ≤ diff && diff ≤ win)

/-- The mean of the readings of the last microsecond (LP_VOUT). -/
def meanWord (l : List Word) : Nat :=
  if l.isEmpty then 0 else (divRound ((l.map BitVec.toNat).sum : Nat) l.length).toNat

/-- A result reaches the compensator: it starts, or waits as the newest, and a result it replaces is passed over
(R45). -/
def Dev.giveResult (d : Dev) (n : Loop) (e : Int) : Dev :=
  let x := d.loop n
  match x.busy, x.waiting with
  | none, _ => d.modLoop n fun x => { x with busy := some (e, x.bank) }
  | some _, none => d.modLoop n fun x => { x with waiting := some e }
  | some _, some _ =>
    ((d.modLoop n fun x => { x with waiting := some e }).bump (LP_CSKIP_CNT n)).setFlag (LP_STICKY n) LP_STICKY.CSKIP true

/-- LP_STEP_ERR, and LP_SHED_CFG.MINPH, within their ranges (R67, log entry 20). -/
def Dev.stepErr (d : Dev) (n : Loop) : Nat := max 1 (d.rn (LP_STEP_ERR n) % 256)
def Dev.minPh (d : Dev) (n : Loop) : Nat := min 8 (max 1 (d.fld (LP_SHED_CFG n) LP_SHED_CFG.MINPH))

/-- EC_SAMPLE (R37, R38): the error converter samples the output `vout`. Each sample with |e| at LP_STEP_ERR or above is a load
step of its own (log entry 117), but none in SOFTSTOP and none before the phases switch; SETTLED clears at the first sample
outside LP_PGWIN (DESIGN CHOICE, log entry 143). -/
def Dev.ecSample (d : Dev) (n : Loop) (vout : Word) : Dev :=
  let st := d.lstate n
  if !d.blocksRun || st = lsOff || st = lsOvLatched then d
  else
    let v := vout.toNat
    let d := d.when (st ≠ lsSoftStop) (·.limitTarget n)
    let st := d.lstate n
    let keep := max 1 (800 * d.osr n / max 1 (d.fld (LP_PERIOD n) LP_PERIOD.PERIOD))
    let d := d.modLoop n fun x => { x with recent := (vout :: x.recent).take keep }
    let d := d.setVout n (meanWord (d.loop n).recent)
    let (e, inw) := d.errSample n v
    let d := (d.wi (LP_ERR n) e).setFlag (LP_STATUS n) LP_STATUS.INWIN inw
    let d := d.modLoop n fun x => { x with errSum := x.errSum + e, errCnt := x.errCnt + 1, spoiled := x.spoiled || !inw }
    let far := d.rn (LP_PGWIN n) < (max v (d.loop n).target) - (min v (d.loop n).target)
    let d := d.when far fun d =>
      (d.modLoop n fun x => { x with dwelled := false }).setFlag (LP_STATUS n) LP_STATUS.SETTLED false
    let d := d.when ((d.loop n).switching && st ≠ lsSoftStop && d.stepErr n ≤ e.natAbs) (·.loadStep n)
    let d := d.when (d.loop n).switching (·.giveResult n e)
    let d := d.refStep n
    d.when ((d.lstate n = lsSoftStart || d.lstate n = lsRegulating || d.lstate n = lsTransition) &&
        !(d.loop n).switching && !(d.loop n).ssWait && decide (v ≤ d.refOut n) && decide (5 * d.atten n ≤ 2 * (d.refOut n - v))) (·.switchOn n v)

/-! ## The compensator (R34, R35, R40 to R45) -/

/-- One computation of R40: new v, w, d. -/
def compute (b : Bank) (dmax : Nat) (v w dd e e1 e2 : Int) : Int × Int × Int :=
  let sat (x : Int) : Int := clampInt (-2147483648) 2147483647 x
  let pole (a : Word) (x : Int) : Int := divRound (a.toNat * x) 32768
  let v1 := sat (sat (sat (v + b.b0.toInt * e) + b.b1.toInt * e1) + b.b2.toInt * e2)
  let v2 := clampInt 0 (min 2147483647 ((dmax : Int) * 65536)) v1
  let w2 := sat (w + pole b.a1 (sat (v2 - w)))
  let d2 := sat (dd + pole b.a2 (sat (w2 - dd)))
  (v2, w2, d2)

/-- COMPENSATOR_RUN: the computation in progress completes with latency `lat`; the newest waiting result starts. -/
def Dev.compRun (d : Dev) (n : Loop) (lat : Word) : Dev :=
  let x := d.loop n
  match x.busy with
  | none => d
  | some (e, b) =>
    let (v, w, dd) := compute b (d.rn (LP_DMAX n)) x.v x.w x.d e x.e1 x.e2
    let duty := (clampInt 0 65535 (divRound dd 65536)).toNat
    let f := d.ffFactor n
    let placed := if x.vff then (divRound (duty * f.1) f.2).toNat else duty
    let d := d.modLoop n fun x =>
      { x with v := v, w := w, d := dd, e2 := x.e1, e1 := e, duty := placed,
               busy := x.waiting.map fun e' => (e', x.bank), waiting := none }
    (d.wn (LP_DUTY n) duty).wr (LP_CMPLAT n) lat

/-- BSWAP (R42, R50): refused while the loop runs and a pending pole is out of range. The pending bank already holds the
values that become active. -/
def Dev.bswap (d : Dev) (n : Loop) : Dev :=
  if d.lstate n ≠ lsOff && (poleBad (d.rd (LP_A1 n)) || poleBad (d.rd (LP_A2 n))) then
    d.setFlag (LP_STICKY n) LP_STICKY.RUNREF true
  else
    let b : Bank := { b0 := d.rd32 (LP_B0 n), b1 := d.rd32 (LP_B1 n), b2 := d.rd32 (LP_B2 n), a1 := d.rd (LP_A1 n),
                      a2 := d.rd (LP_A2 n) }
    (d.modLoop n fun x => { x with bank := b }).evalCfgErr n

/-! ## Phase periods (R29, R32, R33, R57 to R59) -/

/-- Diode emulation applies to a loop's phases now (R32, R52, R54). -/
def Dev.diodeNow (d : Dev) (n : Loop) : Bool := (d.loop n).diode || d.lstate n = lsSoftStop

/-- The phase that starts the loop's period: the lowest ORDER among the active phases, or among the assigned ones while
none is active (R29). -/
def Dev.leadPhase (d : Dev) (n : Loop) : Option Phase :=
  let act := d.activePhases n
  d.lowestOrder (if act.isEmpty then d.phasesOf n else act)

/-- The loop's period start: a due stop, the deferred modes of R50, the first rise of the reference, and the slope of
R59 (0.1 A/us over one period of PERIOD x 1.25 ns). -/
def Dev.loopPeriodStart (d : Dev) (n : Loop) : Dev :=
  if (d.loop n).offPend then d.goOff n
  else
    let cfg := LP_CFG n
    let d := d.modLoop n fun x =>
      { x with ssWait := false, vff := d.flag cfg LP_CFG.VFF, offMode := d.flag cfg LP_CFG.OFFMODE,
               diode := if x.ramped then d.flag cfg LP_CFG.LSMODE else x.diode }
    let i := d.rs (LP_IOUT n)
    let rise := i - (d.loop n).iLast
    let d := d.modLoop n fun x => { x with iLast := i }
    d.when ((d.loop n).switching && d.lstate n ≠ lsSoftStop &&
      decide ((d.rn (LP_STEP_SLOPE n) * d.fld (LP_PERIOD n) LP_PERIOD.PERIOD : Int) < 80 * rise)) (·.loadStep n)

/-- The on-time of a phase's period: duty with trim, clamped, rounded to 78.125 ps, the remainder carried (R33, R34). Of an
on-time below LP_TONMIN the whole is carried forward (log entry 115). -/
def Dev.placeOn (d : Dev) (n : Loop) (m : Phase) : Dev :=
  let duty := clampInt 0 (d.rn (LP_DMAX n)) ((d.loop n).duty + d.rs (PH_TRIM m))
  let x := d.phase m
  let total := duty * (16 * d.fld (LP_PERIOD n) LP_PERIOD.PERIOD) + x.rem
  let steps := divRound total 65536
  let short := steps ≤ 0 || steps < 16 * d.fld (LP_TONMIN n) LP_TONMIN.TONMIN
  let d := d.setFlag (PH_STATE m) PH_STATE.OCNOW x.cut
  let off : PwmDrive := if d.diodeNow n then .mid else .low
  d.modPhase m fun x =>
    { x with drive := if short then off else .pulse, onTime := if short then 0 else steps.toNat,
             rem := if short then total else total - steps * 65536, cutRun := if x.cut then x.cutRun + 1 else 0,
             cut := false, taps := d.rd (PH_DLCAL m) }

/-- PHASE_PERIOD_START. -/
def Dev.periodStart (d : Dev) (m : Phase) : Dev :=
  match d.phaseLoop m with
  | none => d
  | some n =>
    if !d.blocksRun || d.lstate n = lsOff || d.lstate n = lsOvLatched then d
    else
      let d := d.when (d.leadPhase n = some m) (·.loopPeriodStart n)
      if d.lstate n = lsOff then d
      else if d.pstate m = psLeaving then ((d.idlePhase m psFallow).respace n).sumIout n
      else if d.pstate m = psJoining then
        let d := ((d.setPstate m psActive).wn (PH_TRIM m) 0).modPhase m fun x =>
          { x with rem := 0, cut := x.cut && decide (x.onTime ≠ 0) }
        ((d.bump (LP_REENTER_CNT n)).respace n).placeOn n m
      else if d.pstate m = psActive then d.placeOn n m
      else d

/-- DIODE_EMULATION_MID (R32): also in the last period of a phase that a load step has turned from LEAVING to JOINING
(R59). -/
def Dev.diodeMid (d : Dev) (m : Phase) : Dev :=
  match d.phaseLoop m with
  | none => d
  | some n =>
    if d.blocksRun && (d.pstate m = psActive || d.pstate m = psLeaving || d.pstate m = psJoining) && d.diodeNow n then
      d.modPhase m fun x => { x with drive := .mid }
    else d

/-- PHASE_OC (R62): the pulse ends at once. -/
def Dev.phaseOc (d : Dev) (m : Phase) : Dev :=
  match d.phaseLoop m with
  | none => d
  | some n =>
    if d.blocksRun && (d.phase m).drive = .pulse && !(d.phase m).cut then
      let off : PwmDrive := if d.diodeNow n then .mid else .low
      let d := d.modPhase m fun x => { x with drive := off, cut := true }
      (d.setFlag (PH_STATE m) PH_STATE.OCNOW true).bump (PH_OCCNT m)
    else d

/-- PHASE_SHED (R57, R58). -/
def Dev.phaseShed (d : Dev) (n : Loop) : Dev :=
  let act := d.activePhases n
  if d.blocksRun && d.flag (LP_CTL n) LP_CTL.SHEDEN && d.lstate n = lsRegulating && !(d.loop n).shedSusp &&
      !d.flag (LP_STATUS n) LP_STATUS.STEPHOLD && decide (d.minPh n < act.length) &&
      decide (d.rs (LP_IOUT n) < ((act.length : Int) - 1) * d.rs (LP_IPHDN n)) then
    match d.highestOrder act with
    | some m => ((d.setPstate m psLeaving).bump (LP_SHED_CNT n)).respace n
    | none => d
  else d

/-- PHASE_RESTORE (R57). Phases that are FALLOW as SHEDEN is cleared stay so until a load step, or until SHEDEN is 1 again
(DESIGN CHOICE, log entry 144). -/
def Dev.phaseRestore (d : Dev) (n : Loop) : Dev :=
  let act := d.activePhases n
  if d.blocksRun && d.flag (LP_CTL n) LP_CTL.SHEDEN && d.lstate n = lsRegulating &&
      decide ((act.length : Int) * d.rs (LP_IPHUP n) < d.rs (LP_IOUT n)) then
    match d.lowestOrder ((d.phasesOf n).filter fun m => d.pstate m = psFallow) with
    | some m => (d.setPstate m psJoining).wn (PH_TRIM m) 0
    | none => d
  else d

/-- SHED_HOLD_EXPIRY (R59). -/
def Dev.shedHoldExpiry (d : Dev) (n : Loop) : Dev := d.setFlag (LP_STATUS n) LP_STATUS.STEPHOLD false

/-! ## Power-good (R51, R52) -/

/-- PG_DWELL_EXPIRY: the output has stayed within LP_PGWIN of the present target for LP_PGDLY. -/
def Dev.dwellExpiry (d : Dev) (n : Loop) : Dev :=
  let st := d.lstate n
  if !d.blocksRun || (d.loop n).offPend || !(st = lsSoftStart || st = lsRegulating || st = lsTransition) then d
  else
    let d := d.modLoop n fun x => { x with dwelled := true }
    let d := d.when (st = lsSoftStart) fun d =>
      let d := d.modLoop n fun x => { x with up := true, uvArmed := true }
      (d.setFlag (LP_STATUS n) LP_STATUS.PG true).regulate n
    d.when (d.rn (LP_VREF n) = d.refGoal n) (·.settle n)

/-! ## Trims (R56, R64, R65) -/

/-- SHARE_TRIM_UPDATE (R56). -/
def Dev.shareTrim (d : Dev) (m : Phase) : Dev :=
  match d.phaseLoop m with
  | none => d
  | some n =>
    let inShare (p : Phase) : Bool := d.flag (PH_CFG p) PH_CFG.SHAREN && d.flag (PH_IMONENT p) PH_IMONENT.VALID
    if !(d.blocksRun && d.pstate m = psActive && inShare m) then d
    else
      let ps := (d.activePhases n).filter inShare
      let excess := ps.length * d.rs (PH_IOUT m) - ps.foldl (fun a p => a + d.rs (PH_IOUT p)) 0
      let db : Int := ps.length * d.rs (LP_SHAREDB n)
      let k : Int := d.fld (LP_SHARE n) LP_SHARE.SHAREK
      let lim : Int := 16 * d.fld (LP_SHARE n) LP_SHARE.TRIMMAX
      let t := d.rs (PH_TRIM m)
      d.wi (PH_TRIM m) (clampInt (-lim) lim (if db < excess then t - k else if excess < -db then t + k else t))

/-- EC_TRIM_UPDATE (R64): one 10 ms interval ends. A trim at its limit sets TRIMSAT and writes a NOTE record. -/
def Dev.ecTrim (d : Dev) (n : Loop) : Dev :=
  let x := d.loop n
  let fresh (d : Dev) : Dev :=
    d.modLoop n fun x => { x with errSum := 0, errCnt := 0, senseSum := 0, senseCnt := 0, spoiled := false }
  if !(d.blocksRun && d.flag (LP_CTL n) LP_CTL.TRIMEN && d.lstate n = lsRegulating) || x.spoiled || x.errCnt = 0 ||
      x.senseCnt = 0 then fresh d
  else
    let c : Int := x.senseCnt
    let k : Int := x.errCnt
    let lsb : Int := 5 * d.atten n
    let diff := divRound (128 * k * (x.senseSum - c * d.rn (LP_VREF n)) + 64 * x.errSum * c * lsb)
      (c * k * lsb).toNat
    let t := d.rs (LP_ECTRIM n)
    let t2 := clampInt (-512) 512 (t + clampInt (-6) 6 (diff - t))
    let d := fresh (d.wi (LP_ECTRIM n) t2)
    let sat := decide (t2 = 512 ∨ t2 = -512)
    let d := d.setFlag (LP_STATUS n) LP_STATUS.TRIMSAT sat
    d.when sat (·.record 0x09 1 (bytesLE 1 n.val))

/-- DELAY_LINE_CAL (R65): the new calibration takes effect at the phase's next period start. -/
def Dev.dlCal (d : Dev) (m : Phase) (taps : Word) : Dev := d.when d.blocksRun (·.wr (PH_DLCAL m) taps)

/-! ## Results of the plan (R55, R64) -/

/-- PH_IOUT from a converter code: (V_IMON - V_IREF - PH_IMONOFS) / PH_IMONGAIN. One code is 390.625 uV and one LSB of
PH_IMONOFS 125 uV. -/
def Dev.imonCurrent (d : Dev) (m : Phase) (code : Nat) : Int :=
  let g := d.rn (PH_IMONGAIN m)
  if g = 0 then 0 else fitS16 (divRound ((((code : Int) - 2048) * 3125 - d.rs (PH_IMONOFS m) * 1000) * 100) (8 * g))

/-- A phase whose PH_IMONENT is not valid reads 0 (R55). -/
def Dev.imonOff (d : Dev) (m : Phase) : Dev :=
  let d := d.wn (PH_IOUT m) 0
  match d.phaseLoop m with
  | some n => d.sumIout n
  | none => d

/-- A result of entry `e` reaches the phases whose PH_IMONENT names it (R55): resampled results are ignored. -/
def Dev.imonResult (d : Dev) (e code : Nat) (resamp : Bool) : Dev :=
  if resamp then d
  else (List.finRange 24).foldl (fun (d : Dev) (m : Phase) =>
    if d.flag (PH_IMONENT m) PH_IMONENT.VALID && d.fld (PH_IMONENT m) PH_IMONENT.ENTRY = e && d.pstate m = psActive then
      match d.phaseLoop m with
      | some n => (d.wi (PH_IOUT m) (d.imonCurrent m code)).sumIout n
      | none => d
    else d) d

/-- A result of the sense entry 32 + n (R177): it feeds the trim of R64, and LP_VOUT while the error converter does not
sample. One code is 3.125 units of 0.125 mV at x1. -/
def Dev.senseResult (d : Dev) (n : Loop) (code : Nat) (ovr : Bool) : Dev :=
  let v := (divRound (25 * code * d.atten n) 8).toNat
  let d := d.modLoop n fun x =>
    { x with senseSum := x.senseSum + v, senseCnt := x.senseCnt + 1, spoiled := x.spoiled || ovr }
  if d.lstate n = lsOff ∨ d.lstate n = lsOvLatched then d.setVout n (min v 65535) else d

/-! ## Writes (R28, R50, R67) -/

/-- LP_CTL.CNTCLR (R67). -/
def Dev.lpCntclr (d : Dev) (n : Loop) : Dev :=
  d.zero ([LP_CSKIP_CNT n, LP_STEP_CNT n, LP_REENTER_CNT n, LP_SHED_CNT n] ++ (d.phasesOf n).map fun m => PH_OCCNT m)

/-- PH_CFG_WRITE (R28); the answer is whether it was refused. -/
def Dev.writePhCfg (d : Dev) (m : Phase) (v : Word) : Bool × Dev :=
  let old := d.phaseLoop m
  let new := loopOf (v.toNat % 16)
  let idle (n : Option Loop) : Bool := match n with
    | some n => d.lstate n = lsOff
    | none => true
  let ref (d : Dev) (n : Option Loop) : Dev := match n with
    | some n => d.setFlag (LP_STICKY n) LP_STICKY.PHCFGREF true
    | none => d
  let eval (d : Dev) (n : Option Loop) : Dev := match n with
    | some n => d.evalCfgErr n
    | none => d
  let full := match new with
    | some n => old ≠ new && 8 ≤ (d.phasesOf n).length
    | none => false
  if !(idle old && idle new) then (true, ref (ref d old) new)
  else if full then (true, ref d new)
  else (false, eval (eval ((d.storeWord (PH_CFG m) (PH_CFG m) v).idlePhase m psOff) old) new)

/-- A write of a register of loop `n` other than LP_VSET (R50): `off` is its offset, and 32-bit values come whole. The
answer is whether R50 ignored the write, wholly or in part. A voltage limit written while a case of R49 stands after it raises
SPFAULT and the event, also where another write made the case hold (DESIGN CHOICE, log entry 145). -/
def Dev.writeLoop (d : Dev) (n : Loop) (off : Nat) (v : BitVec 32) : Bool × Dev :=
  let w : Word := v.setWidth 16
  let a := LP_CTL n + off
  let run := d.lstate n ≠ lsOff
  if off = 0x00 then
    let d := (d.storeWord a a w).evalShed n
    let refused := w.getLsbD 1 && run && (poleBad (d.rd (LP_A1 n)) || poleBad (d.rd (LP_A2 n)))
    let d := d.when (w.getLsbD 4) (·.lpCntclr n)
    let d := d.when (w.getLsbD 1) (·.bswap n)
    let d := d.when (w.getLsbD 0) (·.ovclr n)
    (refused, d.evalCfgErr n)
  else if off = 0x02 then
    let differs := (d.rd a &&& 0x001F#16) ≠ (w &&& 0x001F#16)
    if run then
      let d := d.storeWord a a ((w &&& 0xFFE0#16) ||| (d.rd a &&& 0x001F#16))
      (differs, d.when differs (·.setFlag (LP_STICKY n) LP_STICKY.RUNREF true))
    else (false, (d.storeWord a a w).evalCfgErr n)
  else if off = 0x04 then
    if run && (d.rd a &&& 0x0FFF#16) ≠ (w &&& 0x0FFF#16) then (true, d.setFlag (LP_STICKY n) LP_STICKY.RUNREF true)
    else (false, (d.storeWord a a w).evalCfgErr n)
  else if off = 0x08 ∨ off = 0x0A ∨ off = 0x16 ∨ off = 0x18 then
    let d := d.storeWord a a w
    (false, (d.when (run && d.limitsBad n) (·.spFault n)).evalCfgErr n)
  else if off = 0x10 then
    let old := d.rn a
    let d := d.storeWord a a w
    let d := d.modLoop n fun x =>
      { x with ssRate := if w ≠ 0 then none else if run && x.ssRamp && x.ssRate.isNone && old ≠ 0 then some old else x.ssRate,
               offPend := x.offPend || (w = 0 && decide (d.lstate n = lsSoftStop)) }
    (false, (d.when (run && w = 0) (·.spFault n)).evalCfgErr n)
  else if off = 0x44 ∨ off = 0x48 ∨ off = 0x4C then (false, (d.wr32 a v).evalCfgErr n)
  else (false, ((d.storeWord a a w).evalShed n).evalCfgErr n)

end Sys2Proof.Machine
end

