-- ==== Sys2Proof/Machine/Seats.lean ====
section
/-!
DEFINITION. The plan, its sequences and seats (06_measurement.md, R150 to R170): validity of entries, triggers, the
conversions on the converters, urgent requests and the stored results. Consumers and commands are in
Machine/Measure.lean.
-/

namespace Sys2Proof.Machine

open Sys2Proof Sys2Proof.R

/-! ## Entries (R155, R156) -/

/-- The plan entries in use (MS_PECTL.VALID), in index order: an unlisted MS_PECTL reads 0 and is not in use. -/
def Dev.planEntries (d : Dev) : List Nat :=
  d.regs.filterMap fun c =>
    if 0x11000 ≤ c.1 && c.1 < 0x19000 && c.1 % 16 = 0 && c.2.getLsbD 15 then some ((c.1 - 0x11000) / 16) else none

def Dev.entrySeq (d : Dev) (e : Nat) : Nat := d.fld (MS_PESEQ e) MS_PESEQ.SEQ
def Dev.entryQuad (d : Dev) (e : Nat) : Nat := d.fld (MS_PECTL e) MS_PECTL.QUAD
def Dev.entryAvg (d : Dev) (e : Nat) : Nat := d.fld (MS_PECTL e) MS_PECTL.AVG
def Dev.entryChan (d : Dev) (e : Nat) : Nat := d.fld (MS_PECTL e) MS_PECTL.CHAN
def Dev.entrySync (d : Dev) (e : Nat) : Bool := d.flag (MS_PESEQ e) MS_PESEQ.SYNC

/-- Seat 4q + s of an entry; quads 6 and 7 give none. -/
def Dev.entrySeat (d : Dev) (e : Nat) : Option (Fin 24) :=
  let k := 4 * d.entryQuad e + d.fld (MS_PECTL e) MS_PECTL.SEAT
  if h : k < 24 then some ⟨k, h⟩ else none

/-- Entries in use of a sequence, in index order. -/
def Dev.seqEntries (d : Dev) (s : Nat) : List Nat := d.planEntries.filter fun e => d.entrySeq e = s

/-- The entry next below `e` in its sequence. -/
def Dev.below (d : Dev) (e : Nat) : Option Nat := ((d.seqEntries (d.entrySeq e)).filter fun x => x < e).getLast?

/-- The first member of the synchronous group of `e` (R160). -/
def Dev.groupLead (d : Dev) (e : Nat) : Nat :=
  (((d.seqEntries (d.entrySeq e)).filter fun x => x < e).foldr (fun x lead => if d.entrySync lead then x else lead) e)

/-- The synchronous group of `e`: the entries of its sequence with the same first member. -/
def Dev.group (d : Dev) (e : Nat) : List Nat :=
  (d.seqEntries (d.entrySeq e)).filter fun x => d.groupLead x = d.groupLead e

/-- The quad of an entry for the SYNC test: Q1.3 counts as Q0 (R156). -/
def Dev.syncQuad (d : Dev) (e : Nat) : Nat := if d.entrySeat e = some 7 then 0 else d.entryQuad e

/-- Whether entry `e` is invalid (R156). -/
def Dev.entryInvalid (d : Dev) (e : Nat) : Bool :=
  let q := d.entryQuad e
  let s := d.fld (MS_PECTL e) MS_PECTL.SEAT
  6 ≤ q || ((q = 2 || q = 5) && s = 3) || (64 ≤ e && (q = 0 || (q = 1 && s = 3))) || 92 ≤ d.entryChan e ||
    (d.fld (MS_PESEQ e) MS_PESEQ.GROUP = 31 && d.fld (MS_PESEQ e) MS_PESEQ.LIMMODE ≠ 0) ||
    (d.entrySync e && match d.below e with
      | none => true
      | some b => d.syncQuad b ≠ d.syncQuad e || d.entryAvg b ≠ d.entryAvg e ||
          ((d.group e).filter fun x => x < e).any fun x => d.entrySeat x = d.entrySeat e)

/-- Whether the trigger of sequence `s` is invalid (R156). -/
def trigInvalid (v : Word) : Bool :=
  let src := MS_SEQTRIG.SRC.of v.toNat
  let sel := MS_SEQTRIG.SEL.of v.toNat
  src = 3 || (src = 1 && 15 < sel) || (src = 2 && (23 < sel || MS_SEQTRIG.EDGE.of v.toNat = 3))

def Dev.seqEnabled (d : Dev) (s : Nat) : Bool := d.flag (MS_SEQTRIG s) MS_SEQTRIG.EN

/-! ## Seats and converters (R151, R152, R175) -/

def Dev.seat (d : Dev) (k : Fin 24) : SeatSt := d.meas.seats[k]
def Dev.modSeat (d : Dev) (k : Fin 24) (g : SeatSt → SeatSt) : Dev :=
  { d with meas := { d.meas with seats := d.meas.seats.set k (g d.meas.seats[k]) } }
def Dev.conv (d : Dev) (a : Adc) : Option Conv := d.meas.convs[a]
def Dev.setConv (d : Dev) (a : Adc) (c : Option Conv) : Dev := { d with meas := { d.meas with convs := d.meas.convs.set a c } }
def Dev.mseq (d : Dev) (s : SeqNo) : SeqSt := d.meas.seqs[s]
def Dev.modSeq (d : Dev) (s : SeqNo) (g : SeqSt → SeqSt) : Dev :=
  { d with meas := { d.meas with seqs := d.meas.seqs.set s (g d.meas.seqs[s]) } }

/-- The converter that serves seat `k`; none when the seat is unserved. -/
def Dev.seatAdc (d : Dev) (k : Fin 24) : Option Adc :=
  (List.finRange 24).find? fun a =>
    !d.flag (MS_ADCSTAT a) MS_ADCSTAT.INBAY && !d.meas.leaving.contains a &&
      4 * d.fld (MS_ADCSTAT a) MS_ADCSTAT.QUAD + d.fld (MS_ADCSTAT a) MS_ADCSTAT.SEAT = k.val

/-- Whether an entry's seat has a converter (R175). -/
def Dev.entryServed (d : Dev) (e : Nat) : Bool :=
  match d.entrySeat e with
  | some k => (d.seatAdc k).isSome
  | none => false

/-- The seat could start an entry that is due: it is served and idle, and neither an urgent request nor an abandoned
conversion waits. -/
def Dev.seatIdle (d : Dev) (k : Fin 24) : Bool :=
  match d.seatAdc k with
  | some a => (d.conv a).isNone && (d.seat k).urgents.isEmpty && (d.seat k).resume.isNone
  | none => false

/-- A fresh conversion of an entry, whose first sample is at `t`: 2^AVG samples (R161). -/
def Dev.newConv (d : Dev) (e : Nat) (k : Fin 24) (t : Nat) : Conv :=
  { entry := e, left := 2 ^ d.entryAvg e, taken := 0, sum := 0, ovr := false, resamp := false, urgent := false,
    instant := t, seat := k, seq := Fin.ofNat 64 (d.entrySeq e),
    run := (d.mseq (Fin.ofNat 64 (d.entrySeq e))).runs, src := 19, req := 0 }

/-- Entry `e` samples on its seat at `t`: it leaves the seat's queue and the list of entries not yet sampled. -/
def Dev.sample (d : Dev) (e t : Nat) : Dev :=
  match d.entrySeat e with
  | none => d
  | some k => match d.seatAdc k with
    | none => d
    | some a =>
      let d := d.setConv a (some (d.newConv e k t))
      let d := d.modSeat k fun x => { x with due := x.due.filter fun y => y.1 ≠ e }
      d.modSeq (Fin.ofNat 64 (d.entrySeq e)) fun x => { x with toSample := x.toSample.filter fun y => y ≠ e }

/-- Whether an entry belongs to a synchronous group of several. -/
def Dev.grouped (d : Dev) (e : Nat) : Bool := 1 < (d.group e).length

/-- Which of two due entries of a seat comes first: rising instant, then index (R159). Of two groups that fall due together the
one with the lower first member comes first on every seat (log entry 123). -/
def Dev.dueFirst (d : Dev) (x y : Nat × Nat) : Bool :=
  decide (x.2 < y.2) || (decide (x.2 = y.2) &&
    (if d.grouped x.1 && d.grouped y.1 then
        decide (d.groupLead x.1 < d.groupLead y.1) || (d.groupLead x.1 = d.groupLead y.1 && decide (x.1 < y.1))
      else decide (x.1 < y.1)))

/-- The next due entry of a seat, with its earliest instant. -/
def Dev.nextDue (d : Dev) (k : Fin 24) : Option (Nat × Nat) :=
  (d.seat k).due.foldl (fun b x => match b with
    | none => some x
    | some y => if d.dueFirst x y then some x else some y) none

/-- The start and the end of the present tick, in counts of 1.25 ns. -/
def Dev.tickStart (d : Dev) : Nat := 800 * d.now
def Dev.tickEnd (d : Dev) : Nat := 800 * (d.now + 1)

/-- The members of the group of `e` that its seats serve: the others produce nothing (R175). -/
def Dev.servedGroup (d : Dev) (e : Nat) : List Nat := (d.group e).filter d.entryServed

/-- The whole group of the due entry `e` can sample: each seat is idle, and the member is the next due there (R159, R160). -/
def Dev.groupReady (d : Dev) (e t : Nat) : Bool :=
  (d.servedGroup e).all fun x => match d.entrySeat x with
    | some j => d.seatIdle j && decide (d.nextDue j = some (x, t))
    | none => false

/-- The instant at which a group whose earliest instant is `t` samples: the latest of its seats' free instants at or after
`t` (R160). -/
def Dev.groupInstant (d : Dev) (e t : Nat) : Nat :=
  (d.servedGroup e).foldl (fun t x => match d.entrySeat x with
    | some j => max t (d.seat j).freeAt
    | none => t) t

/-- A group with the earliest instant `t` samples at one instant. It slips when a seat was busy at the earliest instant
(R159). -/
def Dev.startGroup (d : Dev) (e t : Nat) : Dev :=
  let at_ := d.groupInstant e t
  (d.servedGroup e).foldl (fun (d : Dev) x =>
    (d.sample x at_).when (decide (t < at_)) fun d => (d.bump MS_SLIPCNT).setFlag MS_STICKY MS_STICKY.SLIP true) d

/-- A seat without a conversion takes the oldest urgent request that waits, and then the conversion that was abandoned: the
sample comes as soon as the seat is free (R165, R166). -/
def Dev.startHeld (d : Dev) (k : Fin 24) : Dev :=
  match d.seatAdc k with
  | none => d
  | some a =>
    if (d.conv a).isSome then d
    else
      let on (c : Conv) : Conv := { c with instant := max c.instant (d.seat k).freeAt }
      match (d.seat k).urgents, (d.seat k).resume with
      | c :: rest, _ => (d.setConv a (some (on c))).modSeat k fun x => { x with urgents := rest }
      | [], some c => (d.setConv a (some (on c))).modSeat k fun x => { x with resume := none }
      | [], none => d

/-- An idle seat starts the entry that is due next, with its whole synchronous group, where they sample before `lim`
(R159, R160). -/
def Dev.startSeat (d : Dev) (lim : Nat) (k : Fin 24) : Dev :=
  if !d.seatIdle k then d
  else match d.nextDue k with
    | none => d
    | some (e, t) => if d.groupReady e t && decide (d.groupInstant e t < lim) then d.startGroup e t else d

/-- Start what the seats sample before `lim`, in seat order. What is due before `lim` is known by then, so that entries are
taken in the order of R159 whatever becomes due later. -/
def Dev.startSeats (d : Dev) (lim : Nat) : Dev :=
  if d.meas.running then (List.finRange 24).foldl (fun (d : Dev) (k : Fin 24) => d.startSeat lim k) d else d

/-! ## Triggers (R158, R162) -/

/-- Whether a sense entry of the loops is skipped: its loop has no phase (R177). -/
def Dev.entrySkipped (d : Dev) (e : Nat) : Bool :=
  decide (32 ≤ e) && decide (e < 44) && (List.finRange 24).all fun m => d.fld (PH_CFG m) PH_CFG.LOOP ≠ e - 32

/-- A run of sequence `s` is triggered at the instant `t`: its entries become due, a group at its first member's delay. Entries
on an unserved seat produce nothing, so that the run is never done (R175). -/
def Dev.startRun (d : Dev) (s : SeqNo) (t : Nat) : Dev :=
  let es := (d.seqEntries s.val).filter fun e => !d.entrySkipped e
  let d := d.modSeq s fun x => { x with
    runs := x.runs + 1, toSample := es.filter d.entryServed,
    toStore := (x.toStore.filter fun r => !r.2.isEmpty && r.2.all d.entryServed) ++ [(x.runs + 1, es)] }
  es.foldl (fun d e => match d.entrySeat e with
    | some k => if (d.seatAdc k).isNone then d
      else d.modSeat k fun x => { x with due := x.due ++ [(e, t + d.rn (MS_PEDLY (d.groupLead e)))] }
    | none => d) d

/-- A trigger event of sequence `s` at the instant `t`: the divider, then the overrun rule. -/
def Dev.trigger (d : Dev) (s : SeqNo) (t : Nat) : Dev :=
  if !(d.meas.running && d.seqEnabled s.val) then d
  else
    let x := d.mseq s
    if x.div < d.fld (MS_SEQDIV s) MS_SEQDIV.DIV then d.modSeq s fun x => { x with div := x.div + 1 }
    else
      let d := d.modSeq s fun x => { x with div := 0 }
      if x.toSample.isEmpty then d.startRun s t
      else (d.bump MS_OVRCNT).setFlag MS_STICKY MS_STICKY.OVRUN true

/-- Whether a software trigger of sequence `s` would be accepted (R282): one ignored as an overrun is not. -/
def Dev.trigTakes (d : Dev) (s : Nat) : Bool :=
  let d := d.startSeats d.tickStart
  s < 56 && d.meas.running && d.seqEnabled s &&
    ((d.mseq (Fin.ofNat 64 s)).div < d.fld (MS_SEQDIV s) MS_SEQDIV.DIV || (d.mseq (Fin.ofNat 64 s)).toSample.isEmpty)

/-- Trigger events of the sequences `ss` at one instant. What was due before it has started; what the triggers make due starts
with the next that happens on the seats, or with the tick, so that entries due together are taken in their order (R159). -/
def Dev.triggerAll (d : Dev) (ss : List SeqNo) (t : Nat) : Dev :=
  ss.foldl (fun (d : Dev) (s : SeqNo) => d.trigger s t) (d.startSeats t)

/-- A software trigger through MS_SWTRIG or TRIG (R158): reserved sequences are not triggered. -/
def Dev.swTrigger (d : Dev) (s : Nat) : Dev := if s < 56 then d.triggerAll [Fin.ofNat 64 s] d.tickStart else d

/-- A sequence stops (R162): entries not yet sampled are dropped, conversions under way go on, no done bit follows. -/
def Dev.stopSeq (d : Dev) (s : SeqNo) : Dev :=
  let d := d.startSeats d.tickStart
  let d := (List.finRange 24).foldl (fun (d : Dev) (k : Fin 24) =>
    d.modSeat k fun x => { x with due := x.due.filter fun y => d.entrySeq y.1 ≠ s.val }) d
  d.modSeq s fun x => { x with div := 0, toSample := [], toStore := [] }

/-! ## Urgent requests (R165, R166) -/

/-- The conversion under way on a seat is abandoned: the samples taken are kept, and its result will carry RESAMP. An urgent
one is not: further requests wait in arrival order (R166; log entry 125). -/
def Dev.abandon (d : Dev) (k : Fin 24) : Dev :=
  match d.seatAdc k with
  | none => d
  | some a => match d.conv a with
    | some c => if c.urgent then d else (d.setConv a none).modSeat k fun x => { x with resume := some { c with resamp := true } }
    | none => d

/-- The seat on which an urgent request for entry `e` is taken; none where it is refused (R166). -/
def Dev.urgentSeat (d : Dev) (e : Nat) : Option (Fin 24) :=
  match d.entrySeat e with
  | none => none
  | some k =>
    if k.val < 4 || k = 7 || !d.flag (MS_PECTL e) MS_PECTL.VALID || d.entryInvalid e || (d.seatAdc k).isNone then none
    else some k

/-- The urgent requests that a seat holds: the one under way, and those that wait (log entry 125). -/
def Dev.urgentHeld (d : Dev) (k : Fin 24) : Nat :=
  ((d.meas.convs.toList.filterMap id).filter fun c => c.urgent && c.seat = k).length + (d.seat k).urgents.length

/-- Whether an urgent request for entry `e` would be taken: its seat has room (R166). -/
def Dev.urgentTakes (d : Dev) (e : Nat) : Bool :=
  match d.urgentSeat e with
  | none => false
  | some k => d.urgentHeld k < 4

/-- An urgent request for entry `e` by accessor `src` (19 for the device itself): it joins those of its seat, and the seat goes
on with the oldest of them. -/
def Dev.urgent (d : Dev) (e : Nat) (src : Fin 20) : Dev :=
  match d.urgentSeat e with
  | none => d.setFlag MS_STICKY MS_STICKY.URGREF true
  | some k =>
    if 4 ≤ d.urgentHeld k then d.setFlag MS_STICKY MS_STICKY.URGOVF true
    else if !d.meas.running then d
    else
      let d := (d.startSeats (d.tickStart + 1)).abandon k
      let n := d.meas.reqs[src] + 1
      let d := { d with meas := { d.meas with reqs := d.meas.reqs.set src n } }
      let c : Conv := { d.newConv e k d.tickStart with urgent := true, src := src, req := n }
      (d.modSeat k fun x => { x with urgents := x.urgents ++ [c] }).startHeld k

/-- The last urgent request of an accessor has not yet sampled: it waits behind others (MS_URGENT.PEND). -/
def Dev.urgentPending (d : Dev) (src : Fin 20) : Bool :=
  d.meas.seats.toList.any fun x => x.urgents.any fun c => decide (c.src = src) && decide (c.req = d.meas.reqs[src])

/-! ## Results (R167 to R171) -/

/-- The mean of an averaged result, rounded to nearest. -/
def Conv.mean (c : Conv) : Nat := (divRound c.sum c.taken).toNat

/-- Whether the result of entry `e` sampled at instant `t` is the newest (R169). -/
def Dev.newest (d : Dev) (e t : Nat) : Bool :=
  match lookupKey e d.meas.instants with
  | some x => x < t
  | none => true

/-- The placement of an entry after a result from converter `a`: EPOCH toggles when the converter changed (R167). -/
def Dev.placeEntry (d : Dev) (e : Nat) (a : Adc) : Dev :=
  let first := (lookupKey e d.meas.instants).isNone
  let moved := !first && d.fld (MS_PEPLACE e) MS_PEPLACE.ADC ≠ a.val
  let d := d.setFlag (MS_PEPLACE e) MS_PEPLACE.EPOCH (d.flag (MS_PEPLACE e) MS_PEPLACE.EPOCH != moved)
  d.setFld (MS_PEPLACE e) MS_PEPLACE.ADC a.val

/-- High and low states of an entry, and their group's event (R171). -/
def Dev.entryLimits (d : Dev) (e code : Nat) (ovr : Bool) : Dev :=
  let hys := d.fld (MS_PEHYS e) MS_PEHYS.HYST
  let hi := d.fld (MS_PEHI e) MS_PEHI.LIMIT
  let lo := d.rn (MS_PELO e) % 4096
  let st := MS_PESTAT e
  let wasHi := d.flag st MS_PESTAT.HIGH
  let wasLo := d.flag st MS_PESTAT.LOW
  let isHi := if hi < code || (ovr && code = 4095) then true else if code + hys < hi then false else wasHi
  let isLo := if code < lo || (ovr && code = 0) then true else if lo + hys < code then false else wasLo
  let d := (d.setFlag st MS_PESTAT.HIGH isHi).setFlag st MS_PESTAT.LOW isLo
  let mode := d.fld (MS_PESEQ e) MS_PESEQ.LIMMODE
  let g := d.fld (MS_PESEQ e) MS_PESEQ.GROUP
  let up (d : Dev) : Dev := (d.setMbit MS_LIMSTICKY g true).raise (160 + g)
  let d := d.when (isHi && !wasHi && mode % 2 = 1 && g < 31) up
  d.when (isLo && !wasLo && 2 ≤ mode && g < 31) up

/-- Store the result of entry `e`: every reader's NEW is set (R167, R168). -/
def Dev.storeResult (d : Dev) (e : Nat) (a : Adc) (code : Nat) (ovr resamp : Bool) (t : Nat) : Dev :=
  let d := d.placeEntry e a
  let d := { d with meas := { d.meas with instants := insertKey e t (eraseKey e d.meas.instants) } }
  let w := code % 4096 + (if d.flag (MS_PEPLACE e) MS_PEPLACE.EPOCH then 0x1000 else 0) + (if ovr then 0x2000 else 0) +
    (if resamp then 0x4000 else 0)
  let d := (d.wn (MS_RESULT e) w).wn (newKey e) 15
  let d := d.when resamp (·.bump MS_RESAMPCNT)
  d.entryLimits e (code % 4096) ovr

/-- Entry `e` has stored its result for run `run` of sequence `s`: the last entry of a run sets the done bit (R164). -/
def Dev.entryDone (d : Dev) (e : Nat) (s : SeqNo) (run : Nat) : Dev :=
  match (d.mseq s).toStore.find? fun r => r.1 = run with
  | none => d
  | some r =>
    let rest := r.2.filter fun y => y ≠ e
    let runs := if rest.isEmpty then (d.mseq s).toStore.filter fun r => r.1 ≠ run
      else (d.mseq s).toStore.map fun r => if r.1 = run then (run, rest) else r
    let d := d.modSeq s fun x => { x with toStore := runs }
    d.when rest.isEmpty (·.setMbit (MS_SEQDONE 0) s.val true)

/-- DATA of an entry's result, and its limit states (R127, R171). -/
def Dev.resultData (d : Dev) (e : Nat) : Nat := d.rn (MS_RESULT e) % 4096
def Dev.entryLow (d : Dev) (e : Nat) : Bool := d.flag (MS_PESTAT e) MS_PESTAT.LOW
def Dev.entryInside (d : Dev) (e : Nat) : Bool :=
  !d.flag (MS_PESTAT e) MS_PESTAT.LOW && !d.flag (MS_PESTAT e) MS_PESTAT.HIGH

end Sys2Proof.Machine
end

