-- ==== Sys2Proof/Machine/Drill.lean ====
section
/-!
DEFINITION. The drill (05_sequencing_and_supervision.md): rail supervision, profiles, power-up, power-down, reversal,
switching, fault shutdown, the Guard's shed and the reset outputs. What a slot or a time-out does is judged from the
state; that its tick has come is the event itself (log entry 5).
-/

namespace Sys2Proof.Machine

open Sys2Proof Sys2Proof.R

/-! ## States, rails and profiles (R125 to R130) -/

/-- SEQ_STATUS.STATE. -/
abbrev drOff : Nat := 0
abbrev drRising : Nat := 1
abbrev drUp : Nat := 2
abbrev drFalling : Nat := 3
abbrev drDwell : Nat := 4
abbrev drSwitching : Nat := 5
abbrev drFaulting : Nat := 6
abbrev drLatched : Nat := 7
abbrev drReversing : Nat := 8
def Dev.ds (d : Dev) : Nat := d.fld SEQ_STATUS SEQ_STATUS.STATE

/-- SEQ_RSTATE.STATE. -/
abbrev rsOff : Nat := 0
abbrev rsWaiting : Nat := 1
abbrev rsRising : Nat := 2
abbrev rsGood : Nat := 3
abbrev rsFalling : Nat := 4
abbrev rsFailed : Nat := 5
abbrev rsShed : Nat := 6
def Dev.rstate (d : Dev) (r : Rail) : Nat := d.fld (SEQ_RSTATE r) SEQ_RSTATE.STATE

def rails : List Rail := List.finRange 28
/-- The external rail of an index from 12 up. -/
def railX (r : Rail) : Fin 16 := Fin.ofNat 16 (r.val - 12)

/-- An operation is in progress: SEQ_ELAPSED counts (R130). -/
def drActive (s : Nat) : Bool := s = drRising || s = drFalling || s = drSwitching || s = drFaulting || s = drReversing

/-- SEQ_ELAPSED: microseconds since t0, held at the end of the operation. -/
def Dev.elapsed (d : Dev) : Nat :=
  if drActive d.ds then min (d.now - d.drill.t0) 0xFFFFFF else d.rn32 SEQ_ELAPSED

/-- Change the drill's state; the end of an operation holds SEQ_ELAPSED. -/
def Dev.setDs (d : Dev) (v : Nat) : Dev :=
  let e := (if drActive d.ds && !drActive v then d.wn32 SEQ_ELAPSED d.elapsed else d).setFld SEQ_STATUS SEQ_STATUS.STATE v
  e.when (decide (d.ds = drLatched ∨ v = drLatched)) Dev.lampSync

def Dev.profileNow (d : Dev) : Nat := d.fld SEQ_STATUS SEQ_STATUS.PROFILE
def Dev.targetNow (d : Dev) : Nat := d.fld SEQ_STATUS SEQ_STATUS.TARGET
def Dev.inMask (d : Dev) (p : Nat) (r : Rail) : Bool := d.mbit (SEQ_PFMASK p) r.val
def Dev.railOn (d : Dev) (r : Rail) : Bool := d.mbit SEQ_RAILON r.val
def Dev.lossOnly (d : Dev) (r : Rail) : Bool := d.drill.lossOnly.getLsbD r.val

/-- A rail's state, with its bits in SEQ_GOOD, SEQ_FAILED and SEQ_SHED. SEQ_FAILED keeps its bit until ON or UNLATCH. -/
def Dev.setRstate (d : Dev) (r : Rail) (st : Nat) : Dev :=
  let d := d.setFld (SEQ_RSTATE r) SEQ_RSTATE.STATE st
  let d := d.setMbit SEQ_GOOD r.val (st = rsGood)
  let d := d.setMbit SEQ_SHED r.val (st = rsShed)
  let d := d.when (st = rsFailed) (·.setMbit SEQ_FAILED r.val true)
  d.setFlag SEQ_STATUS SEQ_STATUS.SHED (d.rn32 SEQ_SHED ≠ 0)

def setBit28 (m : BitVec 28) (i : Nat) (b : Bool) : BitVec 28 :=
  if b then m ||| ((1 : BitVec 28) <<< i) else m &&& ~~~((1 : BitVec 28) <<< i)
def Dev.setLossOnly (d : Dev) (r : Rail) (b : Bool) : Dev :=
  { d with drill := { d.drill with lossOnly := setBit28 d.drill.lossOnly r.val b } }
def Dev.setElapsedRail (d : Dev) (r : Rail) (b : Bool) : Dev :=
  { d with drill := { d.drill with elapsed := setBit28 d.drill.elapsed r.val b } }
def Dev.setOffDue (d : Dev) (r : Rail) (b : Bool) : Dev :=
  { d with drill := { d.drill with offDue := setBit28 d.drill.offDue r.val b } }
def Dev.setXen (d : Dev) (r : Rail) (b : Bool) : Dev := { d with pins := { d.pins with xen := d.pins.xen.set (railX r) b } }

/-- A rail that counts as done in a power-down: OFF, SHED or FAILED, but not FAILED under FAILACT 1 (R133). -/
def Dev.railDown (d : Dev) (r : Rail) : Bool :=
  let st := d.rstate r
  st = rsOff || st = rsShed || (st = rsFailed && !d.lossOnly r)

/-- A rail that is on and neither going off, cut nor shed. -/
def Dev.railLive (d : Dev) (r : Rail) : Bool := d.railOn r && !d.railDown r && d.rstate r ≠ rsFalling

/-- A rail that counts toward UP (R132, R133, R143). -/
def Dev.railUp (d : Dev) (r : Rail) : Bool := d.rstate r = rsGood || d.rstate r = rsShed || d.lossOnly r

/-- The on order of profile `p`: rising on-delay, then rising index (R130). -/
def Dev.insertOn (d : Dev) (p : Nat) (r : Rail) : List Rail → List Rail
  | [] => [r]
  | x :: xs => if d.rn32 (SEQ_PFON p r) ≤ d.rn32 (SEQ_PFON p x) then r :: x :: xs else x :: d.insertOn p r xs
def Dev.onOrder (d : Dev) (p : Nat) (rs : List Rail) : List Rail := rs.foldr (fun r l => d.insertOn p r l) []

/-! ## Good and fallen (R126, R127) -/

/-- The plan entry of an external rail judged by AUX, and whether its result is good or fallen. -/
def Dev.auxGood (d : Dev) (r : Rail) : Bool :=
  d.flag (SEQ_RAUXENT r) SEQ_RAUXENT.VALID && d.entryInside (d.fld (SEQ_RAUXENT r) SEQ_RAUXENT.ENTRY)
def Dev.auxFallen (d : Dev) (r : Rail) : Bool :=
  d.flag (SEQ_RAUXENT r) SEQ_RAUXENT.VALID && d.entryLow (d.fld (SEQ_RAUXENT r) SEQ_RAUXENT.ENTRY)

/-- The good condition of a rail. One with PGSRC NONE never stops meeting it (R127). -/
def Dev.goodCond (d : Dev) (r : Rail) : Bool :=
  match loopOf r.val with
  | some n => d.flag (LP_STATUS n) LP_STATUS.PG
  | none =>
    match d.fld (SEQ_RCFG r) SEQ_RCFG.PGSRC with
    | 0 => d.pins.xpg[railX r]
    | 1 => d.auxGood r
    | 2 => d.pins.xpg[railX r] && d.auxGood r
    | _ => d.drill.elapsed.getLsbD r.val || d.rstate r = rsGood

/-- An external rail can have fallen only once XENn is low (log entry 33). -/
def Dev.fallenCond (d : Dev) (r : Rail) : Bool :=
  match loopOf r.val with
  | some n => (d.lstate n = lsOff || d.lstate n = lsOvLatched) && d.rn (LP_VOUT n) < d.rn (SEQ_VFALL r)
  | none =>
    !d.xenPins[railX r] &&
      match d.fld (SEQ_RCFG r) SEQ_RCFG.PGSRC with
      | 0 => !d.pins.xpg[railX r]
      | 1 => d.auxFallen r
      | 2 => !d.pins.xpg[railX r] && d.auxFallen r
      | _ => true

/-! ## Device state (R338, R339) -/

/-- A NEWT entry that is pending is abandoned (R339). -/
def Dev.abandonNewt (d : Dev) : Dev :=
  if d.flag CFG_DSTATE CFG_DSTATE.NEWTPEND then (d.setFlag CFG_DSTATE CFG_DSTATE.NEWTPEND false).raise 4 else d

/-- IDLE and RUN follow SEQ_RAILON (R338). -/
def Dev.syncDevice (d : Dev) : Dev :=
  let on := d.rn32 SEQ_RAILON ≠ 0
  if d.dstate = dsIdle && on then (d.setFld CFG_DSTATE CFG_DSTATE.STATE dsRun).abandonNewt
  else if d.dstate = dsRun && !on then d.setFld CFG_DSTATE CFG_DSTATE.STATE dsIdle
  else d

def Dev.setRailOn (d : Dev) (r : Rail) (b : Bool) : Dev := (d.setMbit SEQ_RAILON r.val b).syncDevice

/-! ## Reset outputs (R146, R147) -/

/-- A rail of output `n`'s mask is not GOOD, or PREOFF holds it. -/
def Dev.rstHeld (d : Dev) (n : RstOut) : Bool :=
  d.drill.preoff.getLsbD n.val || rails.any fun r => d.mbit (SEQ_RSTMASK n) r.val && d.rstate r ≠ rsGood

/-- One reset output follows its rails. The answer carries its event when it asserts or releases. -/
def Dev.rstStep (d : Dev) (n : RstOut) : List Nat × Dev :=
  let empty := d.rn32 (SEQ_RSTMASK n) % 2 ^ 28 = 0
  let held := !decide empty && d.rstHeld n
  let owed := d.drill.owed.getLsbD n.val
  let was := d.mbit SEQ_RSTSTAT n.val
  let stretch :=
    if empty || held then false
    else if owed then d.fld (SEQ_RSTCFG n) SEQ_RSTCFG.STRETCH ≠ 0
    else d.mbit SEQ_RSTSTAT (8 + n.val)
  let now := d.flag (SEQ_RSTCFG n) SEQ_RSTCFG.FORCE || held || stretch
  let m : BitVec 8 := (1 : BitVec 8) <<< n.val
  let o : BitVec 8 := if held then d.drill.owed ||| m else d.drill.owed &&& ~~~m
  let d := { d with drill := { d.drill with owed := o } }
  let d := (d.setMbit SEQ_RSTSTAT n.val now).setMbit SEQ_RSTSTAT (8 + n.val) stretch
  (if was = now then [] else [140 + n.val], d)

/-- All reset outputs follow their rails, once the loader has written the drill's registers (R147). -/
def Dev.rstSync (d : Dev) : Dev :=
  if !d.blocksRun then d
  else
    let x := (List.finRange 8).foldl (fun (x : List Nat × Dev) n =>
      let y := x.2.rstStep n
      (x.1 ++ y.1, y.2)) ([], d)
    x.2.raiseAll x.1

/-- PREOFF at the start of an OFF or a reversal, where a rail of the mask is on, or of a switch, where one is leaving. -/
def Dev.preoff (d : Dev) (touched : Rail → Bool) : Dev :=
  let m := (List.finRange 8).foldl (fun (a : BitVec 8) (n : RstOut) =>
    if d.flag (SEQ_RSTCFG n) SEQ_RSTCFG.PREOFF && rails.any (fun r => d.mbit (SEQ_RSTMASK n) r.val && touched r)
    then a ||| ((1 : BitVec 8) <<< n.val) else a) 0
  ({ d with drill := { d.drill with preoff := m } }).rstSync

/-- The operation has ended: PREOFF holds nothing any longer. -/
def Dev.preoffEnd (d : Dev) : Dev := ({ d with drill := { d.drill with preoff := 0 } }).rstSync

/-- RSTOUT_STRETCH_EXPIRY. -/
def Dev.stretchExpiry (d : Dev) (n : RstOut) : Dev :=
  if d.blocksRun && d.mbit SEQ_RSTSTAT (8 + n.val) then (d.setMbit SEQ_RSTSTAT (8 + n.val) false).rstSync else d

/-! ## Items (R138, R144, R291) -/

/-- The result of a drill item of a code. -/
def Dev.drillResult (d : Dev) (code : Nat) : BitVec 64 :=
  if code = 0x11 then result2 (d.rn32 SEQ_FAILED) d.elapsed
  else if code = 0x13 then 0
  else result2 (d.rn32 SEQ_GOOD) d.elapsed

/-- Complete the running items for which `f` gives a status by their code, in rising tag order. -/
def Dev.endItems (d : Dev) (f : Nat → Option Nat) : Dev :=
  let ends := (d.inFlight.filter fun i => i.stage = .running).filterMap fun i =>
    (f i.code.toNat).map fun st => (i.tag, i.code.toNat, st)
  if ends.isEmpty then d
  else (List.finRange 128).foldl (fun d t => match ends.find? (fun x => x.1 = t) with
    | some x => d.complete t x.2.2 (d.drillResult x.2.1)
    | none => d) d
def onlyCode (c st : Nat) (code : Nat) : Option Nat := if code = c then some st else none

/-- A command ends at once: an item completes with a status; for SEQ_CMD a rejection sets CMDREF (R138). -/
def Dev.drillEnd (d : Dev) (src : Option Item) (status : Nat) : Dev :=
  match src with
  | some it => d.complete it.tag status (if status < 0x20 then d.drillResult it.code.toNat else 0)
  | none => d.when (0x20 ≤ status) (·.setFlag SEQ_STICKY SEQ_STICKY.CMDREF true)

/-- A command is carried out: its item runs on. -/
def Dev.drillRun (d : Dev) (src : Option Item) : Dev :=
  match src with
  | some it => d.setStage it.tag .running
  | none => d

/-! ## Cutting and switching off (R134, R135, R141, R112) -/

/-- Cut a rail at once: a loop goes to mid at its next period start, an external rail has XENn driven low. -/
def Dev.cutRail (d : Dev) (r : Rail) : Dev :=
  let d := (d.setOffDue r false).setElapsedRail r false
  match loopOf r.val with
  | some n => d.cutLoop n
  | none => d.setXen r false

/-- The rails that go off in a fault shutdown: every other live rail, in the reverse of the on order (R135). -/
def Dev.gapList (d : Dev) : List Rail := (d.onOrder d.profileNow (rails.filter d.railLive)).reverse

/-- Rails whose on-slot has not come never start. -/
def Dev.dropWaiting (d : Dev) : Dev :=
  rails.foldl (fun d r => if d.rstate r = rsWaiting then d.setRstate r rsOff else d) d

/-- A power-down or reversal ends (R134, R139, R140, R148). -/
def Dev.endDown (d : Dev) : Dev :=
  let st := if d.drill.warned then 1 else 0
  let next := if d.flag SEQ_STATUS SEQ_STATUS.DEFER || d.drill.cycle.isSome then drDwell else drOff
  let d := rails.foldl (fun d r => if d.rstate r = rsShed then d.setRstate r rsOff else d) d
  let d := (d.setDs next).preoffEnd
  let d := { d with drill := { d.drill with warned := false, offDue := 0 } }
  (d.raise 129).endItems (onlyCode 0x11 st)

/-- The status of an ON or SWITCH whose profile latched (R144). -/
def Dev.latchStatus (d : Dev) : Nat := if d.drill.firstFail = 1 then 0x30 else 0x31

/-- The drill enters LATCHED (R135 step 4). -/
def Dev.endFault (d : Dev) : Dev :=
  let st := d.latchStatus
  let d := (d.setDs drLatched).preoffEnd
  let d := { d with drill := { d.drill with gap := [], cycleSwitch := false, cycle := none } }
  (d.raise 133).endItems fun c => if c = 0x10 ∨ c = 0x12 then some st else if c = 0x11 then some 0 else none

/-- A power-down starts over the live rails, from UP or out of a switch (R134, R142). -/
def Dev.startDown (d : Dev) : Dev :=
  let live := rails.filter d.railLive
  let d := live.foldl (fun d r => d.setOffDue r true) d
  let d := { d with drill := { d.drill with t0 := d.now, warned := false, firstFail := 0, phase2 := false } }
  (d.setDs drFalling).preoff fun r => d.railLive r || (d.railOn r && d.rstate r = rsFalling)

/-- UP is reached when every rail of the running profile is GOOD or SHED (R132, R142). -/
def Dev.checkUp (d : Dev) : Dev :=
  let all := rails.all fun r => !d.inMask d.profileNow r || d.railUp r
  if !all then d
  else if d.ds = drRising then
    let warn := rails.any fun r => d.inMask d.profileNow r && d.rstate r = rsShed
    ((d.setDs drUp).raise 128).endItems (onlyCode 0x10 (if warn then 1 else 0))
  else if d.ds = drSwitching && d.drill.phase2 then
    let d := ({ (d.setDs drUp) with drill := { d.drill with phase2 := false } }).preoffEnd
    let d := (d.raise 130).endItems (onlyCode 0x12 0)
    if d.drill.cycleSwitch then
      let d := ({ d with drill := { d.drill with cycleSwitch := false,
                                                 cycle := some (Fin.ofNat 8 d.profileNow) } }).startDown
      if rails.all d.railDown then d.endDown else d
    else d
  else d

/-- Phase 2 of a switch: the new profile runs, and its rails that are OFF or SHED are joining (R142, R143). -/
def Dev.startPhase2 (d : Dev) : Dev :=
  let q := d.targetNow
  let d := (d.setFld SEQ_STATUS SEQ_STATUS.PROFILE q)
  let d := { d with drill := { d.drill with phase2 := true, offDue := 0 } }
  let d := rails.foldl (fun d r =>
    if d.inMask q r && (d.rstate r = rsOff || d.rstate r = rsShed) then d.setRstate r rsWaiting else d) d
  d.rstSync.checkUp

/-- What follows once rails have gone off: the end of a power-down, phase 2 of a switch, or LATCHED. -/
def Dev.checkDown (d : Dev) : Dev :=
  if d.ds = drFalling || d.ds = drReversing then (if rails.all d.railDown then d.endDown else d)
  else if d.ds = drFaulting then (if rails.all d.railDown then d.endFault else d)
  else if d.ds = drSwitching && !d.drill.phase2 then
    (if rails.all fun r => d.inMask d.targetNow r || d.railDown r then d.startPhase2 else d)
  else d

/-- A rail has fallen: it is off, and a FALLING rail becomes OFF (R134). -/
def Dev.railFallen (d : Dev) (r : Rail) : Dev :=
  let d := d.setLossOnly r false
  let d := d.when (d.rstate r = rsFalling) (·.setRstate r rsOff)
  (d.setRailOn r false).checkDown

/-- The off action of a rail at its slot (R134); without a fall time-out it counts as fallen at once. -/
def Dev.railOff (d : Dev) (r : Rail) : Dev :=
  let d := (((d.setRstate r rsFalling).setOffDue r false).setElapsedRail r false).setLossOnly r false
  let d := d.rstSync
  let d := match loopOf r.val with
    | some n => d.softStop n
    | none => d.setXen r false
  if d.rn (SEQ_FTO r) = 0 || d.fallenCond r then d.railFallen r else d

/-- A rail that is cut or shed may have fallen already. -/
def Dev.checkFallen (d : Dev) (r : Rail) : Dev :=
  if d.railOn r && d.fallenCond r then d.railFallen r else d.checkDown

/-! ## Failures (R133, R135, R137, R141) -/

/-- The sticky bits of a failure cause. -/
def failSticky (cause : Nat) (falling : Bool) : Nat :=
  (match cause with
  | 1 => 0x01
  | 2 => 0x02
  | 3 => 0x04
  | 4 => 0x10
  | _ => 0x08) ||| (if falling && cause ≠ 5 then 0x10 else 0)

/-- Whether R141 governs a failure of rail `r`: in FALLING and REVERSING, and for a leaving rail in phase 1 of a switch. -/
def Dev.fallingRule (d : Dev) (r : Rail) : Bool :=
  d.ds = drFalling || d.ds = drReversing || (d.ds = drSwitching && !d.drill.phase2 && !d.inMask d.targetNow r)

/-- The failure of rail `r` is entered as the most recent one, unless one of a higher rail came in the same tick, and as the
first of a fault shutdown that began in this tick with a higher rail (R145). -/
def Dev.noteFailure (d : Dev) (r : Rail) (cause : Nat) : Dev :=
  let tie := d.flag SEQ_LASTFAIL SEQ_LASTFAIL.VALID && decide (d.drill.lastAt = d.now)
  let later := tie && decide (r.val < d.fld SEQ_LASTFAIL SEQ_LASTFAIL.RAIL)
  let d := if later then d else d.wn SEQ_LASTFAIL (0x8000 + d.profileNow * 0x1000 + cause * 0x100 + r.val)
  let first := d.ds = drFaulting && decide (d.drill.firstAt = d.now) && decide (r.val < d.drill.firstRail)
  let x := d.drill
  { d with drill := { x with lastAt := d.now, firstFail := if first then cause else x.firstFail,
                             firstRail := if first then r.val else x.firstRail } }

/-- A rail failure: it is reported and the rail cut; in RISING, UP and SWITCHING a fault shutdown starts. A loss, or a loop
over-current, during a power-down is recorded as cut while falling (log entry 34). -/
def Dev.railFailure (d : Dev) (r : Rail) (cause : Nat) : Dev :=
  let falling := d.fallingRule r
  let cause := if falling && cause = 2 then 4 else cause
  let shutdown := !falling && (d.ds = drRising || d.ds = drUp || d.ds = drSwitching)
  let d := d.wr SEQ_STICKY (d.rd SEQ_STICKY ||| BitVec.ofNat 16 (failSticky cause falling))
  let d := (d.setRstate r rsFailed).setFld (SEQ_RSTATE r) SEQ_RSTATE.CAUSE cause
  let d := d.setLossOnly r false
  let d := d.noteFailure r cause
  let d := ((d.bump SEQ_FAILCNT).bump (SEQ_RFAILCNT r)).cutRail r
  let d := d.when falling fun d => { d with drill := { d.drill with warned := true } }
  let d := d.when shutdown fun d =>
    let d := d.dropWaiting
    let t0 := if d.ds = drUp then d.now else d.drill.t0
    let d := { d with drill := { d.drill with t0 := t0, firstFail := cause, firstAt := d.now, firstRail := r.val,
                                              gap := d.gapList, offDue := 0, phase2 := false, warned := false } }
    (d.setFlag SEQ_STICKY SEQ_STICKY.FAULTSD true).setDs drFaulting
  let d := d.raiseAll (if shutdown then [131, 132] else [131])
  ((d.takeSnapshot 1 r.val cause).rstSync).checkFallen r

/-- A GOOD rail stops meeting its good condition (R133). A loss that is only reported is the rail's last cause too (log entry
124). -/
def Dev.railLoss (d : Dev) (r : Rail) : Dev :=
  let d := d.setFlag SEQ_STICKY SEQ_STICKY.LOST true
  if d.flag (SEQ_RCFG r) SEQ_RCFG.FAILACT then
    let d := (d.setRstate r rsFailed).setFld (SEQ_RSTATE r) SEQ_RSTATE.CAUSE 2
    ((d.setLossOnly r true).raise 139).rstSync
  else d.railFailure r 2

/-- A rail becomes GOOD (R132). -/
def Dev.railGood (d : Dev) (r : Rail) : Dev :=
  let d := (d.setRstate r rsGood).wn (SEQ_RUPTIME r) (min 65535 ((d.now - d.drill.onAt[r]) / 10))
  d.rstSync.checkUp

/-- A rail's supervision, after anything that its conditions depend on. -/
def Dev.railPoll (d : Dev) (r : Rail) : Dev :=
  if !d.blocksRun then d
  else
    let good := d.goodCond r
    let st := d.rstate r
    if st = rsRising then (if good then d.railGood r else d)
    else if st = rsGood then (if good then d else d.railLoss r)
    else if d.railOn r && d.fallenCond r then d.railFallen r
    else d

/-- The rail of a loop. -/
def loopRail (n : Loop) : Rail := ⟨n.val, by omega⟩
def Dev.pollLoop (d : Dev) (n : Loop) : Dev := d.railPoll (loopRail n)

/-- A loop has entered OVLATCHED: its rail has failed by OV, whatever its rail state (R133; log entry 35). -/
def Dev.ovRail (d : Dev) (n : Loop) : Dev := d.railFailure (loopRail n) 3

/-- A loop's over-current report cuts its rail in a power-down (R141); in other states it is no rail failure (R133). -/
def Dev.ocRail (d : Dev) (n : Loop) : Dev :=
  let r := loopRail n
  if d.fallingRule r && d.railOn r && !d.railDown r then d.railFailure r 4 else d

/-- The rails that a result of plan entry `e` supervises (R127). -/
def Dev.pollAux (d : Dev) (e : Nat) : Dev :=
  rails.foldl (fun (d : Dev) (r : Rail) =>
    if 12 ≤ r.val && d.flag (SEQ_RAUXENT r) SEQ_RAUXENT.VALID && d.fld (SEQ_RAUXENT r) SEQ_RAUXENT.ENTRY = e
    then d.railPoll r else d) d

/-! ## Slots and time-outs (R132, R134, R135) -/

/-- Mark a rail SHED (R143). -/
def Dev.markShed (d : Dev) (r : Rail) : Dev :=
  (((d.setRstate r rsShed).setLossOnly r false).raise 137).rstSync

/-- BG_STATUS.STATE is HANDOVER or LIFELINE. -/
def Dev.bgShedding (d : Dev) : Bool := d.fld BG_STATUS BG_STATUS.STATE = 2 || d.fld BG_STATUS BG_STATUS.STATE = 3

/-- DRILL_ON_SLOT: the on-slot of rail `r`, with the output `vout` of a loop (R132, R143). The loop's own sense entry is
converted urgently for its prebias (R165). -/
def Dev.onSlot (d : Dev) (r : Rail) (vout : Nat) : Dev :=
  if !(d.blocksRun && d.rstate r = rsWaiting && (d.ds = drRising || (d.ds = drSwitching && d.drill.phase2))) then d
  else if d.bgShedding && d.mbit BG_LLSHED r.val then (d.markShed r).checkUp
  else
    let d := { d with drill := { d.drill with onAt := d.drill.onAt.set r d.now } }
    let d := (d.setRstate r rsRising).setElapsedRail r
      (12 ≤ r.val && d.fld (SEQ_RCFG r) SEQ_RCFG.PGSRC = 3 && d.rn (SEQ_RTO r) = 0)
    let d := match loopOf r.val with
      | some n => (d.urgent (32 + n.val) 19).softStart n vout
      | none => d.setXen r true
    (d.setRailOn r true).railPoll r

/-- DRILL_OFF_SLOT. -/
def Dev.offSlot (d : Dev) (r : Rail) : Dev :=
  if d.blocksRun && d.drill.offDue.getLsbD r.val && d.railLive r &&
      (d.ds = drFalling || d.ds = drReversing || (d.ds = drSwitching && !d.drill.phase2)) then d.railOff r
  else d

/-- FAULT_GAP_STEP: the next rail in the order goes off; the place of one that is off already is skipped. -/
def Dev.gapStep (d : Dev) : Dev :=
  if !(d.blocksRun && d.ds = drFaulting) then d
  else match d.drill.gap with
    | [] => d
    | r :: rest =>
      let d := { d with drill := { d.drill with gap := rest } }
      if d.railLive r then d.railOff r else d

/-- RISE_TIMEOUT: a rail that is good in the same tick counts as good (R145). -/
def Dev.riseTimeout (d : Dev) (r : Rail) : Dev :=
  if !(d.blocksRun && d.rstate r = rsRising) then d
  else if 12 ≤ r.val && d.fld (SEQ_RCFG r) SEQ_RCFG.PGSRC = 3 then (d.setElapsedRail r true).railPoll r
  else if d.goodCond r then d.railPoll r
  else d.railFailure r 1

/-- FALL_TIMEOUT. -/
def Dev.fallTimeout (d : Dev) (r : Rail) : Dev :=
  if !(d.blocksRun && d.rstate r = rsFalling && d.rn (SEQ_FTO r) ≠ 0) then d
  else if d.fallenCond r then d.railPoll r
  else d.railFailure r 5

/-- XPG_CHANGE: the filtered level of XPGn. -/
def Dev.xpgChange (d : Dev) (x : Fin 16) (level : Bool) : Dev :=
  ({ d with pins := { d.pins with xpg := d.pins.xpg.set x level } }).railPoll ⟨12 + x.val, by omega⟩

/-! ## Power-up, reversal and switching (R131, R132, R138 to R143) -/

/-- The power-up of profile `p` starts: an accepted ON clears SEQ_FAILED and SEQ_SHED. -/
def Dev.startUp (d : Dev) (p : Nat) : Dev :=
  let d := rails.foldl (fun d r => d.setRstate r (if d.inMask p r then rsWaiting else rsOff)) d
  let d := d.zero [SEQ_FAILED, SEQ_FAILED + 2]
  let d := (d.setFld SEQ_STATUS SEQ_STATUS.PROFILE p).setFlag SEQ_STATUS SEQ_STATUS.DEFER false
  let d := { d with drill := { d.drill with t0 := d.now, lossOnly := 0, elapsed := 0, offDue := 0, phase2 := false,
                                            firstFail := 0, warned := false, gap := [], cycle := none } }
  (d.setDs drRising).checkUp

/-- A rail that no ON or SWITCH may name (R131). -/
def Dev.unstartable (d : Dev) (r : Rail) : Bool :=
  match loopOf r.val with
  | some n => (d.phasesOf n).isEmpty || d.flag (LP_STATUS n) LP_STATUS.CFGERR || d.rn (SEQ_RTO r) = 0
  | none =>
    let src := d.fld (SEQ_RCFG r) SEQ_RCFG.PGSRC
    ((src = 1 || src = 2) && !d.flag (SEQ_RAUXENT r) SEQ_RAUXENT.VALID) || (src ≠ 3 && d.rn (SEQ_RTO r) = 0)

/-- An item names a profile with the rail of a disabled loop (R302). -/
def Dev.loopDisabled (d : Dev) (src : Option Item) (p : Nat) : Bool :=
  src.isSome && (rails.filter (d.inMask p)).any fun r => r.val < 12 && d.mbit HOP_FNDIS r.val

/-- A rail of profile `p` that refuses an ON or SWITCH that names it (R131). -/
def Dev.profileBad (d : Dev) (p : Nat) : Bool := (rails.filter (d.inMask p)).any d.unstartable

/-- What refuses an ON of profile `p` beside the drill's state: an unstartable rail (R131), an OV-latched loop (R136, R145). -/
def Dev.profileRefused (d : Dev) (p : Nat) : Option Nat :=
  let rs := rails.filter (d.inMask p)
  if d.profileBad p then some 0x21
  else if rs.any (fun r => match loopOf r.val with
      | some n => d.lstate n = lsOvLatched
      | none => false) then some 0x23
  else none

/-- Refuse with a status; R131 sets CFGREF and raises CFG_REFUSED. -/
def Dev.refuseProfile (d : Dev) (src : Option Item) (st : Nat) : Dev :=
  let d := d.when (st = 0x21) fun d => (d.setFlag SEQ_STICKY SEQ_STICKY.CFGREF true).raise 136
  d.drillEnd src st

/-- ON (R138). `src` is the item, or none for SEQ_CMD. -/
def Dev.drillOn (d : Dev) (src : Option Item) (p : Nat) : Dev :=
  let go (f : Dev → Dev) : Dev := match d.profileRefused p with
    | some st => d.refuseProfile src st
    | none => f (d.drillRun src)
  let st := d.ds
  if d.loopDisabled src p then d.drillEnd src 0x23
  else if st = drOff then go fun d => d.startUp p
  else if st = drUp then d.drillEnd src (if p = d.profileNow then 0x00 else 0x23)
  else if st = drFalling then
    if d.flag SEQ_STATUS SEQ_STATUS.DEFER then d.drillEnd src 0x22
    else go fun d =>
      ((d.setFlag SEQ_STATUS SEQ_STATUS.DEFER true).setFld SEQ_STATUS SEQ_STATUS.TARGET p).raise 135
  else if st = drRising || st = drDwell || st = drSwitching || st = drReversing then d.drillEnd src 0x22
  else d.drillEnd src 0x23

/-- The reversal of a power-up (R139). -/
def Dev.reverse (d : Dev) : Dev :=
  let d := d.dropWaiting
  let live := rails.filter d.railLive
  let d := live.foldl (fun d r => d.setOffDue r true) d
  let d := { d with drill := { d.drill with t0 := d.now, warned := false } }
  let d := (d.setDs drReversing).preoff d.railLive
  ((d.raise 134).endItems (onlyCode 0x10 0x10)).checkDown

/-- The deferred ON is dropped in DWELL: the drill is OFF (R138). -/
def Dev.dropDwell (d : Dev) : Dev :=
  let d := (d.setFlag SEQ_STATUS SEQ_STATUS.DEFER false).setDs drOff
  ({ d with drill := { d.drill with cycle := none } }).endItems (onlyCode 0x10 0x10)

/-- An OFF ends a switch (R142). -/
def Dev.offSwitch (d : Dev) : Dev :=
  let d := d.dropWaiting
  let d := d.setFld SEQ_STATUS SEQ_STATUS.PROFILE d.targetNow
  let d := { d with drill := { d.drill with cycleSwitch := false } }
  ((d.startDown).endItems (onlyCode 0x12 0x10)).checkDown

/-- OFF (R138). -/
def Dev.drillOff (d : Dev) (src : Option Item) : Dev :=
  let st := d.ds
  if st = drOff || st = drLatched then d.drillEnd src 0x00
  else if st = drDwell then d.dropDwell.drillEnd src 0x00
  else if st = drRising then (d.drillRun src).reverse
  else if st = drUp then (d.drillRun src).startDown.checkDown
  else if st = drSwitching then (d.drillRun src).offSwitch
  else d.drillRun src

/-- SWITCH (R142). -/
def Dev.drillSwitch (d : Dev) (src : Option Item) (q : Nat) : Dev :=
  if d.loopDisabled src q then d.drillEnd src 0x23
  else if d.ds = drSwitching then d.drillEnd src 0x22
  else if d.ds ≠ drUp then d.drillEnd src 0x23
  else if d.profileBad q then d.refuseProfile src 0x21
  else
    let d := (d.drillRun src).setFld SEQ_STATUS SEQ_STATUS.TARGET q
    let leaving := rails.filter fun r => d.railLive r && !d.inMask q r
    let d := leaving.foldl (fun d r => d.setOffDue r true) d
    let d := { d with drill := { d.drill with t0 := d.now, phase2 := false, warned := false, firstFail := 0 } }
    ((d.setDs drSwitching).preoff fun r => decide (r ∈ leaving)).checkDown

/-- UNLATCH (R136). -/
def Dev.drillUnlatch (d : Dev) (src : Option Item) : Dev :=
  if d.ds ≠ drLatched then d.drillEnd src 0x23
  else
    let d := rails.foldl (fun d r => d.setRstate r rsOff) d
    let d := ((d.zero [SEQ_FAILED, SEQ_FAILED + 2]).setDs drOff).rstSync
    (d.raise 138).drillEnd src 0x00

/-- DWELL_EXPIRY: the deferred ON's power-up starts, or that of a rail-cycle reset (R140, R145). -/
def Dev.dwellEnd (d : Dev) : Dev :=
  if !(d.blocksRun && d.ds = drDwell) then d
  else if d.flag SEQ_STATUS SEQ_STATUS.DEFER then d.startUp d.targetNow
  else match d.drill.cycle with
    | some p => d.startUp p.val
    | none => d.setDs drOff

/-- The drill's part of a rail-cycle reset (R145). -/
def Dev.drillCycle (d : Dev) : Dev :=
  let p : Profile := Fin.ofNat 8 d.profileNow
  let arm (d : Dev) : Dev := { d with drill := { d.drill with cycle := some p } }
  if d.ds = drUp then (arm d).startDown.checkDown
  else if d.ds = drRising then (arm d).reverse
  else if d.ds = drSwitching then { d with drill := { d.drill with cycleSwitch := true } }
  else d

/-- Device LATCHED: all XENn go low, RSTOUTn assert, and the drill stops without sequencing (R145, R147). -/
def Dev.drillStop (d : Dev) : Dev :=
  let d := { d with pins := { d.pins with xen := Vector.replicate 16 false } }
  let falls := (List.range 8).filter fun n => !d.mbit SEQ_RSTSTAT n
  (d.wn SEQ_RSTSTAT 0x00FF).raiseAll (falls.map fun n => 140 + n)

/-! ## The Guard's shed (R112, R143) -/

/-- The Guard takes a rail off: no failure, no time-out. -/
def Dev.shedRail (d : Dev) (r : Rail) : Dev :=
  if !d.railOn r || d.rstate r = rsShed || (d.rstate r = rsFailed && !d.lossOnly r) then d
  else (((d.cutRail r).markShed r).checkUp).checkFallen r

/-- The rails of BG_LLSHED that are on, in the reverse of their on order (R112). With no gap all go off at once;
otherwise the first goes at once, and each next one with LLSHED_STEP. -/
def Dev.startShed (d : Dev) : Dev :=
  let rs := (d.onOrder d.profileNow (rails.filter fun r => d.mbit BG_LLSHED r.val && d.railOn r)).reverse
  if d.fld BG_LLGAP BG_LLGAP.VALUE = 0 then rs.foldl Dev.shedRail d
  else match rs with
    | [] => d
    | r :: rest => (Dev.shedRail { d with drill := { d.drill with shedList := rest } } r)

/-- LLSHED_STEP. -/
def Dev.shedStep (d : Dev) : Dev :=
  match d.drill.shedList with
  | [] => d
  | r :: rest => d.when d.blocksRun fun d => Dev.shedRail { d with drill := { d.drill with shedList := rest } } r

/-! ## SEQ_CMD, profiles and reset outputs as registers (R129, R138, R149) -/

/-- A write of SEQ_CMD. -/
def Dev.seqCmd (d : Dev) (v : Nat) : Dev :=
  let d := d.when (SEQ_CMD.CNTCLR.of v ≠ 0) (·.zero (SEQ_FAILCNT :: (List.range 28).map SEQ_RFAILCNT))
  let p := SEQ_CMD.PROFILE.of v
  match SEQ_CMD.CMD.of v with
  | 0 => d
  | 1 => d.drillOn none p
  | 2 => d.drillOff none
  | 3 => d.drillSwitch none p
  | 4 => d.drillUnlatch none
  | _ => d.setFlag SEQ_STICKY SEQ_STICKY.CMDREF true

/-- Profile `p` may not be written: it runs, or a deferred ON or a switch in progress names it (R129). -/
def Dev.profileBusy (d : Dev) (p : Nat) : Bool :=
  ((drActive d.ds || d.ds = drUp) && d.profileNow = p) ||
    ((d.flag SEQ_STATUS SEQ_STATUS.DEFER || d.ds = drSwitching) && d.targetNow = p)

/-- A write to the profile tables: a value of 32 bits at a 32-bit register, of 16 bits at SEQ_PFGAP and SEQ_PFDWELL. -/
def Dev.writeProfile (d : Dev) (a : Nat) (v : BitVec 32) : Dev :=
  let p := (a - 0x1400) / 0x100 % 8
  if d.profileBusy p then d.setFlag SEQ_STICKY SEQ_STICKY.PFWREF true
  else
    let d := d.storeWord a a (v.setWidth 16)
    if a % 0x100 = 4 || a % 0x100 = 6 then d else d.storeWord (a + 2) (a + 2) ((v >>> 16).setWidth 16)

/-- A write of SEQ_RSTMASK, of 32 bits (R7, R149). -/
def Dev.writeRstMask (d : Dev) (a : Nat) (v : BitVec 32) : Dev := (d.wr32 a (v &&& 0x0FFFFFFF#32)).rstSync

/-- A write of a drill register that needs no rule of its own; reset outputs, and the rail it sets up, follow it. -/
def Dev.writeDrill (d : Dev) (a : Nat) (v : Word) : Dev :=
  let d := (d.storeWord a a (if 0x1100 ≤ a && a < 0x11C0 && a % 16 = 0 then v &&& 0xFFFC#16 else v)).rstSync
  d.when (decide (0x1100 ≤ a ∧ a < 0x12C0)) (·.railPoll (Fin.ofNat 28 ((a - 0x1100) / 16)))

/-! ## Commands -/

def execSeqCmdOn (acc : Acc) (p : Profile) (s : State) : Host.Outcome State Fault Refusal :=
  s.step1 fun d => d.gate acc SEQ_CMD (·.drillOn none p.val)
def execSeqCmdOff (acc : Acc) (s : State) : Host.Outcome State Fault Refusal :=
  s.step1 fun d => d.gate acc SEQ_CMD (·.drillOff none)
def execSeqCmdSwitch (acc : Acc) (p : Profile) (s : State) : Host.Outcome State Fault Refusal :=
  s.step1 fun d => d.gate acc SEQ_CMD (·.drillSwitch none p.val)
def execSeqCmdUnlatch (acc : Acc) (s : State) : Host.Outcome State Fault Refusal :=
  s.step1 fun d => d.gate acc SEQ_CMD (·.drillUnlatch none)
def execSeqCmdCntclr (acc : Acc) (s : State) : Host.Outcome State Fault Refusal :=
  s.step1 fun d => d.gate acc SEQ_CMD (·.seqCmd 0x8000)
/-- SEQ_CMD_INVALID: `v` is the value written; a refused one is judged as any other (R138). -/
def execSeqCmdInvalid (acc : Acc) (v : BitVec 16) (s : State) : Host.Outcome State Fault Refusal :=
  s.step1 fun d => d.gate acc SEQ_CMD (·.seqCmd v.toNat)

def execDrillOnSlot (r : Rail) (vout : BitVec 16) (s : State) : Host.Outcome State Fault Refusal :=
  s.step1 (·.onSlot r vout.toNat)
def execDrillOffSlot (r : Rail) (s : State) : Host.Outcome State Fault Refusal := s.step1 (·.offSlot r)
def execRiseTimeout (r : Rail) (s : State) : Host.Outcome State Fault Refusal := s.step1 (·.riseTimeout r)
def execFallTimeout (r : Rail) (s : State) : Host.Outcome State Fault Refusal := s.step1 (·.fallTimeout r)
def execXpgChange (x : Fin 16) (level : Bool) (s : State) : Host.Outcome State Fault Refusal := s.step1 (·.xpgChange x level)
def execFaultGapStep (s : State) : Host.Outcome State Fault Refusal := s.step1 Dev.gapStep
def execRstoutStretchExpiry (n : RstOut) (s : State) : Host.Outcome State Fault Refusal := s.step1 (·.stretchExpiry n)
def execSeqProfileWrite (acc : Acc) (addr : BitVec 16) (v : BitVec 32) (s : State) : Host.Outcome State Fault Refusal :=
  s.step1 fun d => d.gate acc addr.toNat fun d =>
    d.when (decide (0x1400 ≤ addr.toNat ∧ addr.toNat < 0x1C00)) (·.writeProfile addr.toNat v)

/-- DRILL_ON, DRILL_OFF, DRILL_SWITCH and DRILL_UNLATCH from the hopper (R291). -/
def execDrillOn (tag : Tag) (s : State) : Host.Outcome State Fault Refusal :=
  s.step1 fun d => d.carry tag (· = 0x10) fun it d => d.drillOn (some it) (it.arg 0)
def execDrillOff (tag : Tag) (s : State) : Host.Outcome State Fault Refusal :=
  s.step1 fun d => d.carry tag (· = 0x11) fun it d => d.drillOff (some it)
def execDrillSwitch (tag : Tag) (s : State) : Host.Outcome State Fault Refusal :=
  s.step1 fun d => d.carry tag (· = 0x12) fun it d => d.drillSwitch (some it) (it.arg 0)
def execDrillUnlatch (tag : Tag) (s : State) : Host.Outcome State Fault Refusal :=
  s.step1 fun d => d.carry tag (· = 0x13) fun it d => d.drillUnlatch (some it)

end Sys2Proof.Machine
end

