-- ==== Sys2Proof/Machine/Velong.lean ====
section
/-!
DEFINITION. The Velong links (03_velong_link.md): frames and their check code, commands and answers, link states, loss,
throttle time-outs and the VL_ registers. A command row is one whole exchange: the frame, the command's effect and the
response; where the response still runs when the row is over, VL_STATUS.FRAME stays 1 (log entry 36).
-/

namespace Sys2Proof.Machine

open Sys2Proof Sys2Proof.R

/-! ## Frames (R71, R72) -/

/-- The table of R72. -/
def crcNibble (i : Nat) : Nat :=
  match i with
  | 0 => 0x0 | 1 => 0x3 | 2 => 0x6 | 3 => 0x5 | 4 => 0xC | 5 => 0xF | 6 => 0xA | 7 => 0x9
  | 8 => 0xB | 9 => 0x8 | 10 => 0xD | 11 => 0xE | 12 => 0x7 | 13 => 0x4 | 14 => 0x1 | _ => 0x2

/-- The CRC of bits [31:4], given as a 28-bit number: its seven nibbles, most significant first. -/
def crc4 (v : Nat) : Nat :=
  (List.range 7).foldl (fun c i => crcNibble ((c ^^^ (v / 16 ^ (6 - i) % 16)) % 16)) 0

/-- A whole frame from bits [29:24], DATA and SEQ: START is 0b01. -/
def vlFrame (head : Nat) (data : Word) (seq : BitVec 4) : BitVec 32 :=
  let v := 0x4000000 + head % 64 * 0x100000 + data.toNat * 16 + seq.toNat
  BitVec.ofNat 32 (v * 16 + crc4 v)

/-- START reads 0b01 and the CRC is good. -/
def frameStart (f : BitVec 32) : Bool := f.toNat / 2 ^ 30 = 1
def frameGood (f : BitVec 32) : Bool := crc4 (f.toNat / 16) = f.toNat % 16

/-- An answer before its frame: the ACK code, STATUS and DATA (R78, R79). -/
structure VAnswer where
  ack : Nat
  status : Nat
  data : Word
  deriving DecidableEq, Repr

def VAnswer.frame (a : VAnswer) (seq : BitVec 4) : BitVec 32 := vlFrame (a.ack * 16 + a.status) a.data seq
def nak (reason : Nat) : VAnswer := { ack := 1, status := reason, data := 0 }

/-! ## Link states and loss (R86 to R89) -/

/-- The configuration prevents enable (R86, R89). -/
def Dev.vlCfgBad (d : Dev) (k : Link) : Bool :=
  !(decide (d.rn (VL_THRW1 k) ≤ d.rn (VL_THRW2 k)) && decide (d.rn (VL_THRW2 k) ≤ d.rn (VL_THRW3 k))) ||
    d.fld (VL_CFG k) VL_CFG.LOSSACT = 3

/-- LOSSACT on one rail of the link whose mapped loop is Velong-owned. A link that is disabled because LOSSACT itself is
written 0b11 acts as under HOLD (DESIGN CHOICE, log entry 147). -/
def Dev.lossAct (d : Dev) (k : Link) (r : Fin 4) : Dev :=
  match d.railLoop k r with
  | none => d
  | some n =>
    if d.fld (LP_CFG n) LP_CFG.SPSRC ≠ 2 then d
    else match d.fld (VL_CFG k) VL_CFG.LOSSACT with
      | 1 => (d.setTarget n (d.rn (VL_SAFEV k r))).2
      | 2 => (d.setFld (LP_CFG n) LP_CFG.SPSRC 1).evalCfgErr n
      | _ => d

/-- What a link does on entering LOST or when disabled while UP (R89). -/
def Dev.lossActions (d : Dev) (k : Link) : Dev :=
  let d := (d.setAck k 0).modLink k fun x => { x with stored := none }
  (((d.lossAct k 0).lossAct k 1).lossAct k 2).lossAct k 3

/-- A link in UP is lost (R88, R90). -/
def Dev.lose (d : Dev) (k : Link) : Dev :=
  if d.vlState k ≠ vlUp then d
  else
    let d := (d.setVlState k vlLost).setFlag (VL_STICKY k) VL_STICKY.LOST true
    ((d.lossActions k).raise (96 + 4 * k.val)).syncAttn k

/-- The link becomes DISABLED. -/
def Dev.disableLink (d : Dev) (k : Link) : Dev :=
  let was := d.vlState k
  let d := (d.setVlState k vlDisabled).modLink k fun x => { x with disPend := false }
  ((d.when (was = vlUp) (·.lossActions k)).setAck k 0).syncAttn k

/-- A disable is due: a frame in progress and its response complete first (R87, R92). -/
def Dev.dropLink (d : Dev) (k : Link) : Dev :=
  if d.vlState k = vlDisabled then d
  else if d.flag (VL_STATUS k) VL_STATUS.FRAME then d.modLink k fun x => { x with disPend := true }
  else d.disableLink k

/-- EN written 1 enables a DISABLED link with no configuration error (R69, R80, R87). A disable that waits for the end of a
frame, with no configuration error, is taken back (log entry 121). -/
def Dev.raiseLink (d : Dev) (k : Link) : Dev :=
  if d.flag (VL_STATUS k) VL_STATUS.CFGERR then d
  else
    let d := d.modLink k fun x => { x with disPend := false }
    if d.vlState k ≠ vlDisabled then d
    else
      let d := d.modLink k fun x => { x with stored := none, errs := 0, driven := true }
      (d.setVlState k vlWait).syncAttn k

/-- CFGERR follows the registers; a link whose configuration fails is disabled. -/
def Dev.evalVl (d : Dev) (k : Link) : Dev :=
  let bad := d.vlCfgBad k
  let d := d.setFlag (VL_STATUS k) VL_STATUS.CFGERR bad
  d.when bad (·.dropLink k)

/-- The response and its tail have passed: a deferred disable acts, and attention may be asserted again (R73, R84). -/
def Dev.endFrame (d : Dev) (k : Link) : Dev :=
  if d.flag (VL_STATUS k) VL_STATUS.FRAME then
    let d := (d.setFlag (VL_STATUS k) VL_STATUS.FRAME false).syncAttn k
    d.when (d.link k).disPend (·.disableLink k)
  else d

/-! ## Exchanges (R73 to R80) -/

/-- What a good command frame does: the answer, and the device after it. The command is given by its code. -/
def Dev.vlExecute (d : Dev) (k : Link) (cmd : Nat) (r : Fin 4) (data : Word) : VAnswer × Dev :=
  let ok (w : Word) (d : Dev) : VAnswer × Dev := ({ ack := 0, status := 0, data := w }, d)
  let rail (f : Loop → VAnswer × Dev) : VAnswer × Dev := match d.railLoop k r with
    | some n => f n
    | none => (nak 2, d)
  let foreign (d : Dev) : Dev := d.setFlag (VL_STICKY k) VL_STICKY.NOTOWNER true
  match cmd with
  | 0 =>
    let m := (List.finRange 4).foldl (fun a i => if (d.railLoop k i).isSome then a + 2 ^ i.val else a) 0
    ok (BitVec.ofNat 16 (0x0100 + 16 * m)) d
  | 1 => rail fun n =>
    if d.fld (LP_CFG n) LP_CFG.SPSRC ≠ 2 then (nak 3, (foreign d).spFault n)
    else if d.lstate n = lsOvLatched then (nak 4, d)
    else
      let d := (d.setTarget n data.toNat).2
      let d := d.when (d.flag (LP_STATUS n) LP_STATUS.SETTLED) (·.vlSettle n)
      ok (d.rd (LP_VSET n)) d
  | 2 => rail fun n => ok (d.rd (LP_VOUT n)) d
  | 3 => rail fun n => ok (d.rd (LP_IOUT n)) d
  | 4 => rail fun n => ok (d.rd (LP_POUT n)) d
  | 5 => ok (d.vlWord k) (d.modLink k fun x => { x with bits := 0 })
  | 6 => if 3 < data.toNat then (nak 5, d) else ok data ((d.setAck k data.toNat).modLink k fun x => { x with thrAcked := true })
  | 7 => rail fun n =>
    if d.fld (LP_CFG n) LP_CFG.SPSRC ≠ 2 then (nak 3, foreign d)
    else if d.lstate n = lsOvLatched then (nak 4, d)
    else if !d.flag (VL_CFG k) VL_CFG.SLEWEN then (nak 6, d)
    else ok data (d.wr (LP_SLEW n) data)
  | 8 => rail fun n => ok (d.rd (LP_VSET n)) d
  | 9 => ok 0 d
  | _ => (nak 1, d)

/-- STATUS of an ACK, after the command (R78). -/
def Dev.ackStatus (d : Dev) (k : Link) (r : Fin 4) : Nat :=
  let b := (d.link k).bits
  let settled := match d.railLoop k r with
    | some n => d.flag (LP_STATUS n) LP_STATUS.SETTLED
    | none => false
  (if b ≠ 0 then 8 else 0) + (if settled then 4 else 0) + (if (b &&& 0x0F00#16) ≠ 0 then 2 else 0) +
    (if d.thrReq k ≠ 0 then 1 else 0)

/-- The link takes a frame: it is enabled, and the frame before it has completed. The answer is whether it listens. -/
def Dev.listens (d : Dev) (k : Link) : Bool := d.blocksRun && d.pins.vio && d.vlState k ≠ vlDisabled

/-- The response is sent. -/
def Dev.respond (d : Dev) (k : Link) (rsp : BitVec 32) (lat : Word) (still : Bool) : Dev :=
  let d := (d.wr32 (VL_LASTRSP k) rsp).wr (VL_ACKLAT k) lat
  (d.setFlag (VL_STATUS k) VL_STATUS.FRAME still).syncAttn k

/-- A good command frame: the counts of R88 start again, a link in WAIT or LOST comes UP, a stored SEQ is replayed and
any other SEQ executed (R80). -/
def Dev.exchange (d : Dev) (k : Link) (cmd : Nat) (x : VlFrame) : Dev :=
  let d := d.endFrame k
  if !d.listens k then d
  else
    let d := (d.wr32 (VL_LASTCMD k) (vlFrame (cmd * 4 + x.rail.val) x.data x.seq)).wr (VL_CKFREQ k) x.freq
    let d := (d.bumpWrap (VL_CMDCNT k)).modLink k fun y => { y with errs := 0, protoArmed := true }
    let d := d.when (d.vlState k ≠ vlUp) fun d => (d.setVlState k vlUp).raise (97 + 4 * k.val)
    let replay := match (d.link k).stored with
      | some (s, rsp) => if s = x.seq then some rsp else none
      | none => none
    match replay with
    | some rsp =>
      let d := (d.setFlag (VL_STICKY k) VL_STICKY.DUP true).bump (VL_DUPCNT k)
      d.respond k rsp x.lat x.still
    | none =>
      let (a, d) := d.vlExecute k cmd x.rail x.data
      let a := if a.ack = 0 then { a with status := d.ackStatus k x.rail } else a
      let rsp := a.frame x.seq
      let d := d.modLink k fun y => { y with stored := if cmd = 9 then none else some (x.seq, rsp) }
      d.respond k rsp x.lat x.still

/-- A CRC or framing error of a command frame: PROTOCOL after a good frame, and loss at ERRLIM (R88, R90). -/
def Dev.badFrame (d : Dev) (k : Link) : Dev :=
  let armed := (d.link k).protoArmed
  let d := d.modLink k fun x => { x with errs := x.errs + 1, protoArmed := false }
  let d := d.when armed (·.raise (98 + 4 * k.val))
  let lim := d.fld (VL_CFG k) VL_CFG.ERRLIM
  d.when (lim ≠ 0 && lim ≤ (d.link k).errs) (·.lose k)

/-- VL_BAD_CRC: RETRY with SEQ as received; nothing is executed or stored. -/
def Dev.badCrc (d : Dev) (k : Link) (f : BitVec 32) (lat freq : Word) (still : Bool) : Dev :=
  if !frameStart f || frameGood f then d
  else
    let d := d.endFrame k
    if !d.listens k then d
    else
      let d := (d.wr32 (VL_LASTCMD k) f).wr (VL_CKFREQ k) freq
      let d := (d.setFlag (VL_STICKY k) VL_STICKY.CRCERR true).bump (VL_CRCCNT k)
      let d := d.badFrame k
      d.respond k ((VAnswer.mk 2 0 0).frame (BitVec.ofNat 4 (f.toNat / 16))) lat still

/-- VL_BAD_START and VL_FRAME_CLOCK_STOP: no frame is taken, and no response follows. -/
def Dev.frameError (d : Dev) (k : Link) : Dev :=
  let d := d.endFrame k
  if !d.listens k then d
  else ((d.setFlag (VL_STICKY k) VL_STICKY.FRAMEERR true).bump (VL_FRAMECNT k)).badFrame k

/-- VL_RESPONSE_ABANDON: the response stays stored for replay. -/
def Dev.abandonResponse (d : Dev) (k : Link) : Dev :=
  if d.blocksRun && d.flag (VL_STATUS k) VL_STATUS.FRAME then
    (d.setFlag (VL_STICKY k) VL_STICKY.FRAMEERR true).endFrame k
  else d

/-- VL_THROTTLE_TIMEOUT: once for each change of REQ (R86). -/
def Dev.throttleTimeout (d : Dev) (k : Link) : Dev :=
  if d.blocksRun && d.thrAck k < d.thrReq k && d.rn (VL_THRTO k) ≠ 0 && !(d.link k).thrRaised then
    let d := (d.setFlag (VL_STICKY k) VL_STICKY.THRTO true).modLink k fun x => { x with thrRaised := true }
    d.raise (99 + 4 * k.val)
  else d

/-- The acknowledgement of the present request has timed out (R86, R106). -/
def Dev.thrTimedOut (d : Dev) (k : Link) : Bool := (d.link k).thrRaised && d.thrAck k < d.thrReq k

/-! ## Registers (R93) -/

/-- The sequence history and the replay store are cleared (R80). -/
def Dev.vlResync (d : Dev) (k : Link) : Dev := d.modLink k fun x => { x with stored := none }
def Dev.vlCntclr (d : Dev) (k : Link) : Dev := d.zero [VL_CRCCNT k, VL_FRAMECNT k, VL_DUPCNT k, VL_CMDCNT k]

/-- A write of VL_CTL. -/
def Dev.writeVlCtl (d : Dev) (k : Link) (v : Word) : Dev :=
  let d := d.storeWord (VL_CTL k) (VL_CTL k) v
  let d := d.when (v.getLsbD 3) (·.vlCntclr k)
  let d := d.when (v.getLsbD 2) (·.vlResync k)
  let d := if v.getLsbD 0 then d.raiseLink k else d.dropLink k
  d.syncAttn k

/-- A write of another register of the link's block at offset `off`. -/
def Dev.writeVl (d : Dev) (k : Link) (off : Nat) (v : Word) : Dev :=
  if off = 0 then d.writeVlCtl k v
  else (d.storeWord (VL_CTL k + off) (VL_CTL k + off) v).evalVl k

/-! ## Commands -/

def execVlPing (k : Link) (x : VlFrame) (s : State) : Host.Outcome State Fault Refusal := s.step1 (·.exchange k 0 x)
def execVlSetv (k : Link) (x : VlFrame) (s : State) : Host.Outcome State Fault Refusal := s.step1 (·.exchange k 1 x)
def execVlGetv (k : Link) (x : VlFrame) (s : State) : Host.Outcome State Fault Refusal := s.step1 (·.exchange k 2 x)
def execVlGeti (k : Link) (x : VlFrame) (s : State) : Host.Outcome State Fault Refusal := s.step1 (·.exchange k 3 x)
def execVlGetp (k : Link) (x : VlFrame) (s : State) : Host.Outcome State Fault Refusal := s.step1 (·.exchange k 4 x)
def execVlGetstat (k : Link) (x : VlFrame) (s : State) : Host.Outcome State Fault Refusal := s.step1 (·.exchange k 5 x)
def execVlThrack (k : Link) (x : VlFrame) (s : State) : Host.Outcome State Fault Refusal := s.step1 (·.exchange k 6 x)
def execVlSetslew (k : Link) (x : VlFrame) (s : State) : Host.Outcome State Fault Refusal := s.step1 (·.exchange k 7 x)
def execVlGetvset (k : Link) (x : VlFrame) (s : State) : Host.Outcome State Fault Refusal := s.step1 (·.exchange k 8 x)
def execVlResync (k : Link) (x : VlFrame) (s : State) : Host.Outcome State Fault Refusal := s.step1 (·.exchange k 9 x)
/-- VL_RESERVED_CMD: `i` counts the codes 0xA to 0xF. -/
def execVlReservedCmd (k : Link) (i : Fin 6) (x : VlFrame) (s : State) : Host.Outcome State Fault Refusal :=
  s.step1 (·.exchange k (10 + i.val) x)
def execVlBadCrc (k : Link) (frame : BitVec 32) (lat freq : BitVec 16) (still : Bool) (s : State) :
    Host.Outcome State Fault Refusal := s.step1 (·.badCrc k frame lat freq still)
def execVlBadStart (k : Link) (s : State) : Host.Outcome State Fault Refusal := s.step1 (·.frameError k)
def execVlFrameClockStop (k : Link) (s : State) : Host.Outcome State Fault Refusal := s.step1 (·.frameError k)
def execVlResponseAbandon (k : Link) (s : State) : Host.Outcome State Fault Refusal := s.step1 (·.abandonResponse k)
def execVlThrottleTimeout (k : Link) (s : State) : Host.Outcome State Fault Refusal := s.step1 (·.throttleTimeout k)

/-- VL_LINK_ENABLE and VL_LINK_DISABLE: EN is written, the other bits of VL_CTL keep theirs. -/
def execVlLinkEnable (acc : Acc) (k : Link) (s : State) : Host.Outcome State Fault Refusal :=
  s.step1 fun d => d.gate acc (VL_CTL k) fun d => d.writeVlCtl k (d.rd (VL_CTL k) ||| 1)
def execVlLinkDisable (acc : Acc) (k : Link) (s : State) : Host.Outcome State Fault Refusal :=
  s.step1 fun d => d.gate acc (VL_CTL k) fun d => d.writeVlCtl k (d.rd (VL_CTL k) &&& 0xFFFE#16)
/-- VL_DEFERRED_DISABLE: the frame and its response have completed (R92). -/
def execVlDeferredDisable (k : Link) (s : State) : Host.Outcome State Fault Refusal :=
  s.step1 fun d => d.when (d.link k).disPend (·.endFrame k)
def execVlCtlResync (acc : Acc) (k : Link) (s : State) : Host.Outcome State Fault Refusal :=
  s.step1 fun d => d.gate acc (VL_CTL k) (·.vlResync k)
def execVlCntclr (acc : Acc) (k : Link) (s : State) : Host.Outcome State Fault Refusal :=
  s.step1 fun d => d.gate acc (VL_CTL k) (·.vlCntclr k)
def execVlKeepaliveTimeout (k : Link) (s : State) : Host.Outcome State Fault Refusal :=
  s.step1 fun d => d.when (d.blocksRun && d.rn (VL_KATO k) ≠ 0) (·.lose k)

end Sys2Proof.Machine
end

