-- ==== Sys2Proof/Machine/Guard.lean ====
section
/-!
DEFINITION. The Budget Guard (04_budget_guard.md): the 1 us frame, its four tiers, the lifeline hand-over and the return.
Powers inside the Guard are kept in 1/65,536 of 0.1 W; the registers show them in 0.1 W (log entry 38).
-/

namespace Sys2Proof.Machine

open Sys2Proof Sys2Proof.R

def Dev.modGuard (d : Dev) (g : GuardSt → GuardSt) : Dev := { d with guard := g d.guard }

/-- BG_STATUS.STATE. -/
abbrev bgOff : Nat := 0
abbrev bgNormal : Nat := 1
abbrev bgHandover : Nat := 2
abbrev bgLifeline : Nat := 3
abbrev bgReturn : Nat := 4
def Dev.bgState (d : Dev) : Nat := d.fld BG_STATUS BG_STATUS.STATE
def Dev.setBgState (d : Dev) (v : Nat) : Dev := d.setFld BG_STATUS BG_STATUS.STATE v
def Dev.bgFlag (d : Dev) (f : Fld) : Bool := d.flag BG_STATUS f
def Dev.setBgFlag (d : Dev) (f : Fld) (b : Bool) : Dev := d.setFlag BG_STATUS f b
def Dev.bgSticky (d : Dev) (f : Fld) : Dev := d.setFlag BG_STICKY f true

/-- A power of a register in the Guard's unit, and the register that shows a power of the Guard. -/
def power (v : Nat) : Int := 65536 * v
def toPower (p : Int) : Int := divRound p 65536

/-! ## Channels (R16 to R18, R110, R121) -/

/-- A channel is fitted as BG_CFG stands; fitted and enabled as the last frame took it (R121). -/
def Dev.fitted (d : Dev) (c : Chan) : Bool := natBit (d.fld BG_CFG BG_CFG.FITTED) c.val
def Dev.channelOn (d : Dev) (c : Chan) : Bool := d.guard.on.getLsbD c.val
def Dev.fdok (d : Dev) (c : Chan) : Bool := d.mbit BG_FEEDSTAT c.val
def Dev.channels (d : Dev) : List Chan := (List.finRange 4).filter d.channelOn

/-- Fitted, enabled channels whose FDOKn is low. -/
def Dev.lostChannels (d : Dev) : List Chan := d.channels.filter fun c => !d.fdok c
def Dev.feedGood (d : Dev) : Bool := d.lostChannels.isEmpty
def Dev.ploss (d : Dev) : Bool := d.flag BG_CFG BG_CFG.PLOSS

/-- A mask of channels, and LOSTN. -/
def maskOf (cs : List Chan) : Nat := cs.foldl (fun m c => m + 2 ^ c.val) 0
def Dev.setLostN (d : Dev) (cs : List Chan) : Dev := d.setFld BG_FEEDSTAT BG_FEEDSTAT.LOSTN (maskOf cs)
def Dev.addLostN (d : Dev) (c : Chan) : Dev := d.setMbit BG_FEEDSTAT (8 + c.val) true

/-- FITTED and CHDIS take effect, at a frame and at the Guard's start (R110, R121). -/
def Dev.takeChannels (d : Dev) : Dev :=
  d.modGuard fun g => { g with on := BitVec.ofNat 4 (maskOf ((List.finRange 4).filter fun c =>
    d.fitted c && !natBit (d.fld BG_CFG BG_CFG.CHDIS) c.val)) }

/-- FDENn is driven low for a channel that is not fitted or is disabled, and released otherwise (R16, R17, R121). -/
def Dev.syncFden (d : Dev) : Dev := { d with pins := { d.pins with fdenLow := ~~~d.guard.on } }

/-! ## Links of tier 3 (R106, R107) -/

/-- The links that BG_T3ORDER lists, ENTRY0 first. -/
def Dev.t3Links (d : Dev) : List Link :=
  (List.range 4).filterMap fun i =>
    let v := d.rn BG_T3ORDER / 16 ^ i % 16
    if 8 ≤ v then some (Fin.ofNat 4 v) else none

/-- VL_THRW1 to VL_THRW3; level 0 reduces nothing. -/
def Dev.thrw (d : Dev) (k : Link) (level : Nat) : Nat :=
  match level with
  | 0 => 0
  | 1 => d.rn (VL_THRW1 k)
  | 2 => d.rn (VL_THRW2 k)
  | _ => d.rn (VL_THRW3 k)

/-- A link that tier 3 can get nothing more from: level 3, an acknowledgement that timed out, or not UP (R106, R115). -/
def Dev.linkSpent (d : Dev) (k : Link) : Bool := d.thrReq k = 3 || d.thrTimedOut k || d.vlState k ≠ vlUp
def Dev.t3Spent (d : Dev) : Bool := !d.flag BG_CTL BG_CTL.T3EN || d.t3Links.all d.linkSpent

/-- The level that a link is credited with (R107). -/
def Dev.credit (d : Dev) (k : Link) : Nat := if d.thrTimedOut k || d.vlState k ≠ vlUp then 0 else d.thrAck k

/-- REQ of a link, and its place among the links raised. -/
def Dev.raiseReq (d : Dev) (k : Link) (v : Nat) : Dev :=
  (d.setReq k v).modGuard fun g => { g with raised := k :: g.raised.filter fun j => j ≠ k }

/-! ## Assist (R104, R105, R113) -/

def Dev.bgEn (d : Dev) : Bool := d.flag BG_CTL BG_CTL.EN

/-- Assist is available in RUN and IDLE. -/
def Dev.assistAvail (d : Dev) : Bool := d.bgEn && d.packAssists && !d.bgFlag BG_STATUS.RESLOCK

/-- The available assist: BG_ASSILIM at the battery voltage, after BG_ETAAST. -/
def Dev.assistPower (d : Dev) : Int := divRound (clampNat 4000 (d.rn BG_ASSILIM) * d.rn CHG_VBAT * d.etaAst) 5000

/-- NOPACK, and NO_ASSIST when it rises: any reason but RESLOCK. -/
def Dev.syncNopack (d : Dev) : Dev :=
  let no := !d.packAssists || (!d.bgEn && d.dstate ≠ dsLifeline)
  let was := d.bgFlag BG_STATUS.NOPACK
  let d := d.setBgFlag BG_STATUS.NOPACK no
  d.when (no && !was) fun d => (d.bgSticky BG_STICKY.NOPACK).raise 126

/-- RESLOCK: set in RUN and IDLE at the reserve floor, cleared above the floor and its hysteresis (R105). -/
def Dev.syncReslock (d : Dev) : Dev :=
  let q := d.rn32 GG_QREM
  let floor := d.rn32 BG_RESERVE
  if d.bgFlag BG_STATUS.RESLOCK then
    d.when (decide (floor + d.rn32 BG_RESHYS < q)) (·.setBgFlag BG_STATUS.RESLOCK false)
  else if (d.dstate = dsRun || d.dstate = dsIdle) && decide (q ≤ floor) then
    ((d.setBgFlag BG_STATUS.RESLOCK true).bgSticky BG_STICKY.RESERVE).raise 117
  else d

/-- What BG_RETRAMP takes from the assist in one frame (R105, R114). -/
def Dev.rampDown (d : Dev) (a : Int) : Int :=
  if d.rn BG_RETRAMP = 0 then 0 else max 0 (a - divRound (power (d.rn BG_RETRAMP)) 1000)

/-- The assist that tier 2 would ask in RUN (R114 step 3). -/
def Dev.tier2Demand (d : Dev) : Int :=
  if d.guard.room < -power (d.rn BG_AHYS) && d.assistAvail then -d.guard.room else 0

def Dev.setAssist (d : Dev) (a : Int) : Dev := d.modGuard fun g => { g with assist := a }

/-- Tier 2 is entered with an assist. -/
def Dev.enterAssist (d : Dev) (a : Int) : Dev :=
  ((((d.setAssist a).setBgFlag BG_STATUS.T2 true).bump BG_T2CNT).raise 115).stageAssist

/-- Tier 2 is left: BG_CEIL stays 0 until the room exceeds BG_AHYS (R103). -/
def Dev.leaveAssist (d : Dev) : Dev :=
  let d := ((d.setAssist 0).setBgFlag BG_STATUS.T2 false).raise 116
  (d.modGuard fun g => { g with ceilHeld := true }).stageRelease

/-! ## Hand-over (R110 to R113) -/

/-- QUAL follows the feed: in LIFELINE, or in HANDOVER when no stage stands in for the feed (R113, R114). -/
def Dev.syncQual (d : Dev) : Dev :=
  let wait := d.bgState = bgLifeline || (d.bgState = bgHandover && d.cmode ≠ cmBusreg)
  d.setBgFlag BG_STATUS.QUAL (wait && d.feedGood)

/-- The hand-over decision. BG_DEFICIT goes to 0 and T1 clears with BG_CEIL (log entry 113). -/
def Dev.handover (d : Dev) : Dev :=
  let possible := d.packAssists
  let d := (d.wn BG_CEIL 0).wn BG_DEFICIT 0
  let d := (d.setBgFlag BG_STATUS.T1 false).setBgFlag BG_STATUS.T2 false
  let d := (d.setAssist 0).setLostN d.lostChannels
  let d := d.stageHandover possible
  let d := (d.startShed).abandonNewt
  let d := if d.flag BG_CFG BG_CFG.LLTHR then d.t3Links.foldl (fun (d : Dev) k => d.raiseReq k 3) d else d
  let d := ((d.setBgState bgHandover).bump BG_HOCNT).bgSticky BG_STICKY.FEEDLOSS
  ((d.raise 112).syncNopack).syncQual

/-- Whether the feed as it stands starts a hand-over (R110): any loss, or under PLOSS 1 the loss of every channel. -/
def Dev.feedLost (d : Dev) : Bool :=
  if d.ploss then !d.channels.isEmpty && d.lostChannels.length = d.channels.length else !d.feedGood

/-- A hand-over starts from NORMAL and RETURN. -/
def Dev.mayHandover (d : Dev) : Bool := d.bgState = bgNormal || d.bgState = bgReturn

/-- FDOK_FALL, after the filter. -/
def Dev.fdokFall (d : Dev) (c : Chan) : Dev :=
  let d := d.setMbit BG_FEEDSTAT c.val false
  if !(d.blocksRun && d.channelOn c) || d.bgState = bgOff then d
  else
    let d := d.addLostN c
    let d := d.when (d.bgFlag BG_STATUS.QUAL) fun d => (d.bgSticky BG_STICKY.RETABORT).raise 127
    (d.when (d.mayHandover && d.feedLost) Dev.handover).syncQual

/-- FDOK_RISE: the qualification time starts anew from here. -/
def Dev.fdokRise (d : Dev) (c : Chan) : Dev :=
  let d := d.setMbit BG_FEEDSTAT c.val true
  if d.blocksRun then d.syncQual else d

/-- HANDOVER_DONE: the stage stands in bus regulation. -/
def Dev.handoverDone (d : Dev) : Dev :=
  if d.blocksRun && d.bgState = bgHandover && d.busStands then
    let d := ((d.setBgState bgLifeline).setFld CFG_DSTATE CFG_DSTATE.STATE dsLifeline).abandonNewt
    ((d.raise 113).chgUpdate).syncQual
  else d

/-! ## Start and stop (R110, R119, R122 to R124) -/

/-- The Guard starts, with r_f and trim at 0 (log entry 111): STATE NORMAL, and a FDOKn that is low already counts as fallen.
With CFGERR set it stays OFF until that clears. -/
def Dev.guardStart (d : Dev) : Dev :=
  let d := d.modGuard fun g =>
    { g with started := true, framed := false, room := 0, trim := 0, ceilHeld := false, assist := 0, missed := 0,
             overRun := 0, breached := false }
  let d := (d.wn BG_STATUS (if d.bgFlag BG_STATUS.CFGERR then 0x4000 else 0)).zero [BG_CEIL, BG_DEFICIT]
  let d := d.takeChannels
  if d.bgFlag BG_STATUS.CFGERR then d
  else
    let d := (d.setBgState bgNormal).syncNopack
    let d := d.lostChannels.foldl Dev.addLostN d
    d.when d.feedLost Dev.handover

/-- The Guard stops with CFGERR (R122): no tier acts, and its hold of the stage and of LIFELINE ends. A stage that charges,
rests or connects goes on under a BG_CEIL of 0 (R190, R193). T2, T3 and T4 clear without an event, and the levels of REQ and
the links raised stay as they are (DESIGN CHOICE, log entry 86). -/
def Dev.guardStop (d : Dev) : Dev :=
  let was := d.bgState
  let d := (d.wn BG_STATUS (if d.bgFlag BG_STATUS.CFGERR then 0x4000 else 0)).zero [BG_CEIL, BG_DEFICIT]
  let d := d.setAssist 0
  if was = bgOff then d
  else
    let d := if d.dstate = dsLifeline then (d.setFld CFG_DSTATE CFG_DSTATE.STATE dsRun).syncDevice else d
    (d.when d.discharging (·.setMode cmReady)).chgUpdate

/-- Entry to NEWT (R123, R340): the assist ends and every FDENn is released; BG_CEIL, BG_DEFICIT and the tier flags hold
until the wake, whose start clears them (log entry 120). -/
def Dev.guardSleep (d : Dev) : Dev :=
  let d := d.setAssist 0
  { d with pins := { d.pins with fdenLow := 0 } }

/-- The conditions of R116 and R124. The efficiencies are judged as BG_RSHUNTn are: where a channel is fitted (DEDUCED, log
entry 148). -/
def Dev.guardCfgBad (d : Dev) : Bool :=
  let up := d.rn BG_UPTC
  let t3 := d.rn BG_T3DLY
  let t4 := d.rn BG_T4DLY
  up < 100 || d.rn BG_TRIMTC = 0 || 1000 * d.rn BG_TRIMTC < 10 * up || t3 < 10 || t4 ≤ t3 ||
    d.t3Links.any (fun k => decide (t4 ≤ d.rn (VL_THRTO k))) || d.rn BG_VLIFE ≤ d.rn BG_BUSLOSS ||
    (List.finRange 4).any (fun c => d.fitted c && (d.rn (BG_RSHUNT c) = 0 || d.rn BG_ETACHG = 0 || d.rn BG_ETAAST = 0)) ||
    decide ¬ d.t3Links.Nodup || (d.bgEn && d.fld BG_CFG BG_CFG.FITTED = 0)

/-- CFGERR follows the registers. When it clears, the Guard restarts at the next frame. -/
def Dev.evalGuard (d : Dev) : Dev :=
  let bad := d.guardCfgBad
  let was := d.bgFlag BG_STATUS.CFGERR
  let d := d.setBgFlag BG_STATUS.CFGERR bad
  d.when (bad && !was) fun d => (d.guardStop).raise 125

/-- A write of a register of the block; BG_RESERVE, BG_RESHYS and BG_LLSHED take 32 bits (R119, R124). -/
def Dev.writeGuard (d : Dev) (a : Nat) (v : BitVec 32) : Dev :=
  if a = BG_STICKY then d.storeWord a a (v.setWidth 16)
  else
    let d := if a = BG_RESERVE || a = BG_RESHYS then d.wr32 a v
      else if a = BG_LLSHED then d.wr32 a (v &&& 0x0FFFFFFF#32)
      else d.storeWord a a (v.setWidth 16)
    let d := d.when (a = BG_CTL && v.getLsbD 5) (·.wn BG_PMAX 0)
    let d := d.when (a = BG_CTL && v.getLsbD 4)
      (·.zero [BG_T2CNT, BG_T3CNT, BG_T4CNT, BG_HOCNT, BG_MISSCNT, BG_OVERCNT])
    d.when d.blocksRun Dev.evalGuard

/-- A write by a host or a furrow; one of BG_ASSILIM is judged by the charger too (R210). -/
def Dev.hostGuard (d : Dev) (a : Nat) (v : BitVec 32) : Dev :=
  (d.writeGuard a v).when (decide (a = BG_ASSILIM) && d.blocksRun) Dev.evalChg

/-! ## The frame (R94 to R100, R120) -/

/-- The results of a frame are stored as those of entries 0 to 4 (R96); with all five, sequence 56 is done (R164). -/
def Dev.storeGuard (d : Dev) (x : GuardFrame) : Dev :=
  let all := x.bus.got && (List.finRange 4).all fun (c : Chan) => x.fd[c].got
  let d := d.when all (·.setMbit (MS_SEQDONE 0) 56 true)
  (List.finRange 5).foldl (fun (d : Dev) (i : Fin 5) =>
    let r := if h : i.val < 4 then x.fd[i.val]'h else x.bus
    if !r.got then d
    else
      let d := d.modGuard fun g => { g with codes := g.codes.set i r.code, ovrs := g.ovrs.set i r.ovr }
      let k : Fin 24 := if i.val < 4 then Fin.ofNat 24 i.val else 7
      match d.seatAdc k with
      | some a => d.storeResult i.val a r.code.toNat r.ovr false (800 * d.now)
      | none => d) d

/-- The shunt code of channel `c`, as a signed number; over-range counts as full scale (R98). -/
def Dev.feedCode (d : Dev) (c : Chan) : Int :=
  let i : Fin 5 := ⟨c.val, by omega⟩
  let v := d.guard.codes[i].toNat
  if d.guard.ovrs[i] then (if 2048 ≤ v then 2048 else -2048) else (v : Int) - 2048

/-- The bus code; over-range counts as full scale. -/
def Dev.busCode (d : Dev) : Nat := if d.guard.ovrs[4] then 4096 else d.guard.codes[4].toNat

/-- Channel power: V_BUS I_n. -/
def Dev.feedPower (d : Dev) (c : Chan) : Int :=
  divQ (d.busCode * d.rn BG_VBUSDIV * d.feedCode c * 625) (16 * d.rn (BG_RSHUNT c))

/-- V_BUS in mV. -/
def Dev.busMv (d : Dev) : Int := fitU16 (divRound (d.busCode * d.rn BG_VBUSDIV * 25) 16384)

/-- BG_BUDGET, or under PLOSS 1 with channels lost the sum of BG_CHLIMn of the good ones (R110). -/
def Dev.budget (d : Dev) : Int :=
  if d.ploss && !d.feedGood then
    (d.channels.filter d.fdok).foldl (fun (s : Int) c => s + power (d.rn (BG_CHLIM c))) 0
  else power (d.rn BG_BUDGET)

/-- The allowed feed draw and the bound that gives it: 1 the total, 4 + n a channel (R94). -/
def Dev.allow (d : Dev) (ptot : Int) : Int × Nat :=
  d.channels.foldl (fun (b : Int × Nat) c =>
    let p := d.feedPower c
    if p ≤ 0 then b
    else
      let x := divRound (power (d.rn (BG_CHLIM c)) * ptot) p.toNat
      if x < b.1 then (x, 4 + c.val) else b) (d.budget, 1)

/-- P_STG (R95). -/
def Dev.stagePower (d : Dev) : Int :=
  let i := d.ibatForGuard
  let v := d.rn CHG_VBAT
  if 0 < i then divQ (v * i * 2147483648) (10000 * d.etaChg) else divRound (v * i * d.etaAst) 5000

/-- The bus-side power of the charger's programmed current (R102): that of the pulse or of the precharge at V_BAT over
BG_ETACHG, and 0 in a rest, under HOLD and in every phase that draws none (DESIGN CHOICE, log entry 149). -/
def Dev.chargeDraw (d : Dev) : Int :=
  let i := if d.flag CHG_CTL CHG_CTL.HOLD then 0
    else if d.cphase = cpQualify && d.flag CHG_STATUS CHG_STATUS.PRE then d.ipre
    else if d.pulsing && !d.chg.inRest then d.rn CHG_IPULSE
    else 0
  if i = 0 then 0 else divQ (d.rn CHG_VBAT * i * 2147483648) (10000 * d.etaChg)

/-- Telemetry of a frame, whatever BG_CTL.EN says (R120); the answer holds P_TOT and the allowed draw. -/
def Dev.frameTelemetry (d : Dev) (x : GuardFrame) : (Int × Int) × Dev :=
  let d := d.chgSense x.cs.toNat x.vb.toNat x.vs.toNat
  let d := (List.finRange 4).foldl (fun (d : Dev) (c : Chan) =>
    if d.channelOn c then
      let d := d.wi (BG_I c) (fitS16 (divQ (d.feedCode c * 15625) (4 * d.rn (BG_RSHUNT c))))
      d.wi (BG_P c) (fitU16 (toPower (d.feedPower c)))
    else d.zero [BG_I c, BG_P c]) d
  let ptot := d.channels.foldl (fun (s : Int) c => s + d.feedPower c) 0
  let pstg := d.stagePower
  let (a, bind) := d.allow ptot
  let d := (d.wi BG_VBUS d.busMv).wi BG_PTOT (fitU16 (toPower ptot))
  let d := (d.wi BG_PSTG (fitS16 (toPower pstg))).wi BG_PSYS (fitU16 (toPower (ptot - pstg)))
  let d := (d.wi BG_ALLOW (fitU16 (toPower a))).wr BG_LAT x.lat
  let d := d.wn BG_PMAX (max (d.rn BG_PMAX) (d.rn BG_PTOT))
  let was := d.fld BG_STATUS BG_STATUS.BIND
  let on := d.bgState ≠ bgOff
  let d := d.setFld BG_STATUS BG_STATUS.BIND (if on then bind else 0)
  let d := d.when (on && was = 1 && 4 ≤ bind) fun d => (d.bgSticky BG_STICKY.CHANLIM).raise 122
  ((ptot, a), d)

/-- Whether a frame is complete: a result for every fitted, enabled channel and for the bus (R98). -/
def Dev.frameComplete (d : Dev) (x : GuardFrame) : Bool := x.bus.got && d.channels.all fun c => x.fd[c].got
def Dev.frameFlawed (d : Dev) (x : GuardFrame) : Bool :=
  !d.frameComplete x || (x.bus.got && x.bus.ovr) || d.channels.any fun c => x.fd[c].got && x.fd[c].ovr

/-- The frames missed; a complete frame ends the measurement-fault posture (R98). -/
def Dev.countMissed (d : Dev) (x : GuardFrame) : Dev :=
  let d := d.when (d.frameFlawed x) (·.bump BG_MISSCNT)
  if d.frameComplete x then (d.modGuard fun g => { g with missed := 0, framed := true }).setBgFlag BG_STATUS.MEASFLT false
  else d.modGuard fun g => { g with missed := g.missed + 1 }

/-- The interval of R109. -/
def Dev.countOver (d : Dev) (ptot a : Int) : Dev :=
  if a + power (d.rn BG_AHYS) < ptot then
    (d.modGuard fun g => { g with overRun := g.overRun + 1 }).when d.guard.breached (·.bump BG_OVERCNT)
  else d.modGuard fun g => { g with overRun := 0, breached := false }

/-- The room and its filter (R99), and the trim of frames in which tier 1 or tier 2 set the stage (R100). With TRIMEN 0 the
trim stays and is still added (log entry 114). -/
def Dev.updateRoom (d : Dev) (ptot a : Int) : Dev :=
  let t := a - power (d.rn BG_MARGIN)
  let r := t - (ptot - d.stagePower) + d.guard.trim / 65536
  let rf := d.guard.room
  let room := if r < rf then r else rf + divRound (r - rf) (d.rn BG_UPTC)
  let acts := d.flag BG_CTL BG_CTL.TRIMEN && (d.bgFlag BG_STATUS.T1 || d.bgFlag BG_STATUS.T2)
  let lim := power (d.rn BG_BUDGET) * 65536 / 50
  let step := if acts then divRound ((t - ptot) * 65536) (1000 * d.rn BG_TRIMTC) else 0
  let trim := clampInt (-lim) lim (d.guard.trim + step)
  (d.modGuard fun g => { g with room := room, trim := trim }).wi BG_TRIM (fitS16 (divRound trim 4294967296))

/-- Tier 2 in NORMAL (R102, R104, R105). -/
def Dev.tier2 (d : Dev) : Dev :=
  let demand := max 0 (-d.guard.room)
  let avail := d.assistAvail
  let lim := d.assistPower
  if d.bgFlag BG_STATUS.T2 then
    if demand = 0 then d.leaveAssist
    else if avail then (d.setAssist (min demand lim)).when (d.cmode ≠ cmAssist) Dev.stageAssist
    else if d.bgFlag BG_STATUS.RESLOCK && d.bgEn && d.packAssists then
      let a := min demand (d.rampDown d.guard.assist)
      if a = 0 then d.leaveAssist else d.setAssist a
    else d.leaveAssist
  else if avail && d.guard.room < -power (d.rn BG_AHYS) then d.enterAssist (min demand lim)
  else d

/-- BG_DEFICIT: what assist cannot supply of the demand. -/
def Dev.updateDeficit (d : Dev) : Dev :=
  let demand := max 0 (-d.guard.room)
  d.wi BG_DEFICIT (fitU16 (toPower (max 0 (demand - (if d.assistAvail then d.assistPower else 0)))))

/-- Tier 1: BG_CEIL (R103), and T1, which follows the programmed draw against r_f (R102). -/
def Dev.tier1 (d : Dev) : Dev :=
  let room := d.guard.room
  let freed := decide (power (d.rn BG_AHYS) < room)
  let d := d.modGuard fun g => { g with ceilHeld := g.ceilHeld && !freed }
  let open_ := d.bgEn && d.guard.framed && !d.bgFlag BG_STATUS.MEASFLT && !d.bgFlag BG_STATUS.T2 && !d.guard.ceilHeld
  let d := d.wi BG_CEIL (if open_ then fitU16 (max 0 room / 65536) else 0)
  let draw := d.chargeDraw
  d.setBgFlag BG_STATUS.T1 (d.bgEn && (decide (room < draw) || (d.bgFlag BG_STATUS.T1 && decide (room = draw))))

/-- FEED_RETURN: the device returns to RUN, or to IDLE when no rail is on (R27, R114). -/
def Dev.feedReturn (d : Dev) : Dev :=
  let d := (d.setBgState bgNormal).setLostN []
  let d := if d.dstate = dsLifeline then (d.setFld CFG_DSTATE CFG_DSTATE.STATE dsRun).syncDevice else d
  d.raise 114

/-- One frame of the return ramp (R114 steps 2 to 4). -/
def Dev.returnFrame (d : Dev) : Dev :=
  let a := d.rampDown d.guard.assist
  let demand := d.tier2Demand
  if a ≤ demand then
    let d := d.feedReturn
    if 0 < demand then d.enterAssist (min demand d.assistPower)
    else (d.setAssist 0).modGuard (fun g => { g with ceilHeld := true }) |>.stageRelease
  else d.setAssist a

/-- GUARD_FRAME. There is none in a switch of CKD_TB (R384). -/
def Dev.guardFrame (d : Dev) (x : GuardFrame) : Dev :=
  if !(d.blocksRun && d.guard.started) || d.clock.switching = some .tb then d
  else
    let d := d.when (d.bgState = bgOff && !d.bgFlag BG_STATUS.CFGERR) Dev.guardStart
    let d := (d.takeChannels.syncFden).storeGuard x
    let ((ptot, a), d) := d.frameTelemetry x
    let d := d.countMissed x
    if d.bgState = bgOff then d
    else
      let d := (d.countOver ptot a).updateRoom ptot a
      let d := (d.syncReslock).syncNopack
      let lost := d.frameComplete x && decide (d.rn BG_VBUS < d.rn BG_BUSLOSS) && d.mayHandover
      let d := if lost then d.handover
        else if d.bgState = bgReturn then (if d.bgFlag BG_STATUS.MEASFLT then d else d.returnFrame)
        else if d.bgState = bgNormal then
          let d := if d.bgFlag BG_STATUS.MEASFLT then d else (d.tier2).updateDeficit
          d.tier1
        else d
      (d.syncQual).chgUpdate

/-! ## Tiers 3 and 4, breach and measurement fault (R98, R106 to R109) -/

/-- Tiers 3 and 4 may decide now. With BG_CTL.EN 0 they do not: throttle levels, T3 and T4 stand as they are (log entry
112). -/
def Dev.tiersAct (d : Dev) : Bool :=
  d.blocksRun && d.bgState = bgNormal && d.bgEn && !d.bgFlag BG_STATUS.MEASFLT

/-- MEAS_FAULT. -/
def Dev.measFault (d : Dev) : Dev :=
  if d.blocksRun && d.bgState ≠ bgOff && !d.bgFlag BG_STATUS.MEASFLT &&
      decide (max 1 (d.fld BG_MISSLIM BG_MISSLIM.VALUE) ≤ d.guard.missed) then
    let d := ((d.setBgFlag BG_STATUS.MEASFLT true).bgSticky BG_STICKY.MEASFLT).wn BG_CEIL 0
    (d.raise 124).chgUpdate
  else d

/-- BREACH: the present interval has lasted 1 ms; its frames count. -/
def Dev.breach (d : Dev) : Dev :=
  if d.blocksRun && d.bgState ≠ bgOff && 0 < d.guard.overRun && !d.guard.breached then
    let d := (d.bumpBy BG_OVERCNT d.guard.overRun).modGuard fun g => { g with breached := true }
    (d.bgSticky BG_STICKY.BREACH).raise 123
  else d

/-- The previous step has been acknowledged, or has timed out. -/
def Dev.stepSettled (d : Dev) : Bool :=
  match d.guard.raised with
  | k :: _ => (d.link k).thrAcked || d.thrReq k ≤ d.thrAck k || d.thrTimedOut k || d.vlState k ≠ vlUp
  | [] => true

/-- The level of a step: the lowest whose further reduction covers the deficit, else 3. -/
def Dev.stepLevel (d : Dev) (k : Link) : Nat :=
  let cur := d.thrReq k
  (((List.range 4).filter fun l => decide (cur < l)).find? fun l =>
    decide (d.rn BG_DEFICIT + d.thrw k cur ≤ d.thrw k l)).getD 3

/-- THROTTLE_STEP: the deficit has stood for BG_T3DLY. -/
def Dev.throttleStep (d : Dev) : Dev :=
  if !(d.tiersAct && d.flag BG_CTL BG_CTL.T3EN && decide (0 < d.rn BG_DEFICIT) && d.stepSettled) then d
  else match d.t3Links.find? fun k => !d.linkSpent k with
    | none => d
    | some k =>
      let first := !d.bgFlag BG_STATUS.T3
      let d := d.raiseReq k (d.stepLevel k)
      d.when first fun d => ((d.setBgFlag BG_STATUS.T3 true).bump BG_T3CNT).raise 118

/-- A link that the Guard has raised goes down to level `v`; tier 3 is left when all are at 0. -/
def Dev.lowerReq (d : Dev) (k : Link) (v : Nat) : Dev :=
  let d := d.setReq k v
  let d := d.when (v = 0) (·.modGuard fun g => { g with raised := g.raised.filter fun j => j ≠ k })
  d.when (d.bgFlag BG_STATUS.T3 && d.guard.raised.isEmpty) fun d => (d.setBgFlag BG_STATUS.T3 false).raise 119

/-- THROTTLE_RELEASE (R107): every raised link that is credited with level 0 is released to 0; otherwise the most recently
raised link gives back one level, while BG_CEIL covers the credit given up and BG_T3HYS. -/
def Dev.throttleRelease (d : Dev) : Dev :=
  if !(d.tiersAct && !d.bgFlag BG_STATUS.T2) then d
  else match d.guard.raised.filter fun k => d.credit k = 0 with
    | k :: ks => (k :: ks).foldl (fun (d : Dev) (x : Link) => d.lowerReq x 0) d
    | [] => match d.guard.raised with
      | [] => d
      | k :: _ =>
        let next := d.thrReq k - 1
        let given := d.thrw k (d.credit k) - d.thrw k (min (d.credit k) next)
        if given + d.rn BG_T3HYS < d.rn BG_CEIL then d.lowerReq k next else d

/-- SHED_REQUEST: the deficit has stood for BG_T4DLY with tier 3 exhausted. -/
def Dev.shedRequest (d : Dev) : Dev :=
  if d.tiersAct && d.flag BG_CTL BG_CTL.T4EN && decide (0 < d.rn BG_DEFICIT) && d.t3Spent && !d.bgFlag BG_STATUS.T4 then
    (((d.setBgFlag BG_STATUS.T4 true).bump BG_T4CNT).bgSticky BG_STICKY.T4).raise 120
  else d

/-- SHED_REQUEST_REPEAT: each BG_T4REP while the deficit remains. -/
def Dev.shedRepeat (d : Dev) : Dev :=
  d.when (d.tiersAct && d.bgFlag BG_STATUS.T4 && decide (0 < d.rn BG_DEFICIT)) (·.raise 120)

/-- SHED_CLEAR: no deficit for BG_T3REL. -/
def Dev.shedClear (d : Dev) : Dev :=
  d.when (d.blocksRun && d.bgFlag BG_STATUS.T4 && !d.bgFlag BG_STATUS.MEASFLT && d.rn BG_DEFICIT = 0) fun d =>
    (d.setBgFlag BG_STATUS.T4 false).raise 121

/-- QUAL_EXPIRY (R113, R114 step 1). -/
def Dev.qualExpiry (d : Dev) : Dev :=
  if !(d.blocksRun && d.bgFlag BG_STATUS.QUAL) then d
  else
    let d := d.setBgFlag BG_STATUS.QUAL false
    if d.bgState = bgLifeline then
      let d := (d.setBgState bgReturn).setAssist (max 0 (-(65536 * d.rs BG_PSTG)))
      d.stageReturn
    else (d.feedReturn).chgUpdate

/-! ## Commands -/

def execGuardFrame (x : GuardFrame) (s : State) : Host.Outcome State Fault Refusal := s.step1 (·.guardFrame x)
def execMeasFault (s : State) : Host.Outcome State Fault Refusal := s.step1 Dev.measFault
def execBreach (s : State) : Host.Outcome State Fault Refusal := s.step1 Dev.breach
def execThrottleStep (s : State) : Host.Outcome State Fault Refusal := s.step1 Dev.throttleStep
def execThrottleRelease (s : State) : Host.Outcome State Fault Refusal := s.step1 Dev.throttleRelease
def execShedRequest (s : State) : Host.Outcome State Fault Refusal := s.step1 Dev.shedRequest
def execShedRequestRepeat (s : State) : Host.Outcome State Fault Refusal := s.step1 Dev.shedRepeat
def execShedClear (s : State) : Host.Outcome State Fault Refusal := s.step1 Dev.shedClear
def execFdokFall (c : Chan) (s : State) : Host.Outcome State Fault Refusal := s.step1 (·.fdokFall c)
def execFdokRise (c : Chan) (s : State) : Host.Outcome State Fault Refusal := s.step1 (·.fdokRise c)
/-- LLSHED_STEP: BG_LLGAP has passed and the next rail goes off (R112). -/
def execLlshedStep (s : State) : Host.Outcome State Fault Refusal := s.step1 Dev.shedStep
def execHandoverDone (s : State) : Host.Outcome State Fault Refusal := s.step1 Dev.handoverDone
def execQualExpiry (s : State) : Host.Outcome State Fault Refusal := s.step1 Dev.qualExpiry
/-- BG_CTL.PKCLR. -/
def execBgPkclr (acc : Acc) (s : State) : Host.Outcome State Fault Refusal :=
  s.step1 fun d => d.gate acc BG_CTL (·.wn BG_PMAX 0)
/-- BG_CTL.CNTCLR. -/
def execBgCntclr (acc : Acc) (s : State) : Host.Outcome State Fault Refusal :=
  s.step1 fun d => d.gate acc BG_CTL (·.zero [BG_T2CNT, BG_T3CNT, BG_T4CNT, BG_HOCNT, BG_MISSCNT, BG_OVERCNT])
def execBgConfigWrite (acc : Acc) (addr : BitVec 16) (v : BitVec 32) (s : State) : Host.Outcome State Fault Refusal :=
  s.step1 fun d => d.gate acc addr.toNat (·.hostGuard addr.toNat v)

end Sys2Proof.Machine
end

