-- ==== Sys2Proof/Machine/Verify.lean ====
section
/-!
DEFINITION. Verification of a configuration image (R357, R265, R266): header, directory, section limits, CRC-32, and the
signature by SHA-256 and ECDSA P-256 (FIPS 180-4 and 186-4, which R357 names; log entry 42).
-/

namespace Sys2Proof.Machine

open Sys2Proof Sys2Proof.R

/-! ## SHA-256 -/

def shaK : List (BitVec 32) := [
  0x428A2F98, 0x71374491, 0xB5C0FBCF, 0xE9B5DBA5, 0x3956C25B, 0x59F111F1, 0x923F82A4, 0xAB1C5ED5,
  0xD807AA98, 0x12835B01, 0x243185BE, 0x550C7DC3, 0x72BE5D74, 0x80DEB1FE, 0x9BDC06A7, 0xC19BF174,
  0xE49B69C1, 0xEFBE4786, 0x0FC19DC6, 0x240CA1CC, 0x2DE92C6F, 0x4A7484AA, 0x5CB0A9DC, 0x76F988DA,
  0x983E5152, 0xA831C66D, 0xB00327C8, 0xBF597FC7, 0xC6E00BF3, 0xD5A79147, 0x06CA6351, 0x14292967,
  0x27B70A85, 0x2E1B2138, 0x4D2C6DFC, 0x53380D13, 0x650A7354, 0x766A0ABB, 0x81C2C92E, 0x92722C85,
  0xA2BFE8A1, 0xA81A664B, 0xC24B8B70, 0xC76C51A3, 0xD192E819, 0xD6990624, 0xF40E3585, 0x106AA070,
  0x19A4C116, 0x1E376C08, 0x2748774C, 0x34B0BCB5, 0x391C0CB3, 0x4ED8AA4A, 0x5B9CCA4F, 0x682E6FF3,
  0x748F82EE, 0x78A5636F, 0x84C87814, 0x8CC70208, 0x90BEFFFA, 0xA4506CEB, 0xBEF9A3F7, 0xC67178F2]

/-- The eight working words. -/
structure Sha where
  a : BitVec 32
  b : BitVec 32
  c : BitVec 32
  d : BitVec 32
  e : BitVec 32
  f : BitVec 32
  g : BitVec 32
  h : BitVec 32
  deriving DecidableEq, Repr

def Sha.init : Sha :=
  ⟨0x6A09E667, 0xBB67AE85, 0x3C6EF372, 0xA54FF53A, 0x510E527F, 0x9B05688C, 0x1F83D9AB, 0x5BE0CD19⟩

def Sha.add (x y : Sha) : Sha :=
  ⟨x.a + y.a, x.b + y.b, x.c + y.c, x.d + y.d, x.e + y.e, x.f + y.f, x.g + y.g, x.h + y.h⟩

/-- One round with constant `k` and schedule word `w`. -/
def Sha.round (x : Sha) (k w : BitVec 32) : Sha :=
  let s1 := x.e.rotateRight 6 ^^^ x.e.rotateRight 11 ^^^ x.e.rotateRight 25
  let ch := (x.e &&& x.f) ^^^ (~~~x.e &&& x.g)
  let t1 := x.h + s1 + ch + k + w
  let s0 := x.a.rotateRight 2 ^^^ x.a.rotateRight 13 ^^^ x.a.rotateRight 22
  let maj := (x.a &&& x.b) ^^^ (x.a &&& x.c) ^^^ (x.b &&& x.c)
  ⟨t1 + s0 + maj, x.a, x.b, x.c, x.d + t1, x.e, x.f, x.g⟩

/-- The rounds of one block: `win` holds the next 16 schedule words, oldest first. -/
def Sha.rounds (x : Sha) : List (BitVec 32) → List (BitVec 32) → Sha
  | [], _ => x
  | _ :: _, [] => x
  | k :: ks, w :: win =>
    let m (i : Nat) : BitVec 32 := (win[i]?).getD 0
    let w1 := m 0
    let w14 := m 13
    let s0 := w1.rotateRight 7 ^^^ w1.rotateRight 18 ^^^ (w1 >>> 3)
    let s1 := w14.rotateRight 17 ^^^ w14.rotateRight 19 ^^^ (w14 >>> 10)
    (x.round k w).rounds ks (win ++ [w + s0 + m 8 + s1])

/-- The value of bytes given high byte first. -/
def valBE (bs : List Byte) : Nat := bs.foldl (fun a b => a * 256 + b.toNat) 0

/-- Words of a block, high byte first. -/
def wordsBE : Nat → List Byte → List (BitVec 32)
  | 0, _ => []
  | n + 1, bs => BitVec.ofNat 32 (valBE (bs.take 4)) :: wordsBE n (bs.drop 4)

/-- The digest over `n` blocks. -/
def Sha.blocks (x : Sha) : Nat → List Byte → Sha
  | 0, _ => x
  | n + 1, bs => (x.add (x.rounds shaK (wordsBE 16 (bs.take 64)))).blocks n (bs.drop 64)

/-- The message with its padding. -/
def shaPad (bs : List Byte) : List Byte :=
  let n := bs.length
  bs ++ [0x80#8] ++ List.replicate ((119 - n % 64) % 64) 0 ++ (bytesLE 8 (8 * n)).reverse

/-- SHA-256 of bytes, as a number (high byte first). -/
def sha256 (bs : List Byte) : Nat :=
  let p := shaPad bs
  let x := Sha.init.blocks (p.length / 64) p
  [x.a, x.b, x.c, x.d, x.e, x.f, x.g, x.h].foldl (fun (v : Nat) (w : BitVec 32) => v * 2 ^ 32 + w.toNat) 0

/-! ## ECDSA P-256 -/

def p256P : Nat := 0xFFFFFFFF00000001000000000000000000000000FFFFFFFFFFFFFFFFFFFFFFFF
def p256N : Nat := 0xFFFFFFFF00000000FFFFFFFFFFFFFFFFBCE6FAADA7179E84F3B9CAC2FC632551
def p256B : Nat := 0x5AC635D8AA3A93E7B3EBBD55769886BC651D06B0CC53B0F63BCE3C3E27D2604B
def p256G : Nat × Nat :=
  (0x6B17D1F2E12C4247F8BCE6E563A440F277037D812DEB33A0F4A13945D898C296,
   0x4FE342E2FE1A7F9B8EE7EB4A7C0F9E162BCE33576B315ECECBB6406837BF51F5)

/-- `b` to the power `e` modulo `m`, over `n` bits of `e`. -/
def powMod (m : Nat) : Nat → Nat → Nat → Nat
  | 0, _, _ => 1 % m
  | n + 1, b, e =>
    let h := powMod m n (b * b % m) (e / 2)
    if e % 2 = 1 then b * h % m else h

/-- The inverse modulo a prime of 256 bits. -/
def invMod (m a : Nat) : Nat := powMod m 256 (a % m) (m - 2)

/-- Subtraction modulo p. -/
def subP (a b : Nat) : Nat := (a + (p256P - b % p256P)) % p256P

/-- Addition of points; none is the point at infinity. -/
def ecAdd : Option (Nat × Nat) → Option (Nat × Nat) → Option (Nat × Nat)
  | none, y => y
  | x, none => x
  | some (x1, y1), some (x2, y2) =>
    if x1 = x2 ∧ (y1 + y2) % p256P = 0 then none
    else
      let l :=
        if x1 = x2 then (3 * x1 * x1 + (p256P - 3)) * invMod p256P (2 * y1) % p256P
        else subP y2 y1 * invMod p256P (subP x2 x1) % p256P
      let x3 := subP (subP (l * l) x1) x2
      some (x3, subP (l * subP x1 x3) y1)

/-- Multiplication of a point, over `n` bits of the factor. -/
def ecMul : Nat → Nat → Option (Nat × Nat) → Option (Nat × Nat)
  | 0, _, _ => none
  | n + 1, k, q =>
    let h := ecMul n (k / 2) (ecAdd q q)
    if k % 2 = 1 then ecAdd q h else h

/-- A point of the curve, other than the point at infinity. -/
def onCurve (x y : Nat) : Bool :=
  decide (x < p256P) && decide (y < p256P) &&
    decide ((y * y) % p256P = (x * x * x + (p256P - 3) * x + p256B) % p256P)

/-- Whether the signature r, s verifies for the digest `e` under the key x, y. -/
def ecdsaOk (x y r s e : Nat) : Bool :=
  if !onCurve x y || r = 0 || s = 0 || p256N ≤ r || p256N ≤ s then false
  else
    let w := invMod p256N s
    match ecAdd (ecMul 256 (e * w % p256N) (some p256G)) (ecMul 256 (r * w % p256N) (some (x, y))) with
    | none => false
    | some (vx, _) => decide (vx % p256N = r)

/-! ## Images (R357, R265) -/

/-- NV base of a slot (R353). -/
def slotBase (i : Nat) : Nat := 0x18000 * i

/-- A section: its type, its offset from byte 0 and its length. -/
structure Sect where
  type : Nat
  off : Nat
  len : Nat
  deriving DecidableEq, Repr

/-- An image in NV: the memory and the base of its slot. -/
structure Img where
  nv : List Host.Cell
  base : Nat
  deriving DecidableEq, Repr

/-- A little-endian value of `n` bytes at an offset of the image. -/
def Img.val (m : Img) (off n : Nat) : Nat := cellVal m.nv (m.base + off) n
def Img.bytes (m : Img) (off n : Nat) : List Byte := cellRead m.nv (m.base + off) n
def Img.length (m : Img) : Nat := m.val 4 4
def Img.version (m : Img) : Nat := m.val 8 4
def Img.signed (m : Img) : Bool := m.val 14 2 % 2 = 1
def Img.nsect (m : Img) : Nat := m.val 16 2

/-- The sections of the directory, in its order. -/
def Img.sects (m : Img) : List Sect :=
  (List.range (min 16 m.nsect)).map fun i =>
    let o := 24 + 12 * i
    { type := m.val o 1, off := m.val (o + 4) 4, len := m.val (o + 8) 4 }

/-- The section of a type. -/
def Img.sect (m : Img) (t : Nat) : Option Sect := m.sects.find? fun x => x.type = t

/-- The end of the directory, and the place of the CRC. -/
def Img.dirEnd (m : Img) : Nat := 24 + 12 * m.nsect
def Img.crcAt (m : Img) : Nat := m.length - (if m.signed then 132 else 4)

/-- The header is as R357 shows it; LENGTH fits the slot and holds the directory, the CRC and the trailer. -/
def Img.headerOk (m : Img) : Bool :=
  decide (m.val 0 4 = 0x2412CF01) && decide (m.length ≤ 98304) && decide (m.val 12 2 = 1) && decide (m.val 14 2 < 2) &&
    decide (1 ≤ m.nsect ∧ m.nsect ≤ 16) && decide (m.val 18 6 = 0) &&
    decide (m.dirEnd + (if m.signed then 132 else 4) ≤ m.length) &&
    (List.range (min 16 m.nsect)).all fun i => decide (m.val (24 + 12 * i + 1) 3 = 0)

/-- The pairs of a list satisfy a test, each with every later one. -/
def allPairs {α : Type} (f : α → α → Bool) : List α → Bool
  | [] => true
  | x :: xs => xs.all (f x) && allPairs f xs

/-- Two sections do not overlap. -/
def Sect.apart (x y : Sect) : Bool :=
  decide (x.off + x.len ≤ y.off) || decide (y.off + y.len ≤ x.off) || x.len = 0 || y.len = 0

/-- Sections lie between the directory and the CRC, on 4-byte boundaries, and no two overlap; the types from 0x01 to
0x06 appear at most once, and FURROWS is present. -/
def Img.placesOk (m : Img) : Bool :=
  let ss := m.sects
  ss.all (fun x => decide (m.dirEnd ≤ x.off ∧ x.off + x.len ≤ m.crcAt ∧ x.off % 4 = 0)) && allPairs Sect.apart ss &&
    allPairs (fun x y => !(decide (x.type = y.type) && decide (1 ≤ x.type ∧ x.type ≤ 6))) ss && (m.sect 5).isSome

/-- Record `f` of FURROWS. -/
def Img.furOn (m : Img) (x : Sect) (f : Nat) : Bool := m.val (x.off + 1 + 8 * f) 1 % 2 = 1
def Img.furPrio (m : Img) (x : Sect) (f : Nat) : Nat := m.val (x.off + 2 + 8 * f) 1
def Img.furEntry (m : Img) (x : Sect) (f : Nat) : Nat := m.val (x.off + 3 + 8 * f) 2
def Img.furK0 (m : Img) (x : Sect) (f : Nat) : Nat := m.val (x.off + 5 + 8 * f) 4

/-- Length of the CODE section in words. -/
def Img.codeWords (m : Img) : Nat :=
  match m.sect 1 with
  | some x => x.len / 4
  | none => 0

/-- A section keeps the limits of R265 and R266. -/
def Img.sectOk (m : Img) (x : Sect) : Bool :=
  match x.type with
  | 1 => x.len % 4 = 0 && decide (x.len ≤ 4 * 12288)
  | 2 => decide (x.len ≤ 0x4000)
  | 3 => x.len % 14 = 0 && (List.range (x.len / 14)).all fun i =>
      let e := m.val (x.off + 14 * i) 2
      decide (64 ≤ e ∧ e ≤ 2047)
  | 4 => x.len % 4 = 0 && (List.range (x.len / 4)).all fun i => decide (0x400 ≤ m.val (x.off + 4 * i) 2)
  | 5 => x.len = 129 && (List.range 16).all fun f =>
      decide (m.furPrio x f < 4) && (!m.furOn x f || decide (m.furEntry x f < m.codeWords))
  | 6 => x.len = 128 && (List.range 128).all fun i =>
      let b := m.val (x.off + i) 1
      decide (b < 128) || (match m.sect 5 with
        | some y => m.furOn y (b % 16)
        | none => false)
  | _ => true

/-- The CRC-32 over every byte before it (R357). -/
def Img.crc (m : Img) : BitVec 32 := crc32 (m.bytes 0 m.crcAt)

/-- The signature of a signed image, over bytes 0 to the end of the CRC. -/
def Img.signatureOk (m : Img) : Bool :=
  let t := m.crcAt + 4
  let f (i : Nat) : Nat := valBE (m.bytes (t + 32 * i) 32)
  ecdsaOk (f 0) (f 1) (f 2) (f 3) (sha256 (m.bytes 0 t))

/-- The trailer's key hashes to the locked hash. -/
def Img.keyOk (m : Img) : Bool :=
  decide (sha256 (m.bytes (m.crcAt + 4) 64) = valBE ((List.range 32).map Config.keyHash))

/-- An image passes verification (R357). `lock` is KEYLOCK. -/
def Img.ok (m : Img) (lock : Bool) : Bool :=
  m.headerOk && m.placesOk && m.sects.all m.sectOk && decide (m.crc.toNat = m.val m.crcAt 4) &&
    (!m.signed || m.signatureOk) && (!lock || (m.signed && m.keyOk))

/-- The image in a slot. -/
def Dev.img (d : Dev) (slot : Nat) : Img := { nv := d.cfg.nv, base := slotBase slot }

end Sys2Proof.Machine
end

