-- ==== Sys2Proof/Machine/CfgRec.lean ====
section
/-!
DEFINITION. Configuration versions, NV writes and the recorder's flushes (14_configuration_and_recorder.md). A change of
role waits as a pending role-record write until NV_BLOCK_WRITE_DONE serves it.
-/

namespace Sys2Proof.Machine

open Sys2Proof Sys2Proof.R

def Dev.modCfg (d : Dev) (g : CfgSt → CfgSt) : Dev := { d with cfg := g d.cfg }
def Dev.modRec (d : Dev) (g : RecSt → RecSt) : Dev := { d with recorder := g d.recorder }

/-- States of the STAGED slot (R358). -/
abbrev stEmpty : BitVec 3 := 0
abbrev stWriting : BitVec 3 := 1
abbrev stClosed : BitVec 3 := 2
abbrev stBad : BitVec 3 := 3
abbrev stRejected : BitVec 3 := 4

/-- A block write failed twice (R354). -/
def Dev.nvFail (d : Dev) : Dev := ((d.setFlag CFG_STICKY CFG_STICKY.NVFAIL true).bump CFG_NVFAILCNT).raise 240

/-- No block write may start: the inhibit of R355, or the brown-out flag (R346). -/
def Dev.nvHeld (d : Dev) : Bool := d.nvInhibit || d.bof

/-! ## Block writes through a write buffer (R356) -/

/-- Bytes of a writer's buffer. -/
def Dev.wbuf (d : Dev) (set : Nat) : List Byte :=
  (List.range 32).flatMap fun i => bytesLE 2 (d.rn (accKey set (CFG_WBUF i)))

/-- Whether a writer's target is the user area, and the bytes that its target holds. -/
def Dev.wUser (d : Dev) (set : Nat) : Bool := d.flag (accKey set CFG_WCTL) CFG_WCTL.TARGET
def Dev.wLimit (d : Dev) (set : Nat) : Nat :=
  if d.wUser set then 0x6000 else (d.cfg.role.stgLen.toNat + 63) / 64 * 64

/-- No staging is WRITING for this writer. -/
def Dev.wClosed (d : Dev) (set : Fin 4) : Bool :=
  !d.wUser set.val && !(decide (d.cfg.role.stage = stWriting) && decide (d.cfg.opener = some set))

/-- CFG_WSTAT and BUSY of a writer. -/
def Dev.wStat (d : Dev) (set st : Nat) (busy : Bool) : Dev :=
  (d.wn (accKey set CFG_WSTAT) st).setFlag (accKey set CFG_WCTL) CFG_WCTL.BUSY busy

/-- A block write starts: CFG_WOFS advances. One whose staging has gone meanwhile reports NOTOPEN. -/
def Dev.wStart (d : Dev) (set : Fin 4) : Dev :=
  if d.wClosed set then d.wStat set.val 4 false
  else
    let ofs := d.rn32 (accKey set.val CFG_WOFS)
    let base := if d.wUser set.val then 0x7A000 else slotBase d.cfg.role.staged.val
    let w : BlockWrite := { set := some set, addr := base + ofs, bytes := d.wbuf set.val }
    let d := d.modCfg fun c => { c with writes := c.writes ++ [w] }
    (d.wn32 (accKey set.val CFG_WOFS) (ofs + 64)).setFlag (accKey set.val CFG_WCTL) CFG_WCTL.BUSY true

/-- A block write to the staged image is pending: a close waits for it (R376). -/
def Dev.stagingBusy (d : Dev) : Bool :=
  d.cfg.writes.any (fun w => decide (w.addr < 0x48000)) || d.cfg.waits.any fun w => !d.wUser w.val

/-- The next configuration item whose role-record write can be made, oldest first. -/
def Dev.roleNext (d : Dev) : Option Item :=
  (d.cfg.roleItems.filterMap d.item).find? fun it => it.stage = .running && !(it.code = 0x21 && d.stagingBusy)

/-- No block that comes before those of staging and the user area is pending (R354). -/
def Dev.nvClear (d : Dev) : Bool := d.cfg.checks.isEmpty && !d.recorder.flushing && d.roleNext.isNone

/-- What waits for NV starts: the device's own blocks, and then the next writer that waits, once no block write is under way
or comes before it, and NV writes are allowed (R354, R355). -/
def Dev.wNext (d : Dev) : Dev :=
  let d := d.nvResume
  if d.nvHeld || !d.cfg.writes.isEmpty || !d.nvClear then d
  else match d.cfg.waits with
    | [] => d
    | w :: rest => (d.modCfg fun c => { c with waits := rest }).wStart w

/-- GO: the conditions of R356 in their order. -/
def Dev.wGo (d : Dev) (set : Fin 4) (user : Bool) : Dev :=
  let k := accKey set.val
  if d.flag (k CFG_WCTL) CFG_WCTL.BUSY then d.setFlag CFG_STICKY CFG_STICKY.WREF true
  else
    let d := d.setFlag (k CFG_WCTL) CFG_WCTL.TARGET user
    let ofs := d.rn32 (k CFG_WOFS)
    if ofs % 64 ≠ 0 || decide (d.wLimit set.val < ofs + 64) then d.wn (k CFG_WSTAT) 3
    else if d.wClosed set then d.wn (k CFG_WSTAT) 4
    else if d.nvInhibit then d.wn (k CFG_WSTAT) 2
    else if d.bof then (d.wStat set.val 1 true).modCfg fun c => { c with waits := c.waits ++ [set] }
    else ((d.setFlag (k CFG_WCTL) CFG_WCTL.BUSY true).modCfg fun c => { c with waits := c.waits ++ [set] }).wNext

/-- The block write under way ends, with its read-back. -/
def Dev.wDone (d : Dev) (ok : Bool) : Dev :=
  match d.cfg.writes with
  | [] => d
  | w :: rest =>
    let d := d.modCfg fun c => { c with writes := rest }
    let d := if ok then d.nvWrite w.addr w.bytes else (d.nvSpoil w.addr).nvFail
    (match w.set with
      | some set => d.wStat set.val (if ok then 0 else 5) false
      | none => d).wNext

/-! ## Changes of role (R359 to R365) -/

/-- Why a configuration item is refused now; 0x00 when it is done with nothing to write. A commit that awaits its load has left
ACTIVE on probation, a rollback has not (R361, R365). -/
def Dev.roleRefused (d : Dev) (it : Item) : Option Nat :=
  let r := d.cfg.role
  match it.code.toNat with
  | 0x20 =>
    if it.arg32 0 1 < 24 || 98304 < it.arg32 0 1 then some 0x21
    else if r.stage = stWriting then some 0x22
    else if d.cfg.pendLoad && r.probation then some 0x23 else none
  | 0x21 => if r.stage = stWriting ∧ d.cfg.opener = some it.source then none else some 0x23
  | 0x22 =>
    if r.stage ≠ stClosed then some 0x23
    else if r.verStaged.toNat ≠ it.arg32 0 1 then some 0x21
    else if r.probation || d.cfg.pendLoad then some 0x23 else none
  | 0x23 =>
    if d.cfg.pendLoad then some 0x23
    else if r.verActive.toNat ≠ it.arg32 0 1 then some 0x21
    else if !r.probation then some 0x00 else none
  | _ => if !r.prevValid || d.cfg.pendLoad then some 0x23 else none

/-- A CONFIG record (R368). -/
def Dev.cfgRec (d : Dev) (action : Nat) (ver other : BitVec 32) (slot : Nat) : Dev :=
  d.record 0x08 (BitVec.ofNat 8 action) (cfgData ver other slot)

/-- CFG_STAGE_OPEN: the slot is WRITING for its opener. A staging that was closed before is discarded (R360). -/
def Dev.stageOpen (d : Dev) (it : Item) : Dev :=
  let r := d.cfg.role
  let d := d.when (decide (r.stage = stClosed) || decide (r.stage = stBad)) fun d =>
    (d.setFlag CFG_STICKY CFG_STICKY.STGLOST true).cfgRec 3 r.verStaged 0 r.staged.val
  let d := d.modCfg fun c => { c with opener := some it.source }
  let d := d.setRole { r with stage := stWriting, verStaged := BitVec.ofNat 32 (it.arg32 2 3),
                              stgLen := BitVec.ofNat 32 (it.arg32 0 1) }
  (d.wr32 CFG_STGLEN d.cfg.role.stgLen).complete it.tag 0x00 0

/-- The CRC-32 over the image as staged: every byte before the place of the CRC field, by the length given at open. -/
def Dev.stagedCrc (d : Dev) : BitVec 32 :=
  let m := d.img d.cfg.role.staged.val
  crc32 (m.bytes 0 (d.cfg.role.stgLen.toNat - (if m.signed then 132 else 4)))

/-- CFG_STAGE_CLOSE: the staged image verifies or not (R357, R359). -/
def Dev.stageClose (d : Dev) (it : Item) : Dev :=
  let r := d.cfg.role
  let m := d.img r.staged.val
  let good := m.ok d.cfg.keyLock && decide (m.length = r.stgLen.toNat) && decide (m.version = r.verStaged.toNat)
  let crc := d.stagedCrc
  let d := d.modCfg fun c => { c with opener := none }
  let d := d.setRole { r with stage := if good then stClosed else stBad, stgCrc := crc }
  let d := d.wr32 CFG_STGCRC crc
  let d := d.cfgRec (if good then 1 else 2) r.verStaged 0 r.staged.val
  (d.raise (if good then 9 else 10)).complete it.tag (if good then 0x00 else 0x31) (result2 crc.toNat 0)

/-- CFG_COMMIT: the roles rotate. A bad ACTIVE, in whose place the safe image runs, becomes PREVIOUS with PREVIOUS-valid
clear. -/
def Dev.commit (d : Dev) (it : Item) : Dev :=
  let r := d.cfg.role
  let d := d.modCfg fun c => { c with pendLoad := true }
  let d := d.setRole { r with
    active := r.staged, previous := r.active, staged := r.previous, stage := stEmpty, prevValid := !d.cfg.safe,
    probation := true, prCount := 0, verActive := r.verStaged, verPrevious := r.verActive, verStaged := r.verPrevious }
  let d := d.cfgRec 4 r.verStaged r.verActive r.staged.val
  (d.raise 11).complete it.tag 0x00 (result2 r.verStaged.toNat r.verActive.toNat)

/-- CFG_CONFIRM: the probation flag clears. -/
def Dev.confirm (d : Dev) (it : Item) : Dev :=
  let r := d.cfg.role
  let d := (d.setRole { r with probation := false }).cfgRec 6 r.verActive 0 r.active.val
  (d.raise 12).complete it.tag 0x00 (result2 r.verActive.toNat 0)

/-- The roles after a rollback (R365). -/
def RoleRec.rollback (r : RoleRec) : RoleRec :=
  { r with active := r.previous, staged := r.active, previous := r.staged, stage := stRejected, prevValid := false,
           probation := false, prCount := 0, verActive := r.verPrevious, verStaged := r.verActive,
           verPrevious := r.verStaged }

/-- A rollback: `action` is 7 automatic or 8 commanded, whose role-record write has ended. -/
def Dev.rollBack (d : Dev) (action : Nat) : Dev :=
  let r := d.cfg.role
  let d := d.modCfg fun c => { c with opener := none }
  let d := (if action = 8 then d.setRole r.rollback else d.ownRole r.rollback).setFlag CFG_STICKY CFG_STICKY.ROLLBACK true
  (d.cfgRec action r.verPrevious r.verActive r.previous.val).raise 13

def Dev.rollbackCmd (d : Dev) (it : Item) : Dev :=
  let d := (d.modCfg fun c => { c with pendLoad := true }).rollBack 8
  d.complete it.tag 0x00 (result2 d.cfg.role.verActive.toNat 0)

/-- The result of a configuration item that ends without a write. -/
def Dev.roleResult (d : Dev) (it : Item) (st : Nat) : BitVec 64 :=
  if st = 0 && it.code.toNat = 0x23 then result2 d.cfg.role.verActive.toNat 0 else 0

/-- Carry out a configuration item: it ends at once, or waits for its role-record write. -/
def Dev.roleItem (d : Dev) (it : Item) : Dev :=
  match d.roleRefused it with
  | some st => d.complete it.tag st (d.roleResult it st)
  | none => (d.setStage it.tag .running).modCfg fun c => { c with roleItems := c.roleItems ++ [it.tag] }

/-- Take an item out of those that wait. -/
def Dev.roleDrop (d : Dev) (tag : Tag) : Dev :=
  d.modCfg fun c => { c with roleItems := c.roleItems.filter (· ≠ tag) }

/-- Of a rollback and a confirmation that wait together, the one written first stands: the other is refused (R376). -/
def Dev.roleRival (d : Dev) (code : Nat) : Dev :=
  let rival := if code = 0x23 then 0x24 else if code = 0x24 then 0x23 else 0
  (d.cfg.roleItems.filterMap d.item).foldl (fun (d : Dev) (it : Item) =>
    if it.code.toNat = rival ∧ rival ≠ 0 then (d.roleDrop it.tag).complete it.tag 0x23 0 else d) d

/-- A role-record write ends: what the item asks for is judged again as things now stand, and happens whole or not at
all (R358). A write that failed twice completes FAILED_NV (R376). -/
def Dev.roleDone (d : Dev) (it : Item) (ok : Bool) : Dev :=
  let d := d.roleDrop it.tag
  match d.roleRefused it with
  | some st => d.complete it.tag st (d.roleResult it st)
  | none =>
    if !ok then
      let d := d.modCfg fun c => { c with roleNv := spoilCopy c.roleNv (olderCopy c.roleNv) }
      d.nvFail.complete it.tag 0x32 0
    else
      let d := match it.code.toNat with
        | 0x20 => d.stageOpen it
        | 0x21 => d.stageClose it
        | 0x22 => d.commit it
        | 0x23 => d.confirm it
        | _ => d.rollbackCmd it
      d.roleRival it.code.toNat

/-! ## Flushes of the recorder (R370 to R374) -/

/-- The records of a block of the event ring, the last of the buffer carrying CLEAN (R372). -/
def markClean : List Rec → List Rec
  | [] => []
  | [r] => [{ r with clean := true }]
  | r :: rs => r :: markClean rs

/-- The 512 bytes of a staged snapshot (R369). -/
def Snap.block (s : Snap) : List Byte := s.bytes ++ bytesLE 4 (crc32 s.bytes).toNat

/-- Room has returned: the run of dropped records is reported (R374). -/
def Dev.reportDropped (d : Dev) : Dev :=
  match d.recorder.dropped with
  | none => d
  | some (a, b) =>
    let d := d.modRec fun r => { r with dropped := none }
    (d.record 0x04 2 (bytesLE 4 a.toNat ++ bytesLE 4 b.toNat ++ [1])).raise 241

/-- How many records of the buffer the next block of the event ring takes: two that share a block, or one. -/
def blockLen : List Rec → Nat
  | r :: x :: _ => if r.seq.toNat % 2 = 0 ∧ x.seq = r.seq + 1 then 2 else 1
  | rs => rs.length

/-- The bytes of such a block from its first record on. A second half not yet filled is blank (R370). -/
def blockBytes (rs : List Rec) : List Byte :=
  let bs := rs.flatMap Rec.bytes
  match rs with
  | [r] => if r.seq.toNat % 2 = 0 then bs ++ List.replicate 32 0 else bs
  | _ => bs

/-- The next block of a flush: of the event ring, oldest record first, then of the oldest staged snapshot. -/
def Dev.flushNext (d : Dev) : Dev :=
  let rs := if d.recorder.ringDone then [] else d.recorder.buf
  match rs with
  | r :: _ =>
    let k := blockLen rs
    let rest := rs.drop k
    let out := if rest.isEmpty then markClean (rs.take k) else rs.take k
    let d := d.nvWrite (recAddr r.seq.toNat) (blockBytes out)
    let d := d.modRec fun x =>
      { x with buf := rest, clean := x.clean || rest.isEmpty, ringDone := rest.isEmpty, blocks := x.blocks + 1 }
    d.syncRec.reportDropped
  | [] =>
    match d.recorder.snaps with
    | s :: rest =>
      let k := d.recorder.snapAt
      let d := d.nvWrite (snapAddr s.num.toNat + 64 * k) ((s.block.drop (64 * k)).take 64)
      (d.modRec fun x =>
        if k < 7 then { x with ringDone := true, snapAt := k + 1, blocks := x.blocks + 1 }
        else { x with ringDone := true, snapAt := 0, snaps := rest, blocks := x.blocks + 1 }).syncRec
    | [] => d.modRec fun x => { x with ringDone := true }

/-- The next block of a flush fails: the place that it has in its ring is spoilt, and its records stay buffered. -/
def Dev.flushFail (d : Dev) : Dev :=
  let rs := if d.recorder.ringDone then [] else d.recorder.buf
  (match rs, d.recorder.snaps with
    | r :: _, _ => d.nvSpoil (recAddr r.seq.toNat)
    | [], s :: _ => d.nvSpoil (snapAddr s.num.toNat + 64 * d.recorder.snapAt)
    | [], [] => d).nvFail

/-- What is left of a flush, in at most `n` blocks. -/
def Dev.flushSteps (d : Dev) : Nat → Dev
  | 0 => d
  | n + 1 => if d.recorder.ringDone && d.recorder.snaps.isEmpty then d else d.flushNext.flushSteps n
def Dev.flushAll (d : Dev) : Dev := d.flushSteps (d.recorder.buf.length + 8 * d.recorder.snaps.length + 4)

/-- A block of a flush can be written now: of the power-fail flush while the inhibit does not stand, of another while no NV
write is held (R346, R355). After a block that failed the flush writes no more, and in LATCHED by REFBOOT none does (R335). -/
def Dev.flushRuns (d : Dev) : Bool :=
  d.recorder.flushing && !d.recorder.failed && !d.recordsOff &&
    if d.flag CFG_DSTATE CFG_DSTATE.FLUSHING then !d.nvInhibit else !d.nvHeld

/-- Whether the flush under way has a block left to write. -/
def Dev.flushLeft (d : Dev) : Bool := !((d.recorder.ringDone || d.recorder.buf.isEmpty) && d.recorder.snaps.isEmpty)

/-- The items that wait for a flush end (R371). In LATCHED they stay open (R306). -/
def Dev.endFlushItems (d : Dev) (status : Nat) (result : BitVec 64) : Dev :=
  if !d.isUp then d else (List.finRange 128).foldl (fun (d : Dev) (t : Tag) =>
    if t ∉ d.recorder.later ∧ (d.runningItems 0x39).any (fun i => i.tag = t) then d.complete t status result else d) d

/-- A flush is over. One that was asked for meanwhile follows (R376). -/
def Dev.flushOver (d : Dev) : Dev :=
  let more := d.recorder.again
  let d := (d.modRec fun r => { r with flushing := false, again := false, later := [] }).syncRec
  d.when more Dev.beginFlush

/-- A recorder flush ends: `ok` is whether every block that was left has been written. -/
def Dev.recFlushDone (d : Dev) (ok : Bool) : Dev :=
  if !d.recorder.flushing || d.nvHeld then d
  else
    let d := if d.recorder.failed || d.recordsOff then d else if ok then d.flushAll else d.flushFail
    let good := ok && !d.recorder.failed
    let newest := match d.recorder.buf with
      | r :: _ => r.seq - 1
      | [] => d.rd32 REC_NEWEST
    (if good then d.endFlushItems 0x00 (result2 newest.toNat 0) else d.endFlushItems 0x32 0).flushOver.wNext

/-! ## Block writes and their read-back (R354) -/

/-- What a block whose second read-back failed leaves: its own check fails, so that the other copy governs. -/
def Dev.checkFailed (d : Dev) (j : NvJob) : Dev :=
  (match j with
    | .journal t => { d with hopper := { d.hopper with
        journal := d.hopper.journal.map fun (x : JSlot) => if x.tag = t then { x with crcOk := false } else x } }
    | .record a => d.nvSpoil a
    | .mark i => d.modRec fun r => { r with markNv := spoilCopy r.markNv i }
    | .role i => d.modCfg fun c => { c with roleNv := spoilCopy c.roleNv i }
    | .gauge i => { d with gauge := { d.gauge with copies := d.gauge.copies.set i { d.gauge.copies[i] with valid := false } } }
    | .time i => { d with clock := { d.clock with saved := spoilCopy d.clock.saved i } }).nvFail

/-- The oldest block of a rank whose read-back is outstanding. -/
def Dev.checkDue (d : Dev) (k : Nat) : Option NvJob := d.cfg.checks.find? fun j => j.rank = k

/-- The read-back of a block of the device's own. -/
def Dev.checkDone (d : Dev) (j : NvJob) (ok : Bool) : Dev :=
  let d := d.modCfg fun c => { c with checks := c.checks.erase j }
  (if ok then d else d.checkFailed j).wNext

/-- The journal close that the power-fail flush writes next (R347 step 2). -/
def Dev.closeDue (d : Dev) : Option Tag :=
  if d.flag CFG_DSTATE CFG_DSTATE.FLUSHING && !d.nvInhibit then d.hopper.closes.head?.map (·.1) else none
def Dev.flushClose (d : Dev) (t : Tag) (ok : Bool) : Dev :=
  let d := d.journalClose t
  let d := d.modCfg fun c => { c with checks := c.checks.erase (.journal t) }
  (if ok then d else d.checkFailed (.journal t)).modRec fun r => { r with blocks := r.blocks + 1 }

/-- The next block of a flush: of the power-fail flush, or of another. -/
def Dev.flushDue (d : Dev) (powerFail : Bool) : Bool :=
  d.flag CFG_DSTATE CFG_DSTATE.FLUSHING = powerFail && d.flushRuns && d.flushLeft
def Dev.flushBlock (d : Dev) (ok : Bool) : Dev :=
  if ok then d.flushNext else d.flushFail.modRec fun r => { r with failed := true }

/-- The role-record write that an item waits for. In LATCHED items stay open (R306; log entry 152). -/
def Dev.roleWrite (d : Dev) : Option Item := if d.nvHeld || d.latched then none else d.roleNext

/-- One block write ends; `ok` is whether a read-back was good. A block write of staging or of the user area that has begun
ends first; otherwise the order of precedence of R354 decides. -/
def Dev.blockDone (d : Dev) (ok : Bool) : Dev :=
  if !d.cfg.writes.isEmpty then d.wDone ok
  else match d.checkDue 0, d.closeDue with
    | some j, _ => d.checkDone j ok
    | none, some t => d.flushClose t ok
    | none, none =>
      if d.flushDue true then d.flushBlock ok
      else match d.checkDue 1 with
        | some j => d.checkDone j ok
        | none =>
          if d.flushDue false then d.flushBlock ok
          else match d.roleWrite, d.checkDue 2 with
            | some it, _ => (d.roleDone it ok).wNext
            | none, some j => d.checkDone j ok
            | none, none => d.wNext.wDone ok

/-- NV_BLOCK_WRITE_DONE: `ok1` and `ok2` are the read-backs after the write and after its retry. -/
def Dev.nvBlockDone (d : Dev) (ok1 ok2 : Bool) : Dev := d.blockDone (ok1 || ok2)

/-! ## Commands -/

def execCfgStageOpen (tag : Tag) (s : State) : Host.Outcome State Fault Refusal :=
  s.step1 fun d => d.carry tag (· = 0x20) fun it d => d.roleItem it
def execCfgStageClose (tag : Tag) (s : State) : Host.Outcome State Fault Refusal :=
  s.step1 fun d => d.carry tag (· = 0x21) fun it d => d.roleItem it
def execCfgCommit (tag : Tag) (s : State) : Host.Outcome State Fault Refusal :=
  s.step1 fun d => d.carry tag (· = 0x22) fun it d => d.roleItem it
def execCfgConfirm (tag : Tag) (s : State) : Host.Outcome State Fault Refusal :=
  s.step1 fun d => d.carry tag (· = 0x23) fun it d => d.roleItem it
def execCfgRollback (tag : Tag) (s : State) : Host.Outcome State Fault Refusal :=
  s.step1 fun d => d.carry tag (· = 0x24) fun it d => d.roleItem it

/-- ROLE_WRITE_TIMEOUT: the inhibit has outlasted 1 s for the oldest commit or confirmation that waits (R376). -/
def Dev.roleTimeout (d : Dev) : Dev :=
  match (d.cfg.roleItems.filterMap d.item).find? fun it => it.code = 0x22 || it.code = 0x23 with
  | none => d
  | some it => d.when (d.nvInhibit && d.isUp) fun d => (d.roleDrop it.tag).complete it.tag 0x33 0
def execRoleWriteTimeout (s : State) : Host.Outcome State Fault Refusal := s.step1 Dev.roleTimeout
def execCfgWctlGo (acc : Acc) (target : Bool) (s : State) : Host.Outcome State Fault Refusal :=
  s.step1 fun d => d.gate acc CFG_WCTL (·.wGo acc.source target)
def execNvBlockWriteDone (ok1 ok2 : Bool) (s : State) : Host.Outcome State Fault Refusal :=
  s.step1 (·.nvBlockDone ok1 ok2)
/-- CFG_CTL.CNTCLR. -/
def Dev.cfgCntclr (d : Dev) : Dev := d.zero [CFG_REGSKIP, CFG_NVFAILCNT]
def execCfgCntclr (acc : Acc) (s : State) : Host.Outcome State Fault Refusal := s.step1 fun d => d.gate acc CFG_CTL Dev.cfgCntclr

def execRecCtlSnap (acc : Acc) (s : State) : Host.Outcome State Fault Refusal :=
  s.step1 fun d => d.gate acc REC_CTL (·.takeSnapshot 3 255 0)
def execRecCtlFlush (acc : Acc) (s : State) : Host.Outcome State Fault Refusal :=
  s.step1 fun d => d.gate acc REC_CTL Dev.startFlush
/-- REC_CTL.CNTCLR. -/
def Dev.recCntclr (d : Dev) : Dev := d.zero [REC_LOSTCNT, REC_DROPCNT, REC_SDROPCNT]
def execRecCtlCntclr (acc : Acc) (s : State) : Host.Outcome State Fault Refusal := s.step1 fun d => d.gate acc REC_CTL Dev.recCntclr
/-- REC_PERIODIC_FLUSH: REC_CFG.FLUSHPER seconds have passed since the last flush. -/
def execRecPeriodicFlush (s : State) : Host.Outcome State Fault Refusal :=
  s.step1 fun d => d.when (d.blocksRun && decide (d.rn REC_CFG ≠ 0)) Dev.startFlush
def execRecFlushDone (ok : Bool) (s : State) : Host.Outcome State Fault Refusal := s.step1 (·.recFlushDone ok)

end Sys2Proof.Machine
end

