-- ==== Sys2Proof/Machine/PowerFail.lean ====
section
/-!
DEFINITION. The brown-out flag and the power-fail flush (13_startup_and_device_states.md, R346, R347).
-/

namespace Sys2Proof.Machine

open Sys2Proof Sys2Proof.R

def Dev.modBoot (d : Dev) (g : BootSt → BootSt) : Dev := { d with boot := g d.boot }

/-- PFI is low, and PFIEN lets it set the flag. -/
def Dev.pfiActs (d : Dev) : Bool := d.flag CFG_DSTATE CFG_DSTATE.PFI && d.flag CFG_DSCFG CFG_DSCFG.PFIEN

/-- The rise of the flag: `cause` is 1 for VINMAX and 2 for PFI. -/
def Dev.riseBof (d : Dev) (cause : Nat) : Dev :=
  let d := (d.setFlag CFG_DSTATE CFG_DSTATE.BOF true).bump CFG_BOCNT
  let d := ((d.setFlag CFG_DSTATE CFG_DSTATE.FLUSHING true).beginFlush).modRec fun r => { r with blocks := 0 }
  (d.syncWait.raise 1).record 0x0A (BitVec.ofNat 8 cause) (bytesLE 2 (d.rn CFG_VINMIN))

/-- The flag rises when a cause stands and the core domain is there to hold it. -/
def Dev.syncBof (d : Dev) : Dev :=
  if !d.coreOn || d.bof then d
  else if d.boot.vinLow then d.riseBof 1
  else if d.pfiActs then d.riseBof 2
  else d

/-- PFI after its filter; in NEWT it is ignored. -/
def Dev.pfiChange (d : Dev) (low : Bool) : Dev :=
  if d.boot.phase = .newt then d else (d.setFlag CFG_DSTATE CFG_DSTATE.PFI low).syncBof

/-- POWER_GOOD: the flag clears, and the NV writes that it held start. -/
def Dev.powerGood (d : Dev) : Dev :=
  let d := d.when (!d.flag CFG_DSTATE CFG_DSTATE.PFI) (·.modBoot fun b => { b with vinLow := false })
  if !d.bof || d.flag CFG_DSTATE CFG_DSTATE.PFI then d
  else
    let d := ((d.setFlag CFG_DSTATE CFG_DSTATE.BOF false).syncWait).raise 2
    d.learnResume.wNext

/-- The end of the power-fail flush, which took `us` microseconds: closes, records, snapshots and the gauge record are
written. It waits while NV writes are refused by temperature (R350). -/
def Dev.powerFlushEnd (d : Dev) (us : Nat) : Dev :=
  if !d.flag CFG_DSTATE CFG_DSTATE.FLUSHING || d.nvInhibit then d
  else
    let closes := d.hopper.closes
    let gauge := d.pack.known || d.pack.restored.isSome
    let d := closes.foldl (fun (d : Dev) c => d.journalClose c.1) d
    let d := if d.recorder.failed || d.recordsOff then d else d.flushAll
    let good := !d.recorder.failed
    let newest := match d.recorder.buf with
      | r :: _ => r.seq - 1
      | [] => d.rd32 REC_NEWEST
    let d := d.when gauge Dev.putGauge
    let n := d.recorder.blocks + closes.length + (if gauge then 1 else 0)
    let d := (d.wn CFG_FLUSHLAT (min us 0xFFFF)).wn CFG_FLUSHBLK (min n 0xFFFF)
    let d := if good then d.endFlushItems 0x00 (result2 newest.toNat 0) else d.endFlushItems 0x32 0
    ((d.flushOver.setFlag CFG_DSTATE CFG_DSTATE.FLUSHING false).raise 3).wNext

/-- CFG_VINMIN follows VINMAX, the higher of the results of entries 22 and 23, 6.25 mV a code (R352). -/
def Dev.vinResult (d : Dev) : Dev :=
  let c := max (d.rn (MS_RESULT 22) % 4096) (d.rn (MS_RESULT 23) % 4096)
  d.wn CFG_VINMIN (min (d.rn CFG_VINMIN) (divRound (25 * c) 4).toNat)

/-! ## Commands -/

/-- BROWN_OUT: VINMAX falls below V_BO. -/
def execBrownOut (s : State) : Host.Outcome State Fault Refusal :=
  s.step1 fun d => (d.modBoot fun b => { b with vinLow := true }).syncBof
/-- PFI_ASSERT: PFI goes low, or is released. -/
def execPfiAssert (low : Bool) (s : State) : Host.Outcome State Fault Refusal := s.step1 (·.pfiChange low)
def execPowerGood (s : State) : Host.Outcome State Fault Refusal := s.step1 Dev.powerGood
def execFlushDone (us : Nat) (s : State) : Host.Outcome State Fault Refusal := s.step1 (·.powerFlushEnd us)

end Sys2Proof.Machine
end

