-- ==== Sys2Proof/Machine/Latch.lean ====
section
/-!
DEFINITION. Entry to LATCHED: the hardware actions that every cause has in common (R409), LCAUSE (R410), the snapshot and
the flush (R369, R370), and thermal shutdown (R407).
-/

namespace Sys2Proof.Machine

open Sys2Proof Sys2Proof.R

/-- LCAUSE of CFG_DSTATE (R352). -/
abbrev lcThermal : Nat := 1
abbrev lcReference : Nat := 2
abbrev lcKill : Nat := 3
abbrev lcRefboot : Nat := 4

/-- Every PWM pin goes to mid (R409). -/
def Dev.pwmMid (d : Dev) : Dev :=
  { d with phases := d.phases.map fun (x : PhaseSt) => { x with drive := .mid, onTime := 0 } }

/-- The furrows stop; their items stay open (R306, R409). -/
def Dev.furrowsStop (d : Dev) : Dev :=
  { d with engine := { d.engine with furrows := d.engine.furrows.map fun (x : FurrowSt) =>
      if x.st = .ready ∨ x.st = .running ∨ x.st = .waiting then { x with st := .stopped, wait := .none } else x } }

/-- Measurement stops (R179). -/
def Dev.measStop (d : Dev) : Dev :=
  { d with meas := { d.meas with running := false, convs := Vector.replicate 24 none } }

/-- The links go quiet: a frame under way ends, with the disable that waits for its end (R87), and there is no attention
(R69, R451). -/
def Dev.linksQuiet (d : Dev) : Dev :=
  (List.finRange 4).foldl (fun (d : Dev) (k : Link) => (d.endFrame k).setFlag (VL_STATUS k) VL_STATUS.ATTN false) d

/-- A die sensor's last reading is at its restart comparator's level or above: 125 degrees C (R408). -/
def Dev.dieHot (d : Dev) : Bool := (List.range 8).any fun s => decide (8000 ≤ d.rs (TH_TEMP s))

/-- The LATCHED actions of R409. `report` sets the cause's own flags and raises its event; a second cause only reports
(R410). A failure of the reference at boot writes no record (R335). -/
def Dev.enterLatched (d : Dev) (cause : Nat) (report : Dev → Dev) : Dev :=
  if d.latched then report d
  else
    let d := d.abandonNewt
    let lamps := d.lampSync.lamps
    let d := ((d.pwmMid.stageOff).drillStop).linksQuiet
    let d := { d.furrowsStop.measStop with lamps := lamps }
    let hot := decide (cause = lcThermal) || d.dieHot
    let d := { d with therm := { d.therm with hot := hot } }
    let d := (d.setFld CFG_DSTATE CFG_DSTATE.STATE dsLatched).setFld CFG_DSTATE CFG_DSTATE.LCAUSE cause
    let d := (d.setFlag CFG_DSTATE CFG_DSTATE.BOOT false).setFlag CFG_DSTATE CFG_DSTATE.NVWAIT false
    let d := report d
    d.when (decide (cause ≠ lcRefboot)) fun d => (d.takeSnapshot 2 255 0).startFlush

/-- THERMAL_SHUTDOWN of die sensor `n`: the comparators are armed from t3 of the boot path, outside NEWT (R407). -/
def Dev.thermalShutdown (d : Dev) (n : Fin 8) : Dev :=
  if !d.coreOn then d
  else
    let d := d.enterLatched lcThermal fun d =>
      ((d.wn TH_LASTSHUT (0x8000 + n.val)).bump TH_SHUTCNT).raiseWith 236 (evtBlock 236) true
    { d with therm := { d.therm with hot := true } }

def execThermalShutdown (n : Fin 8) (s : State) : Host.Outcome State Fault Refusal := s.step1 (·.thermalShutdown n)

end Sys2Proof.Machine
end

