-- ==== Sys2Proof/Machine/Clock.lean ====
section
/-!
DEFINITION. Clocks, timebase, operating time and the RTC (15_clocks_and_time.md), and what 1 us of time does.
-/

namespace Sys2Proof.Machine

open Sys2Proof Sys2Proof.R

def Dev.modClock (d : Dev) (g : ClockSt → ClockSt) : Dev := { d with clock := g d.clock }

/-! ## CKD_RTC: operating time, the RTC and the countdown (R389, R391, R393) -/

/-- The reference oscillator is powered: OSCVDD is on from t4 of a boot, and stays on through NEWT and in the boot that
follows a wake or a thermal restart (R334, R340, R341, R408). -/
def Dev.oscOn (d : Dev) : Bool :=
  d.latched ||
    match d.boot.phase with
    | .dark | .oscOff => false
    | .hb0 | .hb1 => d.boot.isWake || d.boot.thermal
    | _ => true

/-- CKD_RTC delivers edges: the reference is there, the PLL has not left its lock range, and the domain is not being
switched (R382, R386, R387). -/
def Dev.rtcRuns (d : Dev) : Bool :=
  d.oscOn && d.flag CLK_STATUS CLK_STATUS.REFOK && (d.flag CLK_STATUS CLK_STATUS.PLLLOCK || !d.latched) &&
    decide (d.clock.switching ≠ some .rtc)

/-- The countdown after `n` more CKD_RTC counts: one step every 64. The last step, to 0, is COUNTDOWN itself, which is due
once 64 counts stand at a remainder of 1. -/
def Dev.countDown (d : Dev) (n : Nat) : Dev :=
  if !d.flag RTC_STATUS RTC_STATUS.CDRUN then d
  else
    let t := d.clock.cdnSub + n
    if d.rn32 RTC_CDN ≤ t / 64 then (d.wn32 RTC_CDN 1).modClock fun c => { c with cdnSub := 64 }
    else (d.when (64 ≤ t) fun d => d.wn32 RTC_CDN (d.rn32 RTC_CDN - t / 64)).modClock fun c => { c with cdnSub := t % 64 }

/-- The countdown's last step is due (R393). -/
def Dev.countdownDue (d : Dev) : Bool := d.flag RTC_STATUS RTC_STATUS.CDRUN && decide (64 ≤ d.clock.cdnSub)

/-- Set the RTC and buffer its anchor record (R291, R391); the answer is what the item completes with: the record's number. -/
def Dev.rtcSet (d : Dev) (v : BitVec 64) : BitVec 64 × Dev :=
  let was := d.flag RTC_STATUS RTC_STATUS.OSCSTOP
  let d := (d.modClock fun c => { c with rtc := v }).setFlag RTC_STATUS RTC_STATUS.OSCSTOP false
  let n := d.recorder.next
  let d := d.record 0x03 0 (bytesLE 6 (v.toNat / 65536) ++ bytesLE 2 (v.toNat % 65536) ++ [if was then 1 else 0])
  (result2 n.toNat 0, d.raise 245)

/-- The settings that wait for an edge of CKD_RTC, as far as their items are still in flight, are made in the order in which
they came; their items complete in rising tag order (R306). In LATCHED they stay open. -/
def Dev.rtcSets (d : Dev) : Dev :=
  if !d.isUp then d
  else
    let waiting := d.clock.rtcSet.filter fun x => (d.item x.1).isSome
    let d := d.modClock fun c => { c with rtcSet := [] }
    let (done, d) := waiting.foldl (fun (acc : List (Tag × BitVec 64) × Dev) x =>
      let (r, d) := acc.2.rtcSet x.2
      (acc.1 ++ [(x.1, r)], d)) ([], d)
    (List.finRange 128).foldl (fun (d : Dev) (t : Tag) => match done.find? fun x => x.1 = t with
      | some x => d.complete t 0x00 x.2
      | none => d) d

/-- `n` counts of CKD_RTC pass; each adds RTC_TRIM, in parts of 10^9 of a count, to the trim that stands (R391). -/
def Dev.rtcCount (d : Dev) (n : Nat) : Dev :=
  let trim := d.rs RTC_TRIM
  (d.modClock fun c =>
    { c with op := c.op + n, rtc := c.rtc + BitVec.ofNat 64 n, trimAcc := c.trimAcc + trim * n }).countDown n

/-- 1 us of CKD_RTC: 65,536 counts a second. RTC_SETs that wait are written at its edge. -/
def Dev.rtcTick (d : Dev) : Dev :=
  if !d.rtcRuns then d
  else
    let t := d.clock.rtcRem + 65536
    let d := (d.modClock fun c => { c with rtcRem := t % 1000000 }).rtcCount (t / 1000000)
    d.when (decide (1000000 ≤ t) && !d.clock.rtcSet.isEmpty) Dev.rtcSets

/-! ## One tick (log entry 1) -/

/-- The period of a watchdog slot stands still for `k` ticks while it is paused (R424). -/
def Dev.slotTick (d : Dev) (k : Nat) (n : WSlot) : Dev :=
  if (d.slot n).running && d.slotPaused n then d.modSlot n fun x => { x with start := x.start + k } else d

/-- The timebase counts `k` ticks. -/
def Dev.tbCount (d : Dev) (k : Nat) : Dev :=
  let d := (List.finRange 16).foldl (fun (d : Dev) n => d.slotTick k n) d
  d.modClock fun c => { c with tb := c.tb + BitVec.ofNat 64 k }

/-- The Guard has no frame for `k` ticks that CKD_TB loses: they count as frames with missing results (R98, R384). -/
def Dev.missFrames (d : Dev) (k : Nat) : Dev :=
  d.when (d.blocksRun && d.guard.started) fun d =>
    (d.bumpBy BG_MISSCNT k).modGuard fun g => { g with missed := g.missed + k }

/-- 1 us in a switch of CKD_TB: the tick is lost (R382). -/
def Dev.tbLost (d : Dev) : Dev :=
  if 6 ≤ d.clock.gap then d else (d.modClock fun c => { c with gap := c.gap + 1 }).missFrames 1

/-- 1 us passes with no command: what is due on the seats starts, the timebase counts or loses the tick to a switch, CKD_RTC
counts, the charger's timers run, paused watchdog slots stand still, and a response still on a link's line comes to its end. -/
def Dev.tick (d : Dev) : Dev :=
  let d := d.startSeats d.tickEnd
  let d := d.when d.tbRuns fun d => if d.clock.switching = some .tb then d.tbLost else d.tbCount 1
  let d := d.rtcTick
  let d := d.when d.blocksRun Dev.chgTick
  (List.finRange 4).foldl (fun (d : Dev) (k : Link) => d.endFrame k) d

/-! ## Switching a source (R382, R383) -/

/-- The loops and the stage allow a switch of CKD_PWM. -/
def Dev.pwmFree (d : Dev) : Bool :=
  (List.finRange 12).all (fun n => d.lstate n = lsOff) && (d.cmode = cmOff || d.cmode = cmReady)

/-- A write of CLK_DSEL: the one field that changes starts its switch; what R383 names is ignored and sets SWREF. -/
def Dev.writeDsel (d : Dev) (v : Word) : Dev :=
  let dp := CLK_DSEL.PWMSRC.of v.toNat ≠ d.fld CLK_DSEL CLK_DSEL.PWMSRC
  let dt := CLK_DSEL.TBSRC.of v.toNat ≠ d.fld CLK_DSEL CLK_DSEL.TBSRC
  let dr := CLK_DSEL.RTCSRC.of v.toNat ≠ d.fld CLK_DSEL CLK_DSEL.RTCSRC
  if !dp && !dt && !dr then d.when (d.flag CLK_STATUS CLK_STATUS.SWBUSY) (·.setFlag CLK_STICKY CLK_STICKY.SWREF true)
  else if d.flag CLK_STATUS CLK_STATUS.SWBUSY || (dp && dt) || (dp && dr) || (dt && dr) || (dp && !d.pwmFree) then
    d.setFlag CLK_STICKY CLK_STICKY.SWREF true
  else
    let dom : Domain := if dp then .pwm else if dt then .tb else .rtc
    ((d.storeWord CLK_DSEL CLK_DSEL v).setFlag CLK_STATUS CLK_STATUS.SWBUSY true).modClock
      fun c => { c with switching := some dom, gap := 0 }

/-- CLK_DSEL with one field changed. -/
def Dev.dselWith (d : Dev) (f : Fld) (src : Bool) : Word :=
  BitVec.ofNat 16 (f.put (d.rn CLK_DSEL) (if src then 1 else 0))

/-- The lost-cycle counter of a domain. -/
def lostReg : Domain → Nat
  | .pwm => CLK_LOSTPWM
  | .tb => CLK_LOSTTB
  | .rtc => CLK_LOSTRTC

/-! ## RTC_SET (R291, R391) -/

/-- RTC_SET is carried out: its value waits for the next edge of CKD_RTC, which comes after t2 of a switch in progress (R391,
R394). -/
def Dev.startRtcSet (d : Dev) (it : Item) : Dev :=
  let v : BitVec 64 := BitVec.ofNat 64 ((it.arg 0 + 65536 * it.arg 1 + 2 ^ 32 * it.arg 2) * 65536 + it.arg 3)
  (d.setStage it.tag .running).modClock fun c => { c with rtcSet := c.rtcSet ++ [(it.tag, v)] }

/-- The timebase restarts as if it had counted on; the ticks of the gap that no time has yet counted are missing frames too
(R382, R384). -/
def Dev.tbRestart (d : Dev) : Dev :=
  let left := 6 - d.clock.gap
  let d := (d.when d.tbRuns (·.tbCount 6)).missFrames left
  d.modClock fun c => { c with gap := 0, restartAt := d.now }

/-- t2 of R382: the domain restarts, its counts are corrected by 6, and the counters and the event follow. In NEWT, where
the device itself switches CKD_RTC, only the newt domain is there to be corrected (R383). -/
def Dev.switchDone (d : Dev) : Dev :=
  match d.clock.switching with
  | none => d
  | some dom =>
    let d := d.modClock fun c => { c with switching := none }
    let d := match dom with
      | .pwm => d
      | .tb => d.tbRestart
      | .rtc => d.rtcCount 6
    if d.boot.phase = .newt then d
    else (((d.bumpBy (lostReg dom) 6).bump CLK_SWCNT).setFlag CLK_STATUS CLK_STATUS.SWBUSY false).raise 34

/-! ## CLKOUT (R385) -/

/-- The frequency of the selected source, kHz; 0 for off and the reserved codes. CKD_RTC is 65.536 kHz, below any clamp. -/
def Dev.outSource (d : Dev) : Nat :=
  match d.rn CLK_OUT % 8 with
  | 1 => d.refKhz
  | 2 => 800000
  | 3 => 100000
  | 4 => 1000
  | 5 => 65
  | _ => 0

/-- OUTCLAMP follows the selected source and division: above 52 MHz the division is raised. -/
def Dev.syncOut (d : Dev) : Dev :=
  d.setFlag CLK_STATUS CLK_STATUS.OUTCLAMP (decide (52000 * (d.rn CLK_OUTDIV + 1) < d.outSource))

/-- The division in force: DIV + 1, or the smallest one that gives 52 MHz or less. -/
def Dev.outDivision (d : Dev) : Nat := max (d.rn CLK_OUTDIV + 1) ((d.outSource + 51999) / 52000)

/-- The level of CLKOUT in cycle `k` of the selected clock, counted from a rising edge of the output: high for half of an even
division, for (d + 1)/2 cycles of an odd one; none where a division of 1 passes the source itself. Off, or held after a
change, the pin is low. -/
def Dev.clkoutLevel (d : Dev) (k : Nat) : Option Bool :=
  if d.outSource = 0 || d.clock.outHold then some false
  else if d.outDivision = 1 then none
  else some (decide (k % d.outDivision < (d.outDivision + 1) / 2))

/-- A write of CLK_OUT or CLK_OUTDIV; a change holds CLKOUT low. -/
def Dev.writeOut (d : Dev) (isDiv : Bool) (v : Word) : Dev :=
  let a := if isDiv then CLK_OUTDIV else CLK_OUT
  let w := if isDiv then v else v &&& 0x0007#16
  if d.rd a = w then d
  else ((d.wr a w).modClock fun c => { c with outHold := true }).syncOut

/-! ## Loss and return of the reference (R386, R387) -/

/-- The clock monitor watches from t7 of the boot path, in every state but DARK (R386). -/
def Dev.monitorOn (d : Dev) : Bool :=
  match d.boot.phase with
  | .nvCheck | .loading | .loaded | .up | .newt => true
  | _ => d.latched

/-- A reference loss: `missing` for no edges, otherwise the PLL has left its lock range. In NEWT only the
oscillator-stopped flag is set (R387); a domain switch in progress is abandoned (R394). -/
def Dev.refLoss (d : Dev) (missing : Bool) : Dev :=
  if !d.monitorOn then d
  else if d.boot.phase = .newt then
    if missing then (d.setFlag RTC_STATUS RTC_STATUS.OSCSTOP true).setFlag CLK_STATUS CLK_STATUS.REFOK false else d
  else
    let d := d.when d.clock.switching.isSome fun d =>
      (d.modClock fun c => { c with switching := none }).setFlag CLK_STATUS CLK_STATUS.SWBUSY false
    d.enterLatched lcReference fun d =>
      let d := d.setFlag RTC_STATUS RTC_STATUS.OSCSTOP true
      let d := (d.setFlag CLK_STATUS CLK_STATUS.PLLLOCK false).setFlag CLK_STATUS CLK_STATUS.REFOK
        (!missing && d.flag CLK_STATUS CLK_STATUS.REFOK)
      let d := d.setFlag CLK_STICKY (if missing then CLK_STICKY.MISSING else CLK_STICKY.UNLOCK) true
      d.raiseWith (if missing then 32 else 33) (evtBlock 32) true

/-! ## Commands -/

def execClkSwitchPwm (acc : Acc) (src : Bool) (s : State) : Host.Outcome State Fault Refusal :=
  s.step1 fun d => d.gate acc CLK_DSEL fun d => d.writeDsel (d.dselWith CLK_DSEL.PWMSRC src)
def execClkSwitchTb (acc : Acc) (src : Bool) (s : State) : Host.Outcome State Fault Refusal :=
  s.step1 fun d => d.gate acc CLK_DSEL fun d => d.writeDsel (d.dselWith CLK_DSEL.TBSRC src)
def execClkSwitchRtc (acc : Acc) (src : Bool) (s : State) : Host.Outcome State Fault Refusal :=
  s.step1 fun d => d.gate acc CLK_DSEL fun d => d.writeDsel (d.dselWith CLK_DSEL.RTCSRC src)
def execDomainSwitchDone (s : State) : Host.Outcome State Fault Refusal := s.step1 Dev.switchDone
def execClkoutChange (acc : Acc) (isDiv : Bool) (v : BitVec 16) (s : State) : Host.Outcome State Fault Refusal :=
  s.step1 fun d => d.gate acc (if isDiv then CLK_OUTDIV else CLK_OUT) (·.writeOut isDiv v)
def execClkoutRestart (s : State) : Host.Outcome State Fault Refusal :=
  s.step1 fun d => d.when d.clock.outHold fun d =>
    (d.modClock fun c => { c with outHold := false }).bumpBy CLK_LOSTOUT 6
def execRefLost (s : State) : Host.Outcome State Fault Refusal := s.step1 (·.refLoss true)
def execPllUnlock (s : State) : Host.Outcome State Fault Refusal := s.step1 (·.refLoss false)
/-- REF_RETURN: the edges are back. In NEWT the counters go on (R387); LATCHED is left by a POR only (R386). -/
def execRefReturn (s : State) : Host.Outcome State Fault Refusal :=
  s.step1 fun d => d.when d.monitorOn (·.setFlag CLK_STATUS CLK_STATUS.REFOK true)
/-- 64 s of operating time have passed since the save before (R389). -/
def Dev.optimeDue (d : Dev) : Bool :=
  decide (d.boot.phase = .up) && decide ((governs d.clock.saved { op := 0, pcycle := 0 }).op + 64 * 65536 ≤ d.clock.op)

/-- OPTIME_SAVE. -/
def execOptimeSave (s : State) : Host.Outcome State Fault Refusal := s.step1 fun d => d.when d.optimeDue Dev.saveOpTime

/-- RTC_TRIM_STEP: once the correction that stands reaches a count, one is added or omitted (R391). -/
def ClockSt.trimStep (c : ClockSt) : ClockSt :=
  if 1000000000 ≤ c.trimAcc then { c with rtc := c.rtc + 1, trimAcc := c.trimAcc - 1000000000 }
  else if c.trimAcc ≤ -1000000000 then { c with rtc := c.rtc - 1, trimAcc := c.trimAcc + 1000000000 }
  else c
def execRtcTrimStep (s : State) : Host.Outcome State Fault Refusal :=
  s.step1 fun d => d.when d.rtcRuns (·.modClock ClockSt.trimStep)

/-- A write of RTC_CDN loads and starts the countdown, or stops it (R393). -/
def Dev.writeCdn (d : Dev) (v : BitVec 32) : Dev :=
  ((d.wr32 RTC_CDN v).setFlag RTC_STATUS RTC_STATUS.CDRUN (v ≠ 0)).modClock fun c => { c with cdnSub := 0 }
def execRtcCdnWrite (acc : Acc) (v : BitVec 32) (s : State) : Host.Outcome State Fault Refusal :=
  s.step1 fun d => d.gate acc RTC_CDN (·.writeCdn v)

/-- CLK_CTL.CNTCLR. -/
def Dev.clkCntclr (d : Dev) : Dev := d.zero [CLK_SWCNT, CLK_LOSTPWM, CLK_LOSTTB, CLK_LOSTRTC, CLK_LOSTOUT]
def execClkCntclr (acc : Acc) (s : State) : Host.Outcome State Fault Refusal :=
  s.step1 fun d => d.gate acc CLK_CTL Dev.clkCntclr
def execRtcSet (tag : Tag) (s : State) : Host.Outcome State Fault Refusal :=
  s.step1 fun d => d.carry tag (· = 0x33) fun it d => d.startRtcSet it

end Sys2Proof.Machine
end

