-- ==== Sys2Proof/Machine/LoopCommands.lean ====
section
/-!
DEFINITION. The commands of the regulation loops and phases (02_regulation_loops.md), with the drill's view of each
loop's rail, and the hopper commands LOOP_SETV and ABORT (R292, R299).
-/

namespace Sys2Proof.Machine

open Sys2Proof Sys2Proof.R

/-- A step on loop `n`, then the supervision of its rail. -/
def Dev.onLoop (d : Dev) (n : Loop) (f : Dev → Dev) : Dev := (f d).pollLoop n

/-- A step on phase `m`, then the supervision of its loop's rail. -/
def Dev.onPhase (d : Dev) (m : Phase) (f : Dev → Dev) : Dev :=
  match d.phaseLoop m with
  | some n => d.onLoop n f
  | none => d

/-! ## Register writes -/

/-- PH_CFG_WRITE (R28). -/
def execPhCfgWrite (acc : Acc) (m : Phase) (v : BitVec 16) (s : State) : Host.Outcome State Fault Refusal :=
  s.step1 fun d => d.gate acc (PH_CFG m) fun d => (d.writePhCfg m v).2

/-- The loop and offset of an address of the LP_ block. -/
def loopAt (a : Nat) : Option (Loop × Nat) :=
  if 0x2000 ≤ a ∧ a < 0x2600 then some (Fin.ofNat 12 ((a - 0x2000) / 0x80), (a - 0x2000) % 0x80) else none

/-- Supervision of every rail of a loop. -/
def Dev.pollLoops (d : Dev) : Dev := (List.finRange 12).foldl (fun (d : Dev) (n : Loop) => d.pollLoop n) d

/-- LOOP_CONFIG_WRITE (R50): the value written at the register's address, 16 or 32 bits. LP_VSET has its own row. -/
def execLoopConfigWrite (acc : Acc) (addr : BitVec 16) (v : BitVec 32) (s : State) : Host.Outcome State Fault Refusal :=
  s.step1 fun d => d.gate acc addr.toNat fun d =>
    match loopAt addr.toNat with
    | some (n, off) =>
      if off = 6 then d.writeVset n (spsrcOf acc) (v.toNat % 65536) else d.onLoop n fun d => (d.writeLoop n off v).2
    | none => d

/-- LP_VSET_WRITE (R47). -/
def execLpVsetWrite (acc : Acc) (n : Loop) (v : BitVec 16) (s : State) : Host.Outcome State Fault Refusal :=
  s.step1 fun d => d.gate acc (LP_VSET n) (·.writeVset n (spsrcOf acc) v.toNat)
def execLpBswap (acc : Acc) (n : Loop) (s : State) : Host.Outcome State Fault Refusal :=
  s.step1 fun d => d.gate acc (LP_CTL n) (·.bswap n)
def execLpOvclr (acc : Acc) (n : Loop) (s : State) : Host.Outcome State Fault Refusal :=
  s.step1 fun d => d.gate acc (LP_CTL n) fun d => d.onLoop n (·.ovclr n)
def execLpCntclr (acc : Acc) (n : Loop) (s : State) : Host.Outcome State Fault Refusal :=
  s.step1 fun d => d.gate acc (LP_CTL n) (·.lpCntclr n)

/-! ## What the environment and the clock bring about -/

/-- EC_SAMPLE: `vout` is the output on the sense pins, rail-voltage format. -/
def execEcSample (n : Loop) (vout : BitVec 16) (s : State) : Host.Outcome State Fault Refusal :=
  s.step1 fun d => d.onLoop n (·.ecSample n vout)
/-- COMPENSATOR_RUN: `lat` is the latency that LP_CMPLAT shows (R43). -/
def execCompensatorRun (n : Loop) (lat : BitVec 16) (s : State) : Host.Outcome State Fault Refusal :=
  s.step1 (·.compRun n lat)
def execPhasePeriodStart (m : Phase) (s : State) : Host.Outcome State Fault Refusal :=
  s.step1 fun d => d.onPhase m (·.periodStart m)
def execDiodeEmulationMid (m : Phase) (s : State) : Host.Outcome State Fault Refusal := s.step1 (·.diodeMid m)
def execPgDwellExpiry (n : Loop) (s : State) : Host.Outcome State Fault Refusal :=
  s.step1 fun d => d.onLoop n (·.dwellExpiry n)
def execShareTrimUpdate (m : Phase) (s : State) : Host.Outcome State Fault Refusal := s.step1 (·.shareTrim m)
def execPhaseShed (n : Loop) (s : State) : Host.Outcome State Fault Refusal := s.step1 (·.phaseShed n)
def execPhaseRestore (n : Loop) (s : State) : Host.Outcome State Fault Refusal := s.step1 (·.phaseRestore n)
def execShedHoldExpiry (n : Loop) (s : State) : Host.Outcome State Fault Refusal := s.step1 (·.shedHoldExpiry n)
/-- LOOP_OV_TRIP: the latch, then the rail failure by OV (R62, R133). -/
def execLoopOvTrip (n : Loop) (s : State) : Host.Outcome State Fault Refusal :=
  s.step1 fun d =>
    let was := d.lstate n
    let d := d.ovTrip n
    (d.when (was ≠ lsOvLatched && d.lstate n = lsOvLatched) (·.ovRail n)).pollLoop n
def execLoopUv (n : Loop) (s : State) : Host.Outcome State Fault Refusal := s.step1 fun d => d.onLoop n (·.uvReport n)
def execPhaseOc (m : Phase) (s : State) : Host.Outcome State Fault Refusal := s.step1 (·.phaseOc m)
/-- LOOP_OC: the report, and in a power-down the rail failure of R141. -/
def execLoopOc (n : Loop) (s : State) : Host.Outcome State Fault Refusal :=
  s.step1 fun d => d.when (d.ocStands n) fun d => (d.ocReport n).ocRail n
def execEcTrimUpdate (n : Loop) (s : State) : Host.Outcome State Fault Refusal := s.step1 (·.ecTrim n)
/-- DELAY_LINE_CAL: `taps` is the calibration just completed. -/
def execDelayLineCal (m : Phase) (taps : BitVec 16) (s : State) : Host.Outcome State Fault Refusal :=
  s.step1 (·.dlCal m taps)

/-! ## LOOP_SETV and ABORT (R292, R299) -/

/-- LOOP_SETV is a write by its submitter. -/
def Dev.loopSetv (d : Dev) (it : Item) : Dev :=
  let n : Loop := Fin.ofNat 12 (it.arg 0)
  let src := if it.source = 3 then 1 else 0
  if d.fld (LP_CFG n) LP_CFG.SPSRC ≠ src || d.lstate n = lsOvLatched then d.complete it.tag 0x23 0
  else
    let (clamped, d) := d.setTarget n (it.arg 1)
    let fin (st : Nat) (d : Dev) : Dev := d.complete it.tag st (result2 (d.rn (LP_VSET n)) (d.rn (LP_VOUT n)))
    if d.lstate n = lsOff then fin 0x01 d
    else if d.flag (LP_STATUS n) LP_STATUS.SETTLED then fin (if clamped then 0x01 else 0x00) d
    else (d.modLoop n fun x => { x with setvClamped := clamped }).setStage it.tag .running

def execLoopSetv (tag : Tag) (s : State) : Host.Outcome State Fault Refusal :=
  s.step1 fun d => d.carry tag (· = 0x18) fun it d => d.loopSetv it

/-- LOOP_SETV_TIMEOUT: the item ends, the target stands. In LATCHED items stay open (R306). -/
def execLoopSetvTimeout (tag : Tag) (s : State) : Host.Outcome State Fault Refusal :=
  s.step1 fun d => match d.item tag with
    | some it =>
      let n := it.arg 0
      d.when (d.isUp && it.stage = .running && it.code = 0x18) (·.complete tag 0x30 (result2 (d.rn (LP_VSET n)) (d.rn (LP_VOUT n))))
    | none => d

/-- The end of an item that a winning ABORT names, or none where R299 lets it run on. -/
def Dev.abortTarget (d : Dev) (j : Item) : Option Dev :=
  let c := j.code.toNat
  if 0x80 ≤ c then some (d.complete j.tag 0x10 0)
  else if c = 0x18 then
    some (d.complete j.tag 0x10 (result2 (d.rn (LP_VSET (j.arg 0))) (d.rn (LP_VOUT (j.arg 0)))))
  else if j.stage ≠ .running then none
  else if c = 0x10 then
    if d.ds = drRising then some d.reverse
    else if d.ds = drDwell then some d.dropDwell
    else if d.ds = drFalling && d.flag SEQ_STATUS SEQ_STATUS.DEFER then
      some ((d.setFlag SEQ_STATUS SEQ_STATUS.DEFER false).endItems (onlyCode 0x10 0x10))
    else none
  else none

/-- ABORT: the target's completion is recorded, then the ABORT's own. -/
def Dev.abort (d : Dev) (it : Item) : Dev :=
  match d.inFlight.find? (fun j => j.tag.val = it.arg 0 ∧ j.cookie = it.args[1]) with
  | none => d.complete it.tag 0x11 0
  | some j => match d.abortTarget j with
    | some d => d.complete it.tag 0x00 0
    | none => d.complete it.tag 0x23 0
def execAbort (tag : Tag) (s : State) : Host.Outcome State Fault Refusal :=
  s.step1 fun d => d.carry tag (· = 0x01) fun it d => d.abort it

end Sys2Proof.Machine
end

