-- ==== Sys2Proof/Machine/Pack.lean ====
section
/-!
DEFINITION. The pack and its tag (08_gauge_and_pack.md, R221, R225 to R241): presence, removal, the mailbox and the
transactions, and the gauge's commands.
-/

namespace Sys2Proof.Machine

open Sys2Proof Sys2Proof.R

/-- PK_STATUS.TAG and PK_STATUS.NTC. -/
abbrev tagAbsent : Nat := 0
abbrev tagAnswering : Nat := 1
abbrev tagGone : Nat := 2
abbrev tagReading : Nat := 3
abbrev ntcOpen : Nat := 1
abbrev ntcShorted : Nat := 2
def Dev.packPresent (d : Dev) : Bool := d.flag PK_STATUS PK_STATUS.PRESENT
def Dev.ntc (d : Dev) : Nat := d.fld PK_STATUS PK_STATUS.NTC
def Dev.setTag (d : Dev) (v : Nat) : Dev := d.setFld PK_STATUS PK_STATUS.TAG v
def Dev.pkSticky (d : Dev) (f : Fld) : Dev := d.setFlag PK_STICKY f true

/-! ## Pages (R238, R239) -/

/-- Page `p` of the bytes of pages 0 to 3, and whether its CRC-8 holds. -/
def pageOf (pages : List Byte) (p : Nat) : List Byte := (pages.drop (16 * p)).take 16
def pageGood (bs : List Byte) : Bool := bs.length = 16 && crc8 (bs.take 15) = bs.getLastD 0

/-- The value of `n` bytes at `i` of a page. -/
def pageVal (bs : List Byte) (i n : Nat) : Nat := valLE ((bs.drop i).take n)

/-- The newer life page: the one whose update number is the other's successor; page 2 where neither is (log entry 39). -/
def newerLife (p2 p3 : List Byte) : Option (Nat × List Byte) :=
  match pageGood p2, pageGood p3 with
  | true, true => if pageVal p3 9 1 = (pageVal p2 9 1 + 1) % 256 then some (3, p3) else some (2, p2)
  | true, false => some (2, p2)
  | false, true => some (3, p3)
  | false, false => none

/-- The identity of page 0 and the rated throughput of page 1; an unreadable page gives 0 (R227, R238). PK_SERIAL keeps
its value when page 0 is unreadable. -/
def Dev.readIdentity (d : Dev) (pages : List Byte) : Dev :=
  let p0 := pageOf pages 0
  let p1 := pageOf pages 1
  let d := if pageGood p0 then
      let d := (List.range 4).foldl (fun (d : Dev) i => d.wn (PK_SERIAL i) (pageVal p0 (2 * i) 2)) d
      ((d.wn PK_CHEM (pageVal p0 8 2)).wn PK_RATEDCAP (pageVal p0 10 2)).wn PK_MFG (pageVal p0 12 2)
    else d.zero [PK_CHEM, PK_RATEDCAP, PK_MFG]
  let d := d.wn32 PK_RATEDTP (if pageGood p1 then pageVal p1 0 4 else 0)
  d.modPack fun x => { x with rated := pageGood p1 }

/-- The life record of the tag: LIFESEL, the update number, PK_TAGLEARN. -/
def Dev.readLife (d : Dev) (life : Option (Nat × List Byte)) : Dev :=
  match life with
  | some (p, bs) =>
    let d := (d.setFlag PK_STATUS PK_STATUS.LIFESEL (p = 3)).wn PK_TAGLEARN (pageVal bs 6 2)
    d.modPack fun x => { x with update := BitVec.ofNat 8 (pageVal bs 9 1), lifeOk := true }
  | none =>
    let d := (d.setFlag PK_STATUS PK_STATUS.LIFESEL false).wn PK_TAGLEARN 0
    d.modPack fun x => { x with update := 0, lifeOk := false }

/-- A field of the life record, or 0. -/
def lifeVal (life : Option (Nat × List Byte)) (i n : Nat) : Nat :=
  match life with
  | some (_, bs) => pageVal bs i n
  | none => 0

/-! ## Presence (R225 to R228) -/

/-- The throughput of a pack, C, and its cycle count. -/
def Dev.setThroughput (d : Dev) (c cycles : Nat) : Dev :=
  let d := d.modGauge fun g => { g with thru := 65536000 * c, thruCycle := 0, thruWritten := c }
  (d.wn32 PK_CUMTP c).wn PK_CYCLES cycles

/-- A new pack (R221, R228). -/
def Dev.newPack (d : Dev) (life : Option (Nat × List Byte)) : Dev :=
  let valid := natBit (lifeVal life 8 1) 1
  let q := if valid then 36000 * lifeVal life 6 2 else d.ratedMc
  let d := (d.wn32 GG_QCNT 0).wn32 GG_QLEARN q
  let d := (d.setFlag GG_STATUS GG_STATUS.ANCHORED false).setFlag GG_STATUS GG_STATUS.LEARNED valid
  let d := (d.setFlag GG_STATUS GG_STATUS.BEYOND false).setFlag GG_STATUS GG_STATUS.OVERFULL false
  let d := (d.setFlag GG_STATUS GG_STATUS.LEARNPEND false).spoil
  let d := d.modGauge fun g => { g with frac := 0, last := .none, savedLearn := BitVec.ofNat 32 q }
  let d := d.setThroughput (lifeVal life 0 4) (lifeVal life 4 2)
  (d.pkSticky PK_STICKY.SWAP).raise 210

/-- The anchor that a record's traverse runs from: the last one recognised (R217, R222). A spoiled traverse names none. -/
def GaugeRec.lastAnchor (r : GaugeRec) : Anchor := if r.trav = 1 then .full else if r.trav = 2 then .empty else .none

/-- The pack of the gauge record (R225): its count, capacity, ANCHORED and last anchor are restored, and nothing is reported.
The last life record is the tag's, where one can be read (R239). -/
def Dev.restorePack (d : Dev) (r : GaugeRec) (life : Option (Nat × List Byte)) : Dev :=
  let d := (d.wr32 GG_QCNT r.qcnt).wr32 GG_QLEARN r.qlearn
  let d := (d.setFlag GG_STATUS GG_STATUS.ANCHORED r.anchored).setFlag GG_STATUS GG_STATUS.LEARNED r.learned
  let d := d.modGauge fun g => { g with savedLearn := r.qlearn, last := r.lastAnchor, frac := 0, thru := 65536 * r.thru, thruCycle := 0,
                                        thruWritten := if life.isSome then lifeVal life 0 4 else r.thru / 1000 }
  ((d.wn32 PK_CUMTP (r.thru / 1000)).wr PK_CYCLES r.cycles).spoil

/-- The pack just read is known, new, or that of the gauge record. `old` is the serial held before the read. -/
def Dev.placePack (d : Dev) (old serial : BitVec 64) (life : Option (Nat × List Byte)) : Dev :=
  let x := d.pack
  let d := d.modPack fun x => { x with known := true, restored := none }
  match x.restored with
  | some r => if r.serial = serial && r.serial ≠ 0 then d.restorePack r life else d.newPack life
  | none =>
    if x.known && old = serial then
      let away := match x.removedAt with
        | some t => decide (1000000 * d.rn PK_SWAPHOLD ≤ d.now - t)
        | none => false
      (d.when away (·.setFlag GG_STATUS GG_STATUS.ANCHORED false)).raise 208
    else d.newPack life

def Dev.packSerial (d : Dev) : BitVec 64 :=
  d.rd (PK_SERIAL 3) ++ d.rd (PK_SERIAL 2) ++ d.rd (PK_SERIAL 1) ++ d.rd (PK_SERIAL 0)

/-- USABLE, CHEMOK and the chemistry in use (R227); an unreadable page 0 leaves PK_RATEDCAP and PK_CHEM at 0. -/
def Dev.judgeUsable (d : Dev) : Dev :=
  let code := d.rn PK_CHEM % 256
  let chem := (chemOf code).isSome
  let ok := decide (d.pack.type = 0x31#8) && chem && d.rn PK_RATEDCAP ≠ 0
  let d := (d.setFlag PK_STATUS PK_STATUS.CHEMOK chem).setFlag PK_STATUS PK_STATUS.USABLE ok
  let d := (d.setFlag GG_STATUS GG_STATUS.USABLE ok).wn CHG_CHEM (if ok then code else 0)
  d.when (!ok) (·.raise 213)

/-- The flag of end of life that the tag holds, reported once for a presence (R240). -/
def Dev.tagEol (d : Dev) (life : Option (Nat × List Byte)) : Dev :=
  let eol := natBit (lifeVal life 8 1) 0
  let was := d.flag GG_STATUS GG_STATUS.EOL
  let d := (d.setFlag GG_STATUS GG_STATUS.EOL (was || eol)).when (eol && !was) (·.raise 220)
  d.checkEol

/-- Pages 0 to 3 have been read and the pack is present. -/
def Dev.packRead (d : Dev) (type : Byte) (pages : List Byte) : Dev :=
  let old := d.packSerial
  let d := d.modPack fun x => { x with type := type, pages := [] }
  let d := d.readIdentity pages
  let life := newerLife (pageOf pages 2) (pageOf pages 3)
  let d := d.readLife life
  let d := (d.setFlag PK_STATUS PK_STATUS.PRESENT true).setTag tagAnswering
  let d := d.modPack fun x => { x with good := true, fails := 0, judged := false }
  let serial := d.packSerial
  let d := d.when (pageGood (pageOf pages 0)) fun d =>
    let other := d.pack.known && old ≠ serial
    let d := d.placePack old serial life
    d.when other Dev.swapClears
  let d := d.judgeUsable
  let d := (d.tagEol life).gaugeReport
  let d := d.modPack fun x => { x with removedAt := none }
  (d.checkClamped).judgePack

/-- A pack is read only once the gauge has started (R225). -/
def Dev.gaugeOn (d : Dev) : Bool := d.blocksRun && (d.pack.known || d.pack.restored.isSome)

/-- PACKNTC has read open, or not open, for `us` microseconds (R226). -/
def Dev.ntcHeld (d : Dev) (isOpen : Bool) (us : Nat) : Bool :=
  decide (d.ntc = ntcOpen) == isOpen && d.pack.ntcAt.any fun t => decide (us ≤ d.now - t)

/-- PACK_PRESENT: PACKNTC has been below PK_NTCOPEN for 100 ms and pages 0 to 3 have been read, and are `pages` (R226). -/
def Dev.packSeen (d : Dev) (type : Byte) (pages : List Byte) : Dev :=
  if d.gaugeOn && !d.packPresent && d.ntcHeld false 100000 && d.pack.pages.length = 64 && decide (pages = d.pack.pages) then
    d.packRead type pages
  else d

/-- The READ of pages 0 to 3, at presence or at a RESCAN, begins, unless it is under way (R228, R236). -/
def Dev.startRead (d : Dev) (again : Bool) : Dev :=
  if d.pack.queue.any fun o => match o with | .read _ _ => true | _ => false then d
  else ((d.modPack fun x => { x with pages := [] }).setTag tagReading).tagPush (.read 0 again)

/-! ## Removal (R226, R228) -/

/-- A life-page write or its check has failed (R236). -/
def Dev.lifeFailed (d : Dev) : Dev := (d.pkSticky PK_STICKY.WRFAIL).raise 223

/-- The mailbox transaction ends with a status (R237). -/
def Dev.boxEnd (d : Dev) (status : Nat) : Dev := (d.setFlag PK_XCTL PK_XCTL.BUSY false).wn PK_XSTAT status

/-- A transaction that can no longer succeed. -/
def Dev.opFailed (d : Dev) (o : TagOp) : Dev :=
  match o with
  | .ping => d
  | .read _ _ => (d.modPack fun x => { x with pages := [] }).setTag (if d.ntc = ntcOpen then tagAbsent else tagGone)
  | .boxRead _ => d.boxEnd 0xFF
  | .boxWrite _ _ => (d.boxEnd 0xFF).raise 223
  | .life => d
  | .lifeWrite _ _ => d.lifeFailed
  | .verify _ _ life => if life then d.lifeFailed else (d.boxEnd 0xFF).raise 223

/-- The transaction under way fails with the pack, and those that wait with it. -/
def Dev.dropQueue (d : Dev) : Dev :=
  let under := if d.pack.busy then d.pack.queue.take 1 else []
  let rest := if d.pack.busy then d.pack.queue.drop 1 else d.pack.queue
  let d := d.modPack fun x => { x with queue := [], busy := false, attempts := 0, pages := [] }
  rest.foldl (fun (d : Dev) o => match o with
    | .boxRead _ => d.boxEnd 0xFF
    | .boxWrite _ _ => d.boxEnd 0xFF
    | _ => d) (under.foldl Dev.opFailed d)

/-- The pack is removed; `tag` is what PK_STATUS.TAG shows then. -/
def Dev.packGone (d : Dev) (tag : Nat) : Dev :=
  let d := d.dropQueue
  let d := (d.setFlag PK_STATUS PK_STATUS.PRESENT false).setTag tag
  let d := (d.setFlag PK_STATUS PK_STATUS.USABLE false).setFlag PK_STATUS PK_STATUS.CHEMOK false
  let d := (d.setFlag GG_STATUS GG_STATUS.USABLE false).wn CHG_CHEM 0
  let d := (d.setFlag GG_STATUS GG_STATUS.EOL false).setFld PK_STATUS PK_STATUS.EOLCAUSE 0
  let d := ((d.pkSticky PK_STICKY.REMOVED).raise 209).gaugeRecord
  let d := (d.spoil).modPack fun x => { x with removedAt := some d.now }
  d.judgePack

/-- PACK_REMOVAL: PACKNTC has been at or above PK_NTCOPEN for 10 ms. -/
def Dev.packRemoved (d : Dev) : Dev :=
  if d.gaugeOn && d.packPresent && d.ntcHeld true 10000 then d.packGone tagAbsent else d

/-- PACKNTC has been judged: where it shows a pack that is not present yet, its tag is read; where it opens, a read of a tag
that is not present ends (log entry 129). -/
def Dev.ntcJudged (d : Dev) : Dev :=
  if !d.gaugeOn || d.packPresent then d
  else if d.ntc = ntcOpen then (d.when (!d.pack.queue.isEmpty) Dev.dropQueue).setTag tagAbsent
  else d.when (d.pack.pages.length ≠ 64) (·.startRead false)

/-- Pages 0 to 3 have been read again: a serial that differs is a removal followed by a presence (R228). -/
def Dev.rescanned (d : Dev) (pages : List Byte) : Dev :=
  let p0 := pageOf pages 0
  if pageGood p0 && decide (BitVec.ofNat 64 (pageVal p0 0 8) ≠ d.packSerial) then
    (d.packGone tagAnswering).packRead d.pack.type pages
  else
    let d := (d.modPack fun x => { x with pages := [] }).readIdentity pages
    let life := newerLife (pageOf pages 2) (pageOf pages 3)
    let d := ((d.readLife life).judgeUsable).tagEol life
    (((d.gaugeReport).checkClamped).lampSync).chgUpdate

/-- PK_CTL.RESCAN. -/
def Dev.rescan (d : Dev) : Dev := d.when (d.gaugeOn && d.packPresent) (·.startRead true)

/-! ## Transactions (R233 to R237) -/

/-- The transaction under way leaves the queue. -/
def Dev.tagPop (d : Dev) : Dev := d.modPack fun x => { x with queue := x.queue.tail, busy := false, attempts := 0 }

/-- The transaction under way ends and the next one starts. -/
def Dev.tagNext (d : Dev) : Dev := d.tagPop.tagKick

/-- The transaction under way is followed at once by another. -/
def Dev.tagThen (d : Dev) (o : TagOp) : Dev :=
  (d.modPack fun x => { x with queue := o :: x.queue.tail, busy := false }).tagKick

/-- An attempt failed (R235): another one, or the transaction fails; PK_CFG.FAILLIM failed transactions in a row are a
removal (R226). -/
def Dev.attemptFailed (d : Dev) : Dev :=
  match d.pack.busy, d.pack.queue with
  | true, o :: _ =>
    let first := d.pack.good
    let d := ((d.bump PK_ERRCNT).pkSticky PK_STICKY.TAGERR).modPack fun x =>
      { x with good := false, attempts := x.attempts + 1, wake := true, lineAt := some d.now }
    let evt := if first then [212] else []
    if d.pack.attempts < 3 then d.raiseAll evt
    else
      let d := (d.pkSticky PK_STICKY.TAGLOST).modPack fun x => { x with fails := x.fails + 1 }
      let d := d.raiseAll (evt ++ if d.ntc ≠ ntcOpen then [211] else [])
      let d := (d.opFailed o).tagPop
      if d.packPresent && decide (max 1 (d.fld PK_CFG PK_CFG.FAILLIM) ≤ d.pack.fails) then d.packGone tagGone
      else d.tagKick
  | _, _ => d

/-- Bytes of a page into PK_XBUF. -/
def Dev.toBox (d : Dev) (bs : List Byte) : Dev :=
  (List.range 8).foldl (fun (d : Dev) i => d.wn (PK_XBUF i) (pageVal bs (2 * i) 2)) d

/-- A PING's TYPE: a type other than 0x31 makes the pack unusable (R227). -/
def Dev.pinged (d : Dev) (type : Byte) : Dev :=
  if !d.packPresent || d.pack.type = type then d
  else ((((d.modPack fun x => { x with type := type }).judgeUsable).checkClamped).lampSync).chgUpdate

/-- One of pages 0 to 3 has been read; with the last one a RESCAN is judged. -/
def Dev.pageRead (d : Dev) (p : Fin 4) (again : Bool) (data : List Byte) : Dev :=
  let d := d.modPack fun x => { x with pages := x.pages ++ data }
  if p.val < 3 then d.tagThen (.read (p + 1) again)
  else
    let pages := d.pack.pages
    let d := d.tagPop.setTag tagAnswering
    (d.when again (·.rescanned pages)).tagKick

/-- A good response with STATUS 0: its 16 data bytes, the TYPE of a PING, nothing for a WRITE. -/
def Dev.opDone (d : Dev) (o : TagOp) (data : List Byte) : Dev :=
  match o with
  | .ping => (d.pinged (data.headD 0)).tagNext
  | .read p again => d.pageRead p again data
  | .life => d.tagNext
  | .boxRead _ => ((d.toBox data).boxEnd (if pageGood data then 0 else 0xFF)).tagNext
  | .boxWrite p bs => d.tagThen (.verify p bs false)
  | .lifeWrite p bs => d.tagThen (.verify p bs true)
  | .verify p bs life =>
    if data ≠ bs then (d.opFailed o).tagNext
    else if life then
      let d := d.setFlag PK_STATUS PK_STATUS.LIFESEL (p = 3)
      (d.modPack fun x => { x with update := bs.getD 9 0, lifeOk := true }).tagNext
    else (d.boxEnd 0).tagNext

/-- A STATUS that is not retried (R234). -/
def Dev.opRefused (d : Dev) (o : TagOp) (status : Nat) : Dev :=
  match o with
  | .boxRead _ => (d.boxEnd status).tagNext
  | .boxWrite _ _ => ((d.boxEnd status).raise 223).tagNext
  | o => (d.opFailed o).tagNext

/-- TAG_RESPONSE: the half-bits of a response, judged by SYNC and bit coding, length, CRC-8 and STATUS. -/
def Dev.tagAnswer (d : Dev) (line : List Bool) : Dev :=
  match d.pack.busy, d.pack.queue with
  | true, o :: _ =>
    let bs := (lineBytes line).getD []
    let st := (bs.headD 0xFF).toNat
    let want := match o with
      | .ping => 3
      | .boxRead _ => if st = 0 then 18 else 2
      | .read _ _ => if st = 0 then 18 else 2
      | .verify _ _ _ => if st = 0 then 18 else 2
      | _ => 2
    let framed := bs.length = want && crc8 bs.dropLast = bs.getLastD 0
    if !framed || st = 1 || st = 4 || 5 < st then d.attemptFailed
    else
      let d := d.modPack fun x => { x with good := true, fails := 0, lineAt := some d.now }
      let d := d.when (d.packPresent && d.fld PK_STATUS PK_STATUS.TAG ≠ tagReading) (·.setTag tagAnswering)
      if st = 0 then d.opDone o ((bs.drop 1).take 16) else d.opRefused o st
  | _, _ => d

/-! ## Mailbox (R237) -/

/-- The bytes of PK_XBUF with the page CRC that the device computes. -/
def Dev.boxBytes (d : Dev) : List Byte :=
  let bs := ((List.range 8).flatMap fun i => bytesLE 2 (d.rn (PK_XBUF i))).take 15
  bs ++ [crc8 bs]

/-- A write of PK_XCTL: OP, PAGE and GO. -/
def Dev.writeXctl (d : Dev) (v : Word) : Dev :=
  let d := d.storeWord PK_XCTL PK_XCTL v
  let page : Fin 16 := Fin.ofNat 16 (PK_XCTL.PAGE.of v.toNat)
  if !v.getLsbD 15 || d.flag PK_XCTL PK_XCTL.BUSY || !d.gaugeOn then d
  else if !v.getLsbD 12 then (d.setFlag PK_XCTL PK_XCTL.BUSY true).tagPush (.boxRead page)
  else if page.val < 8 then d.wn PK_XSTAT 0xFE
  else (d.setFlag PK_XCTL PK_XCTL.BUSY true).tagPush (.boxWrite page d.boxBytes)

/-! ## Registers (R243) -/

/-- GG_CTL bits. -/
def Dev.ggUnanchor (d : Dev) : Dev := ((d.setFlag GG_STATUS GG_STATUS.ANCHORED false).spoil).gaugeReport
def Dev.ggCntclr (d : Dev) : Dev := d.zero [GG_LEARNCNT, GG_GAPCNT]
def Dev.writeGgCtl (d : Dev) (v : Word) : Dev :=
  let d := d.when (v.getLsbD 2) Dev.ggCntclr
  let d := d.when (v.getLsbD 1) Dev.ggUnanchor
  d.when (v.getLsbD 0 && d.gaugeOn) Dev.gaugeRecord

/-! ## Commands -/

/-- GAUGE_LOW_RATE: every result for 1 s has been below GG_ILOW (R212). -/
def execGaugeLowRate (s : State) : Host.Outcome State Fault Refusal :=
  s.step1 fun d => d.when (d.gaugeOn && (d.cmode = cmOff || d.cmode = cmReady) && d.quietLong)
    (·.setFlag GG_STATUS GG_STATUS.LOWRATE true)
/-- EMPTY_ANCHOR: the discharge current has stayed at or below GG_ETAPER for GG_ETIME in an open window (R216). -/
def execEmptyAnchor (s : State) : Host.Outcome State Fault Refusal :=
  s.step1 fun d => d.when (d.gaugeOn && d.taperLong) Dev.emptyAnchor
/-- GAUGE_CHECKPOINT: GG_CKPT minutes have passed (R223). -/
def execGaugeCheckpoint (s : State) : Host.Outcome State Fault Refusal := s.step1 fun d => d.when d.gaugeOn Dev.gaugeRecord
def execGgCkpt (acc : Acc) (s : State) : Host.Outcome State Fault Refusal :=
  s.step1 fun d => d.gate acc GG_CTL (·.writeGgCtl 1#16)
def execGgUnanchor (acc : Acc) (s : State) : Host.Outcome State Fault Refusal :=
  s.step1 fun d => d.gate acc GG_CTL Dev.ggUnanchor
def execGgCntclr (acc : Acc) (s : State) : Host.Outcome State Fault Refusal := s.step1 fun d => d.gate acc GG_CTL Dev.ggCntclr
/-- PACK_PRESENT, with the type that the tag holds and the pages that have been read (log entry 129). -/
def execPackPresent (type : Byte) (pages : List Byte) (s : State) : Host.Outcome State Fault Refusal :=
  s.step1 (·.packSeen type pages)
def execPackRemoval (s : State) : Host.Outcome State Fault Refusal := s.step1 Dev.packRemoved
def Dev.pkCntclr (d : Dev) : Dev := d.zero [PK_ERRCNT, PK_TXCNT]

/-- A write of PK_CTL (R228, R243). -/
def Dev.writePkCtl (d : Dev) (v : Word) : Dev := (d.when (v.getLsbD 1) Dev.pkCntclr).when (v.getLsbD 0) Dev.rescan

def execPkRescan (acc : Acc) (lo hi : Byte) (s : State) : Host.Outcome State Fault Refusal :=
  s.step1 fun d => d.gate acc PK_CTL (·.writePkCtl (hi ++ lo))
def execPkCntclr (acc : Acc) (s : State) : Host.Outcome State Fault Refusal := s.step1 fun d => d.gate acc PK_CTL Dev.pkCntclr
/-- PK_MAILBOX_READ: PK_XCTL with GO and OP 0. -/
def execPkMailboxRead (acc : Acc) (page : Fin 16) (s : State) : Host.Outcome State Fault Refusal :=
  s.step1 fun d => d.gate acc PK_XCTL (·.writeXctl (BitVec.ofNat 16 (0x8000 + page.val)))
/-- PK_MAILBOX_WRITE: PK_XCTL with GO and OP 1. -/
def execPkMailboxWrite (acc : Acc) (page : Fin 16) (s : State) : Host.Outcome State Fault Refusal :=
  s.step1 fun d => d.gate acc PK_XCTL (·.writeXctl (BitVec.ofNat 16 (0x9000 + page.val)))
/-- TAG_POLL: PK_CFG.POLL has passed (R236). -/
def execTagPoll (s : State) : Host.Outcome State Fault Refusal :=
  s.step1 fun d => d.when (d.gaugeOn && d.packPresent) (·.tagPush .ping)
/-- TAG_RESPONSE: what the tag drives on PACKID, in half-bits of 25 us, true for high. -/
def execTagResponse (line : List Bool) (s : State) : Host.Outcome State Fault Refusal :=
  s.step1 fun d => d.when d.gaugeOn (·.tagAnswer line)
/-- TAG_ATTEMPT_TIMEOUT: no presence pulse, no response in time, or a framing error. -/
def execTagAttemptTimeout (s : State) : Host.Outcome State Fault Refusal :=
  s.step1 fun d => d.when d.gaugeOn Dev.attemptFailed

end Sys2Proof.Machine
end

