-- ==== Sys2Proof/Machine/Thermal.lean ====
section
/-!
DEFINITION. Thermal sensing (16_thermal_and_protection.md, R397 to R405): readings, thermistors, die agreement, levels,
rates and the NV-write inhibit. The shutdown and LATCHED are in Machine/Latch.lean.
-/

namespace Sys2Proof.Machine

open Sys2Proof Sys2Proof.R

/-! ## Thermistors (R399, R400) -/

/-- Terms `t / (2i + 1)` of the series of atanh, each `t` being the one before times `z2`, at a scale of 2^60. -/
def atanhSum : Nat → Nat → Int → Int → Int
  | 0, _, _, _ => 0
  | n + 1, i, t, z2 => t / (2 * i + 1) + atanhSum n (i + 1) (t * z2 / 2 ^ 60) z2

/-- ln (num / den) at a scale of 2^60 for positive numbers: ln 2 once for each binary place, and 2 atanh z of the rest
(log entry 40). -/
def lnFix (num den : Nat) : Int :=
  let k : Int := (num.log2 : Int) - den.log2
  let a : Int := if 0 ≤ k then num else num * 2 ^ (-k).toNat
  let b : Int := if 0 ≤ k then den * 2 ^ k.toNat else den
  let z := (a - b) * 2 ^ 60 / (a + b)
  k * 799144290325165979 + 2 * atanhSum 24 0 z (z * z / 2 ^ 60)

/-- The temperature of R400 in 1/64 degree C to nearest, from the code, c_REF, TH_RPU, TH_R25 and BETA in kelvin. Where
the formula has no value the reading is free (log entry 2). -/
def thermTemp (c cref rpu r25 beta : Nat) : Word :=
  if c = 0 || cref ≤ c || rpu = 0 || r25 = 0 || beta = 0 then Config.noTemp (c + 4096 * cref)
  else
    let l := lnFix (rpu * c) ((cref - c) * r25)
    let den : Int := 100 * beta * 2 ^ 60 + 29815 * l
    if den ≤ 0 then Config.noTemp (c + 4096 * cref)
    else
      let num : Int := 64 * 29815 * beta * 2 ^ 60 * 100 - 64 * 27315 * den
      BitVec.ofInt 16 (fitS16 (divRound num (100 * den).toNat))

/-- c_REF: the latest result of entry 29. -/
def Dev.cref (d : Dev) : Nat := d.rn (MS_RESULT 29) % 4096

def Dev.thermistor (d : Dev) (s c : Nat) : Word :=
  thermTemp c d.cref (d.rn (TH_RPU s)) (d.rn (TH_R25 s)) (4 * d.fld (TH_SCFG s) TH_SCFG.BETA)

/-! ## Sensors -/

def Dev.modTherm (d : Dev) (s : Fin 15) (g : ThSensor → ThSensor) : Dev :=
  { d with therm := { d.therm with sensors := d.therm.sensors.set s (g d.therm.sensors[s]) } }

def Dev.thSticky (d : Dev) (f : Fld) : Dev := d.setFlag TH_STICKY f true

/-- TH_FLTMASK of a sensor: SENSOR_FAULT at each rise unless TH_SCFG masks it; the pack thermistor raises none. -/
def Dev.setFault (d : Dev) (s : Nat) (b : Bool) : Dev :=
  let was := d.mbit TH_FLTMASK s
  let d := d.setMbit TH_FLTMASK s b
  let d := d.setFlag TH_STATUS TH_STATUS.SENSFLT (d.rn TH_FLTMASK ≠ 0)
  d.when (b && !was && s < 14 && !d.flag (TH_SCFG s) TH_SCFG.FLTMASK) fun d => (d.thSticky TH_STICKY.SENSFLT).raise 235

/-- Events of a class: die, external, pack. -/
def levelEvent (s : Nat) : Nat := if s < 8 then 224 else if s < 14 then 226 else 228

/-- High and low state of a sensor (R402); one without a valid reading, or excluded, keeps none (log entry 41). -/
def Dev.sensorLevels (d : Dev) (s : Nat) : Dev :=
  match d.temp s, decide (s < 8) && d.mbit TH_FLTMASK s with
  | some t, false =>
    let hys := d.rs TH_HYS
    let wasHi := d.mbit TH_HIMASK s
    let wasLo := d.mbit TH_LOMASK s
    let hi := decide (d.rs (TH_HI s) < t) || (wasHi && !decide (t < d.rs (TH_HI s) - hys))
    let lo := decide (t < d.rs (TH_LO s)) || (wasLo && !decide (d.rs (TH_LO s) + hys < t))
    let d := (d.setMbit TH_HIMASK s hi).setMbit TH_LOMASK s lo
    let d := d.when ((hi && !wasHi) || (lo && !wasLo)) (·.thSticky TH_STICKY.LEVEL)
    let d := d.when (hi && !wasHi && d.flag (TH_SCFG s) TH_SCFG.HIEV) (·.raise (levelEvent s))
    d.when (lo && !wasLo && d.flag (TH_SCFG s) TH_SCFG.LOEV) (·.raise (levelEvent s + 1))
  | _, _ => (d.setMbit TH_HIMASK s false).setMbit TH_LOMASK s false

/-- A reading of sensor `s`, or none: TH_TEMP and the mean of R403. -/
def Dev.setTemp (d : Dev) (s : Fin 15) (t : Option Word) : Dev :=
  match t with
  | some w =>
    (d.wr (TH_TEMP s) w).modTherm s fun x => { x with sum := x.sum + w.toInt, cnt := x.cnt + 1 }
  | none => (d.wr (TH_TEMP s) 0x8000#16).modTherm s fun x => { x with broken := true }

/-! ## Die agreement, warning and inhibit (R401, R404, R405) -/

/-- The valid die readings, by sensor. -/
def Dev.dieTemps (d : Dev) : List (Nat × Int) := (List.range 8).filterMap fun s => (d.temp s).map fun t => (s, t)

/-- Temperatures in rising order. -/
def insertInt (t : Int) : List Int → List Int
  | [] => [t]
  | x :: xs => if t ≤ x then t :: x :: xs else x :: insertInt t xs

/-- Twice the median of some temperatures. -/
def median2 (ts : List Int) : Int :=
  let s := ts.foldr insertInt []
  s.getD ((s.length - 1) / 2) 0 + s.getD (s.length / 2) 0

/-- The NV-write inhibit rises or falls; a gauge record that waited is written (R223). -/
def Dev.syncInhibit (d : Dev) : Dev :=
  let was := d.flag TH_STATUS TH_STATUS.NVINH
  let now := d.flag TH_STATUS TH_STATUS.NVHOT || d.flag TH_STATUS TH_STATUS.NVCOLD
  let d := d.setFlag TH_STATUS TH_STATUS.NVINH now
  let d := d.syncWait
  if now && !was then ((d.bump TH_NVINHCNT).thSticky TH_STICKY.NVINH).raise 233
  else if was && !now then (d.raise 234).wNext
  else d

/-- What a new die reading decides: exclusions, the summary, the warning and the inhibit. -/
def Dev.judgeDie (d : Dev) : Dev :=
  let ts := d.dieTemps
  let m := median2 (ts.map fun x => x.2)
  let d := ts.foldl (fun (d : Dev) x => d.setFault x.1 (decide (1920 < (2 * x.2 - m).natAbs))) d
  let good := (ts.filter fun x => decide ((2 * x.2 - m).natAbs ≤ 1920)).map fun x => x.2
  match good with
  | [] => d.wr TH_DIEMAX 0x8000#16 |>.wr TH_DIEMIN 0x8000#16
  | t :: rest =>
    let hi := rest.foldl max t
    let lo := rest.foldl min t
    let d := (d.wi TH_DIEMAX hi).wi TH_DIEMIN lo
    let was := d.flag TH_STATUS TH_STATUS.WARN
    let warn := decide (d.rs TH_WARN < hi) || (was && !decide (hi < d.rs TH_WARN - d.rs TH_HYS))
    let d := d.setFlag TH_STATUS TH_STATUS.WARN warn
    let d := d.when (warn && !was) fun d => (d.thSticky TH_STICKY.WARN).raise 232
    let hot := decide (8640 < hi) || (d.flag TH_STATUS TH_STATUS.NVHOT && !decide (hi < 8320))
    let cold := decide (lo < -2560) || (d.flag TH_STATUS TH_STATUS.NVCOLD && decide (lo < -2432))
    ((d.setFlag TH_STATUS TH_STATUS.NVHOT hot).setFlag TH_STATUS TH_STATUS.NVCOLD cold).syncInhibit

/-! ## Results (R397, R398, R226) -/

/-- A result of a die sensor. -/
def Dev.dieResult (d : Dev) (s : Fin 15) (c : Nat) : Dev :=
  let d := (d.setTemp s (some (BitVec.ofInt 16 (((c : Int) - 1024) * 4)))).judgeDie
  (List.range 8).foldl (fun (d : Dev) x => d.when (decide (x = s.val) || d.mbit TH_FLTMASK x) (·.sensorLevels x)) d

/-- A result of TX0 to TX5: open and shorted inputs have no valid reading. -/
def Dev.txResult (d : Dev) (s : Fin 15) (c : Nat) : Dev :=
  let bad := d.cref ≤ c + 16 || c ≤ 16
  let d := d.setTemp s (if bad then none else some (d.thermistor s c))
  ((d.setFault s bad).sensorLevels s).chgUpdate

/-- A result of the pack thermistor: PK_STATUS.NTC, NTCSHORT and the pack's windows. -/
def Dev.ntcResult (d : Dev) (c : Nat) : Dev :=
  let s : Fin 15 := 14
  let isOpen := d.rn PK_NTCOPEN % 4096 ≤ c
  let isShort := c < d.rn PK_NTCSHORT % 4096
  let same := d.pack.ntcAt.isSome && decide (d.ntc = ntcOpen) == isOpen
  let d := d.setFld PK_STATUS PK_STATUS.NTC (if isShort then ntcShorted else if isOpen then ntcOpen else 0)
  let d := d.when (!same) (·.modPack fun x => { x with ntcAt := some d.now })
  let d := d.when isShort (·.pkSticky PK_STICKY.NTCSHORT)
  let d := d.setTemp s (if isOpen || isShort then none else some (d.thermistor s c))
  ((d.setFault s (isOpen || isShort)).sensorLevels s).judgePack.ntcJudged

/-- A result of a reserved entry 7 to 21. -/
def Dev.thermalResult (d : Dev) (e c : Nat) : Dev :=
  if e < 15 then d.dieResult (Fin.ofNat 15 (e - 7)) c
  else if e < 21 then d.txResult (Fin.ofNat 15 (e - 7)) c
  else d.ntcResult c

/-! ## Rates (R403) -/

/-- A rate state: `n` intervals of `diff` in 1/64 degree C, over `secs` seconds, against a limit per second. -/
def rateState (was : Bool) (diff limit secs : Int) : Bool :=
  if limit = 0 then false else decide (limit * secs < diff) || (was && decide (limit * secs < 2 * diff))

/-- The rates of one sensor after another mean. -/
def Dev.sensorRate (d : Dev) (s : Fin 15) : Dev :=
  let x := d.therm.sensors[s]
  let means := if x.cnt = 0 || x.broken then [] else (divRound x.sum x.cnt :: x.means).take 101
  let rate (was : Bool) (k : Nat) (lim secs : Int) : Bool :=
    if lim = 0 then false
    else match means[0]?, means[k]? with
      | some a, some b => rateState was (a - b) lim secs
      | _, _ => was
  let fast := rate x.fast 10 (d.rs (TH_RATE1 s)) 1
  let slow := rate x.slow 100 (d.rs (TH_RATE10 s)) 10
  let d := d.modTherm s fun _ => { sum := 0, cnt := 0, broken := false, means := means, fast := fast, slow := slow }
  let d := d.setMbit TH_RATEMASK s (fast || slow)
  let d := d.when ((fast && !x.fast) || (slow && !x.slow)) (·.thSticky TH_STICKY.RATE)
  d.raiseAll ((if fast && !x.fast && d.flag (TH_SCFG s) TH_SCFG.RATE1EV then [230] else []) ++
    if slow && !x.slow && d.flag (TH_SCFG s) TH_SCFG.RATE10EV then [231] else [])

/-- THERMAL_RATE_UPDATE: 100 ms have passed. -/
def Dev.rateUpdate (d : Dev) : Dev :=
  let d := (List.finRange 15).foldl Dev.sensorRate d
  d.setFlag TH_STATUS TH_STATUS.RATE (d.rn TH_RATEMASK ≠ 0)

/-! ## Commands -/

def execThermalRateUpdate (s : State) : Host.Outcome State Fault Refusal :=
  s.step1 fun d => d.when (d.meas.running && !d.latched) Dev.rateUpdate
/-- TH_CTL.CNTCLR. -/
def Dev.thCntclr (d : Dev) : Dev := d.zero [TH_SHUTCNT, TH_NVINHCNT, TH_LASTSHUT]
def execThCntclr (acc : Acc) (s : State) : Host.Outcome State Fault Refusal := s.step1 fun d => d.gate acc TH_CTL Dev.thCntclr

end Sys2Proof.Machine
end

