-- ==== Sys2Proof/Machine/Measure.lean ====
section
/-!
DEFINITION. The measurement commands (06_measurement.md): triggers, conversions and their consumers, urgent requests, plan
and sequence writes, rotation and the start-up pass.
-/

namespace Sys2Proof.Machine

open Sys2Proof Sys2Proof.R

/-- Measurement converts: after the start-up pass, and not in LATCHED (R174, R179). -/
def Dev.measOn (d : Dev) : Bool := d.meas.running && !d.latched

/-! ## Conversions (R161, R164, R165, R169, R170) -/

/-- The device's own consumers of a stored result (R127, R177): current sharing, the loops' sense entries, the drill, the
gauge, the thermal block and the supply monitors. Before the load only the thermal block and the supply monitors act. -/
def Dev.consume (d : Dev) (e code : Nat) (ovr resamp : Bool) (t : Nat) : Dev :=
  if !d.blocksRun then (if 7 ≤ e ∧ e < 22 then d.thermalResult e code else if e = 23 then d.vinResult else d)
  else
  let d := d.imonResult e code resamp
  let d := if h : 32 ≤ e ∧ e < 44 then (d.senseResult ⟨e - 32, by omega⟩ code ovr).pollLoop ⟨e - 32, by omega⟩ else d
  let d := d.pollAux e
  if e = 5 then d.gaugeCurrent code t
  else if e = 6 then d.gaugeVoltage code
  else if 7 ≤ e ∧ e < 22 then d.thermalResult e code
  else if e = 23 then d.vinResult
  else d

/-- A converter takes a seat, or goes to the bay. -/
def Dev.placeAdc (d : Dev) (a : Adc) (seat : Nat) : Dev :=
  let d := d.setFlag (MS_ADCSTAT a) MS_ADCSTAT.INBAY false
  (d.setFld (MS_ADCSTAT a) MS_ADCSTAT.QUAD (seat / 4)).setFld (MS_ADCSTAT a) MS_ADCSTAT.SEAT (seat % 4)
def Dev.toBay (d : Dev) (a : Adc) : Dev := d.setFlag (MS_ADCSTAT a) MS_ADCSTAT.INBAY true

/-- Converter `a` has ended a conversion of the seat `k`, whose last sample was taken at `t`: the seat is free 0.9 us later
(R150) for the urgent requests and the abandoned conversion that wait, or a converter that has left its seat enters the bay
(R173 t3). -/
def Dev.freeAdc (d : Dev) (a : Adc) (k : Fin 24) (t : Nat) : Dev :=
  let d := d.setConv a none
  if d.meas.leaving.contains a then
    ({ d with meas := { d.meas with leaving := d.meas.leaving.filter fun b => b ≠ a } }).toBay a
  else (d.modSeat k fun x => { x with freeAt := t + 720 }).startHeld k

/-- The last sample of a conversion is in: the result is stored if its instant is the newest, else discarded; a discarded one
leaves its run not done (R164, R169). -/
def Dev.finishConv (d : Dev) (a : Adc) (c : Conv) (t : Nat) : Dev :=
  let d := d.freeAdc a c.seat t
  let code := c.mean
  if d.newest c.entry t then
    let d := (d.storeResult c.entry a code c.ovr c.resamp t).consume c.entry code c.ovr c.resamp t
    d.when (!c.urgent) (·.entryDone c.entry c.seq c.run)
  else (d.bump MS_LATE_CNT).setFlag MS_STICKY MS_STICKY.LATE true

/-- What the seats have sampled when a sample of the instant `t` is reported. -/
def Dev.sampledAt (d : Dev) (t : Nat) : Dev := d.startSeats (min (t + 1) d.tickEnd)

/-- A sample of a conversion is in: the next one comes 0.9 us later (R161). -/
def Conv.take (c : Conv) (code : Nat) (ovr : Bool) : Conv :=
  { c with left := c.left - 1, taken := c.taken + 1, sum := c.sum + code, ovr := c.ovr || ovr, instant := c.instant + 720 }

/-- CONVERSION_DONE: one sample of entry `e` on converter `a`, which held its input at the instant `t` in counts of 1.25 ns
and has converted it by now (R150). The instant is the one that R159 to R161 give; a report of another entry, of another
instant or of one to come is none. -/
def Dev.convDone (d : Dev) (a : Adc) (e code : Nat) (ovr : Bool) (t : Nat) : Dev :=
  if !d.measOn then d
  else
    let d := d.sampledAt t
    match d.conv a with
    | none => d
    | some c =>
      if c.entry ≠ e || c.instant ≠ t || d.tickEnd < t + 720 then d
      else
        let c := c.take code ovr
        if c.left = 0 then d.finishConv a c t else d.setConv a (some c)

/-! ## Triggers (R158, R163, R177) -/

/-- Sequences whose source and selector match. -/
def Dev.seqsOn (d : Dev) (src sel : Nat) : List SeqNo :=
  (List.finRange 64).filter fun s =>
    d.fld (MS_SEQTRIG s) MS_SEQTRIG.SRC = src && d.fld (MS_SEQTRIG s) MS_SEQTRIG.SEL = sel

/-- A write of MS_TTCTL: a rising bit starts its timer at this tick (R163). -/
def Dev.writeTtctl (d : Dev) (v : Word) : Dev :=
  let on : Fin 16 → Bool := fun n => d.mbit MS_TTCTL n.val
  let x := Vector.ofFn fun (n : Fin 16) =>
    if !v.getLsbD n.val then none else if on n then d.meas.timers[n] else some { start := d.now, last := none }
  ({ d with meas := { d.meas with timers := x } }).storeWord MS_TTCTL MS_TTCTL v

/-- The period of a timer; 0 stops it. -/
def Dev.timerPer (d : Dev) (n : Fin 16) : Nat := d.rn32 (MS_TTPER n) % 2 ^ 24

/-- The tick at which a started timer ticks next: MS_TTOFS after its start, then each period after the last (R163; log entry
126). -/
def Dev.timerNext (d : Dev) (n : Fin 16) : Option Nat :=
  d.meas.timers[n].map fun (x : TimerSt) => match x.last with
    | none => x.start + d.rn (MS_TTOFS n)
    | some l => l + d.timerPer n

/-- The tick of timer `n` that has come by now, if one has. -/
def Dev.timerDue (d : Dev) (n : Fin 16) : Option Nat :=
  if d.timerPer n = 0 then none
  else match d.timerNext n with
    | none => none
    | some t => if d.now < t then none else some (t + (d.now - t) / d.timerPer n * d.timerPer n)

/-- The tick at which a timer's tick `t` falls: the restart, for one that a switch of CKD_TB has lost (R384). -/
def Dev.tickAt (d : Dev) (t : Nat) : Nat := if d.clock.restartAt < t + 6 then max t d.clock.restartAt else t

/-- TRIGGER_TIMER_TICK: the trigger falls on the timer's own tick, or on the restart of CKD_TB after it. -/
def Dev.timerTick (d : Dev) (n : Fin 16) : Dev :=
  if !(d.measOn && d.mbit MS_TTCTL n.val) then d
  else match d.timerDue n with
    | none => d
    | some t =>
      let x := d.meas.timers.set n (d.meas.timers[n].map fun (y : TimerSt) => { y with last := some t })
      ({ d with meas := { d.meas with timers := x } }).triggerAll (d.seqsOn 1 n.val) (800 * d.tickAt t)

/-- PWM_EDGE_TRIGGER: an edge of phase `m`, `frac` counts into the tick; a phase without a pulse has no edges. -/
def Dev.edgeTrigger (d : Dev) (m : Phase) (edge : Fin 3) (frac : Nat) : Dev :=
  if d.measOn && (d.phase m).onTime ≠ 0 then
    d.triggerAll ((d.seqsOn 2 m.val).filter fun (s : SeqNo) => d.fld (MS_SEQTRIG s) MS_SEQTRIG.EDGE = edge.val)
      (d.tickStart + frac)
  else d

/-! ## Sequences and the plan (R156, R157, R162) -/

/-- A write of MS_SEQTRIG; sequences 56 to 63 are read-only. -/
def Dev.writeSeqTrig (d : Dev) (s : SeqNo) (v : Word) : Dev :=
  let a := MS_SEQTRIG s
  if 56 ≤ s.val then d
  else if v.getLsbD 15 then
    if trigInvalid v || (d.seqEntries s.val).any d.entryInvalid then
      ((d.stopSeq s).storeWord a a (v &&& 0x7FFF#16)).setFlag MS_STICKY MS_STICKY.SEQREF true
    else (d.modSeq s fun x => { x with div := 0 }).storeWord a a v
  else (d.stopSeq s).storeWord a a v

/-- A write of MS_SEQDIV. -/
def Dev.writeSeqDiv (d : Dev) (s : SeqNo) (v : Word) : Dev :=
  if 56 ≤ s.val then d else d.storeWord (MS_SEQDIV s) (MS_SEQDIV s) v

/-- The page of an accessor's plan window (R155). -/
def Dev.planPage (d : Dev) (acc : Acc) : Nat := d.rn (accKey acc.ownSet MS_PLANPAGE) % 16

/-- The plan entry that address `a` of the window shows to an accessor. -/
def Dev.planEntry (d : Dev) (acc : Acc) (a : Nat) : Nat := 128 * d.planPage acc + (a - 0x4800) / 16 % 128

/-- A write of the word at offset `off` of entry `e`: an entry of an enabled sequence keeps its control, sequence and delay
(R157). -/
def Dev.writeEntry (d : Dev) (e off : Nat) (v : Word) : Dev :=
  if off < 6 && d.flag (MS_PECTL e) MS_PECTL.VALID && d.seqEnabled (d.entrySeq e) then
    d.setFlag MS_STICKY MS_STICKY.PLANWREF true
  else d.storeWord (MS_PECTL e + off) (MS_PECTL e + off) v

/-- A write in the plan window: entries 0 to 63 are the loader's. -/
def Dev.writePlan (d : Dev) (acc : Acc) (a : Nat) (v : Word) : Dev :=
  let e := d.planEntry acc a
  if e < 64 || a < 0x4800 || 0x5000 ≤ a then d else d.writeEntry e (a % 16 / 2 * 2) v

/-- MS_URGENT: ENTRY is kept, and GO issues the request. -/
def Dev.writeUrgent (d : Dev) (acc : Acc) (v : Word) : Dev :=
  let d := d.storeWord (accKey acc.ownSet MS_URGENT) MS_URGENT v
  d.when (v.getLsbD 15 && !d.latched) fun d =>
    let i := acc.index
    d.urgent (MS_URGENT.ENTRY.of v.toNat) ⟨i.val, by omega⟩

/-- MS_SWTRIG. -/
def Dev.writeSwtrig (d : Dev) (v : Word) : Dev := d.when (v.getLsbD 15 && !d.latched) (·.swTrigger (v.toNat % 64))

def Dev.msCntclr (d : Dev) : Dev := d.zero [MS_LATE_CNT, MS_SLIPCNT, MS_OVRCNT, MS_RESAMPCNT]

/-! ## Results (R167, R168) -/

/-- A result register as a reader sees it. -/
def Dev.resultWord (d : Dev) (set : Nat) (e : Nat) : Word :=
  d.rd (MS_RESULT e) ||| (if natBit (d.rn (newKey e)) set then 0x8000#16 else 0)

/-- The reader's high-byte read clears its own NEW. -/
def Dev.clearNew (d : Dev) (set : Nat) (e : Nat) : Dev :=
  d.wr (newKey e) (d.rd (newKey e) &&& ~~~((1 : Word) <<< set))

/-! ## Rotation and calibration (R172 to R175) -/

/-- The seat at a rotation position of a ring, and the field and flag of the ring in MS_STATUS. -/
def ringSeat (ring : Fin 2) (p : Nat) : Nat := 12 * ring.val + p
def ringNext (ring : Fin 2) : Fld := if ring = 0 then MS_STATUS.NEXTA else MS_STATUS.NEXTB
def ringStop (ring : Fin 2) : Fld := if ring = 0 then MS_STATUS.ROTASTOP else MS_STATUS.ROTBSTOP

/-- The converters of a ring. -/
def ringAdcs (ring : Fin 2) : List Adc := (List.finRange 24).filter fun a => a.val / 12 = ring.val

def Dev.retired (d : Dev) (a : Adc) : Bool := d.flag (MS_ADCSTAT a) MS_ADCSTAT.RETIRED

/-- The converter in the bay of a ring. -/
def Dev.bayAdc (d : Dev) (ring : Fin 2) : Option Adc :=
  (ringAdcs ring).find? fun a => d.flag (MS_ADCSTAT a) MS_ADCSTAT.INBAY && !d.retired a

/-- A converter leaves its seat: for the bay, or first for the conversion that it has under way (R173 t2, t3). -/
def Dev.leaveSeat (d : Dev) (a : Adc) : Dev :=
  if (d.conv a).isSome then { d with meas := { d.meas with leaving := a :: d.meas.leaving } } else d.toBay a

/-- A converter is retired (R175). -/
def Dev.retire1 (d : Dev) (a : Adc) : Dev :=
  let d := (d.toBay a).setFlag (MS_ADCSTAT a) MS_ADCSTAT.RETIRED true
  (d.setFlag MS_STICKY MS_STICKY.CALFAIL true).setFlag MS_STATUS MS_STATUS.DEGRADED true

/-- A bay calibration is complete; SETTLING ends when every converter has had one. -/
def Dev.calibrated (d : Dev) (a : Adc) : Dev :=
  let rest := d.meas.uncal.filter fun b => b ≠ a
  let d := { d with meas := { d.meas with uncal := rest, calAt := d.meas.calAt.set a d.now } }
  d.when rest.isEmpty (·.setFlag MS_STATUS MS_STATUS.SETTLING false)

/-- ROTATION_STEP of a ring; `good` is whether the calibration in the bay gave corrections inside their range. -/
def Dev.rotate (d : Dev) (ring : Fin 2) (good : Bool) : Dev :=
  if !d.measOn || d.flag MS_STATUS (ringStop ring) then d
  else match d.bayAdc ring with
    | none => d
    | some b =>
      if !good then
        let d := { d with meas := { d.meas with uncal := d.meas.uncal.filter fun a => a ≠ b } }
        ((d.retire1 b).setFlag MS_STATUS (ringStop ring) true).raise 191
      else
        let d := d.startSeats d.tickStart
        let k := d.fld MS_STATUS (ringNext ring)
        let seat := ringSeat ring k
        let leaves := d.seatAdc (Fin.ofNat 24 seat)
        let d := match leaves with
          | some a => d.leaveSeat a
          | none => d
        let d := (d.calibrated b).placeAdc b seat
        let d := (d.bumpWrap MS_MIGCNT).setFld MS_STATUS (ringNext ring) ((k + 1) % 11)
        let seat : Fin 24 := Fin.ofNat 24 seat
        (d.modSeat seat fun x => { x with freeAt := max x.freeAt d.tickStart }).startHeld seat

/-- Converters that pass fill the ring's seats in rotation order; the next one stands in the bay. -/
def Dev.fillRing (d : Dev) (ring : Fin 2) (failed : BitVec 24) : Dev :=
  let bad := (ringAdcs ring).filter fun a => failed.getLsbD a.val
  if bad.isEmpty then d
  else
    let d := bad.foldl Dev.retire1 d
    let good := (ringAdcs ring).filter fun a => !failed.getLsbD a.val
    let d := (List.range 11).foldl (fun (d : Dev) p =>
      match good[p]? with
      | some a => d.placeAdc a (ringSeat ring p)
      | none => d) d
    let d := match good[11]? with
      | some a => d.toBay a
      | none => d.setFlag MS_STATUS (ringStop ring) true
    d.when (decide (good.length < 11)) (·.setFlag MS_STICKY MS_STICKY.UNSERVED true)

/-! ## The reserved plan (R177) -/

/-- MS_PECTL of a reserved entry with quad, seat and AVG; MS_PESEQ with its sequence and SYNC. -/
def Dev.reservedEntry (d : Dev) (e quad seat avg seq : Nat) (sync : Bool) : Dev :=
  (d.wn (MS_PECTL e) (0x8000 + quad * 0x1000 + seat * 0x400 + avg * 0x80 + e)).wn (MS_PESEQ e)
    (seq * 0x400 + if sync then 0x200 else 0)

/-- Entries 0 to 29 and 32 to 43, and sequences 56 to 60. They stand from the end of the start-up pass on, because the boot
waits on their temperatures (R336; log entry 45). -/
def Dev.reservedPlan (d : Dev) : Dev :=
  let d := (List.range 4).foldl (fun (d : Dev) e => d.reservedEntry e 0 e 0 56 (e ≠ 0)) d
  let d := d.reservedEntry 4 1 3 0 56 true
  let d := (d.reservedEntry 5 1 0 2 57 false).reservedEntry 6 1 1 2 57 true
  let d := (List.range 15).foldl (fun (d : Dev) i => d.reservedEntry (7 + i) 1 2 0 58 false) d
  let d := (List.range 8).foldl (fun (d : Dev) i => d.reservedEntry (22 + i) 1 2 0 59 false) d
  let d := (List.range 12).foldl (fun (d : Dev) i => d.reservedEntry (32 + i) 2 0 0 60 false) d
  (List.range 5).foldl (fun (d : Dev) i => d.wn (MS_SEQTRIG (56 + i)) 0x8000) d

/-! ## The start-up pass (R174) -/

/-- STARTUP_PASS_DONE: the converters that failed it, one bit each. -/
def Dev.startupPass (d : Dev) (failed : BitVec 24) : Dev :=
  if d.meas.running || !d.tbRuns then d
  else
    let d := (d.reservedPlan.fillRing 0 failed).fillRing 1 failed
    let d := d.setFlag MS_STATUS MS_STATUS.SETTLING true
    let d := { d with meas := { d.meas with
      running := true, calAt := Vector.replicate 24 d.now,
      uncal := (List.finRange 24).filter fun a => !failed.getLsbD a.val } }
    d.when (failed ≠ 0) (·.raise 191)

/-! ## Commands -/

def execTriggerTimerTick (n : Fin 16) (s : State) : Host.Outcome State Fault Refusal := s.step1 (·.timerTick n)
def execPwmEdgeTrigger (m : Phase) (edge : Fin 3) (frac : Fin 800) (s : State) : Host.Outcome State Fault Refusal :=
  s.step1 (·.edgeTrigger m edge frac.val)
def execMsSwtrig (acc : Acc) (v : BitVec 16) (s : State) : Host.Outcome State Fault Refusal :=
  s.step1 fun d => d.gate acc MS_SWTRIG (·.writeSwtrig v)
def execConversionDone (a : Adc) (e : Entry) (code : BitVec 12) (ovr : Bool) (t : BitVec 64) (s : State) :
    Host.Outcome State Fault Refusal :=
  s.step1 (·.convDone a e.val code.toNat ovr t.toNat)
/-- MS_URGENT with GO for entry `e`. -/
def execMsUrgent (acc : Acc) (e : Entry) (s : State) : Host.Outcome State Fault Refusal :=
  s.step1 fun d => d.gate acc MS_URGENT (·.writeUrgent acc (BitVec.ofNat 16 (0x8000 + e.val)))
/-- MS_SEQTRIG written with EN = 1, whatever bit 15 of the operand says. -/
def execMsSeqEnable (acc : Acc) (n : SeqNo) (v : BitVec 16) (s : State) : Host.Outcome State Fault Refusal :=
  s.step1 fun d => d.gate acc (MS_SEQTRIG n) (·.writeSeqTrig n (v ||| 0x8000#16))
/-- MS_SEQTRIG written with EN = 0. -/
def execMsSeqDisable (acc : Acc) (n : SeqNo) (v : BitVec 16) (s : State) : Host.Outcome State Fault Refusal :=
  s.step1 fun d => d.gate acc (MS_SEQTRIG n) (·.writeSeqTrig n (v &&& 0x7FFF#16))
def execMsPlanWrite (acc : Acc) (addr v : BitVec 16) (s : State) : Host.Outcome State Fault Refusal :=
  s.step1 fun d => d.gate acc addr.toNat (·.writePlan acc addr.toNat v)
def execMsTtctlWrite (acc : Acc) (v : BitVec 16) (s : State) : Host.Outcome State Fault Refusal :=
  s.step1 fun d => d.gate acc MS_TTCTL (·.writeTtctl v)
def execMsCntclr (acc : Acc) (s : State) : Host.Outcome State Fault Refusal := s.step1 fun d => d.gate acc MS_CTL Dev.msCntclr
/-- MS_RESULT_READ: a whole read of a result register; a port sends the word, and the reader's NEW is cleared. -/
def execMsResultRead (acc : Acc) (e : Entry) (s : State) : Host.Outcome State Fault Refusal :=
  s.step1 fun d => d.when (d.mayRead acc) fun d =>
    let w := d.resultWord acc.sharedSet e.val
    let d := match acc with
      | .port p => { d with ports := d.ports.set p { d.ports[p] with tx := bytesLE 2 w.toNat } }
      | .furrow _ => d
    d.clearNew acc.sharedSet e.val
def execRotationStep (ring : Fin 2) (good : Bool) (s : State) : Host.Outcome State Fault Refusal :=
  s.step1 (·.rotate ring good)
def execStartupPassDone (failed : BitVec 24) (s : State) : Host.Outcome State Fault Refusal := s.step1 (·.startupPass failed)
/-- RESERVED_SEQUENCE_TRIGGER of sequence 57 + n. -/
def execReservedSequenceTrigger (n : Fin 4) (s : State) : Host.Outcome State Fault Refusal :=
  s.step1 fun d => d.when d.measOn (·.triggerAll [Fin.ofNat 64 (57 + n.val)] d.tickStart)

end Sys2Proof.Machine
end

