-- ==== Sys2Proof/Machine/Ports.lean ====
section
/-!
DEFINITION. Ownership and the attention request of the host ports (12_host_ports_and_ownership.md): claims, elections,
leases, handovers, attention frames and time-outs. The data transactions are in Machine/Bus.lean.
-/

namespace Sys2Proof.Machine

open Sys2Proof Sys2Proof.R

/-- Flags of a port's own ID_MYSTAT. -/
def Dev.setMy (d : Dev) (p : Port) (f : Fld) (b : Bool) : Dev := d.setFlag (accKey p ID_MYSTAT) f b

/-- The device's port address (R310). -/
def Dev.portAddr (d : Dev) : Nat := d.fld ID_STRAP ID_STRAP.ADDR

/-- A port's PEC setting and the data bytes of a PEC read (R316). -/
def Dev.pecOn (d : Dev) (p : Port) : Bool := d.flag (accKey p ID_PCFG) ID_PCFG.PEC
def Dev.pecLen (d : Dev) (p : Port) : Nat := max 1 (d.fld (accKey p ID_PCFG) ID_PCFG.PECLEN)

/-! ## Ownership commands -/

/-- A claim of port `p` (R319, R321). -/
def Dev.claim (d : Dev) (p : Port) (v : BitVec 32) : Dev :=
  let c : Claim := { prio := (v >>> 13).setWidth 3, lease := v.setWidth 10, nonce := (v >>> 16).setWidth 16 }
  if c.lease = 0 ∨ 600 < c.lease.toNat then d.setMy p ID_MYSTAT.CLREF true
  else
    let d := (d.setMy p ID_MYSTAT.CLREF false).setMy p ID_MYSTAT.LOST false
    match d.own.offer with
    | some q =>
      if p = q then ({ d with own := { d.own with offer := none } }).ownLease p c
      else { d with own := { d.own with claims := d.own.claims.set p (some c) } }
    | none =>
      let d := { d with own := { d.own with claims := d.own.claims.set p (some c) } }
      if d.own.elect then d else d.openWindow

/-- The priority with which port `p` stands in the election: its claim, and the owner at its held priority while
ownership is leased (R319). -/
def Dev.standing (d : Dev) (p : Port) : Option Nat :=
  let held := if d.own.leased && d.isOwner p then some d.own.prio.toNat else none
  match d.own.claims[p], held with
  | some c, some h => some (max c.prio.toNat h)
  | some c, none => some c.prio.toNat
  | none, h => h

/-- The winner: highest priority, lowest port among equals (R319). -/
def Dev.winner (d : Dev) : Option Port :=
  (List.finRange 3).foldl (fun w p =>
    match w, d.standing p with
    | none, some _ => some p
    | some q, some x => if (d.standing q).getD 0 < x then some p else some q
    | w, none => w) none

/-- The election window closes (R319), after its 10 ms. A change of owner that an expiry in the window has made is reported
here, once with what the decision changes (R330). -/
def Dev.electionEnd (d : Dev) : Dev :=
  if !(d.own.elect && d.tbRuns && decide (d.own.electEnd ≤ d.now)) then d
  else
    let w := d.winner
    let lost := (List.finRange 3).filter fun p => (d.standing p).isSome && w ≠ some p
    let won := w.bind fun p => d.own.claims[p]
    let due := d.own.changeDue
    let own := { d.own with elect := false, claims := Vector.replicate 3 none, changeDue := false }
    let d := lost.foldl (fun d p => d.setMy p ID_MYSTAT.LOST true) { d with own := own }
    let old := d.own.port
    let d := match w, won with
      | some p, some c => d.ownLease p c
      | _, _ => d
    (d.when (due && decide (d.own.port = old)) (·.raise 16)).trimMissed

/-- A renewal by port `p` (R320). -/
def Dev.renew (d : Dev) (p : Port) (nonce : BitVec 16) : Dev :=
  if d.own.leased && d.isOwner p && nonce = d.own.nonce then
    let d := { d with own := { d.own with leaseEnd := d.now + 100000 * d.own.lease.toNat } }
    (d.modPort p fun x => { x with leaseCause := false, missed := x.missed &&& ~~~0x1000#16 }).setMy p ID_MYSTAT.CLREF false
  else d.setMy p ID_MYSTAT.CLREF true

/-- A release by port `p`: only the owner's acts (R320). -/
def Dev.release (d : Dev) (p : Port) : Dev := if d.isOwner p then d.ownDefault else d

/-- An offer by port `p` to port `succ` (R321). -/
def Dev.offerTo (d : Dev) (p : Port) (succ : BitVec 2) : Dev :=
  if h : succ.toNat < 3 then
    if d.isOwner p && succ.toNat ≠ p.val && d.own.leased && d.own.offer.isNone && !d.own.elect then
      { d with own := { d.own with offer := some ⟨succ.toNat, h⟩, offerEnd := d.now + 1000000 } }
    else d.setMy p ID_MYSTAT.CLREF true
  else d.setMy p ID_MYSTAT.CLREF true

/-- The gate of the ownership block: a port writes it whenever the ports answer (R317); furrows never do (R253). -/
def Dev.portWrites (d : Dev) (p : Port) (eff : Dev → Dev) : Dev := if d.portsAnswer then eff (d.dropHeld (.port p)) else d

def execIdClaim (p : Port) (v : BitVec 32) (s : State) : Host.Outcome State Fault Refusal :=
  s.step1 fun d => d.portWrites p (·.claim p v)
def execElectionDecide (s : State) : Host.Outcome State Fault Refusal := s.step1 Dev.electionEnd
def execIdRenew (p : Port) (nonce : BitVec 16) (s : State) : Host.Outcome State Fault Refusal :=
  s.step1 fun d => d.portWrites p (·.renew p nonce)

/-- LEASE_EXPIRY (R320): the lease, which runs on the timebase, has run out. -/
def execLeaseExpiry (s : State) : Host.Outcome State Fault Refusal :=
  s.step1 fun d => d.when (d.own.leased && d.tbRuns && decide (d.own.leaseEnd ≤ d.now)) Dev.ownExpire
def execOwnerRelease (p : Port) (s : State) : Host.Outcome State Fault Refusal :=
  s.step1 fun d => d.portWrites p (·.release p)
def execHandoverOffer (p : Port) (succ : BitVec 2) (s : State) : Host.Outcome State Fault Refusal :=
  s.step1 fun d => d.portWrites p (·.offerTo p succ)

/-- HANDOVER_LAPSE (R321): no claim came from the successor within 1 s. -/
def execHandoverLapse (s : State) : Host.Outcome State Fault Refusal :=
  s.step1 fun d => d.when (d.own.offer.isSome && d.tbRuns && decide (d.own.offerEnd ≤ d.now)) fun d =>
    ({ d with own := { d.own with offer := none } }).ownEvents [19]

/-- Less than a quarter of the lease remains (R326). -/
def Dev.nearlySpent (d : Dev) : Bool := 4 * (d.own.leaseEnd - d.now) < 100000 * d.own.lease.toNat

/-- LEASE_NEARLY_SPENT (R326): the LEASE cause becomes present on the owner port. -/
def execLeaseNearlySpent (s : State) : Host.Outcome State Fault Refusal :=
  s.step1 fun d => d.when (d.own.leased && d.tbRuns && d.nearlySpent) fun d =>
    d.modPort d.own.port fun x => { x with leaseCause := true }

/-! ## Attention (R323 to R325) -/

/-- The device holds SDA low for attention, or releases it: the bus is busy while it does (R332). -/
def Dev.holdSda (d : Dev) (p : Port) (b : Bool) : Dev :=
  (d.setFlag (HP_STATUS p) HP_STATUS.ATNHOLD b).setFlag (HP_STATUS p) HP_STATUS.BUSY b

/-- ATTN_REQUEST: a port with ATTNEN and a cause, whose bus is idle, pulls SDA low (R323). -/
def execAttnRequest (p : Port) (s : State) : Host.Outcome State Fault Refusal :=
  s.step1 fun d =>
    d.when (d.portsAnswer && d.flag (accKey p ID_PCFG) ID_PCFG.ATTNEN && d.causes p ≠ 0 &&
        !d.flag (HP_STATUS p) HP_STATUS.BUSY && !d.flag (HP_STATUS p) HP_STATUS.ATNHOLD) (·.holdSda p true)

/-- ATTN_MISS: t_ATN ends without SCL falling (R323). -/
def execAttnMiss (p : Port) (s : State) : Host.Outcome State Fault Refusal :=
  s.step1 fun d =>
    d.when (d.portsAnswer && d.flag (HP_STATUS p) HP_STATUS.ATNHOLD) fun d =>
      let fresh := d.causes p &&& ~~~(d.port p).missed
      let d := (d.modPort p fun x => { x with missed := x.missed ||| d.causes p }).holdSda p false
      let d := (d.bump (HP_ATNMISS p)).setFlag (HP_STICKY p) HP_STICKY.ATNMISS true
      d.when (fresh ≠ 0) fun d => d.raisePort p 23

/-- The bytes of an answer frame (R324): the address with R, HP_ATNSTAT, and the PEC where it is on. -/
def Dev.answerFrame (d : Dev) (p : Port) : List Byte :=
  let st := d.atnStat p
  let body : List Byte := [BitVec.ofNat 8 (2 * d.portAddr + 1), loByte st, hiByte st]
  if d.pecOn p then body ++ [crc8 body] else body

/-- The first `n` bytes that go out of a list: 0xFF after its end (R316, R324). -/
def padTo (n : Nat) (l : List Byte) : List Byte := l.take n ++ List.replicate (n - l.length) 0xFF#8

/-- The controller acknowledges byte 2 of an answer frame: OWN clears (R324). -/
def Dev.answered (d : Dev) (p : Port) : Dev :=
  (d.modPort p fun x => { x with ownCause := false, missed := 0 }).bump (HP_ATNCNT p)

/-- ATTN_ANSWER: the controller clocks `n` bytes of the answer frame, each but the last acknowledged and the last as `ack`
says; bytes beyond the frame are 0xFF (R324). `won` is byte 1 without loss of arbitration (R325). -/
def execAttnAnswer (p : Port) (won : Bool) (n : Nat) (ack : Bool) (s : State) : Host.Outcome State Fault Refusal :=
  s.step1 fun d =>
    d.when (d.portsAnswer && d.flag (HP_STATUS p) HP_STATUS.ATNHOLD) fun d =>
      let d := d.holdSda p false
      if !won then d
      else
        let frame := d.answerFrame p
        let d := d.modPort p fun x => { x with tx := padTo n frame }
        d.when (decide (2 < n) || (decide (n = 2) && ack)) (·.answered p)

/-- HP_ATNSTAT_READ: the port reads the high byte of its own HP_ATNSTAT, which clears OWN (R326). -/
def execHpAtnstatRead (p : Port) (s : State) : Host.Outcome State Fault Refusal :=
  s.step1 fun d => d.when d.portsAnswer fun d =>
    (d.modPort p fun x => { x with tx := [hiByte (d.atnStat p)] }).seenOwn p

/-! ## Time-outs and counters -/

/-- What a port holds of a transaction is given up. -/
def PortSt.quiet (x : PortSt) : PortSt := { x with dir := .idle, rx := [], refused := false, wire := [], sent := 0 }

/-- The ports go quiet: the transactions and attention requests under way are given up (R329, R451). -/
def Dev.portsQuiet (d : Dev) : Dev :=
  let d := { d with ports := d.ports.map PortSt.quiet }
  (List.finRange 3).foldl (fun (d : Dev) (p : Port) =>
    (d.holdSda p false).setFlag (HP_STATUS p) HP_STATUS.XFER false) d

/-- A stretch can be cut off now: the transaction under way waits for the register space (R314). A read waits while it has
data bytes to send; a write once its pointer is there. -/
def Dev.stretches (d : Dev) (p : Port) (written : Bool) : Bool :=
  let x := d.port p
  d.tbRuns && d.portsAnswer && d.flag (HP_STATUS p) HP_STATUS.XFER &&
    if written then decide (x.dir = .write) && decide (2 ≤ x.rx.length)
    else decide (x.dir = .read) && (!x.pec || decide (x.sent < d.pecLen p))

/-- HP_STRETCH_TIMEOUT (R314): the stretch is cut off. The byte that a read waits for goes out as 0xFF, and the pointer moves
past it; a written byte gets NACK and is not written. The cut-off is timed on the timebase, so it does not act where that
stands still (R335). -/
def execHpStretchTimeout (p : Port) (written : Option Byte) (s : State) : Host.Outcome State Fault Refusal :=
  s.step1 fun d => d.when (d.stretches p written.isSome) fun d =>
    (d.modPort p fun x =>
      match written with
      | none => { x with tx := [0xFF#8], ptr := x.ptr + 1, sent := x.sent + 1, wire := x.wire ++ [0xFF#8] }
      | some b => { x with acks := [false], wire := x.wire ++ [b] }).setFlag (HP_STICKY p) HP_STICKY.LATE true

/-- HP_BUS_TIMEOUT (R315): with TOEN, the port releases the bus and waits for the next START. The bus is not idle before a
STOP (R323). -/
def execHpBusTimeout (p : Port) (s : State) : Host.Outcome State Fault Refusal :=
  s.step1 fun d => d.when (d.tbRuns && d.portsAnswer && d.flag (HP_CFG p) HP_CFG.TOEN) fun d =>
    let d := ((d.modPort p PortSt.quiet).holdSda p false).setFlag (HP_STATUS p) HP_STATUS.XFER false
    let d := d.setFlag (HP_STATUS p) HP_STATUS.BUSY true
    ((d.setFlag (HP_STICKY p) HP_STICKY.TIMEOUT true).bump (HP_TOCNT p)).raisePort p 22

/-- HP_CTL.CNTCLR (R332): the counters of all three ports. -/
def Dev.hpCntclr (d : Dev) : Dev :=
  d.zero ((List.range 3).flatMap fun n =>
    [HP_XFERCNT n, HP_REFCNT n, HP_PECCNT n, HP_ATNCNT n, HP_ATNMISS n, HP_TOCNT n])
def execHpCntclr (acc : Acc) (s : State) : Host.Outcome State Fault Refusal := s.step1 fun d => d.gate acc HP_CTL Dev.hpCntclr

end Sys2Proof.Machine
end

