-- ==== Sys2Proof/Machine/View.lean ====
section
/-!
DEFINITION. What each register reads as (R9, R10): the register file, and the registers that show other state (R353 for the
NV window, R375 for the recorder windows, R155 for the plan window). No read has an effect here; those are in
Machine/Access.lean.
-/

namespace Sys2Proof.Machine

open Sys2Proof Sys2Proof.R

/-- Word `i` of a wide value. -/
def wordAt (v i : Nat) : Word := BitVec.ofNat 16 (v / 65536 ^ i)

/-- A number with weight `w` when a condition holds. -/
def bitIf (b : Bool) (w : Nat) : Nat := if b then w else 0

/-- Time left until an instant, in units of `u` ticks. -/
def Dev.leftTo (d : Dev) (t u : Nat) : Nat := (t - d.now) / u

/-! ## Ownership and ports (R332) -/

def Dev.viewOwner (d : Dev) : Word :=
  BitVec.ofNat 16 (bitIf d.own.offer.isSome 0x4000 + bitIf d.own.elect 0x2000 + bitIf d.own.leased 0x1000 +
    (match d.own.offer with | some p => 256 * p.val | none => 0) + 16 * d.own.prio.toNat + d.own.port.val)

def Dev.viewElect (d : Dev) : Word :=
  let claims := (List.finRange 3).foldl (fun a p => a + bitIf (d.own.claims[p]).isSome (2 ^ p.val)) 0
  BitVec.ofNat 16 (256 * (if d.own.elect then d.leftTo d.own.electEnd 1000 else 0) + claims)

def Dev.viewMystat (d : Dev) (acc : Acc) : Word :=
  match acc with
  | .furrow _ => 0
  | .port p => BitVec.ofNat 16 (d.rn (accKey p ID_MYSTAT) + bitIf (d.own.offer = some p) 8 +
      bitIf (d.own.claims[p]).isSome 2 + bitIf (d.isOwner p) 1)

def Dev.viewId (d : Dev) (acc : Acc) (a : Nat) : Word :=
  if 4 ≤ a ∧ a < 12 then Config.uid ((a - 4) / 2)
  else if a = ID_PORT then BitVec.ofNat 16 acc.source.val
  else if a = ID_OWNER then d.viewOwner
  else if a = ID_ONONCE then d.own.nonce
  else if a = ID_LEASE then d.own.lease.setWidth 16
  else if a = ID_LEFT then BitVec.ofNat 16 (if d.own.leased then d.leftTo d.own.leaseEnd 10000 else 0)
  else if a = ID_ELECT then d.viewElect
  else if a = ID_PCFG then d.rd (accKey acc.ownSet ID_PCFG)
  else if a = ID_MYSTAT then d.viewMystat acc
  else d.rd a

/-- The attention outputs are driven: high-impedance without VIO, before t10 of the boot path and in NEWT (R437, R451). -/
def Dev.attnDriven (d : Dev) : Bool := d.pins.vio && (d.latched || d.blocksRun)

/-- The attention outputs (R327). -/
def Dev.viewPinstat (d : Dev) : Word :=
  let inband := (List.finRange 3).foldl (fun a p => a + bitIf (d.causes p ≠ 0) (16 * 2 ^ p.val)) 0
  let pin (bit : Nat) : Bool := d.attnDriven && !(d.routedPending bit).isEmpty
  BitVec.ofNat 16 (inband + bitIf (pin 3) 2 + bitIf (pin 2) 1)

def Dev.viewHp (d : Dev) (a : Nat) : Word :=
  if a = HP_PINSTAT then d.viewPinstat
  else if a % 0x40 = 4 ∧ a < 0x2C0 then d.atnStat (Fin.ofNat 3 ((a - 0x200) / 0x40))
  else d.rd a

/-! ## The hopper (R309) -/

def Dev.viewTag (d : Dev) (t : Tag) : Word :=
  let drain := match d.item t with
    | some i => match d.fnOf i with
      | some fn => d.mbit HOP_FNDRAIN fn.val
      | none => false
    | none => false
  d.rd (HOP_TAGSTAT t) |||
    BitVec.ofNat 16 (bitIf (d.item t).isSome 0x8000 + bitIf (d.tagHeld t) 0x4000 + bitIf drain 0x2000)

def Dev.viewHop (d : Dev) (acc : Acc) (a : Nat) : Word :=
  let r : Fin 4 := acc.source
  if a = HOP_CRD then d.hopper.crd[r]
  else if (HOP_SUB 0 ≤ a ∧ a < HOP_SUBCTL) ∨ a = HOP_SUBSTAT then d.rd (accKey acc.sharedSet a)
  else if a = HOP_CAVAIL then d.cavail r
  else if HOP_CNEXT 0 ≤ a ∧ a < HOP_CNEXT 8 then
    wordOf (d.windowByte r (a - HOP_CNEXT 0)) (d.windowByte r (a - HOP_CNEXT 0 + 1))
  else if HOP_TAGSTAT 0 ≤ a ∧ a < HOP_TAGSTAT 128 then d.viewTag (Fin.ofNat 128 ((a - HOP_TAGSTAT 0) / 2))
  else d.rd a

/-! ## Events and watchdog (R434) -/

def Dev.viewTop (d : Dev) : Word :=
  match d.topEvent ((List.range 256).filter d.evtPending) with
  | some e => BitVec.ofNat 16 (0x8000 + 256 * d.fld (routeKey e) EVT_ROUTE.PRIO + e)
  | none => 0

def Dev.viewSummary (d : Dev) : Word :=
  BitVec.ofNat 16 ((List.range 16).foldl (fun a i => a + bitIf (d.rd (EVT_STAT i) ≠ 0) (2 ^ i)) 0)

/-- The event whose route address `a` shows to an accessor (R417). -/
def Dev.routeEvent (d : Dev) (acc : Acc) (a : Nat) : Nat :=
  16 * (d.rn (accKey acc.sharedSet EVT_RPAGE) % 16) + (a - EVT_ROUTE 0) / 2 % 16

def Dev.viewEvt (d : Dev) (acc : Acc) (a : Nat) : Word :=
  if a = EVT_TOP then d.viewTop
  else if a = EVT_RPAGE then d.rd (accKey acc.sharedSet EVT_RPAGE)
  else if a = EVT_SUMMARY then d.viewSummary
  else if EVT_ROUTE 0 ≤ a ∧ a < EVT_ROUTE 16 then d.rd (routeKey (d.routeEvent acc a))
  else d.rd a

def Dev.viewSlot (d : Dev) (n : WSlot) (off : Nat) : Word :=
  let x := d.slot n
  match off with
  | 4 => x.chal
  | 8 => BitVec.ofNat 16 (if x.running then d.leftTo (x.start + d.slotPeriod n) 1000 else 0)
  | 10 => if !x.running then 0 else if d.slotPaused n then 4 else if x.warned then 3 else if x.windowOpen then 2 else 1
  | _ => d.rd (WDG_SCFG n + off)

def Dev.viewWdg (d : Dev) (a : Nat) : Word :=
  if a = WDG_WARNED then
    BitVec.ofNat 16 ((List.finRange 16).foldl (fun k n => k + bitIf (d.slot n).warned (2 ^ n.val)) 0)
  else if a = WDG_SEED ∨ a = WDG_SEED + 2 then 0
  else if WDG_SCFG 0 ≤ a ∧ a < WDG_SCFG 16 then d.viewSlot (Fin.ofNat 16 ((a - WDG_SCFG 0) / 16)) (a % 16)
  else d.rd a

/-! ## Clocks and pins (R396, R448, R449, R456) -/

def Dev.viewClk (d : Dev) (a : Nat) : Word :=
  if CLK_TB ≤ a ∧ a < CLK_TB + 8 then wordAt d.clock.tb.toNat ((a - CLK_TB) / 2)
  else if CLK_OPTIME ≤ a ∧ a < CLK_OPTIME + 8 then wordAt (d.clock.op % 2 ^ 48) ((a - CLK_OPTIME) / 2)
  else if CLK_PCYCLE ≤ a ∧ a < CLK_PCYCLE + 4 then wordAt d.clock.pcycle.toNat ((a - CLK_PCYCLE) / 2)
  else if RTC_TIME ≤ a ∧ a < RTC_TIME + 8 then wordAt d.clock.rtc.toNat ((a - RTC_TIME) / 2)
  else if a = CLK_REFKHZ then BitVec.ofNat 16 d.refKhz
  else d.rd a

/-- The mode of a GF pin: an input in LATCHED and until the loader has written GF_CFG (R449). -/
def Dev.gfMode (d : Dev) (g : Fin 8) : Nat := if d.blocksRun then d.rn (GF_CFG g) % 4 else 0

/-- The ball of a pin, counted along the rows from A1 (R436): row A is 0, column 1 is 0. -/
def ball (row col : Nat) : Nat := 16 * row + col

/-- VIO-domain pads act: VIO is there, from t3 of the boot path, outside NEWT. -/
def Dev.padsOn (d : Dev) : Bool := d.pins.vio && d.coreOn

/-- The test access port runs from t3 of the boot path, while VIO is present, outside NEWT (R437, R450). -/
def Dev.jtagOn (d : Dev) : Bool := d.padsOn

/-- EXTEST, HIGHZ or CLAMP is in force: the pins do not follow the device (R450). -/
def Dev.scanTakes (d : Dev) : Bool :=
  d.jtagOn && (decide (d.jtag.ir = .extest) || decide (d.jtag.ir = .highz) || decide (d.jtag.ir = .clamp))

/-- A digital output at a ball: HIGHZ, EXTEST and CLAMP take it from the device (R450). -/
def Dev.scanned (d : Dev) (b : Nat) (x : PinDrive) : PinDrive :=
  if !d.scanTakes then x
  else if d.jtag.ir = .highz then .z
  else match Config.scanPin b d.freeCount with
    | none => .z
    | some v => if v then .high else .low

/-- GFg: an input, or what its mode and OUT say (R448, R449). -/
def Dev.gfOut (d : Dev) (g : Fin 8) : PinDrive :=
  let out := d.flag (GF_CFG g) GF_CFG.OUT
  if !d.padsOn then .z
  else d.scanned (ball 13 (8 + g.val)) (match d.gfMode g with
    | 1 => if out then .high else .low
    | 2 => if out then .z else .low
    | _ => .z)

/-- The level of a GF pin in GF_IN (R448): what the device or the boundary register drives, and of a released pin what drives
it from outside. -/
def Dev.gfPin (d : Dev) (g : Fin 8) : Bool :=
  d.gfMode g ≠ 3 && match d.gfOut g with
    | .high => true
    | .z => Config.gfLevel g.val d.freeCount
    | _ => false

def Dev.viewGf (d : Dev) (a : Nat) : Word :=
  if a = GF_IN then BitVec.ofNat 16 ((List.finRange 8).foldl (fun k g => k + bitIf (d.gfPin g) (2 ^ g.val)) 0)
  else d.rd a

/-! ## The drill (R149) -/

/-- SEQ_RSTATE.GOODNOW is the rail's good condition as it stands. -/
def Dev.viewSeq (d : Dev) (a : Nat) : Word :=
  if a = SEQ_ELAPSED ∨ a = SEQ_ELAPSED + 2 then wordAt d.elapsed ((a - SEQ_ELAPSED) / 2)
  else if 0x1100 ≤ a ∧ a < 0x12C0 ∧ a % 16 = 10 then
    let good := d.blocksRun && d.goodCond (Fin.ofNat 28 ((a - 0x1100) / 16))
    BitVec.ofNat 16 (SEQ_RSTATE.GOODNOW.put (d.rn a) (bitIf good 1))
  else d.rd a

/-! ## Links (R93) -/

def Dev.viewVl (d : Dev) (a : Nat) : Word :=
  let k : Link := Fin.ofNat 4 ((a - 0x2C00) / 0x40)
  if a = VL_STATUS k then d.viewVlStatus k else if a = VL_RAILSTAT k then d.vlWord k else d.rd a

/-! ## The Guard (R119) -/

/-- BG_FEEDSTAT.FDEN shows where FDENn is released (R17). -/
def Dev.viewFeedstat (d : Dev) : Word := BitVec.ofNat 16 (BG_FEEDSTAT.FDEN.put (d.rn BG_FEEDSTAT) (~~~d.pins.fdenLow).toNat)

/-! ## Measurement (R181) -/

/-- MS_LIMSTAT: groups with an enabled state set (R171). -/
def Dev.limStat (d : Dev) : Nat :=
  (List.range 31).foldl (fun a g => a + bitIf (d.regs.any fun (c : Nat × Word) =>
    0x11000 ≤ c.1 && c.1 < 0x19000 && c.1 % 16 = 14 &&
      let e := (c.1 - 0x11000) / 16
      let mode := d.fld (MS_PESEQ e) MS_PESEQ.LIMMODE
      d.fld (MS_PESEQ e) MS_PESEQ.GROUP = g && ((c.2.getLsbD 15 && mode % 2 = 1) || (c.2.getLsbD 14 && 2 ≤ mode)))
    (2 ^ g)) 0

/-- MS_PEPLACE of an entry: UNSRV shows an unserved seat (R175). -/
def Dev.viewPlace (d : Dev) (e : Nat) : Word :=
  let uns := match d.entrySeat e with
    | some k => d.flag (MS_PECTL e) MS_PECTL.VALID && (d.seatAdc k).isNone
    | none => false
  BitVec.ofNat 16 (MS_PEPLACE.UNSRV.put (d.rn (MS_PEPLACE e)) (bitIf uns 1))

def Dev.viewMs (d : Dev) (acc : Acc) (a : Nat) : Word :=
  if a = MS_PLANPAGE then d.rd (accKey acc.ownSet MS_PLANPAGE)
  else if a = MS_URGENT then
    d.rd (accKey acc.ownSet MS_URGENT) ||| (if d.urgentPending ⟨acc.index.val, by omega⟩ then 0x4000#16 else 0)
  else if a = MS_LIMSTAT ∨ a = MS_LIMSTAT + 2 then wordAt d.limStat ((a - MS_LIMSTAT) / 2)
  else if h : 0x4030 ≤ a ∧ a < 0x4060 then
    let i : Adc := ⟨(a - 0x4030) / 2, by omega⟩
    d.rd a ||| BitVec.ofNat 16 (clampNat 255 ((d.now - d.meas.calAt[i]) / 10000))
  else if 0x4800 ≤ a ∧ a < 0x5000 then
    let e := d.planEntry acc a
    if a % 16 = 12 then d.viewPlace e else d.rd (MS_PECTL e + a % 16)
  else d.rd a

/-! ## Recorder and NV (R353, R356, R375, R378) -/

/-- The bytes of ring slot `n mod 3072`: the buffer's record while it is still there, otherwise NV. -/
def Dev.recSlot (d : Dev) (n : Nat) : List Byte :=
  match d.recorder.buf.find? (fun r => r.seq.toNat % 3072 = n % 3072) with
  | some r => r.bytes
  | none => cellRead d.cfg.nv (recAddr n) 32

/-- The bytes of snapshot slot `n mod 128`. -/
def Dev.snapSlot (d : Dev) (n : Nat) : List Byte :=
  match d.recorder.snaps.find? (fun x => x.num.toNat % 128 = n % 128) with
  | some x => x.block
  | none => cellRead d.cfg.nv (snapAddr n) 512

/-- Byte `i` of a list of bytes, 0 beyond its end, and word `i`. -/
def byteOf (bs : List Byte) (i : Nat) : Byte := (bs[i]?).getD 0
def wordIn (bs : List Byte) (i : Nat) : Word := wordOf (byteOf bs (2 * i)) (byteOf bs (2 * i + 1))

def Dev.viewRec (d : Dev) (acc : Acc) (a : Nat) : Word :=
  if REC_SEL ≤ a ∧ a < REC_SSEL + 4 then d.rd (accKey acc.sharedSet a)
  else if REC_WIN 0 ≤ a ∧ a < REC_WIN 16 then
    wordIn (d.recSlot (d.rn32 (accKey acc.sharedSet REC_SEL))) ((a - REC_WIN 0) / 2)
  else if REC_SWIN 0 ≤ a ∧ a < REC_SWIN 256 then
    wordIn (d.snapSlot (d.rn32 (accKey acc.sharedSet REC_SSEL))) ((a - REC_SWIN 0) / 2)
  else d.rd a

/-- A byte of NV: areas whose layout the spec leaves open show free bytes (log entry 13), which a write may change. The identity
area is locked at manufacture: its bytes never change (R353). -/
def Dev.nvByte (d : Dev) (n : Nat) : Byte :=
  if 0x74000 ≤ n ∧ n < 0x78000 then Config.nvOpenByte n 0
  else if 0x70000 ≤ n ∧ n < 0x7A000 then Config.nvOpenByte n d.cfg.nvWrites else cellGet d.cfg.nv n

/-- A word of the NV window (R353). -/
def Dev.viewNv (d : Dev) (acc : Acc) (a : Nat) : Word :=
  let n := 0x4000 * (d.rn (accKey acc.sharedSet CFG_NVPAGE) % 32) + (a - 0xC000)
  wordOf (d.nvByte n) (d.nvByte (n + 1))

def Dev.viewCfg (d : Dev) (acc : Acc) (a : Nat) : Word :=
  if a = CFG_NVPAGE then d.rd (accKey acc.sharedSet CFG_NVPAGE)
  else if a = CFG_WCTL ∨ (CFG_WOFS ≤ a ∧ a < CFG_WOFS + 4) ∨ a = CFG_WSTAT ∨ (CFG_WBUF 0 ≤ a ∧ a < CFG_WBUF 32) then
    d.rd (accKey acc.sharedSet a)
  else d.rd a

/-! ## The engine (R268) -/

/-- The mask of furrows with a property. -/
def Dev.furMask (d : Dev) (p : FurrowSt → Bool) : Word :=
  BitVec.ofNat 16 ((List.finRange 16).foldl (fun a f => a + bitIf (p (d.fur f)) (2 ^ f.val)) 0)

/-- The tag in a furrow's own KE_ITEMSEL, and its item while the furrow holds it. -/
def Dev.itemSel (d : Dev) (f : Furrow) : Tag := Fin.ofNat 128 (d.rn (accKey (4 + f.val) KE_ITEMSEL) % 128)
def Dev.heldItem (d : Dev) (f : Furrow) : Option Item :=
  if d.itemSel f ∈ (d.fur f).held then d.hopper.items.find? (fun i => i.tag = d.itemSel f) else none

/-- The 16 bytes of a descriptor (R287). -/
def Item.bytes (i : Item) : List Byte :=
  [i.code, i.flags] ++ i.args.toList.flatMap (fun w => [loByte w, hiByte w]) ++ [loByte i.cookie, hiByte i.cookie]

def Dev.viewItem (d : Dev) (acc : Acc) (a : Nat) : Word :=
  match acc with
  | .port _ => 0
  | .furrow f =>
    if a = KE_ITEMSEL then d.rd (accKey (4 + f.val) KE_ITEMSEL)
    else match d.heldItem f with
      | none => 0
      | some i =>
        if a = KE_ITEMSTAT then BitVec.ofNat 16 (0x8000 + bitIf (i.stage = .done) 0x4000 + i.code.toNat)
        else wordIn i.bytes ((a - KE_ITEM 0) / 2)

def FState.code : FState → Nat
  | .disabled => 0
  | .stopped => 1
  | .ready => 2
  | .running => 3
  | .waiting => 4
  | .faulted => 5

/-- KE_FSTATE.WAITK. -/
def Wait.kind : Wait → Nat
  | .none => 0
  | .event _ _ => 1
  | .ticks _ => 2
  | .until _ => 2
  | .seq _ _ => 3
  | .access _ => 4

def Dev.viewFur (d : Dev) (f : Furrow) (off : Nat) : Word :=
  let x := d.fur f
  let v := x.k[(Fin.ofNat 16 (d.rn (KE_KSEL f) % 16))]
  match off with
  | 0 => 0
  | 2 => BitVec.ofNat 16 (0x4000 * x.prio.val + bitIf x.halted 0x2000 + 256 * x.queue.length + 16 * x.wait.kind +
      x.st.code)
  | 4 => x.pc.setWidth 16
  | 6 => BitVec.ofNat 16 (16 * clampNat 7 x.stack.length + bitIf x.z 8 + bitIf x.n 4 + bitIf x.c 2 + bitIf x.v 1)
  | 8 => x.fault.setWidth 16
  | 10 => x.fltpc.setWidth 16
  | 12 => BitVec.ofNat 16 x.held.length
  | 16 => v.setWidth 16
  | 18 => (v >>> 16).setWidth 16
  | _ => d.rd (KE_FCTL f + off)

/-- KE_MDATA, and the addresses 0x6030 to 0x6037 that furrows see as KE_ITEM4 to KE_ITEM7 (R479). With debug closed, or
for a port that is not the owner, KE_MDATA shows nothing (R264). -/
def Dev.viewDebug (d : Dev) (acc : Acc) (a : Nat) : Word :=
  match acc with
  | .furrow _ => d.viewItem acc a
  | .port p =>
    if a = KE_MADDR ∨ a = KE_MCFG then d.rd a
    else if !(d.debugOpen && d.isOwner p) then 0
    else if a = KE_MDATA then d.mdataWord.setWidth 16
    else (d.mdataWord >>> 16).setWidth 16

/-- Averages of KE_SPEED that have ended since t7, each over 1,024 periods of the reference (R250), by its declared frequency. -/
def Dev.speedAverage (d : Dev) : Nat := d.now * d.refKhz / 1024000

def Dev.viewKe (d : Dev) (acc : Acc) (a : Nat) : Word :=
  if a = KE_RUN then d.furMask fun (x : FurrowSt) => x.st = .ready || x.st = .running
  else if a = KE_WAIT then d.furMask fun (x : FurrowSt) => x.st = .waiting
  else if a = KE_FLT then d.furMask fun (x : FurrowSt) => x.st = .faulted
  else if a = KE_SPEED ∧ d.pastLock then Config.speed d.clock.pcycle.toNat d.speedAverage
  else if a = KE_ITEMSEL ∨ a = KE_ITEMSTAT ∨ (KE_ITEM 0 ≤ a ∧ a < KE_MADDR) then d.viewItem acc a
  else if KE_MADDR ≤ a ∧ a < KE_MDATA + 4 then d.viewDebug acc a
  else if 0x6100 ≤ a ∧ a < 0x6300 then d.viewFur (Fin.ofNat 16 ((a - 0x6100) / 0x20)) (a % 0x20)
  else d.rd a

/-! ## Every register -/

/-- The word at the even address `a` as accessor `acc` reads it. -/
def Dev.viewWord (d : Dev) (acc : Acc) (a : Nat) : Word :=
  if a < 0x200 then d.viewId acc a
  else if a < 0x400 then d.viewHp a
  else if a < 0x800 then d.viewHop acc a
  else if a < 0xA00 then d.viewEvt acc a
  else if a < 0xC00 then d.viewWdg a
  else if a < 0xE00 then d.viewClk a
  else if a < 0x1000 then d.viewGf a
  else if a < 0x2000 then d.viewSeq a
  else if 0x2C00 ≤ a ∧ a < 0x2D00 then d.viewVl a
  else if a = BG_FEEDSTAT then d.viewFeedstat
  else if a < 0x4000 then d.rd a
  else if a < 0x5000 then d.viewMs acc a
  else if a < 0x5800 then d.viewRec acc a
  else if a < 0x5F00 then d.viewCfg acc a
  else if a < 0x6000 then d.rd a
  else if a < 0x8000 then d.viewKe acc a
  else if a < 0x9000 then d.resultWord acc.sharedSet ((a - 0x8000) / 2)
  else if 0xC000 ≤ a then d.viewNv acc a
  else 0

/-- The byte at address `a` as accessor `acc` reads it. -/
def Dev.viewByte (d : Dev) (acc : Acc) (a : Nat) : Byte :=
  let w := d.viewWord acc (a / 2 * 2)
  if a % 2 = 0 then loByte w else hiByte w

end Sys2Proof.Machine
end

