-- ==== Sys2Proof/Machine/Commit.lean ====
section
/-!
DEFINITION. What a whole write of each register does (R10): every register of 20_register_index.md, by block. The writer is
a host port, a furrow, or the image loader (none), which writes RWS and RWC fields only (R265).
-/

namespace Sys2Proof.Machine

open Sys2Proof Sys2Proof.R

/-! ## Blocks with registers of several kinds -/

/-- The ownership block (R332): a port's own registers. -/
def Dev.writeId (d : Dev) (p : Port) (a : Nat) (v : BitVec 32) : Dev :=
  if a = ID_CLAIM then d.claim p v
  else if a = ID_RENEW then d.renew p (v.setWidth 16)
  else if a = ID_OCTL then
    let d := d.when (v.getLsbD 15) (·.offerTo p ((v >>> 8).setWidth 2))
    d.when (v.getLsbD 0) (·.release p)
  else if a = ID_PCFG then (d.storeWord (accKey p.val ID_PCFG) ID_PCFG (v.setWidth 16)).trimMissed
  else d

/-- The hopper's registers (R309). -/
def Dev.writeHop (d : Dev) (acc : Acc) (a : Nat) (v : Word) : Dev :=
  if a = HOP_CTL then d.when (v.getLsbD 0) Dev.hopCntclr
  else if HOP_SUB 0 ≤ a ∧ a < HOP_SUBCTL then d.storeWord (accKey acc.sharedSet a) a v
  else if a = HOP_SUBCTL then d.when (v.getLsbD 0) (·.doorbell acc)
  else d.storeWord a a v

/-- The EVT_RPAGE of the writer. The image loader has one of its own, through which its pairs reach every route (R417, R435; log
entry 11). -/
def pageKey (w : Option Acc) : Nat :=
  match w with
  | some acc => accKey acc.sharedSet EVT_RPAGE
  | none => accKey loaderSet EVT_RPAGE

/-- Events (R434). Routes are in the page of the writer. -/
def Dev.writeEvt (d : Dev) (w : Option Acc) (a : Nat) (v : Word) : Dev :=
  if a = EVT_CTL then d.when (v.getLsbD 0) Dev.clrAll
  else if a = EVT_SWSET then d.swSet v
  else if a = EVT_RPAGE then d.storeWord (pageKey w) EVT_RPAGE v
  else if EVT_STAT 0 ≤ a ∧ a < EVT_STAT 16 then d.clearStat ((a - EVT_STAT 0) / 2) v
  else if EVT_ROUTE 0 ≤ a ∧ a < EVT_ROUTE 16 then
    d.writeRoute (16 * (d.rn (pageKey w) % 16) + (a - EVT_ROUTE 0) / 2) v
  else d

/-- The watchdog (R434). -/
def Dev.writeWdgReg (d : Dev) (w : Option Acc) (a : Nat) (v : BitVec 32) : Dev :=
  let l := w.isNone
  if a = WDG_SEED then (d.writeWdg WDG_SEED (v.setWidth 16) l).writeWdg (WDG_SEED + 2) ((v >>> 16).setWidth 16) l
  else if a = WDG_DOUBLE ∨ a = WDG_BAD ∨ a = WDG_STICKY then d.storeWord a a (v.setWidth 16)
  else if a = WDG_CTL then d.writeWdg a (v.setWidth 16) l
  else if WDG_SCFG 0 ≤ a ∧ a < WDG_SCFG 16 then
    let n : WSlot := Fin.ofNat 16 ((a - WDG_SCFG 0) / 16)
    if a % 16 = 0 ∨ a % 16 = 2 then d.writeWdg a (v.setWidth 16) l
    else if a % 16 = 6 then
      (d.offer n (match w with | some (.furrow f) => some f | _ => none) (v.setWidth 16)).2
    else d
  else d

/-- Clocks (R396); the answer is whether a write was ignored because the domain is in use (R362, R383). -/
def Dev.writeClk (d : Dev) (a : Nat) (v : BitVec 32) : Bool × Dev :=
  if a = CLK_CTL then (false, d.when (v.getLsbD 0) Dev.clkCntclr)
  else if a = CLK_DSEL then
    (CLK_DSEL.PWMSRC.of v.toNat != d.fld CLK_DSEL CLK_DSEL.PWMSRC && !d.pwmFree, d.writeDsel (v.setWidth 16))
  else if a = CLK_OUT then (false, d.writeOut false (v.setWidth 16))
  else if a = CLK_OUTDIV then (false, d.writeOut true (v.setWidth 16))
  else if a = RTC_CDN then (false, d.writeCdn v)
  else (false, d.storeWord a a (v.setWidth 16))

/-- The drill (R149). -/
def Dev.writeSeq (d : Dev) (a : Nat) (v : BitVec 32) : Bool × Dev :=
  if a = SEQ_CMD then (false, d.seqCmd (v.toNat % 65536))
  else if a = SEQ_STICKY then (false, d.storeWord a a (v.setWidth 16))
  else if 0x1400 ≤ a ∧ a < 0x1C00 then (d.profileBusy ((a - 0x1400) / 0x100), d.writeProfile a v)
  else if 0x1080 ≤ a ∧ a < 0x10C0 ∧ a % 8 = 0 then (false, d.writeRstMask a v)
  else (false, d.writeDrill a (v.setWidth 16))

/-- The loops (R67). The loader is no setpoint source: its LP_VSET is stored whatever SPSRC says (R362). -/
def Dev.writeLp (d : Dev) (w : Option Acc) (a : Nat) (v : BitVec 32) : Bool × Dev :=
  match loopAt a, w with
  | none, _ => (false, d)
  | some (n, off), some acc =>
    if off = 6 then (false, d.writeVset n (spsrcOf acc) (v.toNat % 65536))
    else
      let (r, d) := d.writeLoop n off v
      (r, d.pollLoop n)
  | some (n, off), none =>
    if off = 6 then (false, d.loadVset n (v.toNat % 65536))
    else
      let (r, d) := d.writeLoop n off v
      (r, d.pollLoop n)

/-- The phases (R68): with no valid entry, or a gain of 0, PH_IOUT reads 0 at once. -/
def Dev.writePh (d : Dev) (a : Nat) (v : Word) : Bool × Dev :=
  let m : Phase := Fin.ofNat 24 ((a - 0x2600) / 0x20)
  if a = PH_CFG m then d.writePhCfg m v
  else
    let d := d.storeWord a a v
    let none := !d.flag (PH_IMONENT m) PH_IMONENT.VALID
    (false, d.when ((a = PH_IMONENT m && none) || (a = PH_IMONGAIN m && v = 0)) (·.imonOff m))

def Dev.writePk (d : Dev) (a : Nat) (v : Word) : Dev :=
  if a = PK_CTL then d.writePkCtl v
  else if a = PK_XCTL then d.writeXctl v
  else d.storeWord a a v

/-- The plan window: the loader's page is 0, which holds reserved entries. -/
def Dev.writePlanReg (d : Dev) (w : Option Acc) (a : Nat) (v : Word) : Dev :=
  match w with
  | some acc => d.writePlan acc a v
  | none => d

/-- Measurement (R181). -/
def Dev.writeMs (d : Dev) (w : Option Acc) (a : Nat) (v : BitVec 32) : Dev :=
  let x : Word := v.setWidth 16
  if a = MS_CTL then d.when (x.getLsbD 0) Dev.msCntclr
  else if a = MS_PLANPAGE then
    match w with
    | some acc => d.storeWord (accKey acc.ownSet MS_PLANPAGE) MS_PLANPAGE x
    | none => d
  else if a = MS_SWTRIG then d.writeSwtrig x
  else if a = MS_TTCTL then d.writeTtctl x
  else if a = MS_URGENT then
    match w with
    | some acc => d.writeUrgent acc x
    | none => d
  else if a = MS_LIMSTICKY then (d.storeWord a a x).storeWord (a + 2) (a + 2) ((v >>> 16).setWidth 16)
  else if 0x4080 ≤ a ∧ a < 0x4100 ∧ a % 8 = 0 then
    (d.storeWord a a x).storeWord (a + 2) (a + 2) ((v >>> 16).setWidth 16)
  else if 0x4100 ≤ a ∧ a < 0x4200 then
    let s : SeqNo := Fin.ofNat 64 ((a - 0x4100) / 4)
    if a % 4 = 0 then d.writeSeqTrig s x else d.writeSeqDiv s x
  else if 0x4800 ≤ a then d.writePlanReg w a x
  else d.storeWord a a x

/-- The recorder (R378). -/
def Dev.writeRec (d : Dev) (w : Option Acc) (a : Nat) (v : BitVec 32) : Dev :=
  if a = REC_CTL then
    let d := d.when (v.getLsbD 0) Dev.recCntclr
    let d := d.when (v.getLsbD 2) (·.takeSnapshot 3 255 0)
    d.when (v.getLsbD 1) Dev.startFlush
  else if a = REC_SEL ∨ a = REC_SSEL then
    match w with
    | some acc => d.wr32 (accKey acc.sharedSet a) v
    | none => d
  else d.storeWord a a (v.setWidth 16)

/-- Configuration (R378). -/
def Dev.writeCfg (d : Dev) (w : Option Acc) (a : Nat) (v : BitVec 32) : Dev :=
  let x : Word := v.setWidth 16
  if a = CFG_CTL then d.when (x.getLsbD 0) Dev.cfgCntclr
  else match w with
    | none => d
    | some acc =>
      let k := accKey acc.sharedSet a
      if a = CFG_NVPAGE then d.storeWord k a x
      else if a = CFG_WCTL then if x.getLsbD 15 then d.wGo acc.source (x.getLsbD 0) else d.storeWord k a x
      else if a = CFG_WOFS then (d.storeWord k a x).storeWord (k + 2) (a + 2) ((v >>> 16).setWidth 16)
      else if CFG_WBUF 0 ≤ a ∧ a < CFG_WBUF 32 then d.storeWord k a x
      else d.storeWord a a x

/-- CFG_DSCTL.CNTCLR (R352). -/
def Dev.dsCntclr (d : Dev) : Dev := (d.zero [CFG_ERSTCNT, CFG_RCYCCNT, CFG_BOCNT]).wr CFG_VINMIN 0xFFFF

/-- A furrow's debug registers (R264): only the owner host writes them, and only while the furrow is halted with debug
open. -/
def Dev.writeFur (d : Dev) (f : Furrow) (off : Nat) (v : BitVec 32) : Dev :=
  if off = 0 then
    let d := d.when (v.getLsbD 0) (·.furrowRestart f)
    let d := d.when (v.getLsbD 1) (·.furrowHalt f)
    let d := d.when (v.getLsbD 2) (·.furrowResume f)
    d.when (v.getLsbD 3) (·.furrowStep f)
  else if off = 14 then d.storeWord (KE_KSEL f) (KE_KSEL f) (v.setWidth 16)
  else if !(d.debugOpen && (d.fur f).halted) then d
  else if off = 4 then d.modFur f fun x => { x with pc := v.setWidth 14 }
  else if off = 6 then
    d.modFur f fun x => { x with z := v.getLsbD 3, n := v.getLsbD 2, c := v.getLsbD 1, v := v.getLsbD 0 }
  else if off = 16 then
    let r : KReg := Fin.ofNat 16 (d.rn (KE_KSEL f) % 16)
    d.modFur f fun x => { x with k := x.k.set r v }
  else d

/-- The engine (R268, R479). A furrow's write of DBGEN is ignored and sets WREF (R253), and a furrow never writes KE_MADDR
and KE_MCFG (R479). -/
def Dev.writeKe (d : Dev) (acc : Acc) (a : Nat) (v : BitVec 32) : Dev :=
  let x : Word := v.setWidth 16
  if a = KE_CTL then
    let d := d.when (x.getLsbD 0) Dev.keCntclr
    match acc with
    | .furrow _ => d.when (x.getLsbD 2 || d.debugOpen) (·.setFlag KE_STICKY KE_STICKY.WREF true)
    | .port _ => if x.getLsbD 2 = d.debugOpen then d else d.writeDbgen (x.getLsbD 2)
  else if a = KE_ITEMSEL then
    match acc with
    | .furrow f => d.storeWord (accKey (4 + f.val) a) a x
    | .port _ => d
  else if a = KE_MADDR ∨ a = KE_MCFG then
    match acc with
    | .furrow _ => d
    | .port _ => if d.debugOpen then d.storeWord a a x else d
  else if a = KE_MDATA then d.mdataWrite v
  else if 0x6080 ≤ a ∧ a < 0x6090 then (d.storeWord a a x).storeWord (a + 2) (a + 2) ((v >>> 16).setWidth 16)
  else if 0x6100 ≤ a ∧ a < 0x6300 then d.writeFur (Fin.ofNat 16 ((a - 0x6100) / 0x20)) (a % 0x20) v
  else d.storeWord a a x

/-! ## Every register -/

/-- The whole value `v` reaches the register whose first byte is at `a`. The answer is whether its block ignored the write
because it is in use (R362). -/
def Dev.regWrite (d : Dev) (w : Option Acc) (a : Nat) (v : BitVec 32) : Bool × Dev :=
  let x : Word := v.setWidth 16
  if a < 0x200 then (false, match w with
    | some (.port p) => d.writeId p a v
    | _ => d)
  else if a < 0x400 then (false, if a = HP_CTL then d.when (x.getLsbD 0) Dev.hpCntclr else d.storeWord a a x)
  else if a < 0x800 then (false, match w with
    | some acc => d.writeHop acc a x
    | none => d)
  else if a < 0xA00 then (false, d.writeEvt w a x)
  else if a < 0xC00 then (false, d.writeWdgReg w a v)
  else if a < 0xE00 then d.writeClk a v
  else if a < 0x1000 then (false, d.storeWord a a x)
  else if a < 0x2000 then d.writeSeq a v
  else if a < 0x2600 then d.writeLp w a v
  else if a < 0x2900 then d.writePh a x
  else if a < 0x2C00 then (false, d)
  else if a < 0x2D00 then (false, d.writeVl (Fin.ofNat 4 ((a - 0x2C00) / 0x40)) (a % 0x40) x)
  else if a < 0x3000 then (false, d)
  else if a < 0x3400 then (false, if w.isSome then d.hostGuard a v else d.writeGuard a v)
  else if a < 0x3800 then (false, if w.isSome then d.writeChg a v else d.loadChg a v)
  else if a < 0x3880 then (false, if a = GG_CTL then d.writeGgCtl x else d.storeWord a a x)
  else if a < 0x3C00 then (false, d.writePk a x)
  else if a < 0x4000 then (false, if a = TH_CTL then d.when (x.getLsbD 0) Dev.thCntclr else d.storeWord a a x)
  else if a < 0x5000 then (false, d.writeMs w a v)
  else if a < 0x5800 then (false, d.writeRec w a v)
  else if a < 0x5F00 then (false, d.writeCfg w a v)
  else if a < 0x6000 then (false, if a = CFG_DSCTL then d.when (x.getLsbD 0) Dev.dsCntclr else (d.storeWord a a x).syncBof)
  else if a < 0x8000 then (false, match w with
    | some acc => d.writeKe acc a v
    | none => d)
  else (false, d)

/-- The value that the loader writes at `a`: the RWS and RWC bits of `v`, with the other stored bits as they are; none
where the address holds no such bit (R265). Its own EVT_RPAGE takes any value. -/
def Dev.loaderWord (d : Dev) (a : Nat) (v : Word) : Option Word :=
  if a = EVT_RPAGE then some v
  else match rowAt a with
  | some r => if r.img = 0 then none else some ((v &&& r.img) ||| (d.rd a &&& r.stored &&& ~~~r.img))
  | none => none

end Sys2Proof.Machine
end

