-- ==== Sys2Proof/Machine/Access.lean ====
section
/-!
DEFINITION. How an accessor reaches the register space (R6 to R8, R313): bytes held until a value is whole, the shadow of a
wide read, the capture of a port, the effects of reading, and the accesses of a furrow (R253).
-/

namespace Sys2Proof.Machine

open Sys2Proof Sys2Proof.R

/-- Base and bytes of the value that holds address `a`: furrows see KE_ITEM words at 0x6030 to 0x6037 (R479). -/
def valueOf (acc : Acc) (a : Nat) : Nat × Nat :=
  match acc with
  | .furrow _ => if KE_MADDR ≤ a ∧ a < KE_MDATA + 4 then (a / 2 * 2, 2) else valueAt a
  | .port _ => valueAt a

/-- Whether a register lies at the even address `a` (R9, R478). -/
def isReg (a : Nat) : Bool := (rowAt a).isSome || (0x4800 ≤ a && a < 0x5000)

/-! ## Writes -/

/-- One byte written by an accessor: lower bytes are held, and the highest byte completes the value (R6, R7). A highest byte
that finds one missing changes nothing, and on a port sets HALF (R313). A byte elsewhere discards what is held. -/
def Dev.writeByte (d : Dev) (acc : Acc) (a : Nat) (b : Byte) : Dev :=
  let (base, w) := valueOf acc a
  let mine := (d.accSt acc).held.filter fun (c : Nat × Byte) => base ≤ c.1 && c.1 < base + w
  if !isReg base then d.dropHeld acc
  else if a + 1 < base + w then d.modAcc acc fun x => { x with held := insertKey a b (eraseKey a mine) }
  else
    let d := d.dropHeld acc
    if mine.length + 1 = w then
      (d.regWrite (some acc) base (BitVec.ofNat 32 (valLE (mine.map (fun (c : Nat × Byte) => c.2) ++ [b])))).2
    else match acc with
      | .port p => d.setFlag (HP_STICKY p) HP_STICKY.HALF true
      | .furrow _ => d

/-- REGISTER_WRITE: a byte from a host port or a furrow, let through by the gate (R253, R317). -/
def execRegisterWrite (acc : Acc) (addr : BitVec 16) (data : Byte) (s : State) : Host.Outcome State Fault Refusal :=
  s.step1 fun d => d.permit acc addr.toNat (·.writeByte acc addr.toNat data)

/-- A furrow's 16-bit store: it carries both bytes (R253). -/
def Dev.store16 (d : Dev) (f : Furrow) (a : Nat) (v : Word) : Dev :=
  d.permit (.furrow f) a fun d => (d.writeByte (.furrow f) a (loByte v)).writeByte (.furrow f) (a + 1) (hiByte v)

/-! ## Reads -/

/-- What reading the byte at `a` changes: completion windows and OVR (R298), a reader's NEW (R168), OWN (R326), KE_MADDR
after a whole read (R268), and the free levels of the GF pins. -/
def Dev.readEffect (d : Dev) (acc : Acc) (a : Nat) : Dev :=
  let r : Fin 4 := acc.source
  if HOP_CNEXT 0 ≤ a ∧ a < HOP_CNEXT 8 then d.windowRead r (a - HOP_CNEXT 0)
  else if a = HOP_CAVAIL + 1 then { d with hopper := { d.hopper with ovr := d.hopper.ovr.set r false } }
  else if 0x8000 ≤ a ∧ a < 0x9000 then if a % 2 = 1 then d.clearNew acc.sharedSet ((a - 0x8000) / 2) else d
  else if a = GF_IN + 1 then { d with freeCount := d.freeCount + 1 }
  else match acc with
    | .furrow _ => d
    | .port p =>
      if a = HP_ATNSTAT p + 1 then d.seenOwn p
      else if a = KE_MDATA + 3 ∧ d.debugOpen ∧ d.isOwner p then d.mdataAdvance
      else d

/-- One byte read by an accessor. The low byte of a wide value freezes it in the accessor's shadow (R7, R8); the even byte of
a 16-bit register captures it for the odd byte that follows (R313, R168). -/
def Dev.readByte (d : Dev) (acc : Acc) (a : Nat) : Byte × Dev :=
  let (base, w) := valueOf acc a
  let x := d.accSt acc
  if 2 < w then
    if a = base then
      let bs := (List.range w).map fun k => d.viewByte acc (base + k)
      (byteOf bs 0, d.modAcc acc fun x => { x with shadow := some (base, bs) })
    else
      let live := (d.viewByte acc a, d.readEffect acc a)
      match x.shadow with
      | none => live
      | some (b0, bs) =>
        if b0 ≠ base then live
        else
          let d := d.readEffect acc a
          (byteOf bs (a - base), if a + 1 = base + w then d.modAcc acc fun x => { x with shadow := none } else d)
  else if a % 2 = 0 then
    let v := d.viewWord acc a
    (loByte v, (d.modAcc acc fun x => { x with capture := some (a, BitVec.ofNat 16 v.toNat) }).readEffect acc a)
  else
    let v := match x.capture with
      | some (b0, v) => if b0 + 1 = a then v else d.viewWord acc (a - 1)
      | none => d.viewWord acc (a - 1)
    (hiByte v, (d.modAcc acc fun x => { x with capture := none }).readEffect acc a)

/-- Several bytes from address `a` on, wrapping from 0xFFFF to 0x0000 (R312). -/
def Dev.readBytes (d : Dev) (acc : Acc) (a : Nat) : Nat → List Byte × Dev
  | 0 => ([], d)
  | n + 1 =>
    let (b, d) := d.readByte acc (a % 65536)
    let (bs, d) := d.readBytes acc (a + 1) n
    (b :: bs, d)

/-- A furrow's 16-bit load. -/
def Dev.load16 (d : Dev) (f : Furrow) (a : Nat) : Word × Dev :=
  let (lo, d) := d.readByte (.furrow f) a
  let (hi, d) := d.readByte (.furrow f) (a + 1)
  (wordOf lo hi, d)

end Sys2Proof.Machine
end

