-- ==== Sys2Proof/Machine/Load.lean ====
section
/-!
DEFINITION. The image loader (R265, R362, R431): the sections of an image, the blocks' own checks after a
load, and the records of a load.
-/

namespace Sys2Proof.Machine

open Sys2Proof Sys2Proof.R

/-! ## REGS pairs -/

/-- A load in progress: the device, the low word of a 32-bit value that waits for its high word (R7), and whether a pair
has been skipped. -/
structure Loading where
  dev : Dev
  low : Option (Nat × Word)
  skipped : Bool
  deriving DecidableEq, Repr

/-- What the loader writes at the value of `w` bytes at `base`: the RWS and RWC bits of `v`; none where it holds none. -/
def Dev.loaderValue (d : Dev) (base w : Nat) (v : BitVec 32) : Option (BitVec 32) :=
  let lo := d.loaderWord base (v.setWidth 16)
  if w = 2 then lo.map (·.setWidth 32)
  else match lo, d.loaderWord (base + 2) ((v >>> 16).setWidth 16) with
    | none, none => none
    | lo, hi => some (hi.getD (d.rd (base + 2)) ++ lo.getD (d.rd base))

/-- A pair that its block refuses because it is in use is skipped (R362). -/
def Dev.skipPair (d : Dev) (a : Nat) : Dev :=
  ((d.bump CFG_REGSKIP).setFlag CFG_STICKY CFG_STICKY.REGSKIP true).record 0x09 3 (bytesLE 2 a)

/-- The whole value of a pair at `a` reaches its register. -/
def Loading.commit (x : Loading) (a base w : Nat) (v : BitVec 32) : Loading :=
  match x.dev.loaderValue base w v with
  | none => { x with low := none }
  | some u =>
    let (busy, d) := x.dev.regWrite none base u
    if busy then { dev := d.skipPair a, low := none, skipped := true } else { x with dev := d, low := none }

/-- One pair: a 32-bit value waits for its high word. -/
def Loading.pair (x : Loading) (p : Nat × Word) : Loading :=
  let a := p.1
  let (base, w) := valueAt a
  if a % 2 = 1 || !isReg base then { x with low := none }
  else if w = 2 then x.commit a base 2 (p.2.setWidth 32)
  else if w = 4 ∧ a = base then { x with low := some (base, p.2) }
  else match x.low with
    | some (b, lo) => if w = 4 ∧ a = base + 2 ∧ b = base then x.commit a base 4 (p.2 ++ lo) else { x with low := none }
    | none => x

/-- The pairs of the REGS section. -/
def Img.pairs (m : Img) : List (Nat × Word) :=
  match m.sect 4 with
  | none => []
  | some x => (List.range (x.len / 4)).map fun i =>
      (m.val (x.off + 4 * i) 2, BitVec.ofNat 16 (m.val (x.off + 4 * i + 2) 2))

/-- The RWC fields are those of the watchdog (R431). -/
def isRwc (a : Nat) : Bool :=
  a / 2 * 2 = WDG_CTL || a / 4 * 4 = WDG_SEED || (WDG_SCFG 0 ≤ a && a < WDG_SCFG 16 && a % 16 < 4)

/-- The RWC registers take their reset values. -/
def Dev.resetRwc (d : Dev) : Dev :=
  (List.range 16).foldl (fun (d : Dev) n => (d.wr (WDG_SCFG n) (resetWord (WDG_SCFG n))).wr (WDG_PER n) (resetWord (WDG_PER n)))
    (d.zero [WDG_CTL, WDG_SEED, WDG_SEED + 2])

/-- Write pairs in order, from route page 0 on; the answer is whether one was skipped. -/
def Dev.loadPairs (d : Dev) (ps : List (Nat × Word)) : Bool × Dev :=
  let x := ps.foldl Loading.pair { dev := d.zero [pageKey none], low := none, skipped := false }
  (x.skipped, x.dev)

/-! ## The other sections -/

/-- PLAN: each record holds an entry's six words, which come under the rules of the plan (R157). -/
def Dev.loadPlan (d : Dev) (m : Img) : Dev :=
  match m.sect 3 with
  | none => d
  | some x => (List.range (x.len / 14)).foldl (fun (d : Dev) i =>
      let o := x.off + 14 * i
      let e := m.val o 2
      (List.range 6).foldl (fun (d : Dev) k => d.writeEntry e (2 * k) (BitVec.ofNat 16 (m.val (o + 2 + 2 * k) 2))) d) d

/-- DATA: image data from byte 0, with zeros beyond the section; scratch is kept (R252). -/
def Dev.loadData (d : Dev) (m : Option Img) : Dev :=
  let kept := d.engine.data.filter fun (c : Host.Cell) => 0x4000 ≤ c.1
  let bs := match m with
    | none => []
    | some m => match m.sect 2 with
      | none => []
      | some x => m.bytes x.off x.len
  { d with engine := { d.engine with data := cellWrite kept 0 bs } }

/-- CODE, FURROWS and DISPATCH; the safe image (none) has no code and enables no furrow (R263, R366). -/
def Dev.loadEngine (d : Dev) (m : Option Img) : Dev :=
  match m.bind fun m => (m.sect 5).map fun x => (m, x) with
  | none =>
    { d with engine := { d.engine with code := [], dispatch := [], debugGranted := false,
                                       furrows := Vector.replicate 16 FurrowSt.init } }
  | some (m, fx) =>
    let code := match m.sect 1 with
      | none => []
      | some x => (List.range (x.len / 4)).map fun i => BitVec.ofNat 32 (m.val (x.off + 4 * i) 4)
    let disp := match m.sect 6 with
      | none => []
      | some x => m.bytes x.off x.len
    let furrow (f : Furrow) : FurrowSt :=
      let y := d.fur f
      { y with st := if m.furOn fx f.val then .stopped else .disabled, prio := Fin.ofNat 4 (m.furPrio fx f.val),
               entry := BitVec.ofNat 14 (m.furEntry fx f.val), k0 := BitVec.ofNat 32 (m.furK0 fx f.val) }
    { d with engine := { d.engine with code := code, dispatch := disp, debugGranted := m.val fx.off 1 % 2 = 1,
                                       furrows := Vector.ofFn furrow } }

/-! ## A load (R334, R362) -/

/-- The image that runs: none for the factory safe image. -/
def Dev.runningImg (d : Dev) : Option Img := if d.cfg.safe then none else some (d.img d.cfg.running.val)

/-- CFG_RUNVER and CFG_SLOTS.RUNNING take the image to run: ACTIVE, or the safe image. -/
def Dev.takeImage (d : Dev) : Dev :=
  let d := d.modCfg fun c => { c with pendLoad := false, running := if c.safe then 3 else ⟨c.role.active.val, by omega⟩ }
  (d.wr32 CFG_RUNVER (if d.cfg.safe then Config.safeVersion else d.cfg.role.verActive)).syncCfg

/-- The BOOT record (R368). -/
def Dev.bootRec (d : Dev) : Dev :=
  d.record 0x02 (BitVec.ofNat 8 (d.fld CFG_RSTCAUSE CFG_RSTCAUSE.KIND))
    (bytesLE 4 (d.rn32 CFG_RUNVER) ++ bytesLE 1 d.cfg.running.val ++ bytesLE 1 d.cfg.role.prCount.toNat ++
      bytesLE 2 (d.rn CFG_RSTCAUSE))

/-- Every section of the running image is applied. The plan comes before REGS, so that a sequence that REGS enables is
judged with its entries. -/
def Dev.loadImage (d : Dev) : Dev :=
  let m := d.runningImg
  let d := d.resetRwc
  let (skipped, d) := match m with
    | some m => (d.loadPlan m).loadPairs m.pairs
    | none => (false, d)
  let d := (d.loadEngine m).loadData m
  let d := d.when skipped (·.raise 246)
  d.cfgRec (if d.cfg.safe then 10 else 5) (d.rd32 CFG_RUNVER) 0 d.cfg.running.val

/-- A link whose EN the load wrote before the pairs that end its configuration error is enabled at the end of the load (log
entry 122). -/
def Dev.raiseLinks (d : Dev) : Dev :=
  (List.finRange 4).foldl (fun (d : Dev) (k : Link) =>
    (d.evalVl k).when (d.flag (VL_CTL k) VL_CTL.EN) (·.raiseLink k)) d

/-- The blocks judge what has been loaded: loops, links, charger and Guard. -/
def Dev.judgeLoad (d : Dev) : Dev :=
  let d := (List.finRange 12).foldl (fun (d : Dev) (n : Loop) => d.evalCfgErr n) d
  ((d.raiseLinks).evalGuard).evalChg

end Sys2Proof.Machine
end

