-- ==== Sys2Proof/Machine/Boot.lean ====
section
/-!
DEFINITION. PORs, the boot path, NEWT and wakes (13_startup_and_device_states.md, R333 to R345), with the journal recovery of
R304 and the choice of the image of R366.
-/

namespace Sys2Proof.Machine

open Sys2Proof Sys2Proof.R

/-! ## The recorder at start (R373) -/

/-- Indexes of the slots of `size` bytes from `lo` on, below `hi`, that NV lists bytes of. -/
def ringSlots (nv : List Host.Cell) (lo hi size : Nat) : List Nat :=
  ((nv.filter fun (c : Host.Cell) => decide (lo ≤ c.1) && decide (c.1 < hi)).map fun (c : Host.Cell) => (c.1 - lo) / size).dedup

/-- The valid records of the event ring, and the valid snapshots of the snapshot ring. A slot with no byte listed is blank,
and its check fails. -/
def nvRecords (nv : List Host.Cell) : List (List Byte) :=
  ((ringSlots nv 0x48000 0x60000 32).map fun i => cellRead nv (0x48000 + 32 * i) 32).filter fun x =>
    decide (valLE (x.drop 30) = (crc32 (x.take 30)).toNat % 65536)
def nvSnaps (nv : List Host.Cell) : List (List Byte) :=
  ((ringSlots nv 0x60000 0x70000 512).map fun i => cellRead nv (0x60000 + 512 * i) 512).filter fun x =>
    decide (valLE (x.drop 508) = (crc32 (x.take 508)).toNat)

/-- The number of a record or a snapshot, and the one with the highest or the lowest number. -/
def entryNum (x : List Byte) : Nat := valLE (x.take 4)
def newestEntry (l : List (List Byte)) : Option (List Byte) :=
  l.foldl (fun b x => match b with
    | none => some x
    | some y => if entryNum y < entryNum x then some x else some y) none
def oldestEntry (l : List (List Byte)) : Option (List Byte) :=
  l.foldl (fun b x => match b with
    | none => some x
    | some y => if entryNum x < entryNum y then some x else some y) none

/-- Where numbering goes on, and the numbers that count as lost, by the sequence mark that governs. -/
def RecSt.restart (r : RecSt) (nv : List Host.Cell) : RecSt :=
  let mark := governs r.markNv { m := 0, s := 0 }
  let x : RecSt := { Dev.reset.recorder with
    mark := mark, markNv := r.markNv, anyRec := !(nvRecords nv).isEmpty, anySnap := !(nvSnaps nv).isEmpty,
    snapNext := match newestEntry (nvSnaps nv) with
      | some s => BitVec.ofNat 32 (entryNum s + 1)
      | none => 0 }
  match newestEntry (nvRecords nv) with
  | some n =>
    let seq := entryNum n
    if natBit (valLE ((n.drop 13).take 1)) 7 && decide (mark.s.toNat ≤ seq) then
      { x with next := BitVec.ofNat 32 (seq + 1), clean := true }
    else
      { x with next := mark.m, clean := false,
               gap := if seq + 1 < mark.m.toNat then some (BitVec.ofNat 32 (seq + 1), mark.m - 1) else none }
  | none =>
    if mark.m = 0 then x else { x with next := mark.m, clean := false, gap := some (0, mark.m - 1) }

/-- The registers that bound what is held. -/
def Dev.showRings (d : Dev) : Dev :=
  let num (x : Option (List Byte)) : Nat := match x with
    | some x => entryNum x
    | none => 0
  let rs := nvRecords d.cfg.nv
  let ss := nvSnaps d.cfg.nv
  (((d.wn32 REC_NEWEST (num (newestEntry rs))).wn32 REC_OLDEST (num (oldestEntry rs))).wn32 REC_SNEWEST
    (num (newestEntry ss))).wn32 REC_SOLDEST (num (oldestEntry ss))

/-- Operating time of the newest valid record, in 1/65,536 s (R389). -/
def Dev.recordTime (d : Dev) : Nat :=
  match newestEntry (nvRecords d.cfg.nv) with
  | some x => valLE ((x.drop 4).take 4) * 65536 + valLE ((x.drop 8).take 2)
  | none => 0

/-! ## PORs and wakes (R341 to R344) -/

/-- What starts a boot: CFG_RSTCAUSE, and whether the newt domain is lost. -/
structure Cause where
  kind : Nat
  src : Nat
  lastlc : Nat
  lost : Bool
  deriving DecidableEq, Repr

def Cause.isWake (c : Cause) : Bool := c.kind = 4
def Cause.isThermal (c : Cause) : Bool := c.kind = 3

/-- Registers of the newt domain that hold while it does; those of R352 hold across a wake only. -/
def newtRegs : List Nat := [RTC_CDN, RTC_CDN + 2, RTC_STATUS, RTC_TRIM, TH_SHUTCNT, TH_LASTSHUT]
def wakeRegs : List Nat := [CFG_ERSTCNT, CFG_RCYCCNT, CFG_BOCNT, CFG_BOOTLAT, CFG_FLUSHLAT, CFG_FLUSHBLK, CFG_VINMIN]
def Cause.keeps (c : Cause) (a : Nat) : Bool :=
  (!c.lost && decide (a ∈ newtRegs)) || (c.isWake && decide (a ∈ wakeRegs))

/-- The levels of pins that registers show: WAKE, KILL and PFI, and the feeds. -/
def Dev.keepPins (d : Dev) (old : Dev) : Dev :=
  let d := d.wn CFG_DSTATE (0x0008 + old.rn CFG_DSTATE / 16 % 8 * 16)
  d.wn BG_FEEDSTAT (old.rn BG_FEEDSTAT % 16)

/-- The counters area as a start finds it (R389, R390). -/
def ClockSt.nv (c : ClockSt) : Counters := governs c.saved { op := 0, pcycle := 0 }

/-- Time across a reset (R389 to R391): what is in the newt domain stays while that holds; otherwise operating time counts from
0 until it is resumed at t8. The power-cycle count is one more than NV holds. -/
def ClockSt.restart (c : ClockSt) (lost : Bool) : ClockSt :=
  let x : ClockSt := { Dev.reset.clock with
    pcycle := BitVec.ofNat 24 (min (c.nv.pcycle.toNat + 1) 0xFFFFFF), saved := c.saved }
  if lost then x
  else { x with op := c.op, opLost := c.opLost, rtc := c.rtc, rtcRem := c.rtcRem, cdnSub := c.cdnSub, trimAcc := c.trimAcc }

/-- A switch of CKD_RTC that a reset meets ends with its correction, where the newt domain holds (R382). -/
def Dev.endRtcSwitch (d : Dev) : Dev := d.when (decide (d.clock.switching = some .rtc)) (·.rtcCount 6)

/-- A POR or a wake: the block that is being written completes (R343), the core domain loses its contents, NV and the journal
stay, and the boot path goes on from `phase`.
What t8 and t9 find in NV is in force from here on (log entry 44). -/
def Dev.coreReset (d : Dev) (c : Cause) (phase : BootPhase) : Dev :=
  let d := (d.blockDone true).endRtcSwitch
  let r := Dev.reset
  let kept := d.cfg
  let role := governs kept.roleNv RoleRec.blank
  let cfg : CfgSt := { r.cfg with role := role, roleNv := kept.roleNv, keyLock := kept.keyLock, refKhz := kept.refKhz, nv := kept.nv, nvWrites := kept.nvWrites }
  let e : Dev := { r with
    regs := d.regs.filter fun (x : Nat × Word) => c.keeps x.1
    hopper := { r.hopper with journal := d.hopper.journal, jseq := d.hopper.jseq }
    boot := { r.boot with phase := phase, isWake := c.isWake, thermal := c.isThermal,
                          vinLow := d.boot.vinLow && decide (c.kind ≠ 1) }
    cfg := cfg
    recorder := d.recorder.restart kept.nv
    clock := d.clock.restart c.lost
    freeCount := d.freeCount
    pins := { r.pins with xpg := d.pins.xpg, vio := d.pins.vio, newtLost := c.lost }
    gauge := { r.gauge with copies := d.gauge.copies }
    therm := { r.therm with hot := d.therm.hot }
    lamps := if c.isWake then d.lamps else r.lamps }
  let e := ((e.keepPins d).syncCfg).showRings
  let e := (e.wr32 CFG_STGLEN role.stgLen).wr32 CFG_STGCRC role.stgCrc
  let e := e.when ((c.isWake || c.isThermal) && !d.flag CLK_STATUS CLK_STATUS.REFOK)
    (·.setFlag CLK_STATUS CLK_STATUS.REFOK false)
  e.wn CFG_RSTCAUSE (c.lastlc * 0x1000 + c.src * 16 + c.kind)

/-- POR_SUPPLY: VINMAX falls below V_POR, and the device is in DARK. -/
def Dev.porSupply (d : Dev) (lost : Bool) : Dev := d.coreReset ⟨1, 0, 0, lost⟩ .dark

/-! ## From t0 to t7 (R334, R335) -/

/-- BOOT_START: t0, where the newt domain comes back if it was lost, and t1. -/
def Dev.bootStart (d : Dev) : Dev :=
  d.when (decide (d.boot.phase = .dark)) fun d =>
    { d with boot := { d.boot with phase := .hb0 }, pins := { d.pins with newtLost := false } }

def Dev.hb0Good (d : Dev) : Dev :=
  d.when (decide (d.boot.phase = .hb0) && !d.latched) (·.modBoot fun b => { b with phase := .hb1 })

/-- Entry to LATCHED on KILL (R345, R409): KILL is raised and recorded. -/
def Dev.killLatch (d : Dev) : Dev := d.enterLatched lcKill fun d => d.raiseWith 238 (evtBlock 238) true

/-- HB1_GOOD: t3 and t4. The straps are sampled and VIO is measured (R443, R444); a KILL that stands already stops the boot
(R350), and a VINMAX below V_BO sets the brown-out flag (R346, R477). -/
def Dev.hb1Good (d : Dev) (adsel : BitVec 3) (t3 : Measured) : Dev :=
  if d.boot.phase ≠ .hb1 ∨ d.latched then d
  else
    let d := d.wn ID_STRAP ((0x60 + adsel.toNat) * 0x100 + t3.ckdly.toNat * 8 + adsel.toNat)
    let d := { d with pins := { d.pins with vioLevel := some t3.vio } }
    let d := d.modBoot fun b => { b with phase := .startDelay, vinLow := b.vinLow || t3.vinLow }
    (d.when (d.flag CFG_DSTATE CFG_DSTATE.KILL) Dev.killLatch).syncBof

/-- A failed range check or lock: OSCVDD goes off for 10 ms, and after the third the device is LATCHED. -/
def Dev.bootFail (d : Dev) : Dev :=
  let d := d.modBoot fun b => { b with attempts := b.attempts + 1 }
  let d := d.setFlag CLK_STATUS CLK_STATUS.PLLLOCK false
  if 3 ≤ d.boot.attempts then d.enterLatched lcRefboot id else d.modBoot fun b => { b with phase := .oscOff }

/-- START_DELAY_EXPIRY: t5, with the count of REFCLK edges. -/
def Dev.rangeCheck (d : Dev) (count : Nat) : Dev :=
  if d.boot.phase ≠ .startDelay ∨ d.latched then d
  else
    let d := d.wn CLK_BOOTCNT (min count 0xFFFF)
    let d := d.setFlag CLK_STATUS CLK_STATUS.REFOK (count ≠ 0)
    if 384 ≤ count ∧ count ≤ 5325 then d.modBoot fun b => { b with phase := .locking } else d.bootFail

def Dev.oscRetry (d : Dev) : Dev :=
  d.when (decide (d.boot.phase = .oscOff) && !d.latched) (·.modBoot fun b => { b with phase := .startDelay })

/-- PLL_LOCK: t7, or the failure of the lock. KE_SPEEDSC is set from the reference as the range check measured it: 1,600 edges
in 64 us are 25 MHz (R250). -/
def Dev.pllLock (d : Dev) (locked : Bool) : Dev :=
  if d.boot.phase ≠ .locking ∨ d.latched then d
  else if !locked then d.bootFail
  else
    let d := (d.setFlag CLK_STATUS CLK_STATUS.PLLLOCK true).modClock fun c => { c with tb := 0 }
    let count := d.rn CLK_BOOTCNT
    let d := d.wr KE_SPEEDSC (if count = 1600 then 0x0500 else Config.speedSc count)
    (d.modBoot fun b => { b with phase := .nvCheck }).syncWait

/-! ## t8 and t9: NV check, journal, gauge and recorder (R336, R366, R304, R373) -/

/-- A failed verification of the image in a slot. -/
def Dev.imageBad (d : Dev) (ver : BitVec 32) (slot : Fin 3) : Dev :=
  ((d.setFlag CFG_STICKY CFG_STICKY.VERFAIL true).cfgRec 9 ver 0 slot.val).raise 15

/-- The safe image is to run: the roles are left as they stand. -/
def Dev.goSafe (d : Dev) : Dev := ((d.modCfg fun c => { c with safe := true }).syncCfg).raise 14

/-- PREVIOUS takes the place of ACTIVE where it is valid and verifies; otherwise the safe image does. -/
def Dev.fallBack (d : Dev) : Dev :=
  let r := d.cfg.role
  if !r.prevValid then d.goSafe
  else if (d.img r.previous.val).ok d.cfg.keyLock then d.rollBack 7
  else (d.imageBad r.verPrevious r.previous).goSafe

def Dev.chooseImage (d : Dev) : Dev :=
  let r := d.cfg.role
  if (d.img r.active.val).ok d.cfg.keyLock then d else (d.imageBad r.verActive r.active).fallBack

/-- The numbers that the scan found lost are reported. -/
def Dev.reportGap (d : Dev) : Dev :=
  match d.recorder.gap with
  | none => d
  | some (a, b) =>
    let d := d.modRec fun r => { r with gap := none }
    let d := d.record 0x04 1 (bytesLE 4 a.toNat ++ bytesLE 4 b.toNat ++ [0])
    ((d.setFlag REC_STICKY REC_STICKY.GAP true).bumpBy REC_LOSTCNT ((b - a).toNat + 1)).raise 241

/-- Slots in order of journal sequence. -/
def insertSlot (j : JSlot) : List JSlot → List JSlot
  | [] => [j]
  | x :: xs => if j.seq.toNat ≤ x.seq.toNat then j :: x :: xs else x :: insertSlot j xs

/-- The completion of an OPEN slot, or of one whose check fails. -/
def Dev.recoverSlot (d : Dev) (j : JSlot) : Dev :=
  let i := j.item
  let c : Completion :=
    if j.crcOk then { tag := j.tag, status := 0x14, source := i.source, cookie := i.cookie,
                      result := result2 i.code.toNat i.stamp.toNat, stamp := d.stamp }
    else { tag := j.tag, status := 0x14, source := 3, cookie := 0xFFFF, result := 0, stamp := d.stamp }
  let d := d.when (!j.crcOk) fun d => (d.setFlag HOP_STICKY HOP_STICKY.JNLBAD true).raise 28
  let d := d.when (j.crcOk && i.flags.getLsbD 0) fun d => d.record 0x06 0 (c.bytes.take 12)
  d.pushCompletion c

/-- The slots that recovery reports: the OPEN ones and those whose check fails. -/
def JSlot.lost (j : JSlot) : Bool := j.closed.isNone || !j.crcOk

/-- Journal recovery: every slot that it reports is then closed. -/
def Dev.recoverJournal (d : Dev) : Dev :=
  let js := (d.hopper.journal.filter JSlot.lost).foldr insertSlot []
  if js.isEmpty then d
  else
    let d := js.foldl Dev.recoverSlot d
    let d := { d with hopper := { d.hopper with journal := d.hopper.journal.map fun (j : JSlot) => if j.lost then j.close 0x14 else j } }
    let d := js.foldl (fun (d : Dev) (j : JSlot) => d.nvMade (.journal j.tag)) d
    let d := (d.setFlag HOP_STATUS HOP_STATUS.RECOVERED true).wn HOP_PWRABT js.length
    d.raise 27

/-- Operating time that was lost with the newt domain resumes from the larger of NV and the newest valid record (R389). -/
def Dev.resumeTime (d : Dev) : Dev :=
  d.modClock fun c => if c.opLost then { c with op := max c.nv.op d.recordTime, opLost := false } else c

/-- NV_CHECK: t8 passes once the brown-out flag and the inhibit are clear, and t9 with it. -/
def Dev.nvCheck (d : Dev) : Dev :=
  if d.boot.phase ≠ .nvCheck ∨ d.latched then d
  else if d.nvHeld then d.syncWait
  else
    let d := d.syncWait
    let d := d.resumeTime.putCounters
    let d := (d.discardStaging.chooseImage).recoverJournal
    (d.gaugeStart.reportGap).modBoot fun b => { b with phase := .loading }

/-! ## t10 and t11 (R334, R263, R367, R392) -/

/-- The RTC_ANCHOR record of a boot or wake with the RTC running. -/
def Dev.bootAnchor (d : Dev) : Dev :=
  if d.flag RTC_STATUS RTC_STATUS.OSCSTOP then d
  else
    let v := d.clock.rtc.toNat
    (d.record 0x03 1 (bytesLE 6 (v / 65536) ++ bytesLE 2 (v % 65536) ++ [0])).raise 245

/-- IMAGE_LOAD: t10, once NV check and start-up pass have ended. -/
def Dev.imageLoad (d : Dev) : Dev :=
  if d.boot.phase ≠ .loading ∨ d.latched ∨ !d.meas.running then d
  else
    let d := { (d.takeImage.loadImage) with routesLive := true }
    let d := (d.bootRec.bootAnchor).modBoot fun b => { b with phase := .loaded }
    (d.judgeLoad.rstSync).guardStart

/-- Every enabled furrow starts at its entry (R261, R263), and every enabled slot of the watchdog with them (R424). -/
def Dev.startFurrows (d : Dev) : Dev :=
  let d := { d with engine := { d.engine with
    started := true
    last := Vector.replicate 4 3
    furrows := d.engine.furrows.map fun (x : FurrowSt) =>
      if x.st = FState.disabled then x else { x.start with halted := false, stepping := false, held := [] } } }
  d.startSlots

/-- BOOT_COMPLETE: t11. -/
def Dev.bootComplete (d : Dev) : Dev :=
  if d.boot.phase ≠ .loaded ∨ d.latched then d
  else
    let d := (d.setFlag CFG_DSTATE CFG_DSTATE.BOOT false).wn CFG_BOOTLAT (min d.now 0xFFFF)
    let thermal := d.boot.thermal
    let d := (d.modBoot fun b => { b with phase := .up, isWake := false, thermal := false }).startFurrows
    d.raiseAll ([0] ++ (if d.flag RTC_STATUS RTC_STATUS.OSCSTOP then [36] else []) ++ if thermal then [237] else [])

/-! ## KILL and the thermal restart (R345, R408, R410) -/

/-- A POR by KILL. LASTLC keeps the LCAUSE of the LATCHED state left. -/
def Dev.killPor (d : Dev) : Dev := d.coreReset ⟨2, 0, d.fld CFG_DSTATE CFG_DSTATE.LCAUSE, false⟩ .hb0

/-- KILL_ASSERT: outside NEWT, and once the core domain is there, the device is LATCHED. -/
def Dev.killAssert (d : Dev) : Dev :=
  if d.boot.phase = .dark ∨ d.flag CFG_DSTATE CFG_DSTATE.KILL then d
  else
    let d := (d.setFlag CFG_DSTATE CFG_DSTATE.KILL true).modBoot fun b => { b with killDue := false }
    if d.coreOn then d.killLatch else d

/-- In LATCHED a restart comparator may read 125 degrees C or above without a command that says so: what the comparators read is
a free value, until RESTART_COMPARATOR_CLEAR (log entry 155). -/
def Dev.readComparators (d : Dev) : Dev :=
  if !d.latched || d.therm.hot then d
  else
    let (hot, d) := d.free 1
    { d with therm := { d.therm with hot := decide (hot = 1) } }

/-- KILL_RELEASE: 10 ms after the release. In LATCHED a restart comparator that reads 125 degrees C or above holds the POR back
(R410). -/
def Dev.killRelease (d : Dev) : Dev :=
  if !d.flag CFG_DSTATE CFG_DSTATE.KILL then d
  else
    let d := d.setFlag CFG_DSTATE CFG_DSTATE.KILL false
    if d.boot.phase = .dark then d
    else
      let d := d.readComparators
      if d.latched && d.therm.hot then d.modBoot fun b => { b with killDue := true } else d.killPor

/-- THERMAL_RESTART: 1 s below 125 degrees C, with the flush ended. -/
def Dev.thermalRestart (d : Dev) : Dev :=
  if d.latched && decide (d.fld CFG_DSTATE CFG_DSTATE.LCAUSE = lcThermal) && !d.therm.hot &&
      !d.flag CFG_DSTATE CFG_DSTATE.FLUSHING && !d.recorder.flushing then
    d.coreReset ⟨3, 0, 0, false⟩ .hb1
  else d

/-- RESTART_COMPARATOR_CLEAR: in LATCHED the hot inhibit clears (R405), and a POR by KILL that is due follows (R410). -/
def Dev.comparatorClear (d : Dev) : Dev :=
  if !d.latched then d
  else
    let d := { d with therm := { d.therm with hot := false } }
    let d := (d.setFlag TH_STATUS TH_STATUS.NVHOT false).syncInhibit
    d.when d.boot.killDue Dev.killPor

/-! ## NEWT (R293, R339 to R341, R393) -/

/-- ENTER_NEWT: the entry is arranged, or the item is refused. -/
def Dev.enterNewt (d : Dev) (it : Item) : Dev :=
  if d.rn32 SEQ_RAILON ≠ 0 ∨ d.dstate ≠ dsIdle then d.complete it.tag 0x23 0
  else if d.inFlight.any fun i => i.tag ≠ it.tag then d.complete it.tag 0x22 0
  else
    let d := (d.complete it.tag 0x00 0).setFlag CFG_DSTATE CFG_DSTATE.NEWTPEND true
    ((d.writeCdn (BitVec.ofNat 32 (it.arg32 0 1))).gaugeRecord).startFlush

/-- What was under way in the 10 ms before NEWT ends: the flush, the journal closes and the gauge record (R339). -/
def Dev.newtFlush (d : Dev) : Dev :=
  let d := d.when (d.recorder.flushing && !d.nvHeld) (·.recFlushDone true)
  let d := d.hopper.closes.foldl (fun (d : Dev) c => d.journalClose c.1) d
  d.when (d.gauge.recPend && !d.nvHeld) Dev.putGauge

/-- On entry to NEWT the device itself switches CKD_RTC to REFCLK if it was on the PLL (R383). A switch of CKD_RTC that is in
progress goes on to its end (R382); those of the other domains end with their domains. -/
def Dev.rtcToRef (d : Dev) : Dev :=
  if d.fld CLK_DSEL CLK_DSEL.RTCSRC = 0 then
    d.modClock fun c => { c with switching := if c.switching = some .rtc then c.switching else none }
  else (d.setFld CLK_DSEL CLK_DSEL.RTCSRC 0).modClock fun c => { c with switching := some .rtc }

/-- NEWT_ENTRY: 10 ms after ENTER_NEWT, unless the entry was abandoned. -/
def Dev.newtEntry (d : Dev) : Dev :=
  if !(d.flag CFG_DSTATE CFG_DSTATE.NEWTPEND && d.isUp && decide (d.dstate = dsIdle)) then d
  else
    let lamps := d.lampSync.lamps
    let d := ((d.pwmMid.stageOff).drillStop).newtFlush
    let d := (((d.guardSleep.measStop).linksQuiet).portsQuiet).furrowsStop
    let d := { d with engine := { d.engine with started := false }, lamps := lamps }
    let d := (d.rtcToRef).setFlag CFG_DSTATE CFG_DSTATE.NEWTPEND false
    d.modBoot fun b => { b with phase := .newt }

/-- The device wakes from NEWT: `src` is 1 for WAKE and 2 for the countdown. -/
def Dev.wakeUp (d : Dev) (src : Nat) : Dev := d.coreReset ⟨4, src, 0, false⟩ .hb0

/-- WAKE after its filter: it wakes the device from NEWT, abandons an entry, and elsewhere only shows (R350). -/
def Dev.wakeChange (d : Dev) (low : Bool) : Dev :=
  if d.boot.phase = .dark then d
  else
    let d := d.setFlag CFG_DSTATE CFG_DSTATE.WAKE low
    if !low then d
    else if d.boot.phase = .newt then d.wakeUp 1
    else d.abandonNewt

/-- COUNTDOWN: the countdown reaches 0. -/
def Dev.countdownEnd (d : Dev) : Dev :=
  if !(d.countdownDue && d.rtcRuns) then d
  else
    let d := (d.wn32 RTC_CDN 0).setFlag RTC_STATUS RTC_STATUS.CDRUN false
    let d := if d.boot.phase = .newt then d.wakeUp (if d.flag CFG_DSTATE CFG_DSTATE.WAKE then 1 else 2) else d
    (d.setFlag CLK_STICKY CLK_STICKY.CDEXP true).raise 35

/-! ## Commands -/

def execBootStart (s : State) : Host.Outcome State Fault Refusal := s.step1 Dev.bootStart
def execHb0Good (s : State) : Host.Outcome State Fault Refusal := s.step1 Dev.hb0Good
def execHb1Good (adsel : BitVec 3) (t3 : Measured) (s : State) : Host.Outcome State Fault Refusal :=
  s.step1 (·.hb1Good adsel t3)
def execStartDelayExpiry (count : Nat) (s : State) : Host.Outcome State Fault Refusal := s.step1 (·.rangeCheck count)
def execOscRetryExpiry (s : State) : Host.Outcome State Fault Refusal := s.step1 Dev.oscRetry
def execPllLock (locked : Bool) (s : State) : Host.Outcome State Fault Refusal := s.step1 (·.pllLock locked)
def execNvCheck (s : State) : Host.Outcome State Fault Refusal := s.step1 Dev.nvCheck
def execImageLoad (s : State) : Host.Outcome State Fault Refusal := s.step1 Dev.imageLoad
def execBootComplete (s : State) : Host.Outcome State Fault Refusal := s.step1 Dev.bootComplete
def execPorSupply (newtLost : Bool) (s : State) : Host.Outcome State Fault Refusal := s.step1 (·.porSupply newtLost)
def execKillAssert (s : State) : Host.Outcome State Fault Refusal := s.step1 Dev.killAssert
def execKillRelease (s : State) : Host.Outcome State Fault Refusal := s.step1 Dev.killRelease
def execThermalRestart (s : State) : Host.Outcome State Fault Refusal := s.step1 Dev.thermalRestart
def execRestartComparatorClear (s : State) : Host.Outcome State Fault Refusal := s.step1 Dev.comparatorClear
def execWakeAssert (low : Bool) (s : State) : Host.Outcome State Fault Refusal := s.step1 (·.wakeChange low)
def execCountdown (s : State) : Host.Outcome State Fault Refusal := s.step1 Dev.countdownEnd
def execEnterNewt (tag : Tag) (s : State) : Host.Outcome State Fault Refusal :=
  s.step1 fun d => d.carry tag (· = 0x32) fun it d => d.enterNewt it
def execNewtEntry (s : State) : Host.Outcome State Fault Refusal := s.step1 Dev.newtEntry
def execCfgDsctlCntclr (acc : Acc) (s : State) : Host.Outcome State Fault Refusal :=
  s.step1 fun d => d.gate acc CFG_DSCTL Dev.dsCntclr

end Sys2Proof.Machine
end

