-- ==== Sys2Proof/Machine/Bus.lean ====
section
/-!
DEFINITION. Data transactions on the host ports (12_host_ports_and_ownership.md, R312, R313, R316, R317): the pointer, page
wrap, packet error checking, and refused bytes. A command carries a whole transfer or a part of one, so that what happens in
between (R314, R315, R330) finds the transaction as it stands.
-/

namespace Sys2Proof.Machine

open Sys2Proof Sys2Proof.R

/-- The address `k` bytes after `a` in its 64-byte page (R312). -/
def pageAt (a k : Nat) : Nat := a / 64 * 64 + (a + k) % 64
def pageNext (a : Nat) : Nat := pageAt a 1

/-- The address byte of a transaction. -/
def Dev.addrByte (d : Dev) (rd : Bool) : Byte := BitVec.ofNat 8 (2 * d.portAddr + if rd then 1 else 0)

/-! ## Starts and ends -/

/-- HP_STATUS of a port in a transaction, or with its bus idle (R332). -/
def Dev.setXfer (d : Dev) (p : Port) (b : Bool) : Dev :=
  (d.setFlag (HP_STATUS p) HP_STATUS.XFER b).setFlag (HP_STATUS p) HP_STATUS.BUSY b

/-- A START or repeated START with the address byte. The first of a transaction counts it (R332) and releases what R313
captured, save a frozen result (R168); an attention request that meets a write has lost (R325). `wire` is what the PEC covers from
before a repeated START. -/
def Dev.busStart (d : Dev) (p : Port) (dir : BusDir) (wire : List Byte) : Dev :=
  let fresh := !d.flag (HP_STATUS p) HP_STATUS.XFER
  let d := d.when fresh fun d => (d.bumpWrap (HP_XFERCNT p)).modAcc (.port p) fun x =>
    { x with capture := x.capture.filter fun (c : Nat × BitVec 16) => 0x8000 ≤ c.1 && c.1 < 0x9000 }
  let wire := (if fresh then [] else wire) ++ [d.addrByte (decide (dir = .read))]
  let pec := d.pecOn p
  let d := d.modPort p fun x => { x.quiet with dir := dir, wire := wire, pec := pec }
  (d.setFlag (HP_STATUS p) HP_STATUS.ATNHOLD false).setXfer p true

/-- STOP, or a repeated START to come: then `wire` goes on to the PEC of a read. -/
def Dev.busEnd (d : Dev) (p : Port) (fin : BusEnd) (wire : List Byte) : Dev :=
  match fin with
  | .more => d
  | .stop => (d.modPort p PortSt.quiet).setXfer p false
  | .restart => d.modPort p fun x => { x.quiet with wire := wire }

/-! ## Writes -/

/-- A data byte at the pointer: the first refused byte and every later one is answered with NACK (R317). The answer is the
acknowledgement. -/
def Dev.putByte (d : Dev) (p : Port) (b : Byte) : Bool × Dev :=
  let a := (d.port p).ptr.toNat
  if (d.port p).refused then (false, d)
  else if d.portMay p a then
    (true, (d.writeByte (.port p) a b).modPort p fun x => { x with ptr := BitVec.ofNat 16 (pageNext a) })
  else (false, (d.refuseWrite p).modPort p fun x => { x with refused := true })

/-- A byte of a write: the pointer, high byte first, then data (R312). -/
def Dev.takeByte (d : Dev) (p : Port) (b : Byte) : Bool × Dev :=
  let x := d.port p
  let d := d.modPort p fun x => { x with rx := x.rx ++ [b] }
  match x.rx with
  | [] => (true, d)
  | [hi] => (true, d.modPort p fun x => { x with ptr := hi ++ b })
  | _ => d.putByte p b

/-- Bytes of a write, with their acknowledgements. -/
def Dev.takeBytes (d : Dev) (p : Port) : List Byte → List Bool × Dev
  | [] => ([], d)
  | b :: bs =>
    let (k, d) := d.takeByte p b
    let (ks, d) := d.takeBytes p bs
    (k :: ks, d)

/-- Bytes of a write that carries a PEC are held (R316). One is answered with NACK from the 68th on, and from the first data
byte on that the port may not write (R317). The PEC byte is no data byte: `data` says how many bytes since the address byte
are pointer or data. -/
def Dev.holdBytes (d : Dev) (p : Port) (bytes : List Byte) (data : Nat) : List Bool × Dev :=
  let x := d.port p
  let old := x.rx.length
  let all := x.rx ++ bytes
  let a := 256 * (byteOf all 0).toNat + (byteOf all 1).toNat
  let bad := if x.refused then some old
    else (List.range (min data all.length)).find? fun j => old ≤ j && 2 ≤ j && !d.portMay p (pageAt a (j - 2))
  let ks := (List.range bytes.length).map fun k =>
    old + k < 67 && match bad with
      | some j => decide (old + k < j)
      | none => true
  let d := d.modPort p fun x => { x with rx := all, wire := x.wire ++ bytes }
  let d := d.when (decide (67 < all.length) && decide (old ≤ 67)) (·.setFlag (HP_STICKY p) HP_STICKY.OVERLEN true)
  (ks, d.when (bad.isSome && !x.refused) fun d => (d.refuseWrite p).modPort p fun x => { x with refused := true })

/-- A write with PEC ends (R316): it is judged as a whole, its ownership as it stands now (R330), and applied or not. -/
def Dev.judgeWrite (d : Dev) (p : Port) : Dev :=
  let x := d.port p
  let body := x.rx.dropLast
  let a := 256 * (byteOf body 0).toNat + (byteOf body 1).toNat
  if 67 < x.rx.length || x.refused then d
  else if (List.range body.length).any fun j => 2 ≤ j && !d.portMay p (pageAt a (j - 2)) then d.refuseWrite p
  else if crc8 x.wire.dropLast = byteOf x.wire (x.wire.length - 1) then
    ((d.modPort p fun x => { x with rx := [] }).takeBytes p body).2
  else ((d.setFlag (HP_STICKY p) HP_STICKY.PECERR true).bump (HP_PECCNT p)).raisePort p 21

/-- A write ends. Without PEC nothing is left to do; a write of the pointer alone before a repeated START carries none. -/
def Dev.endWrite (d : Dev) (p : Port) (fin : BusEnd) : Dev :=
  let x := d.port p
  let short := decide (fin = .restart) && decide (x.rx.length ≤ 2)
  let d := if !x.pec || fin = .more || x.rx.isEmpty then d
    else if short then ((d.modPort p fun y => { y with rx := [] }).takeBytes p x.rx).2
    else d.judgeWrite p
  d.busEnd p fin (if short && decide (x.rx.length = 2) then x.wire else [])

/-- HP_WRITE_TRANSACTION: bytes after the address byte, or further bytes of the write under way. -/
def Dev.busWrite (d : Dev) (p : Port) (bytes : List Byte) (fin : BusEnd) : Dev :=
  if !d.portsAnswer then d
  else
    let d := if (d.port p).dir = .write then d else d.busStart p .write []
    let n := (d.port p).rx.length + bytes.length
    let (ks, d) := if (d.port p).pec
      then d.holdBytes p bytes (if fin = .more || (decide (fin = .restart) && decide (n ≤ 2)) then n else n - 1)
      else d.takeBytes p bytes
    (d.modPort p fun x => { x with acks := ks }).endWrite p fin

/-! ## Reads -/

/-- A byte of a read (R312, R316): data from the pointer on; with PEC, the PEC after the data and 0xFF after the PEC. -/
def Dev.sendByte (d : Dev) (p : Port) : Byte × Dev :=
  let x := d.port p
  if x.pec && decide (d.pecLen p ≤ x.sent) then
    (if x.sent = d.pecLen p then crc8 x.wire else 0xFF, d.modPort p fun x => { x with sent := x.sent + 1 })
  else
    let (b, d) := d.readByte (.port p) x.ptr.toNat
    (b, d.modPort p fun x => { x with ptr := x.ptr + 1, sent := x.sent + 1, wire := x.wire ++ [b] })

/-- Several bytes of a read. -/
def Dev.sendBytes (d : Dev) (p : Port) : Nat → List Byte × Dev
  | 0 => ([], d)
  | n + 1 =>
    let (b, d) := d.sendByte p
    let (bs, d) := d.sendBytes p n
    (b :: bs, d)

/-- `n` bytes of an answer frame whose bytes after byte 1 are `rest`. All but the last are acknowledged, and the last of a
transfer that goes on. -/
def Dev.replyBytes (d : Dev) (p : Port) (rest : List Byte) (n : Nat) (fin : BusEnd) : Dev :=
  let fresh := decide (rest.length + 1 = (d.answerFrame p).length)
  let d := d.modPort p fun x => { x with dir := .answer (rest.drop n), tx := padTo n rest }
  (d.when (fresh && (decide (2 ≤ n) || (decide (n = 1) && decide (fin = .more)))) (·.answered p)).busEnd p fin []

/-- HP_READ_TRANSACTION: `n` bytes clocked by the controller, or further bytes of the read under way. A write that was still
open ends with the repeated START. A read of this device whose START meets an attention request is one with its answer, and
gets HP_ATNSTAT (R325). -/
def Dev.busRead (d : Dev) (p : Port) (n : Nat) (fin : BusEnd) : Dev :=
  if !d.portsAnswer then d
  else if d.flag (HP_STATUS p) HP_STATUS.ATNHOLD then
    let rest := (d.answerFrame p).drop 1
    ((d.holdSda p false).setXfer p true).replyBytes p rest n fin
  else match (d.port p).dir with
  | .answer rest => d.replyBytes p rest n fin
  | _ =>
    let d := if (d.port p).dir = .write then d.endWrite p .restart else d
    let d := if (d.port p).dir = .read then d else d.busStart p .read (d.port p).wire
    let (bs, d) := d.sendBytes p n
    (d.modPort p fun x => { x with tx := bs }).busEnd p fin []

def execHpWriteTransaction (p : Port) (bytes : List Byte) (fin : BusEnd) (s : State) : Host.Outcome State Fault Refusal :=
  s.step1 (·.busWrite p bytes fin)
def execHpReadTransaction (p : Port) (x : BusRead) (s : State) : Host.Outcome State Fault Refusal :=
  s.step1 (·.busRead p x.count x.fin)

end Sys2Proof.Machine
end

