-- ==== Sys2Proof/Machine/Operands.lean ====
section
/-!
DEFINITION. The operand forms of the Kotried instructions (R269, R276, R277, R281): registers, absolute and indexed
addresses, immediates, and data-memory accesses with their checks (R252).
-/

namespace Sys2Proof.Machine

open Sys2Proof Sys2Proof.R

/-- Register `r` of a furrow. -/
def FurrowSt.kr (x : FurrowSt) (r : KReg) : BitVec 32 := x.k[r]

/-- Write register `r`. -/
def FurrowSt.setK (x : FurrowSt) (r : KReg) (v : BitVec 32) : FurrowSt := { x with k := x.k.set r v }

/-- A data-memory address (R276): zext(IMM), or Ka + sext(IMM) in 32 bits. -/
def FurrowSt.dataAddr (x : FurrowSt) : MAddr → BitVec 32
  | .abs imm => imm.setWidth 32
  | .idx a imm => x.kr a + imm.signExtend 32

/-- A register-space address (R277): IMM, or (Ka + IMM) modulo 0x1_0000. -/
def FurrowSt.regAddr (x : FurrowSt) : MAddr → BitVec 16
  | .abs imm => imm
  | .idx a imm => (x.kr a).setWidth 16 + imm

/-- The 24-bit operand of a wait: IMM, or Ka[23:0] (R281). -/
def FurrowSt.waitArg (x : FurrowSt) : TSrc → Nat
  | .imm v => v.toNat
  | .reg a => (x.kr a).toNat % 2 ^ 24

/-- The operand of TRIG: IMM, or Ka (R282). -/
def FurrowSt.trigArg (x : FurrowSt) : TSrc → Nat
  | .imm v => v.toNat
  | .reg a => (x.kr a).toNat

/-- The fault of a data access of `n` bytes at `a`, if any (R252): the lower code wins (R270). -/
def dataFault (a : BitVec 32) (n : Nat) : Option Nat :=
  if 0xA000 < a.toNat + n then some fltDataAddr else if a.toNat % n ≠ 0 then some fltAlign else none

/-- Set the result and the flags Z and N, or also C, V. -/
def FurrowSt.put (x : FurrowSt) (r : KReg) (y : Alu) : FurrowSt := x.setK r y.r
def FurrowSt.flagsZN (x : FurrowSt) (y : Alu) : FurrowSt := { x with z := y.z, n := y.n }
def FurrowSt.flagsZNC (x : FurrowSt) (y : Alu) : FurrowSt := { x with z := y.z, n := y.n, c := y.c }
def FurrowSt.flagsZNV (x : FurrowSt) (y : Alu) : FurrowSt := { x with z := y.z, n := y.n, v := y.v }
def FurrowSt.flagsZNCV (x : FurrowSt) (y : Alu) : FurrowSt := { x with z := y.z, n := y.n, c := y.c, v := y.v }

end Sys2Proof.Machine
end

