-- ==== Sys2Proof/Machine/Kotried.lean ====
section
/-!
DEFINITION. The Kotried instructions that touch only their furrow and data memory (10_kotried_instructions.md), and the
waits (R281). Sources are read before any result is written (R270); an instruction changes only the flags its table
lists (R271).
-/

namespace Sys2Proof.Machine

open Sys2Proof Sys2Proof.R

/-- A three-register instruction: `op` computes result and flags, `fl` says which flags it sets. -/
def kReg3 (i : Instr) (f : Furrow) (d a b : KReg) (op : BitVec 32 → BitVec 32 → Alu) (fl : FurrowSt → Alu → FurrowSt)
    (s : State) : Host.Outcome State Fault Refusal :=
  s.step1 fun dv => dv.issue f i fun x dv =>
    let y := op (x.kr a) (x.kr b)
    dv.retire f fun x => fl (x.put d y) y

/-- A compare: flags only. -/
def kCmp (i : Instr) (f : Furrow) (y : FurrowSt → Alu) (fl : FurrowSt → Alu → FurrowSt) (s : State) :
    Host.Outcome State Fault Refusal :=
  s.step1 fun dv => dv.issue f i fun x dv => dv.retire f fun z => fl z (y x)

/-- An instruction with one register source and an operand of its own. -/
def kUn (i : Instr) (f : Furrow) (d a : KReg) (op : BitVec 32 → Alu) (fl : FurrowSt → Alu → FurrowSt) (s : State) :
    Host.Outcome State Fault Refusal :=
  s.step1 fun dv => dv.issue f i fun x dv =>
    let y := op (x.kr a)
    dv.retire f fun x => fl (x.put d y) y

/-- A load of `n` bytes (R276): `ext` widens the value. -/
def kLoad (i : Instr) (f : Furrow) (d : KReg) (m : MAddr) (n : Nat) (ext : Nat → BitVec 32) (s : State) :
    Host.Outcome State Fault Refusal :=
  s.step1 fun dv => dv.issue f i fun x dv =>
    let a := x.dataAddr m
    match dataFault a n with
    | some c => dv.furrowFault f c
    | none =>
      let v := ext (cellVal dv.engine.data a.toNat n)
      dv.retire f fun x => x.setK d v

/-- A store of the low `n` bytes of Kd (R276). -/
def kStore (i : Instr) (f : Furrow) (d : KReg) (m : MAddr) (n : Nat) (s : State) : Host.Outcome State Fault Refusal :=
  s.step1 fun dv => dv.issue f i fun x dv =>
    let a := x.dataAddr m
    match dataFault a n with
    | some c => dv.furrowFault f c
    | none =>
      let dv := { dv with engine := { dv.engine with
        data := cellWrite dv.engine.data a.toNat (bytesLE n (x.kr d).toNat) } }
      dv.retire f id

/-- Go to a target address (R280): at or beyond the loaded length of CODE it faults CODEADDR with no effect. -/
def Dev.jump (dv : Dev) (f : Furrow) (target : Nat) (g : FurrowSt → FurrowSt) : Dev :=
  if dv.engine.code.length ≤ target then dv.furrowFault f fltCodeAddr
  else dv.modFur f fun x => { g x with pc := BitVec.ofNat 14 target }

/-- A call (R280): CODEADDR has the lower code, so it is reported before STACKOVF (R270). -/
def Dev.call (dv : Dev) (f : Furrow) (target : Nat) : Dev :=
  if dv.engine.code.length ≤ target then dv.furrowFault f fltCodeAddr
  else if 8 ≤ (dv.fur f).stack.length then dv.furrowFault f fltStackOvf
  else dv.jump f target fun x => { x with stack := (x.pc + 1) :: x.stack }

/-- ADD (R273): Kd = Ka + Kb, wrapping. -/
def execAdd (f : Furrow) (d a b : KReg) (s : State) : Host.Outcome State Fault Refusal :=
  kReg3 (.add f d a b) f d a b (aluAdd) FurrowSt.flagsZNCV s

/-- ADDS (R273): the saturated sum. -/
def execAdds (f : Furrow) (d a b : KReg) (s : State) : Host.Outcome State Fault Refusal :=
  kReg3 (.adds f d a b) f d a b (fun p q => aluSat (p.toInt + q.toInt)) FurrowSt.flagsZNV s

/-- SUB (R273): Kd = Ka − Kb, wrapping. -/
def execSub (f : Furrow) (d a b : KReg) (s : State) : Host.Outcome State Fault Refusal :=
  kReg3 (.sub f d a b) f d a b (aluSub) FurrowSt.flagsZNCV s

/-- SUBS (R273): the saturated difference. -/
def execSubs (f : Furrow) (d a b : KReg) (s : State) : Host.Outcome State Fault Refusal :=
  kReg3 (.subs f d a b) f d a b (fun p q => aluSat (p.toInt - q.toInt)) FurrowSt.flagsZNV s

/-- AND (R273). -/
def execAnd (f : Furrow) (d a b : KReg) (s : State) : Host.Outcome State Fault Refusal :=
  kReg3 (.and f d a b) f d a b (fun p q => alu (p &&& q) false false) FurrowSt.flagsZN s

/-- OR (R273). -/
def execOr (f : Furrow) (d a b : KReg) (s : State) : Host.Outcome State Fault Refusal :=
  kReg3 (.or f d a b) f d a b (fun p q => alu (p ||| q) false false) FurrowSt.flagsZN s

/-- XOR (R273). -/
def execXor (f : Furrow) (d a b : KReg) (s : State) : Host.Outcome State Fault Refusal :=
  kReg3 (.xor f d a b) f d a b (fun p q => alu (p ^^^ q) false false) FurrowSt.flagsZN s

/-- SHL (R273): by Kb[7:0] places. -/
def execShl (f : Furrow) (d a b : KReg) (s : State) : Host.Outcome State Fault Refusal :=
  kReg3 (.shl f d a b) f d a b (fun p q => aluShl p (q.toNat % 256)) FurrowSt.flagsZNC s

/-- SHR (R273): by Kb[7:0] places. -/
def execShr (f : Furrow) (d a b : KReg) (s : State) : Host.Outcome State Fault Refusal :=
  kReg3 (.shr f d a b) f d a b (fun p q => aluShr p (q.toNat % 256)) FurrowSt.flagsZNC s

/-- SAR (R273): by Kb[7:0] places. -/
def execSar (f : Furrow) (d a b : KReg) (s : State) : Host.Outcome State Fault Refusal :=
  kReg3 (.sar f d a b) f d a b (fun p q => aluSar p (q.toNat % 256)) FurrowSt.flagsZNC s

/-- MIN (R273): signed minimum. -/
def execMin (f : Furrow) (d a b : KReg) (s : State) : Host.Outcome State Fault Refusal :=
  kReg3 (.min f d a b) f d a b (fun p q => alu (if p.toInt ≤ q.toInt then p else q) false false) FurrowSt.flagsZN s

/-- MAX (R273): signed maximum. -/
def execMax (f : Furrow) (d a b : KReg) (s : State) : Host.Outcome State Fault Refusal :=
  kReg3 (.max f d a b) f d a b (fun p q => alu (if p.toInt ≤ q.toInt then q else p) false false) FurrowSt.flagsZN s

/-- MUL (R273): low 32 bits of the signed product; V when it does not fit. -/
def execMul (f : Furrow) (d a b : KReg) (s : State) : Host.Outcome State Fault Refusal :=
  kReg3 (.mul f d a b) f d a b (aluMul) FurrowSt.flagsZNV s

/-- CMP (R273): Ka − Kb, discarded. -/
def execCmp (f : Furrow) (a b : KReg) (s : State) : Host.Outcome State Fault Refusal :=
  kCmp (.cmp f a b) f (fun x => aluSub (x.kr a) (x.kr b)) FurrowSt.flagsZNCV s

/-- ABS (R273): saturating absolute value. -/
def execAbs (f : Furrow) (d a : KReg) (s : State) : Host.Outcome State Fault Refusal :=
  kUn (.abs f d a) f d a (fun p => aluSat (p.toInt.natAbs : Int)) FurrowSt.flagsZNV s

/-- NEG (R273): saturating negation. -/
def execNeg (f : Furrow) (d a : KReg) (s : State) : Host.Outcome State Fault Refusal :=
  kUn (.neg f d a) f d a (fun p => aluSat (-p.toInt)) FurrowSt.flagsZNV s

/-- MULQ (R274, R272). -/
def execMulq (f : Furrow) (d a b : KReg) (sh : BitVec 5) (s : State) : Host.Outcome State Fault Refusal :=
  kReg3 (.mulq f d a b sh) f d a b (fun p q => aluSat (mulRound p q sh.toNat)) FurrowSt.flagsZNV s

/-- MAC (R274, R272): the accumulator is Kd, added in full width and saturated once. -/
def execMac (f : Furrow) (d a b : KReg) (sh : BitVec 5) (s : State) : Host.Outcome State Fault Refusal :=
  s.step1 fun dv => dv.issue f (.mac f d a b sh) fun x dv =>
    let y := aluSat ((x.kr d).toInt + mulRound (x.kr a) (x.kr b) sh.toNat)
    dv.retire f fun x => (x.put d y).flagsZNV y

/-- MSU (R274, R272). -/
def execMsu (f : Furrow) (d a b : KReg) (sh : BitVec 5) (s : State) : Host.Outcome State Fault Refusal :=
  s.step1 fun dv => dv.issue f (.msu f d a b sh) fun x dv =>
    let y := aluSat ((x.kr d).toInt - mulRound (x.kr a) (x.kr b) sh.toNat)
    dv.retire f fun x => (x.put d y).flagsZNV y

/-- MOVI (R275): Kd = sext(IMM). -/
def execMovi (f : Furrow) (d : KReg) (imm : BitVec 16) (s : State) : Host.Outcome State Fault Refusal :=
  s.step1 fun dv => dv.issue f (.movi f d imm) fun _ dv => dv.retire f fun x => x.setK d (imm.signExtend 32)

/-- MOVHI (R275): the upper half; the lower stays. -/
def execMovhi (f : Furrow) (d : KReg) (imm : BitVec 16) (s : State) : Host.Outcome State Fault Refusal :=
  s.step1 fun dv => dv.issue f (.movhi f d imm) fun _ dv => dv.retire f fun x => x.setK d (imm ++ (x.kr d).setWidth 16)

/-- ADDI (R275). -/
def execAddi (f : Furrow) (d a : KReg) (imm : BitVec 16) (s : State) : Host.Outcome State Fault Refusal :=
  kUn (.addi f d a imm) f d a (fun p => aluAdd p (imm.signExtend 32)) FurrowSt.flagsZNCV s

/-- ANDI (R275), with zext(IMM). -/
def execAndi (f : Furrow) (d a : KReg) (imm : BitVec 16) (s : State) : Host.Outcome State Fault Refusal :=
  kUn (.andi f d a imm) f d a (fun p => alu (p &&& imm.setWidth 32) false false) FurrowSt.flagsZN s

/-- ORI (R275), with zext(IMM). -/
def execOri (f : Furrow) (d a : KReg) (imm : BitVec 16) (s : State) : Host.Outcome State Fault Refusal :=
  kUn (.ori f d a imm) f d a (fun p => alu (p ||| imm.setWidth 32) false false) FurrowSt.flagsZN s

/-- XORI (R275), with zext(IMM). -/
def execXori (f : Furrow) (d a : KReg) (imm : BitVec 16) (s : State) : Host.Outcome State Fault Refusal :=
  kUn (.xori f d a imm) f d a (fun p => alu (p ^^^ imm.setWidth 32) false false) FurrowSt.flagsZN s

/-- CMPI (R275). -/
def execCmpi (f : Furrow) (a : KReg) (imm : BitVec 16) (s : State) : Host.Outcome State Fault Refusal :=
  kCmp (.cmpi f a imm) f (fun x => aluSub (x.kr a) (imm.signExtend 32)) FurrowSt.flagsZNCV s

/-- TSTI (R275), with zext(IMM). -/
def execTsti (f : Furrow) (a : KReg) (imm : BitVec 16) (s : State) : Host.Outcome State Fault Refusal :=
  kCmp (.tsti f a imm) f (fun x => alu (x.kr a &&& imm.setWidth 32) false false) FurrowSt.flagsZN s

/-- SHLI (R275). -/
def execShli (f : Furrow) (d a : KReg) (n : BitVec 5) (s : State) : Host.Outcome State Fault Refusal :=
  kUn (.shli f d a n) f d a (fun p => aluShl p n.toNat) FurrowSt.flagsZNC s

/-- SHRI (R275). -/
def execShri (f : Furrow) (d a : KReg) (n : BitVec 5) (s : State) : Host.Outcome State Fault Refusal :=
  kUn (.shri f d a n) f d a (fun p => aluShr p n.toNat) FurrowSt.flagsZNC s

/-- SARI (R275). -/
def execSari (f : Furrow) (d a : KReg) (n : BitVec 5) (s : State) : Host.Outcome State Fault Refusal :=
  kUn (.sari f d a n) f d a (fun p => aluSar p n.toNat) FurrowSt.flagsZNC s

/-- LDB (R276): a byte, zero-extended. -/
def execLdb (f : Furrow) (d : KReg) (m : MAddr) (s : State) : Host.Outcome State Fault Refusal :=
  kLoad (.ldb f d m) f d m 1 (fun v => BitVec.ofNat 32 v) s

/-- LDBS (R276): a byte, sign-extended. -/
def execLdbs (f : Furrow) (d : KReg) (m : MAddr) (s : State) : Host.Outcome State Fault Refusal :=
  kLoad (.ldbs f d m) f d m 1 (fun v => (BitVec.ofNat 8 v).signExtend 32) s

/-- LDH (R276): 16 bits, zero-extended. -/
def execLdh (f : Furrow) (d : KReg) (m : MAddr) (s : State) : Host.Outcome State Fault Refusal :=
  kLoad (.ldh f d m) f d m 2 (fun v => BitVec.ofNat 32 v) s

/-- LDHS (R276): 16 bits, sign-extended. -/
def execLdhs (f : Furrow) (d : KReg) (m : MAddr) (s : State) : Host.Outcome State Fault Refusal :=
  kLoad (.ldhs f d m) f d m 2 (fun v => (BitVec.ofNat 16 v).signExtend 32) s

/-- LDW (R276): 32 bits. -/
def execLdw (f : Furrow) (d : KReg) (m : MAddr) (s : State) : Host.Outcome State Fault Refusal :=
  kLoad (.ldw f d m) f d m 4 (fun v => BitVec.ofNat 32 v) s

/-- STB (R276). -/
def execStb (f : Furrow) (d : KReg) (m : MAddr) (s : State) : Host.Outcome State Fault Refusal :=
  kStore (.stb f d m) f d m 1 s

/-- STH (R276). -/
def execSth (f : Furrow) (d : KReg) (m : MAddr) (s : State) : Host.Outcome State Fault Refusal :=
  kStore (.sth f d m) f d m 2 s

/-- STW (R276). -/
def execStw (f : Furrow) (d : KReg) (m : MAddr) (s : State) : Host.Outcome State Fault Refusal :=
  kStore (.stw f d m) f d m 4 s

/-- B (R279, R280): condition 0xF is reserved and ILLEGAL; a branch that is not taken checks nothing. -/
def execB (f : Furrow) (cond : BitVec 4) (target : BitVec 14) (s : State) : Host.Outcome State Fault Refusal :=
  s.step1 fun dv => dv.issue f (.b f cond target) fun x dv =>
    if cond = 0xF#4 then dv.furrowFault f fltIllegal
    else if condHolds cond x.z x.n x.c x.v then dv.jump f target.toNat id
    else dv.retire f id

/-- CALL (R280). -/
def execCall (f : Furrow) (target : BitVec 14) (s : State) : Host.Outcome State Fault Refusal :=
  s.step1 fun dv => dv.issue f (.call f target) fun _ dv => dv.call f target.toNat

/-- RET (R280). -/
def execRet (f : Furrow) (s : State) : Host.Outcome State Fault Refusal :=
  s.step1 fun dv => dv.issue f (.ret f) fun x dv =>
    match x.stack with
    | [] => dv.furrowFault f fltStackUnf
    | t :: rest => dv.jump f t.toNat fun x => { x with stack := rest }

/-- JMP (R280). -/
def execJmp (f : Furrow) (a : KReg) (s : State) : Host.Outcome State Fault Refusal :=
  s.step1 fun dv => dv.issue f (.jmp f a) fun x dv => dv.jump f (x.kr a).toNat id

/-- CALLR (R280). -/
def execCallr (f : Furrow) (a : KReg) (s : State) : Host.Outcome State Fault Refusal :=
  s.step1 fun dv => dv.issue f (.callr f a) fun x dv => dv.call f (x.kr a).toNat

/-- RDTB (R282): the low 32 bits of the timebase. -/
def execRdtb (f : Furrow) (d : KReg) (s : State) : Host.Outcome State Fault Refusal :=
  s.step1 fun dv => dv.issue f (.rdtb f d) fun _ dv => dv.retire f fun x => x.setK d (dv.clock.tb.setWidth 32)

/-- WAIT.E (R281, R256): at once when the queue is not empty; otherwise the furrow waits. -/
def execWaitE (f : Furrow) (d : KReg) (t : TSrc) (s : State) : Host.Outcome State Fault Refusal :=
  s.step1 fun dv => dv.issue f (.waitE f d t) fun x dv =>
    if x.queue.isEmpty then dv.retireWait f (.event d (x.waitArg t)) id
    else (dv.deliver f d).retire f id

/-- WAIT.T (R281): 0 ticks gives up the core, which the round robin of the next issue does (R256). -/
def execWaitT (f : Furrow) (t : TSrc) (s : State) : Host.Outcome State Fault Refusal :=
  s.step1 fun dv => dv.issue f (.waitT f t) fun x dv =>
    if x.waitArg t = 0 then dv.retire f id else dv.retireWait f (.ticks (x.waitArg t)) id

/-- WAIT.TA (R281): READY at once when (timebase − Ka), signed, is 0 or more. -/
def execWaitTa (f : Furrow) (a : KReg) (s : State) : Host.Outcome State Fault Refusal :=
  s.step1 fun dv => dv.issue f (.waitTa f a) fun x dv =>
    if 0 ≤ (dv.clock.tb.setWidth 32 - x.kr a).toInt then dv.retire f id else dv.retireWait f (.until (x.kr a)) id

/-- WAIT.S (R281): a sequence above 63 faults BADSEQ; a done bit already set completes it at once. -/
def execWaitS (f : Furrow) (a : KReg) (imm : BitVec 16) (s : State) : Host.Outcome State Fault Refusal :=
  s.step1 fun dv => dv.issue f (.waitS f a imm) fun x dv =>
    if h : (x.kr a).toNat < 64 then
      if dv.seqDone ⟨(x.kr a).toNat, h⟩ then dv.retire f fun x => { x with c := false }
      else dv.retireWait f (.seq ⟨(x.kr a).toNat, h⟩ imm.toNat) id
    else dv.furrowFault f fltBadSeq

/-- SIG (R282): raises EV248 + n. -/
def execSig (f : Furrow) (n : Fin 8) (s : State) : Host.Outcome State Fault Refusal :=
  s.step1 fun dv => dv.issue f (.sig f n) fun _ dv => (dv.retire f id).raise (248 + n.val)

/-- STOP (R283): held items complete FAILED_INTERNAL, queued items REJECTED_STATE. -/
def execStop (f : Furrow) (s : State) : Host.Outcome State Fault Refusal :=
  s.step1 fun dv => dv.issue f (.stop f) fun _ dv =>
    let held := dv.itemsHeld f
    let queued := dv.itemsQueued f
    let dv := dv.modFur f fun x => { x with pc := x.pc + 1, st := .stopped, wait := .none, queue := [] }
    dv.completeEach (held.map (fun t => (t, 0x3F)) ++ queued.map (fun t => (t, 0x23)))

/-- NOP (R282). -/
def execNop (f : Furrow) (s : State) : Host.Outcome State Fault Refusal :=
  s.step1 fun dv => dv.issue f (.nop f) fun _ dv => dv.retire f id

/-- ILLEGAL_INSTRUCTION (R270): the word at the furrow's address faults ILLEGAL where R270 calls it illegal; a legal word has a
row of its own. -/
def execIllegalInstruction (f : Furrow) (w : BitVec 32) (s : State) : Host.Outcome State Fault Refusal :=
  s.step1 fun dv => dv.issueWord f (decide (dv.codeWord f = some w) && !kLegal w) fun _ dv => dv.furrowFault f fltIllegal

/-- LDR (R277): an odd address faults ALIGN; otherwise the read starts, and ends with REG_ACCESS_DONE. -/
def execLdr (f : Furrow) (d : KReg) (sx : Bool) (m : MAddr) (s : State) : Host.Outcome State Fault Refusal :=
  s.step1 fun dv => dv.issue f (.ldr f d sx m) fun x dv =>
    let a := x.regAddr m
    if a.getLsbD 0 then dv.furrowFault f fltAlign else dv.retireWait f (.access (.load d a sx)) id

/-- STR (R277): an odd address faults ALIGN; otherwise the write of Kd[15:0] starts, and ends with REG_ACCESS_DONE. -/
def execStr (f : Furrow) (d : KReg) (m : MAddr) (s : State) : Host.Outcome State Fault Refusal :=
  s.step1 fun dv => dv.issue f (.str f d m) fun x dv =>
    let a := x.regAddr m
    if a.getLsbD 0 then dv.furrowFault f fltAlign
    else dv.retireWait f (.access (.store a ((x.kr d).setWidth 16))) id

end Sys2Proof.Machine
end

