-- ==== Sys2Proof/Machine/KotriedRegs.lean ====
section
/-!
DEFINITION. The Kotried instructions that reach the register space or a block (R277, R278, R282): they are issued, their
furrow waits, and REG_ACCESS_DONE makes the access (R248).
-/

namespace Sys2Proof.Machine

open Sys2Proof Sys2Proof.R

/-! ## Issue -/

/-- An atomic operation on the 16-bit register at `addr`; an odd address faults ALIGN (R278). -/
def kAtom (i : Instr) (f : Furrow) (addr : BitVec 16) (w : FurrowSt → Access) (s : State) : Host.Outcome State Fault Refusal :=
  s.step1 fun dv => dv.issue f i fun x dv =>
    if addr.getLsbD 0 then dv.furrowFault f fltAlign else dv.retireWait f (.access (w x)) id

/-- Ka[15:0]. -/
def FurrowSt.kw (x : FurrowSt) (a : KReg) : BitVec 16 := (x.kr a).setWidth 16

def execAtomSet (f : Furrow) (d a : KReg) (addr : BitVec 16) (s : State) : Host.Outcome State Fault Refusal :=
  kAtom (.atomSet f d a addr) f addr (fun x => .atom .set d addr (x.kw a)) s
def execAtomClr (f : Furrow) (d a : KReg) (addr : BitVec 16) (s : State) : Host.Outcome State Fault Refusal :=
  kAtom (.atomClr f d a addr) f addr (fun x => .atom .clr d addr (x.kw a)) s
def execAtomAdd (f : Furrow) (d a : KReg) (addr : BitVec 16) (s : State) : Host.Outcome State Fault Refusal :=
  kAtom (.atomAdd f d a addr) f addr (fun x => .atom .add d addr (x.kw a)) s
def execAtomXch (f : Furrow) (d a : KReg) (addr : BitVec 16) (s : State) : Host.Outcome State Fault Refusal :=
  kAtom (.atomXch f d a addr) f addr (fun x => .atom .xch d addr (x.kw a)) s
def execCas (f : Furrow) (d a : KReg) (addr : BitVec 16) (s : State) : Host.Outcome State Fault Refusal :=
  kAtom (.cas f d a addr) f addr (fun x => .cas d addr (x.kw a)) s

/-- WDC (R282). -/
def execWdc (f : Furrow) (d : KReg) (slot : WSlot) (s : State) : Host.Outcome State Fault Refusal :=
  s.step1 fun dv => dv.issue f (.wdc f d slot) fun _ dv => dv.retireWait f (.access (.wdc d slot)) id
/-- WDA (R282). -/
def execWda (f : Furrow) (a : KReg) (slot : WSlot) (s : State) : Host.Outcome State Fault Refusal :=
  s.step1 fun dv => dv.issue f (.wda f a slot) fun x dv => dv.retireWait f (.access (.wda slot (x.kw a))) id

/-- TRIG of a sequence: one above 63 faults BADSEQ (R282). -/
def execTrigS (f : Furrow) (t : TSrc) (s : State) : Host.Outcome State Fault Refusal :=
  s.step1 fun dv => dv.issue f (.trigS f t) fun x dv =>
    if 63 < x.trigArg t then dv.furrowFault f fltBadSeq else dv.retireWait f (.access (.trigSeq (x.trigArg t))) id

/-- TRIG of an urgent request: an immediate has 11 bits (R270, R282). -/
def execTrigU (f : Furrow) (t : TSrc) (s : State) : Host.Outcome State Fault Refusal :=
  s.step1 fun dv => dv.issue f (.trigU f t) fun x dv =>
    if (match t with | .imm v => decide (2047 < v.toNat) | .reg _ => false) then dv.furrowFault f fltIllegal
    else dv.retireWait f (.access (.trigUrg (x.trigArg t))) id

/-- POST (R282): ILLEGAL when D is K15; BADPOST for a tag above 127 or one that the furrow does not hold. -/
def execPost (f : Furrow) (d a b : KReg) (s : State) : Host.Outcome State Fault Refusal :=
  s.step1 fun dv => dv.issue f (.post f d a b) fun x dv =>
    let tag : Tag := Fin.ofNat 128 (x.kr a).toNat
    if d = 15 then dv.furrowFault f fltIllegal
    else if 127 < (x.kr a).toNat ∨ tag ∉ x.held then dv.furrowFault f fltBadPost
    else dv.retireWait f (.access (.post tag ((x.kr b).setWidth 8) (x.kr (d + 1) ++ x.kr d))) id

/-! ## The access (R248) -/

/-- The value that an atomic operation writes (R278). -/
def AtomOp.apply (op : AtomOp) (old v : BitVec 16) : BitVec 16 :=
  match op with
  | .set => old ||| v
  | .clr => old &&& ~~~v
  | .add => old + v
  | .xch => v

/-- POST reaches the hopper: the furrow no longer holds the tag; an item that has completed already reports lost (R258). -/
def Dev.postItem (d : Dev) (f : Furrow) (tag : Tag) (status : BitVec 8) (result : BitVec 64) : Dev :=
  let live := (d.item tag).isSome
  let d := d.modFur f fun x => { x with held := x.held.filter (fun t => t ≠ tag), z := live }
  let d := if live then d.complete tag (if 0x3F < status.toNat then 0x3F else status.toNat) result else d.bump HOP_LATECNT
  d.dropDone

/-- The access of furrow `f` takes place. -/
def Dev.access (d : Dev) (f : Furrow) : Access → Dev
  | .load r a sx =>
    let (v, d) := d.load16 f a.toNat
    d.modFur f fun x => x.setK r (if sx then v.signExtend 32 else v.setWidth 32)
  | .store a v => d.store16 f a.toNat v
  | .atom op r a v =>
    let (old, d) := d.load16 f a.toNat
    let d := d.store16 f a.toNat (op.apply old v)
    d.modFur f fun x => { x.setK r (old.setWidth 32) with z := old = 0 }
  | .cas r a v =>
    let (old, d) := d.load16 f a.toNat
    let hit := decide (old = (d.fur f).kw r)
    let d := if hit then d.store16 f a.toNat v else d
    d.modFur f fun x => { x.setK r (old.setWidth 32) with z := hit }
  | .wdc r slot => d.modFur f fun x => x.setK r ((d.slot slot).chal.setWidth 32)
  | .wda slot token =>
    if slot.val = 15 then (d.setFlag KE_STICKY KE_STICKY.WREF true).modFur f fun x => { x with z := false }
    else
      let (ok, d) := d.offer slot (some f) token
      d.modFur f fun x => { x with z := ok }
  | .trigSeq s =>
    let ok := d.trigTakes s
    (d.swTrigger s).modFur f fun x => { x with z := ok }
  | .trigUrg e =>
    let ok := decide (e < 2048) && d.urgentTakes e
    let d := if e < 2048 then d.urgent e ⟨(Acc.furrow f).index.val, by omega⟩ else d
    d.modFur f fun x => { x with z := ok }
  | .post tag status result => d.postItem f tag status result

/-- The access that the arbiter has granted: of those outstanding, the one issued first (R248; log entry 134). -/
def Dev.grantedAccess (d : Dev) : Option (Furrow × Access) :=
  let all := (List.finRange 16).filterMap fun f => match (d.fur f).st, (d.fur f).wait with
    | .waiting, .access a => some (f, a)
    | _, _ => none
  all.find? fun x => all.all fun y => (d.fur x.1).waitAt ≤ (d.fur y.1).waitAt

/-- A granted access completes whole before an engine reset takes effect (R262, R285). -/
def Dev.finishAccess (d : Dev) : Dev :=
  match d.grantedAccess with
  | some (f, a) => d.when d.engineOn fun d => (d.access f a).wake f
  | none => d

/-- REG_ACCESS_DONE: the access completes and the furrow becomes READY. -/
def execRegAccessDone (f : Furrow) (s : State) : Host.Outcome State Fault Refusal :=
  s.step1 fun d =>
    let x := d.fur f
    match x.wait with
    | .access a => d.when (decide (x.st = .waiting) && d.engineOn) fun d => (d.access f a).wake f
    | _ => d

end Sys2Proof.Machine
end

