-- ==== Sys2Proof/Machine/Pins.lean ====
section
/-!
DEFINITION. The VIO supply, the test access port and what every output pin does (18_pins_and_package.md, R436 to R451).
-/

namespace Sys2Proof.Machine

open Sys2Proof Sys2Proof.R

/-- VIO_FAULT: VIO falls out of range, or is back. Without it the VIO-domain outputs are high-impedance: PWM pins read mid,
XENn fall, and the ports and links go quiet; with VIO back attention stands where a bit still waits (R84). In NEWT VIO may be
absent (R443). -/
def Dev.vioChange (d : Dev) (low : Bool) : Dev :=
  let d := { d with pins := { d.pins with vio := !low } }
  if !low then (((d.syncAttn 0).syncAttn 1).syncAttn 2).syncAttn 3
  else d.when (decide (d.boot.phase ≠ .newt)) fun d => d.linksQuiet.portsQuiet

/-! ## Test access (R450) -/

/-- An instruction is loaded, with the register that it puts between TDI and TDO. The boundary register's bits are not in
the spec: a free value (log entry 2). -/
def Dev.jtagLoad (d : Dev) (i : JtagInstr) : Dev :=
  match i with
  | .idcode => { d with jtag := { ir := i, dr := 0x12412E6B } }
  | .extest | .sample =>
    let (x, d) := d.free 32
    { d with jtag := { ir := i, dr := x } }
  | _ => { d with jtag := { ir := i, dr := 0 } }

/-- EXTEST, HIGHZ and CLAMP are accepted only while no rail is on and the stage is OFF. -/
def Dev.jtagFree (d : Dev) : Bool := d.rn32 SEQ_RAILON = 0 && d.cmode = cmOff

/-- The instruction that a 4-bit code selects: every code that names no other one acts as BYPASS. -/
def JtagInstr.ofCode (c : BitVec 4) : JtagInstr :=
  match c.toNat with
  | 0 => .extest
  | 1 => .idcode
  | 2 => .sample
  | 3 => .highz
  | 4 => .clamp
  | _ => .bypass

/-- Update-IR with a code. Of the instructions that take the pins one that is not accepted loads BYPASS. -/
def Dev.jtagUpdate (d : Dev) (c : BitVec 4) : Dev :=
  if !d.jtagOn then d
  else
    let i := JtagInstr.ofCode c
    d.jtagLoad (if (i = .extest ∨ i = .highz ∨ i = .clamp) ∧ !d.jtagFree then .bypass else i)

/-! ## What each output pin does (R31, R69, R437 to R440, R448 to R451) -/

def PwmLevel.drive : PwmLevel → PinDrive
  | .mid => .mid
  | .low => .low
  | .high => .high

/-- PWMm, `t` steps of 78.125 ps into the period of its phase (R31, R33). A pin of high impedance counts as mid. -/
def Dev.pwmPin (d : Dev) (m : Phase) (t : Nat) : PinDrive :=
  let x := d.phase m
  if !d.padsOn then .z
  else d.scanned (ball (m.val / 16) (m.val % 16)) (match x.drive with
    | .mid => .mid
    | .low => .low
    | .pulse => if t < x.onTime then .high else .low)

/-- CPWM pin `i` (A0, B0, A1, B1), `t` steps into the stage's period (R182). -/
def Dev.cpwmPin (d : Dev) (i : Fin 4) (t : Nat) : PinDrive :=
  if !d.padsOn then .z else d.scanned (ball 1 (10 + i.val)) (d.chg.legs[i].level d.chg.cfg.period.toNat t).drive

/-- VLDOk between frames: high once the link has been enabled since POR or wake, and low for attention (R69, R84). -/
def Dev.vldoPin (d : Dev) (k : Link) : PinDrive :=
  if !d.padsOn || !(d.link k).driven then .z
  else d.scanned (ball 14 (8 + k.val)) (if d.flag (VL_STATUS k) VL_STATUS.ATTN then .low else .high)

/-- FDENn: driven low, or released (R16, R17). -/
def Dev.fdenPin (d : Dev) (n : Fin 4) : PinDrive :=
  d.scanned (ball 14 (12 + n.val)) (if d.pins.fdenLow.getLsbD n.val then .low else .z)

/-- XENx: an undriven pin falls to its pull-down, which the newt domain powers (R440). -/
def Dev.xenPin (d : Dev) (x : Fin 16) : PinDrive :=
  match d.scanned (ball 11 x.val) (if d.padsOn && d.pins.xen[x] then .high else .z) with
  | .z => if d.pins.newtLost then .z else .low
  | y => y

/-- SCLp, and SDAp between bytes: the device holds SDA low for attention (R323). The bits and stretches of a transaction are
inside its row. -/
def Dev.sclPin (d : Dev) (p : Port) : PinDrive := d.scanned (ball 15 (4 + 2 * p.val)) .z
def Dev.sdaPin (d : Dev) (p : Port) : PinDrive :=
  d.scanned (ball 15 (5 + 2 * p.val))
    (if d.portsAnswer && d.flag (HP_STATUS p) HP_STATUS.ATNHOLD then .low else .z)

/-- PACKID in half-bit `k` of the request under way: open drain (R229). -/
def Dev.packidPin (d : Dev) (k : Nat) : PinDrive := d.scanned (ball 3 13) (if d.packidLevel k then .z else .low)

/-- VREFC is on from t3 of the boot path, outside NEWT (R437). -/
def Dev.vrefcOn (d : Dev) : Bool := d.coreOn

/-- TDO: high-impedance unless the port shifts; bit `k` of the register under the instruction where it does (R437, R450). -/
def Dev.tdoPin (d : Dev) (shifting : Option Nat) : PinDrive :=
  match shifting with
  | some k => if !d.jtagOn then .z else if d.jtag.dr.getLsbD k then .high else .low
  | none => .z

/-- RSTOUTr: open drain, in the newt domain, from t0 of the boot path (R147, R439). -/
def Dev.rstoutPin (d : Dev) (r : Fin 8) : PinDrive :=
  d.scanned (ball 13 r.val) (if d.boot.phase ≠ .dark ∧ d.mbit SEQ_RSTSTAT r.val then .low else .z)

/-- ATTN0 and ATTN1: open drain, low while asserted (R327, R437). -/
def Dev.attnPin (d : Dev) (n : Fin 2) : PinDrive :=
  d.scanned (ball 15 (10 + n.val)) (if d.attnDriven && !(d.routedPending (2 + n.val)).isEmpty then .low else .z)

/-- CLKOUT in cycle `k` of the selected clock: low in boot and in LATCHED (R385, R437); none where it passes its source. -/
def Dev.clkoutPin (d : Dev) (k : Nat) : Option PinDrive :=
  if !d.padsOn then some .z
  else if !d.blocksRun then some (d.scanned (ball 10 9) .low)
  else if d.scanTakes then some (d.scanned (ball 10 9) .z)
  else (d.clkoutLevel k).map fun b => if b then .high else .low

/-- LAMP0 and LAMP1 sink, or are released (R203). -/
def Dev.lampPin (d : Dev) (l : Fin 2) : PinDrive := d.scanned (ball 10 (13 + l.val)) (if d.lampOn l then .low else .z)

def execVioFault (low : Bool) (s : State) : Host.Outcome State Fault Refusal := s.step1 (·.vioChange low)
def execJtagTapReset (s : State) : Host.Outcome State Fault Refusal := s.step1 fun d => d.when d.jtagOn (·.jtagLoad .idcode)
def execJtagExtest (s : State) : Host.Outcome State Fault Refusal := s.step1 (·.jtagUpdate 0x0)
def execJtagIdcode (s : State) : Host.Outcome State Fault Refusal := s.step1 (·.jtagUpdate 0x1)
def execJtagSamplePreload (s : State) : Host.Outcome State Fault Refusal := s.step1 (·.jtagUpdate 0x2)
def execJtagHighz (s : State) : Host.Outcome State Fault Refusal := s.step1 (·.jtagUpdate 0x3)
def execJtagClamp (s : State) : Host.Outcome State Fault Refusal := s.step1 (·.jtagUpdate 0x4)
def execJtagBypass (s : State) : Host.Outcome State Fault Refusal := s.step1 (·.jtagUpdate 0xF)

end Sys2Proof.Machine
end

