-- ==== Sys2Proof/Machine/Reset.lean ====
section
/-!
DEFINITION. Engine resets and rail-cycle resets (R262, R305, R342 to R344, R362, R363, R145). A reset falls due with the
watchdog's reset stage or with a journal close, and its own command applies it.
-/

namespace Sys2Proof.Machine

open Sys2Proof Sys2Proof.R

/-- The reset that is due: one of the larger kind where the resets of items wait for their closes meanwhile (R433). -/
def Dev.resetDue (d : Dev) : PendingReset :=
  match d.hopper.pendingReset with
  | .none => .none
  | p => d.hopper.resetTags.foldl (fun (p : PendingReset) t => p.join (d.resetKind t)) p

/-- HOP_SUBSTAT and the submission buffers of every accessor set (R305). -/
def substatRegs : List Nat := (List.range 4).map fun set => accKey set HOP_SUBSTAT
def submissionRegs : List Nat := (List.range 4).flatMap fun set => (List.range 8).map fun i => accKey set (HOP_SUB i)

/-- The block that is being written completes before the reset takes effect (R262, R343), with a read-back whose outcome is
free (log entry 153). -/
def Dev.finishBlock (d : Dev) : Dev :=
  let (ok, d) := d.free 1
  d.blockDone (ok = 1)

/-- The furrows stop with their queues empty, and hold no item. -/
def Dev.furrowsHalt (d : Dev) : Dev :=
  { d with engine := { d.engine with
    started := false
    furrows := d.engine.furrows.map fun (x : FurrowSt) =>
      if x.st = FState.disabled then x else { x with st := .stopped, wait := .none, queue := [], held := [] } } }

/-- Every item in flight completes ABORTED_BY_RESET, and every drain ends (R305). -/
def Dev.hopperReset (d : Dev) : Dev :=
  let d := { d with hopper := { d.hopper with pendingReset := .none, wdgReset := false, resetTags := [], drains := [] } }
  let d := d.zero [HOP_FNDRAIN, HOP_FNDRAIN + 2]
  ((d.completeAll (d.inFlight.map fun i => i.tag) 0x12).dropDone).zero submissionRegs

/-- What both kinds of reset stop and clear. A doorbell that a granted access rings is decided by the reset, and its decision
stays in HOP_SUBSTAT (R305). -/
def Dev.resetStop (d : Dev) : Dev :=
  let d := ((((d.zero substatRegs).finishAccess).finishBlock).furrowsHalt).hopperReset
  let d := d.zero ((List.range 32).map fun i => KE_SHARE i)
  let d := (d.setFlag CHG_CTL CHG_CTL.HOLD false).chgUpdate
  let d := (d.modCfg fun c => { c with roleItems := [] }).modClock fun c => { c with rtcSet := [] }
  (d.closeDebug).discardStaging

/-- A reset on probation counts; the third rolls back, or runs the safe image (R363, R365). Before the load of a committed
image nothing counts. -/
def Dev.countProbation (d : Dev) : Dev :=
  let r := d.cfg.role
  if d.cfg.pendLoad then (d.modCfg fun c => { c with safe := false }).syncCfg
  else if !r.probation then d
  else
    let d := d.ownRole { r with prCount := r.prCount + 1 }
    if r.prCount.toNat + 1 < 3 then d
    else (((d.modCfg fun c => { c with safe := false }).fallBack).modCfg fun c => { c with pendLoad := true }).syncCfg

/-- The RWC fields and the image data are reloaded (R262 step 5). -/
def Dev.reload (d : Dev) : Dev :=
  let m := d.runningImg
  let d := d.resetRwc
  let d := match m with
    | some m => (d.loadPairs (m.pairs.filter fun p => isRwc p.1)).2
    | none => d
  d.loadData m

/-- The load or the reload, and the furrows' start. The charger judges its block once the load has written it (R210). -/
def Dev.resetStart (d : Dev) : Dev :=
  let d := if d.cfg.pendLoad then ((d.takeImage.loadImage).checkClamped.raiseLinks).evalChg else d.reload
  (d.bootRec.startFurrows).raiseAll (5 :: d.shedEvt)

/-- A reset's cause and counter, and what it stops. -/
def Dev.resetApply (d : Dev) (kind : Nat) (src : BitVec 4) (cnt : Nat) : Dev :=
  ((d.resetStop.countProbation).wn CFG_RSTCAUSE (src.toNat * 16 + kind)).bump cnt

/-- ENGINE_RESET_APPLY. -/
def Dev.engineReset (d : Dev) : Dev :=
  match d.resetDue with
  | .engine src => d.when d.isUp fun d => (d.resetApply 5 src CFG_ERSTCNT).resetStart
  | _ => d

/-- A rail-cycle reset whose load waits for the dwell: the furrows are stopped until then (R362). -/
def Dev.loadWaits (d : Dev) : Bool := d.isUp && !d.engine.started

/-- The drill is on its way to the dwell of a rail-cycle reset. -/
def Dev.cycling (d : Dev) : Bool := d.drill.cycle.isSome || d.drill.cycleSwitch

/-- RAIL_CYCLE_RESET: with a load pending and the drill cycling, the load waits for the dwell. One whose power-down ended
in a fault shutdown, with no dwell to come, loads now. -/
def Dev.railCycleReset (d : Dev) : Dev :=
  match d.resetDue with
  | .railCycle src => d.when d.isUp fun d =>
      let d := ((d.resetApply 6 src CFG_RCYCCNT).drillCycle)
      if d.cfg.pendLoad && d.cycling then d else d.resetStart
  | _ => d.when (d.loadWaits && !d.cycling) Dev.resetStart

/-- DWELL_EXPIRY: a load that waits for the dwell comes first. -/
def Dev.dwellExpired (d : Dev) : Dev :=
  (d.when (d.loadWaits && decide (d.ds = drDwell)) Dev.resetStart).dwellEnd

/-! ## Commands -/

def execEngineResetApply (s : State) : Host.Outcome State Fault Refusal := s.step1 Dev.engineReset
def execRailCycleReset (s : State) : Host.Outcome State Fault Refusal := s.step1 Dev.railCycleReset
def execDwellExpiry (s : State) : Host.Outcome State Fault Refusal := s.step1 Dev.dwellExpired

end Sys2Proof.Machine
end

