-- ==== Sys2Proof/Machine/Dispatch.lean ====
section
/-! DEFINITION. What each command does to the block: one arm for each constructor of Instr, each a direct call of its
meaning. The queue of waiting commands is not touched here (Machine/Step.lean). -/

namespace Sys2Proof.Machine

open Sys2Proof

/-- The effect of a command on the state. -/
def exec (i : Instr) (s : State) : Host.Outcome State Fault Refusal :=
  match i with
  -- Register writes with no row of their own (R10)
  | .registerWrite acc addr data => Sys2Proof.Machine.execRegisterWrite acc addr data s
  -- Regulation loops and phases (02)
  | .phCfgWrite acc m v => Sys2Proof.Machine.execPhCfgWrite acc m v s
  | .loopConfigWrite acc addr v => Sys2Proof.Machine.execLoopConfigWrite acc addr v s
  | .lpVsetWrite acc n v => Sys2Proof.Machine.execLpVsetWrite acc n v s
  | .lpBswap acc n => Sys2Proof.Machine.execLpBswap acc n s
  | .lpOvclr acc n => Sys2Proof.Machine.execLpOvclr acc n s
  | .lpCntclr acc n => Sys2Proof.Machine.execLpCntclr acc n s
  | .ecSample n vout => Sys2Proof.Machine.execEcSample n vout s
  | .compensatorRun n lat => Sys2Proof.Machine.execCompensatorRun n lat s
  | .phasePeriodStart m => Sys2Proof.Machine.execPhasePeriodStart m s
  | .diodeEmulationMid m => Sys2Proof.Machine.execDiodeEmulationMid m s
  | .pgDwellExpiry n => Sys2Proof.Machine.execPgDwellExpiry n s
  | .shareTrimUpdate m => Sys2Proof.Machine.execShareTrimUpdate m s
  | .phaseShed n => Sys2Proof.Machine.execPhaseShed n s
  | .phaseRestore n => Sys2Proof.Machine.execPhaseRestore n s
  | .shedHoldExpiry n => Sys2Proof.Machine.execShedHoldExpiry n s
  | .loopOvTrip n => Sys2Proof.Machine.execLoopOvTrip n s
  | .loopUv n => Sys2Proof.Machine.execLoopUv n s
  | .phaseOc m => Sys2Proof.Machine.execPhaseOc m s
  | .loopOc n => Sys2Proof.Machine.execLoopOc n s
  | .ecTrimUpdate n => Sys2Proof.Machine.execEcTrimUpdate n s
  | .delayLineCal m taps => Sys2Proof.Machine.execDelayLineCal m taps s
  -- Velong links (03)
  | .vlPing k x => Sys2Proof.Machine.execVlPing k x s
  | .vlSetv k x => Sys2Proof.Machine.execVlSetv k x s
  | .vlGetv k x => Sys2Proof.Machine.execVlGetv k x s
  | .vlGeti k x => Sys2Proof.Machine.execVlGeti k x s
  | .vlGetp k x => Sys2Proof.Machine.execVlGetp k x s
  | .vlGetstat k x => Sys2Proof.Machine.execVlGetstat k x s
  | .vlThrack k x => Sys2Proof.Machine.execVlThrack k x s
  | .vlSetslew k x => Sys2Proof.Machine.execVlSetslew k x s
  | .vlGetvset k x => Sys2Proof.Machine.execVlGetvset k x s
  | .vlResync k x => Sys2Proof.Machine.execVlResync k x s
  | .vlReservedCmd k n x => Sys2Proof.Machine.execVlReservedCmd k n x s
  | .vlBadCrc k frame lat freq still => Sys2Proof.Machine.execVlBadCrc k frame lat freq still s
  | .vlBadStart k => Sys2Proof.Machine.execVlBadStart k s
  | .vlFrameClockStop k => Sys2Proof.Machine.execVlFrameClockStop k s
  | .vlResponseAbandon k => Sys2Proof.Machine.execVlResponseAbandon k s
  | .vlThrottleTimeout k => Sys2Proof.Machine.execVlThrottleTimeout k s
  | .vlLinkEnable acc k => Sys2Proof.Machine.execVlLinkEnable acc k s
  | .vlLinkDisable acc k => Sys2Proof.Machine.execVlLinkDisable acc k s
  | .vlDeferredDisable k => Sys2Proof.Machine.execVlDeferredDisable k s
  | .vlCtlResync acc k => Sys2Proof.Machine.execVlCtlResync acc k s
  | .vlCntclr acc k => Sys2Proof.Machine.execVlCntclr acc k s
  | .vlKeepaliveTimeout k => Sys2Proof.Machine.execVlKeepaliveTimeout k s
  -- Budget Guard (04)
  | .guardFrame x => Sys2Proof.Machine.execGuardFrame x s
  | .fdokFall c => Sys2Proof.Machine.execFdokFall c s
  | .fdokRise c => Sys2Proof.Machine.execFdokRise c s
  | .bgPkclr acc => Sys2Proof.Machine.execBgPkclr acc s
  | .bgCntclr acc => Sys2Proof.Machine.execBgCntclr acc s
  | .bgConfigWrite acc addr v => Sys2Proof.Machine.execBgConfigWrite acc addr v s
  -- Drill (05)
  | .seqCmdOn acc p => Sys2Proof.Machine.execSeqCmdOn acc p s
  | .seqCmdOff acc => Sys2Proof.Machine.execSeqCmdOff acc s
  | .seqCmdSwitch acc p => Sys2Proof.Machine.execSeqCmdSwitch acc p s
  | .seqCmdUnlatch acc => Sys2Proof.Machine.execSeqCmdUnlatch acc s
  | .seqCmdCntclr acc => Sys2Proof.Machine.execSeqCmdCntclr acc s
  | .seqCmdInvalid acc v => Sys2Proof.Machine.execSeqCmdInvalid acc v s
  | .drillOnSlot r vout => Sys2Proof.Machine.execDrillOnSlot r vout s
  | .drillOffSlot r => Sys2Proof.Machine.execDrillOffSlot r s
  | .riseTimeout r => Sys2Proof.Machine.execRiseTimeout r s
  | .fallTimeout r => Sys2Proof.Machine.execFallTimeout r s
  | .xpgChange x level => Sys2Proof.Machine.execXpgChange x level s
  | .rstoutStretchExpiry n => Sys2Proof.Machine.execRstoutStretchExpiry n s
  | .seqProfileWrite acc addr v => Sys2Proof.Machine.execSeqProfileWrite acc addr v s
  -- Measurement (06)
  | .triggerTimerTick n => Sys2Proof.Machine.execTriggerTimerTick n s
  | .pwmEdgeTrigger m edge frac => Sys2Proof.Machine.execPwmEdgeTrigger m edge frac s
  | .msSwtrig acc v => Sys2Proof.Machine.execMsSwtrig acc v s
  | .conversionDone a e code ovr t => Sys2Proof.Machine.execConversionDone a e code ovr t s
  | .msUrgent acc e => Sys2Proof.Machine.execMsUrgent acc e s
  | .msSeqEnable acc n v => Sys2Proof.Machine.execMsSeqEnable acc n v s
  | .msSeqDisable acc n v => Sys2Proof.Machine.execMsSeqDisable acc n v s
  | .msPlanWrite acc addr v => Sys2Proof.Machine.execMsPlanWrite acc addr v s
  | .msTtctlWrite acc v => Sys2Proof.Machine.execMsTtctlWrite acc v s
  | .msCntclr acc => Sys2Proof.Machine.execMsCntclr acc s
  | .msResultRead acc e => Sys2Proof.Machine.execMsResultRead acc e s
  | .rotationStep ring good => Sys2Proof.Machine.execRotationStep ring good s
  | .startupPassDone failed => Sys2Proof.Machine.execStartupPassDone failed s
  -- Charger and lamps (07)
  | .stagePeriodStart cs vb vs => Sys2Proof.Machine.execStagePeriodStart cs vb vs s
  | .chgSenseCheck cs vb vs => Sys2Proof.Machine.execChgSenseCheck cs vb vs s
  | .qualifyRestEnd v imax => Sys2Proof.Machine.execQualifyRestEnd v imax s
  | .restEnd v imax iavg => Sys2Proof.Machine.execRestEnd v imax iavg s
  | .chgRestart acc => Sys2Proof.Machine.execChgRestart acc s
  | .chgFltclr acc => Sys2Proof.Machine.execChgFltclr acc s
  | .chgHold acc hold => Sys2Proof.Machine.execChgHold acc hold s
  | .chgCntclr acc => Sys2Proof.Machine.execChgCntclr acc s
  | .chgConfigWrite acc addr v => Sys2Proof.Machine.execChgConfigWrite acc addr v s
  | .lampPatternStep l => Sys2Proof.Machine.execLampPatternStep l s
  -- Gauge and pack tag (08)
  | .ggCkpt acc => Sys2Proof.Machine.execGgCkpt acc s
  | .ggUnanchor acc => Sys2Proof.Machine.execGgUnanchor acc s
  | .ggCntclr acc => Sys2Proof.Machine.execGgCntclr acc s
  | .packPresent type pages => Sys2Proof.Machine.execPackPresent type pages s
  | .pkRescan acc lo hi => Sys2Proof.Machine.execPkRescan acc lo hi s
  | .pkCntclr acc => Sys2Proof.Machine.execPkCntclr acc s
  | .pkMailboxRead acc page => Sys2Proof.Machine.execPkMailboxRead acc page s
  | .pkMailboxWrite acc page => Sys2Proof.Machine.execPkMailboxWrite acc page s
  | .tagResponse line => Sys2Proof.Machine.execTagResponse line s
  -- Kotried instructions (10): furrow `f` issues the instruction
  | .add f d a b => Sys2Proof.Machine.execAdd f d a b s
  | .adds f d a b => Sys2Proof.Machine.execAdds f d a b s
  | .sub f d a b => Sys2Proof.Machine.execSub f d a b s
  | .subs f d a b => Sys2Proof.Machine.execSubs f d a b s
  | .and f d a b => Sys2Proof.Machine.execAnd f d a b s
  | .or f d a b => Sys2Proof.Machine.execOr f d a b s
  | .xor f d a b => Sys2Proof.Machine.execXor f d a b s
  | .shl f d a b => Sys2Proof.Machine.execShl f d a b s
  | .shr f d a b => Sys2Proof.Machine.execShr f d a b s
  | .sar f d a b => Sys2Proof.Machine.execSar f d a b s
  | .cmp f a b => Sys2Proof.Machine.execCmp f a b s
  | .min f d a b => Sys2Proof.Machine.execMin f d a b s
  | .max f d a b => Sys2Proof.Machine.execMax f d a b s
  | .mul f d a b => Sys2Proof.Machine.execMul f d a b s
  | .abs f d a => Sys2Proof.Machine.execAbs f d a s
  | .neg f d a => Sys2Proof.Machine.execNeg f d a s
  | .mulq f d a b sh => Sys2Proof.Machine.execMulq f d a b sh s
  | .mac f d a b sh => Sys2Proof.Machine.execMac f d a b sh s
  | .msu f d a b sh => Sys2Proof.Machine.execMsu f d a b sh s
  | .movi f d imm => Sys2Proof.Machine.execMovi f d imm s
  | .movhi f d imm => Sys2Proof.Machine.execMovhi f d imm s
  | .addi f d a imm => Sys2Proof.Machine.execAddi f d a imm s
  | .andi f d a imm => Sys2Proof.Machine.execAndi f d a imm s
  | .ori f d a imm => Sys2Proof.Machine.execOri f d a imm s
  | .xori f d a imm => Sys2Proof.Machine.execXori f d a imm s
  | .cmpi f a imm => Sys2Proof.Machine.execCmpi f a imm s
  | .tsti f a imm => Sys2Proof.Machine.execTsti f a imm s
  | .shli f d a n => Sys2Proof.Machine.execShli f d a n s
  | .shri f d a n => Sys2Proof.Machine.execShri f d a n s
  | .sari f d a n => Sys2Proof.Machine.execSari f d a n s
  | .ldb f d m => Sys2Proof.Machine.execLdb f d m s
  | .ldbs f d m => Sys2Proof.Machine.execLdbs f d m s
  | .ldh f d m => Sys2Proof.Machine.execLdh f d m s
  | .ldhs f d m => Sys2Proof.Machine.execLdhs f d m s
  | .ldw f d m => Sys2Proof.Machine.execLdw f d m s
  | .stb f d m => Sys2Proof.Machine.execStb f d m s
  | .sth f d m => Sys2Proof.Machine.execSth f d m s
  | .stw f d m => Sys2Proof.Machine.execStw f d m s
  | .ldr f d sx m => Sys2Proof.Machine.execLdr f d sx m s
  | .str f d m => Sys2Proof.Machine.execStr f d m s
  | .atomSet f d a addr => Sys2Proof.Machine.execAtomSet f d a addr s
  | .atomClr f d a addr => Sys2Proof.Machine.execAtomClr f d a addr s
  | .atomAdd f d a addr => Sys2Proof.Machine.execAtomAdd f d a addr s
  | .atomXch f d a addr => Sys2Proof.Machine.execAtomXch f d a addr s
  | .cas f d a addr => Sys2Proof.Machine.execCas f d a addr s
  | .b f cond target => Sys2Proof.Machine.execB f cond target s
  | .call f target => Sys2Proof.Machine.execCall f target s
  | .ret f => Sys2Proof.Machine.execRet f s
  | .jmp f a => Sys2Proof.Machine.execJmp f a s
  | .callr f a => Sys2Proof.Machine.execCallr f a s
  | .rdtb f d => Sys2Proof.Machine.execRdtb f d s
  | .wdc f d slot => Sys2Proof.Machine.execWdc f d slot s
  | .wda f a slot => Sys2Proof.Machine.execWda f a slot s
  | .waitE f d t => Sys2Proof.Machine.execWaitE f d t s
  | .waitT f t => Sys2Proof.Machine.execWaitT f t s
  | .waitTa f a => Sys2Proof.Machine.execWaitTa f a s
  | .waitS f a imm => Sys2Proof.Machine.execWaitS f a imm s
  | .trigS f t => Sys2Proof.Machine.execTrigS f t s
  | .trigU f t => Sys2Proof.Machine.execTrigU f t s
  | .post f d a b => Sys2Proof.Machine.execPost f d a b s
  | .sig f n => Sys2Proof.Machine.execSig f n s
  | .stop f => Sys2Proof.Machine.execStop f s
  | .nop f => Sys2Proof.Machine.execNop f s
  | .illegalInstruction f w => Sys2Proof.Machine.execIllegalInstruction f w s
  -- Engine (09)
  | .regAccessDone f => Sys2Proof.Machine.execRegAccessDone f s
  | .waitResume f => Sys2Proof.Machine.execWaitResume f s
  | .waitTimeout f => Sys2Proof.Machine.execWaitTimeout f s
  | .furrowRestart acc f => Sys2Proof.Machine.execFurrowRestart acc f s
  | .furrowHalt acc f => Sys2Proof.Machine.execFurrowHalt acc f s
  | .furrowResume acc f => Sys2Proof.Machine.execFurrowResume acc f s
  | .furrowStep acc f => Sys2Proof.Machine.execFurrowStep acc f s
  | .keDbgenWrite acc en => Sys2Proof.Machine.execKeDbgenWrite acc en s
  | .keCntclr acc => Sys2Proof.Machine.execKeCntclr acc s
  | .keMdataAccess p wr => Sys2Proof.Machine.execKeMdataAccess p wr s
  -- Hopper (11, 13)
  | .doorbell acc => Sys2Proof.Machine.execDoorbell acc s
  | .hopReservedCode tag => Sys2Proof.Machine.execHopReservedCode tag s
  | .hopNop tag => Sys2Proof.Machine.execHopNop tag s
  | .abort tag => Sys2Proof.Machine.execAbort tag s
  | .disable tag => Sys2Proof.Machine.execDisable tag s
  | .enable tag => Sys2Proof.Machine.execEnable tag s
  | .drillOn tag => Sys2Proof.Machine.execDrillOn tag s
  | .drillOff tag => Sys2Proof.Machine.execDrillOff tag s
  | .drillSwitch tag => Sys2Proof.Machine.execDrillSwitch tag s
  | .drillUnlatch tag => Sys2Proof.Machine.execDrillUnlatch tag s
  | .loopSetv tag => Sys2Proof.Machine.execLoopSetv tag s
  | .loopSetvTimeout tag => Sys2Proof.Machine.execLoopSetvTimeout tag s
  | .cfgStageOpen tag => Sys2Proof.Machine.execCfgStageOpen tag s
  | .cfgStageClose tag => Sys2Proof.Machine.execCfgStageClose tag s
  | .cfgCommit tag => Sys2Proof.Machine.execCfgCommit tag s
  | .cfgConfirm tag => Sys2Proof.Machine.execCfgConfirm tag s
  | .cfgRollback tag => Sys2Proof.Machine.execCfgRollback tag s
  | .engineReset tag => Sys2Proof.Machine.execEngineReset tag s
  | .railCycle tag => Sys2Proof.Machine.execRailCycle tag s
  | .enterNewt tag => Sys2Proof.Machine.execEnterNewt tag s
  | .rtcSet tag => Sys2Proof.Machine.execRtcSet tag s
  | .recMark tag => Sys2Proof.Machine.execRecMark tag s
  | .recFlush tag => Sys2Proof.Machine.execRecFlush tag s
  | .programCommand tag => Sys2Proof.Machine.execProgramCommand tag s
  | .journalClose tag => Sys2Proof.Machine.execJournalClose tag s
  | .drainTimeout tag => Sys2Proof.Machine.execDrainTimeout tag s
  | .hopCnextRead acc n => Sys2Proof.Machine.execHopCnextRead acc n s
  | .hopCavailRead acc => Sys2Proof.Machine.execHopCavailRead acc s
  | .hopCntclr acc => Sys2Proof.Machine.execHopCntclr acc s
  -- Host ports and ownership (12)
  | .hpWriteTransaction p bytes fin => Sys2Proof.Machine.execHpWriteTransaction p bytes fin s
  | .hpReadTransaction p x => Sys2Proof.Machine.execHpReadTransaction p x s
  | .hpStretchTimeout p written => Sys2Proof.Machine.execHpStretchTimeout p written s
  | .hpBusTimeout p => Sys2Proof.Machine.execHpBusTimeout p s
  | .idClaim p v => Sys2Proof.Machine.execIdClaim p v s
  | .idRenew p nonce => Sys2Proof.Machine.execIdRenew p nonce s
  | .ownerRelease p => Sys2Proof.Machine.execOwnerRelease p s
  | .handoverOffer p succ => Sys2Proof.Machine.execHandoverOffer p succ s
  | .attnRequest p => Sys2Proof.Machine.execAttnRequest p s
  | .attnMiss p => Sys2Proof.Machine.execAttnMiss p s
  | .attnAnswer p wonByte1 n ack => Sys2Proof.Machine.execAttnAnswer p wonByte1 n ack s
  | .hpAtnstatRead p => Sys2Proof.Machine.execHpAtnstatRead p s
  | .hpCntclr acc => Sys2Proof.Machine.execHpCntclr acc s
  -- Start-up and device states (13)
  | .hb1Good adsel t3 => Sys2Proof.Machine.execHb1Good adsel t3 s
  | .startDelayExpiry count => Sys2Proof.Machine.execStartDelayExpiry count s
  | .pllLock locked => Sys2Proof.Machine.execPllLock locked s
  | .porSupply newtLost => Sys2Proof.Machine.execPorSupply newtLost s
  | .pfiAssert low => Sys2Proof.Machine.execPfiAssert low s
  | .flushDone us => Sys2Proof.Machine.execFlushDone us s
  | .wakeAssert low => Sys2Proof.Machine.execWakeAssert low s
  | .cfgDsctlCntclr acc => Sys2Proof.Machine.execCfgDsctlCntclr acc s
  -- Configuration, NV and recorder (14)
  | .cfgWctlGo acc target => Sys2Proof.Machine.execCfgWctlGo acc target s
  | .nvBlockWriteDone ok1 ok2 => Sys2Proof.Machine.execNvBlockWriteDone ok1 ok2 s
  | .recCtlSnap acc => Sys2Proof.Machine.execRecCtlSnap acc s
  | .recCtlFlush acc => Sys2Proof.Machine.execRecCtlFlush acc s
  | .recCtlCntclr acc => Sys2Proof.Machine.execRecCtlCntclr acc s
  | .recFlushDone ok => Sys2Proof.Machine.execRecFlushDone ok s
  | .cfgCntclr acc => Sys2Proof.Machine.execCfgCntclr acc s
  -- Clocks and RTC (15)
  | .clkSwitchPwm acc src => Sys2Proof.Machine.execClkSwitchPwm acc src s
  | .clkSwitchTb acc src => Sys2Proof.Machine.execClkSwitchTb acc src s
  | .clkSwitchRtc acc src => Sys2Proof.Machine.execClkSwitchRtc acc src s
  | .clkoutChange acc isDiv v => Sys2Proof.Machine.execClkoutChange acc isDiv v s
  | .rtcCdnWrite acc v => Sys2Proof.Machine.execRtcCdnWrite acc v s
  | .clkCntclr acc => Sys2Proof.Machine.execClkCntclr acc s
  -- Thermal (16)
  | .thermalShutdown n => Sys2Proof.Machine.execThermalShutdown n s
  | .thCntclr acc => Sys2Proof.Machine.execThCntclr acc s
  -- Events and watchdog (17)
  | .evtStatClear acc n v => Sys2Proof.Machine.execEvtStatClear acc n v s
  | .evtClrall acc => Sys2Proof.Machine.execEvtClrall acc s
  | .evtSwset acc v => Sys2Proof.Machine.execEvtSwset acc v s
  | .evtRouteWrite acc e v => Sys2Proof.Machine.execEvtRouteWrite acc e v s
  | .wdgTokenWrite acc n v => Sys2Proof.Machine.execWdgTokenWrite acc n v s
  | .wdgPeriodEnd n => Sys2Proof.Machine.execWdgPeriodEnd n s
  | .wdgCntclr acc => Sys2Proof.Machine.execWdgCntclr acc s
  | .wdgConfigWrite acc addr v => Sys2Proof.Machine.execWdgConfigWrite acc addr v s
  -- Pins, JTAG and reserved sequences (18, 06)
  | .vioFault low => Sys2Proof.Machine.execVioFault low s
  | .reservedSequenceTrigger n => Sys2Proof.Machine.execReservedSequenceTrigger n s
  -- Further events (16, 17, 12)
  | .wdgWindowOpen n => Sys2Proof.Machine.execWdgWindowOpen n s
  -- Budget Guard (04)
  | .measFault => Sys2Proof.Machine.execMeasFault s
  | .breach => Sys2Proof.Machine.execBreach s
  | .throttleStep => Sys2Proof.Machine.execThrottleStep s
  | .throttleRelease => Sys2Proof.Machine.execThrottleRelease s
  | .shedRequest => Sys2Proof.Machine.execShedRequest s
  | .shedRequestRepeat => Sys2Proof.Machine.execShedRequestRepeat s
  | .shedClear => Sys2Proof.Machine.execShedClear s
  | .llshedStep => Sys2Proof.Machine.execLlshedStep s
  | .handoverDone => Sys2Proof.Machine.execHandoverDone s
  | .qualExpiry => Sys2Proof.Machine.execQualExpiry s
  -- Drill (05)
  | .faultGapStep => Sys2Proof.Machine.execFaultGapStep s
  | .dwellExpiry => Sys2Proof.Machine.execDwellExpiry s
  | .railCycleReset => Sys2Proof.Machine.execRailCycleReset s
  -- Charger and lamps (07)
  | .packConnected => Sys2Proof.Machine.execPackConnected s
  | .connectTimeout => Sys2Proof.Machine.execConnectTimeout s
  | .chargeToReady => Sys2Proof.Machine.execChargeToReady s
  | .senseMismatch => Sys2Proof.Machine.execSenseMismatch s
  | .packOvTrip => Sys2Proof.Machine.execPackOvTrip s
  | .packUvTrip => Sys2Proof.Machine.execPackUvTrip s
  | .stageOc => Sys2Proof.Machine.execStageOc s
  | .prechargeDone => Sys2Proof.Machine.execPrechargeDone s
  | .preTimeout => Sys2Proof.Machine.execPreTimeout s
  | .pulseEnd => Sys2Proof.Machine.execPulseEnd s
  | .safetyExpiry => Sys2Proof.Machine.execSafetyExpiry s
  | .chargeResume => Sys2Proof.Machine.execChargeResume s
  | .recharge => Sys2Proof.Machine.execRecharge s
  -- Gauge and pack tag (08)
  | .gaugeLowRate => Sys2Proof.Machine.execGaugeLowRate s
  | .emptyAnchor => Sys2Proof.Machine.execEmptyAnchor s
  | .gaugeCheckpoint => Sys2Proof.Machine.execGaugeCheckpoint s
  | .packRemoval => Sys2Proof.Machine.execPackRemoval s
  | .tagPoll => Sys2Proof.Machine.execTagPoll s
  | .tagAttemptTimeout => Sys2Proof.Machine.execTagAttemptTimeout s
  -- Engine (09)
  | .itemPostDeferred => Sys2Proof.Machine.execItemPostDeferred s
  | .engineResetApply => Sys2Proof.Machine.execEngineResetApply s
  -- Hopper (11, 13)
  | .newtEntry => Sys2Proof.Machine.execNewtEntry s
  -- Host ports and ownership (12)
  | .electionDecide => Sys2Proof.Machine.execElectionDecide s
  | .leaseExpiry => Sys2Proof.Machine.execLeaseExpiry s
  | .handoverLapse => Sys2Proof.Machine.execHandoverLapse s
  -- Start-up and device states (13)
  | .bootStart => Sys2Proof.Machine.execBootStart s
  | .hb0Good => Sys2Proof.Machine.execHb0Good s
  | .oscRetryExpiry => Sys2Proof.Machine.execOscRetryExpiry s
  | .nvCheck => Sys2Proof.Machine.execNvCheck s
  | .imageLoad => Sys2Proof.Machine.execImageLoad s
  | .bootComplete => Sys2Proof.Machine.execBootComplete s
  | .brownOut => Sys2Proof.Machine.execBrownOut s
  | .powerGood => Sys2Proof.Machine.execPowerGood s
  | .killAssert => Sys2Proof.Machine.execKillAssert s
  | .killRelease => Sys2Proof.Machine.execKillRelease s
  -- Configuration, NV and recorder (14)
  | .roleWriteTimeout => Sys2Proof.Machine.execRoleWriteTimeout s
  | .recPeriodicFlush => Sys2Proof.Machine.execRecPeriodicFlush s
  -- Clocks and RTC (15)
  | .domainSwitchDone => Sys2Proof.Machine.execDomainSwitchDone s
  | .clkoutRestart => Sys2Proof.Machine.execClkoutRestart s
  | .refLost => Sys2Proof.Machine.execRefLost s
  | .pllUnlock => Sys2Proof.Machine.execPllUnlock s
  | .refReturn => Sys2Proof.Machine.execRefReturn s
  | .optimeSave => Sys2Proof.Machine.execOptimeSave s
  | .rtcTrimStep => Sys2Proof.Machine.execRtcTrimStep s
  | .countdown => Sys2Proof.Machine.execCountdown s
  -- Thermal (16)
  | .thermalRateUpdate => Sys2Proof.Machine.execThermalRateUpdate s
  | .thermalRestart => Sys2Proof.Machine.execThermalRestart s
  -- Pins, JTAG and reserved sequences (18, 06)
  | .jtagTapReset => Sys2Proof.Machine.execJtagTapReset s
  | .jtagExtest => Sys2Proof.Machine.execJtagExtest s
  | .jtagIdcode => Sys2Proof.Machine.execJtagIdcode s
  | .jtagSamplePreload => Sys2Proof.Machine.execJtagSamplePreload s
  | .jtagHighz => Sys2Proof.Machine.execJtagHighz s
  | .jtagClamp => Sys2Proof.Machine.execJtagClamp s
  | .jtagBypass => Sys2Proof.Machine.execJtagBypass s
  -- Further events (16, 17, 12)
  | .restartComparatorClear => Sys2Proof.Machine.execRestartComparatorClear s
  | .leaseNearlySpent => Sys2Proof.Machine.execLeaseNearlySpent s

end Sys2Proof.Machine
end

