-- ==== Sys2Proof/WellFormed.lean ====
section
/-!
DEFINITION. Well-formed commands. Most operands cannot be out of range by their type. What is checked here: an address operand
names a value in its row's own registers, a furrow's instruction is a legal word (R270), and the bytes of a PK_RESCAN set
RESCAN (R228).
-/

namespace Sys2Proof

/-- An even address from `lo` on, below `hi`. -/
def evenIn (a : BitVec 16) (lo hi : Nat) : Bool := decide (lo ≤ a.toNat) && decide (a.toNat < hi) && a.toNat % 2 = 0

/-- The address operand of a row names one of its registers. -/
def Instr.addressOk : Instr → Bool
  | .loopConfigWrite _ a _ => evenIn a 0x2000 0x2600
  | .bgConfigWrite _ a _ => evenIn a 0x3000 0x3400
  | .seqProfileWrite _ a _ => evenIn a 0x1400 0x1C00
  | .chgConfigWrite _ a _ => evenIn a 0x3400 0x3800
  | .msPlanWrite _ a _ => evenIn a 0x4800 0x5000
  | .wdgConfigWrite _ a _ => decide (a.toNat = 0x0A00) || (evenIn a 0x0A40 0x0B40 && decide (a.toNat % 16 < 4))
  | _ => true

/-- The instruction is no illegal word (R270, R279, R282). -/
def Instr.wordOk : Instr → Bool
  | .b _ cond _ => cond ≠ 0xF#4
  | .trigU _ (.imm v) => decide (v.toNat < 2048)
  | .post _ d _ _ => d ≠ 15
  | _ => true

/-- The bytes that a row writes set the bit that names it. -/
def Instr.bytesOk : Instr → Bool
  | .pkRescan _ lo _ => lo.getLsbD 0
  | _ => true

/-- A well-formed command. -/
def Instr.wellFormed (i : Instr) : Bool := i.addressOk && i.wordOk && i.bytesOk

end Sys2Proof
end

