-- ==== Sys2Proof/Safety.lean ====
section
/-!
DEFINITION. The terms of the claims: completion of a command, what events and records may change beside the effect named,
the issue of a Kotried instruction, and the invariants that every step keeps.
-/

namespace Sys2Proof.Machine

open Sys2Proof Sys2Proof.R

/-! ## Completion -/

/-- Command `c` completes in state `s`: it answers a next state, whose device `P` describes and whose queue is that of
`s`. -/
def Completes (c : Instr) (s : State) (P : Dev → Prop) : Prop := ∃ d, exec c s = .next { s with dev := d } ∧ P d

/-- An accessor's write of address `a` is let through (R253, R317). -/
def Dev.mayWrite (d : Dev) (acc : Acc) (a : Nat) : Bool :=
  match acc with
  | .port p => d.portsAnswer && d.portMay p a
  | .furrow _ => furrowMay a

/-- The item under `tag` has ended with `status`: it is no longer in flight, and its journal close is due (R297, R303). -/
def Dev.ended (e : Dev) (tag : Tag) (status : Nat) : Prop :=
  e.item tag = none ∧ (tag, BitVec.ofNat 6 status) ∈ e.hopper.closes

/-- The hopper carries out item `it` under `tag`: it is accepted, of code `code`, in a running state, with good arguments and
an open function (R290). -/
def Dev.carries (d : Dev) (tag : Tag) (code : Nat) (it : Item) : Prop :=
  d.isUp = true ∧ d.item tag = some it ∧ it.stage = .accepted ∧ it.code.toNat = code ∧ it.bad = false ∧ d.fnClosed it = false

/-- The item under `tag` is in flight and a block carries it out. -/
def Dev.runs (e : Dev) (tag : Tag) : Prop := (e.item tag).map (·.stage) = some .running

/-! ## What raising events and making records may change -/

/-- The registers that an event or a record may change: EVT_STAT, KE_STICKY and KE_EVQOVCNT (R255), and the recorder's
status, sticky bits, bounds and drop counter (R370, R374, R375). -/
def evtReg (a : Nat) : Bool :=
  (decide (EVT_STAT 0 ≤ a) && decide (a < EVT_STAT 16)) || a = KE_STICKY || a = KE_EVQOVCNT ||
    (decide (REC_STATUS ≤ a) && decide (a < REC_OLDEST + 4)) || a = REC_DROPCNT

/-- The device with everything that an event or a record may change put back as it is in `d`: registers, furrow queues, the
recorder and NV with its read-backs. -/
def Dev.hush (e d : Dev) : Dev :=
  { e with
    regs := d.regs, recorder := d.recorder,
    cfg := { e.cfg with nv := d.cfg.nv, nvWrites := d.cfg.nvWrites, checks := d.cfg.checks },
    engine := { e.engine with
      furrows := Vector.ofFn fun f => { e.engine.furrows[f] with queue := d.engine.furrows[f].queue } } }

/-- The registers outside `K` are those of `d`, but for those that an event or a record may change. -/
def Dev.keepsRegs (d e : Dev) (K : Nat → Prop) : Prop := ∀ a, ¬K a → evtReg a = false → e.rd a = d.rd a

/-- Every register outside `K` is that of `d`, and nothing that no register holds has changed. -/
def Dev.onlyRegs (d e : Dev) (K : Nat → Prop) : Prop := (∀ a, ¬K a → e.rd a = d.rd a) ∧ { e with regs := d.regs } = d

/-! ## Issue of an instruction -/

/-- Furrow `f` issues the instruction that the word at its address spells: the engine runs, the core of `f` chooses it, and no
breakpoint stops it (R246, R247, R264, R269). -/
abbrev Dev.issues (d : Dev) (i : Instr) (f : Furrow) : Prop :=
  d.engineOn = true ∧ d.chosen f = true ∧ d.atBreak f = false ∧ d.command f = some i

/-- Furrow `f` issues the word `w`, which R270 calls illegal or not. -/
abbrev Dev.meetsIllegal (d : Dev) (f : Furrow) (w : BitVec 32) : Prop :=
  d.engineOn = true ∧ d.chosen f = true ∧ d.atBreak f = false ∧ d.codeWord f = some w

/-- The state in which furrow `f` has issued: it stands as `x`, its step is used up, and its core notes it as the last
that issued. -/
def State.issued (s : State) (f : Furrow) (x : FurrowSt) : State :=
  { s with dev := { s.dev with engine := { s.dev.engine with
      last := s.dev.engine.last.set (coreOf f) (placeOf f),
      furrows := s.dev.engine.furrows.set f { x with stepping := false } } } }

/-- The same, with the furrow at the next address. -/
def State.ran (s : State) (f : Furrow) (x : FurrowSt) : State :=
  s.issued f { x with pc := (s.dev.fur f).pc + 1 }

/-- The same, with the furrow WAITING for `w` at the next address. -/
def State.waits (s : State) (f : Furrow) (w : Wait) : State :=
  s.ran f { s.dev.fur f with st := .waiting, wait := w, waitAt := s.dev.now }

/-- Z and N from a 32-bit result (R271). -/
def FurrowSt.zn (x : FurrowSt) (r : BitVec 32) : FurrowSt := { x with z := decide (r.toNat = 0), n := r.getLsbD 31 }

/-- A value limited once to the signed 32-bit range, and whether the limit acted (R272). -/
def limit32 (v : Int) : BitVec 32 := BitVec.ofInt 32 (max (-2147483648) (min 2147483647 v))
def beyond32 (v : Int) : Bool := decide (v < -2147483648) || decide (2147483647 < v)

/-- `v` divided by 2^n, to the nearest, halves toward plus infinity (R272). -/
def roundTo (v : Int) (n : Nat) : Int := Int.fdiv (2 * v + 2 ^ n) (2 ^ (n + 1))

/-- The bytes of data memory at `a`, as one number, low byte first (R252, R276). -/
def Dev.dataAt (d : Dev) (a : Nat) : Nat → Nat
  | 0 => 0
  | n + 1 => (cellGet d.engine.data a).toNat + 256 * d.dataAt (a + 1) n

/-- Furrow `f` has faulted with `cause` at address `pc` (R260), and the fault is counted and reported. -/
def Dev.faulted (d e : Dev) (f : Furrow) (cause : Nat) : Prop :=
  (e.fur f).st = .faulted ∧ (e.fur f).fault = BitVec.ofNat 8 cause ∧ (e.fur f).fltpc = (d.fur f).pc ∧
    (e.fur f).queue = [] ∧ (e.fur f).held = [] ∧ (e.fur f).k = (d.fur f).k ∧ (e.fur f).stack = (d.fur f).stack ∧
    e.engine.data = d.engine.data ∧ e.engine.code = d.engine.code

/-! ## Invariants -/

/-- The register file stands in its one form: keys strictly rising, and no word that an unlisted key reads as. -/
def State.regsWf (s : State) : Prop := regWf s.dev.regs = true

/-- Data memory stands in its one form (R252). -/
def State.dataWf (s : State) : Prop := cellWf s.dev.engine.data = true

/-- NV stands in its one form. -/
def State.nvWf (s : State) : Prop := cellWf s.dev.cfg.nv = true

end Sys2Proof.Machine
end

