-- ==== Sys2Proof/Certificates/Slice0/Obligations.lean ====
section
/-!
DEFINITION. The statements for the provers. `Completes c s P` says that command `c` answers a next state in `s`, with the queue
of `s` and a device that `P` describes.
-/

open Sys2Proof Sys2Proof.R Sys2Proof.Machine

/-! ## The machine as a whole -/

/-- A step takes the command at the front of the queue and is its effect on the queue's rest. -/
def Obligations.StepRunsFrontCommand : Prop :=
  ∀ (c : Instr) (rest : List Instr) (s : State), s.pending = c :: rest → step s = exec c { s with pending := rest }

/-- Every command of the table answers a next state in every state, and leaves the queue to `step`. That no command ends in a
fault or a refusal is the model's choice (log entry 105): where the spec gives a command no effect, nothing changes. -/
def Obligations.EveryCommandAnswers : Prop := ∀ (c : Instr) (s : State), Completes c s fun _ => True

/-- On an empty queue 1 us passes (the model's choice, log entry 1): the timebase counts on, operating time and the RTC count
65,536 a second while CKD_RTC runs, and beside clocks, charger timers and watchdog periods nothing changes where no entry waits on
a seat, no response stands on a link, no RTC_SET waits, the charge is not at its safety limit and CKD_TB is not being switched. -/
def Obligations.EmptyQueuePassesTime : Prop :=
  ∀ s : State, s.pending = [] →
    let d := s.dev
    let e := { d.tick with clock := d.clock, regs := d.regs, chg := d.chg, wdg := d.wdg }
    let timers (a : Nat) : Prop := a = RTC_CDN ∨ a = RTC_CDN + 2 ∨ a = CHG_TEQ ∨ a = CHG_TEQ + 2 ∨ a = CHG_TWALL ∨ a = CHG_TWALL + 2
    let counts := if d.rtcRuns then (d.clock.rtcRem + 65536) / 1000000 else 0
    step s = .next { s with dev := d.tick } ∧
    (d.tbRuns = true → d.clock.switching ≠ some .tb → d.tick.clock.tb = d.clock.tb + 1) ∧
    (d.tbRuns = false → d.tick.clock.tb = d.clock.tb) ∧ d.tick.clock.op = d.clock.op + counts ∧
    d.tick.clock.rtc = d.clock.rtc + BitVec.ofNat 64 counts ∧
    ((∀ k : Link, d.flag (VL_STATUS k) VL_STATUS.FRAME = false) → (∀ k : Fin 24, (d.seat k).due = []) → d.clock.rtcSet = [] →
      d.chg.expiry = false → d.clock.switching ≠ some .tb → e = d ∧ ∀ a, ¬timers a → d.tick.rd a = d.rd a)

/-- At reset nothing waits, and the register file, data memory and NV stand in their one form. -/
def Obligations.ResetForms : Prop :=
  State.reset.pending = [] ∧ State.reset.regsWf ∧ State.reset.dataWf ∧ State.reset.nvWf

/-- Every step keeps the register file in its one form. -/
def Obligations.StepKeepsRegisterFile : Prop := ∀ s t : State, s.regsWf → step s = .next t → t.regsWf

/-- Every step keeps data memory in its one form. -/
def Obligations.StepKeepsDataMemory : Prop := ∀ s t : State, s.dataWf → step s = .next t → t.dataWf

/-- Every step keeps NV in its one form. -/
def Obligations.StepKeepsNv : Prop := ∀ s t : State, s.nvWf → step s = .next t → t.nvWf

/-! ## Kotried instructions (R269 to R283) -/

/-- Arithmetic and logic of R273, each with the flags of its row (R271): the result goes to Kd, the furrow moves on, and
nothing else changes. -/
def Obligations.KotriedArithmetic : Prop :=
  ∀ (s : State) (f : Furrow) (d a b : KReg),
    let x := s.dev.fur f
    let runs (i : Instr) (y : FurrowSt) : Prop := s.dev.issues i f → exec i s = .next (s.ran f y)
    let p := x.kr a
    let q := x.kr b
    let n := q.toNat % 256
    runs (.add f d a b) { (x.setK d (p + q)).zn (p + q) with
      c := decide (2 ^ 32 ≤ p.toNat + q.toNat), v := beyond32 (p.toInt + q.toInt) } ∧
    runs (.adds f d a b) { (x.setK d (limit32 (p.toInt + q.toInt))).zn (limit32 (p.toInt + q.toInt)) with
      v := beyond32 (p.toInt + q.toInt) } ∧
    runs (.sub f d a b) { (x.setK d (p - q)).zn (p - q) with
      c := decide (q.toNat ≤ p.toNat), v := beyond32 (p.toInt - q.toInt) } ∧
    runs (.subs f d a b) { (x.setK d (limit32 (p.toInt - q.toInt))).zn (limit32 (p.toInt - q.toInt)) with
      v := beyond32 (p.toInt - q.toInt) } ∧
    runs (.and f d a b) ((x.setK d (p &&& q)).zn (p &&& q)) ∧
    runs (.or f d a b) ((x.setK d (p ||| q)).zn (p ||| q)) ∧
    runs (.xor f d a b) ((x.setK d (p ^^^ q)).zn (p ^^^ q)) ∧
    runs (.shl f d a b) { (x.setK d (p <<< n)).zn (p <<< n) with
      c := (p.toNat * 2 ^ n).testBit 32 } ∧
    runs (.shr f d a b) { (x.setK d (p >>> n)).zn (p >>> n) with
      c := decide (0 < n) && p.toNat.testBit (n - 1) } ∧
    runs (.sar f d a b) { (x.setK d (p.sshiftRight n)).zn (p.sshiftRight n) with
      c := decide (0 < n) && (p.sshiftRight (n - 1)).getLsbD 0 } ∧
    runs (.cmp f a b) { x.zn (p - q) with
      c := decide (q.toNat ≤ p.toNat), v := beyond32 (p.toInt - q.toInt) } ∧
    (let r := BitVec.ofInt 32 (min p.toInt q.toInt)
     runs (.min f d a b) ((x.setK d r).zn r)) ∧
    (let r := BitVec.ofInt 32 (max p.toInt q.toInt)
     runs (.max f d a b) ((x.setK d r).zn r)) ∧
    (let r := BitVec.ofInt 32 (p.toInt * q.toInt)
     runs (.mul f d a b) { (x.setK d r).zn r with v := beyond32 (p.toInt * q.toInt) }) ∧
    (let r := limit32 (max p.toInt (-p.toInt))
     runs (.abs f d a) { (x.setK d r).zn r with v := beyond32 (max p.toInt (-p.toInt)) }) ∧
    (let r := limit32 (-p.toInt)
     runs (.neg f d a) { (x.setK d r).zn r with v := beyond32 (-p.toInt) })

/-- The fixed-point forms of R274: the rounded product of R272, saturated once, and added to or subtracted from Kd in full
width for MAC and MSU. -/
def Obligations.KotriedFixedPoint : Prop :=
  ∀ (s : State) (f : Furrow) (d a b : KReg) (sh : BitVec 5),
    let x := s.dev.fur f
    let runs (i : Instr) (y : FurrowSt) : Prop := s.dev.issues i f → exec i s = .next (s.ran f y)
    let m := roundTo ((x.kr a).toInt * (x.kr b).toInt) sh.toNat
    let acc := (x.kr d).toInt
    runs (.mulq f d a b sh) { (x.setK d (limit32 m)).zn (limit32 m) with v := beyond32 m } ∧
    runs (.mac f d a b sh) { (x.setK d (limit32 (acc + m))).zn (limit32 (acc + m)) with
      v := beyond32 (acc + m) } ∧
    runs (.msu f d a b sh) { (x.setK d (limit32 (acc - m))).zn (limit32 (acc - m)) with
      v := beyond32 (acc - m) }

/-- The immediate forms of R275, each with its result and the flags of its row; nothing else changes. -/
def Obligations.KotriedImmediate : Prop :=
  ∀ (s : State) (f : Furrow) (d a : KReg) (imm : BitVec 16) (n : BitVec 5),
    let x := s.dev.fur f
    let runs (i : Instr) (y : FurrowSt) : Prop := s.dev.issues i f → exec i s = .next (s.ran f y)
    let p := x.kr a
    let se := BitVec.ofInt 32 imm.toInt
    let ze := BitVec.ofNat 32 imm.toNat
    let k := n.toNat
    runs (.movi f d imm) (x.setK d se) ∧
    runs (.movhi f d imm) (x.setK d (BitVec.ofNat 32 (imm.toNat * 65536 + (x.kr d).toNat % 65536))) ∧
    runs (.addi f d a imm) { (x.setK d (p + se)).zn (p + se) with
      c := decide (2 ^ 32 ≤ p.toNat + se.toNat), v := beyond32 (p.toInt + imm.toInt) } ∧
    runs (.andi f d a imm) ((x.setK d (p &&& ze)).zn (p &&& ze)) ∧
    runs (.ori f d a imm) ((x.setK d (p ||| ze)).zn (p ||| ze)) ∧
    runs (.xori f d a imm) ((x.setK d (p ^^^ ze)).zn (p ^^^ ze)) ∧
    runs (.cmpi f a imm) { x.zn (p - se) with
      c := decide (se.toNat ≤ p.toNat), v := beyond32 (p.toInt - imm.toInt) } ∧
    runs (.tsti f a imm) (x.zn (p &&& ze)) ∧
    runs (.shli f d a n) { (x.setK d (p <<< k)).zn (p <<< k) with
      c := (p.toNat * 2 ^ k).testBit 32 } ∧
    runs (.shri f d a n) { (x.setK d (p >>> k)).zn (p >>> k) with
      c := decide (0 < k) && p.toNat.testBit (k - 1) } ∧
    runs (.sari f d a n) { (x.setK d (p.sshiftRight k)).zn (p.sshiftRight k) with
      c := decide (0 < k) && (p.sshiftRight (k - 1)).getLsbD 0 }

/-- The loads of R276 at an aligned address of data memory: Kd takes the bytes there, extended as the row says, and neither
memory nor a flag changes. The stores of R276 at an aligned address of data memory: the low bytes of Kd go to that address,
low byte first; every other byte of data memory, and everything else but the furrow's address, stays. -/
def Obligations.KotriedDataMemory : Prop :=
  (∀ (s : State) (f : Furrow) (d : KReg) (m : MAddr),
      let x := s.dev.fur f
      let runs (i : Instr) (y : FurrowSt) : Prop := s.dev.issues i f → exec i s = .next (s.ran f y)
      let a := (x.dataAddr m).toNat
      let v (n : Nat) : Nat := s.dev.dataAt a n
      (a + 1 ≤ 0xA000 →
        runs (.ldb f d m) (x.setK d (BitVec.ofNat 32 (v 1))) ∧
        runs (.ldbs f d m) (x.setK d (BitVec.ofInt 32 (BitVec.ofNat 8 (v 1)).toInt))) ∧
      (a + 2 ≤ 0xA000 → a % 2 = 0 →
        runs (.ldh f d m) (x.setK d (BitVec.ofNat 32 (v 2))) ∧
        runs (.ldhs f d m) (x.setK d (BitVec.ofInt 32 (BitVec.ofNat 16 (v 2)).toInt))) ∧
      (a + 4 ≤ 0xA000 → a % 4 = 0 → runs (.ldw f d m) (x.setK d (BitVec.ofNat 32 (v 4))))) ∧
  (∀ (s : State) (f : Furrow) (d : KReg) (m : MAddr),
      let x := s.dev.fur f
      let a := (x.dataAddr m).toNat
      let stores (n : Nat) (e : Dev) : Prop :=
        (∀ i, i < n → cellGet e.engine.data (a + i) = BitVec.ofNat 8 ((x.kr d).toNat / 256 ^ i)) ∧
        (∀ b, b < a ∨ a + n ≤ b → cellGet e.engine.data b = cellGet s.dev.engine.data b) ∧
        { e with engine := { e.engine with data := s.dev.engine.data } } = (s.ran f x).dev
      (a + 1 ≤ 0xA000 → s.dev.issues (.stb f d m) f → Completes (.stb f d m) s (stores 1)) ∧
      (a + 2 ≤ 0xA000 → a % 2 = 0 → s.dev.issues (.sth f d m) f → Completes (.sth f d m) s (stores 2)) ∧
      (a + 4 ≤ 0xA000 → a % 4 = 0 → s.dev.issues (.stw f d m) f → Completes (.stw f d m) s (stores 4)))

/-- The condition of a branch (R279): with each value of COND, B to an address in CODE is taken as the table says and else runs
on; a word with the reserved value faults ILLEGAL. -/
def Obligations.KotriedBranch : Prop :=
  ∀ (s : State) (f : Furrow) (t : BitVec 14), t.toNat < s.dev.engine.code.length →
    let x := s.dev.fur f
    let b (cond : BitVec 4) (taken : Bool) : Prop := s.dev.issues (.b f cond t) f →
      exec (.b f cond t) s = .next (if taken then s.issued f { x with pc := t } else s.ran f x)
    b 0x0 true ∧ b 0x1 x.z ∧ b 0x2 (!x.z) ∧ b 0x3 x.n ∧ b 0x4 (!x.n) ∧ b 0x5 x.c ∧ b 0x6 (!x.c) ∧ b 0x7 x.v ∧ b 0x8 (!x.v) ∧
      b 0x9 (x.c && !x.z) ∧ b 0xA (!x.c || x.z) ∧ b 0xB (x.n == x.v) ∧ b 0xC (x.n != x.v) ∧
      b 0xD (!x.z && x.n == x.v) ∧ b 0xE (x.z || x.n != x.v) ∧
      (∀ w : BitVec 32, kOp w = 0x30 → kD w = 0xF → s.dev.meetsIllegal f w →
        Completes (.illegalInstruction f w) s fun e => s.dev.faulted e f 1)

/-- Calls, returns and jumps of R280: where the next instruction is, and what the call stack holds. NOP and RDTB of R282, and
SIG: the software event is pending, and nothing else changes but what its raising may. -/
def Obligations.KotriedCallsAndActions : Prop :=
  (∀ (s : State) (f : Furrow),
      let x := s.dev.fur f
      let goes (i : Instr) (y : FurrowSt) : Prop := s.dev.issues i f → exec i s = .next (s.issued f y)
      let len := s.dev.engine.code.length
      (∀ t : BitVec 14, t.toNat < len → x.stack.length < 8 →
        goes (.call f t) { x with pc := t, stack := (x.pc + 1) :: x.stack }) ∧
      (∀ a : KReg, (x.kr a).toNat < len → x.stack.length < 8 →
        goes (.callr f a) { x with pc := (x.kr a).setWidth 14, stack := (x.pc + 1) :: x.stack }) ∧
      (∀ a : KReg, (x.kr a).toNat < len →
        goes (.jmp f a) { x with pc := (x.kr a).setWidth 14 }) ∧
      (∀ (t : BitVec 14) (rest : List (BitVec 14)), x.stack = t :: rest → t.toNat < len →
        goes (.ret f) { x with pc := t, stack := rest })) ∧
  (∀ (s : State) (f : Furrow),
      let x := s.dev.fur f
      let runs (i : Instr) (y : FurrowSt) : Prop := s.dev.issues i f → exec i s = .next (s.ran f y)
      runs (.nop f) x ∧
      (∀ d : KReg, runs (.rdtb f d) (x.setK d (BitVec.ofNat 32 s.dev.clock.tb.toNat))) ∧
      (∀ n : Fin 8, s.dev.issues (.sig f n) f → Completes (.sig f n) s fun e =>
        e.evtPending (248 + n.val) = true ∧ s.dev.keepsRegs e (fun _ => False) ∧
          e.hush (s.ran f x).dev = (s.ran f x).dev))

/-- The waits of R281, and the give-up of the core of R256: what completes at once, and what leaves the furrow WAITING. That
WAIT.E completes at once where an entry is already queued is the model's reading (log entry 22). -/
def Obligations.KotriedWaits : Prop :=
  ∀ (s : State) (f : Furrow),
    let x := s.dev.fur f
    let runs (i : Instr) (y : FurrowSt) : Prop := s.dev.issues i f → exec i s = .next (s.ran f y)
    let waits (i : Instr) (w : Wait) : Prop := s.dev.issues i f → exec i s = .next (s.waits f w)
    let tb := s.dev.clock.tb.toNat % 2 ^ 32
    (∀ (d : KReg) (t : TSrc), x.queue = [] → waits (.waitE f d t) (.event d (x.waitArg t))) ∧
    (∀ (d : KReg) (t : TSrc) (e : BitVec 9) (rest : List (BitVec 9)), x.queue = e :: rest → e.toNat < 256 →
      runs (.waitE f d t) { x.setK d (BitVec.ofNat 32 e.toNat) with c := false, queue := rest }) ∧
    (∀ (d : KReg) (t : TSrc) (tag : Tag) (rest : List (BitVec 9)), x.queue = BitVec.ofNat 9 (256 + tag.val) :: rest →
      s.dev.issues (.waitE f d t) f → Completes (.waitE f d t) s fun e =>
        (∀ i ∈ e.inFlight, i.tag = tag → i.stage = .taken f) ∧
        ({ e with hopper := s.dev.hopper } : Dev) = (s.ran f { x.setK d (BitVec.ofNat 32 (256 + tag.val)) with
          c := false, queue := rest, held := x.held ++ [tag] }).dev) ∧
    (∀ t : TSrc, x.waitArg t = 0 → runs (.waitT f t) x) ∧
    (∀ t : TSrc, x.waitArg t ≠ 0 → waits (.waitT f t) (.ticks (x.waitArg t))) ∧
    (∀ a : KReg, (2 ^ 32 + tb - (x.kr a).toNat) % 2 ^ 32 < 2 ^ 31 → runs (.waitTa f a) x) ∧
    (∀ a : KReg, 2 ^ 31 ≤ (2 ^ 32 + tb - (x.kr a).toNat) % 2 ^ 32 →
      waits (.waitTa f a) (.until (x.kr a))) ∧
    (∀ (a : KReg) (imm : BitVec 16) (q : SeqNo), (x.kr a).toNat = q.val → s.dev.mbit (MS_SEQDONE 0) q.val = true →
      runs (.waitS f a imm) { x with c := false }) ∧
    (∀ (a : KReg) (imm : BitVec 16) (q : SeqNo), (x.kr a).toNat = q.val → s.dev.mbit (MS_SEQDONE 0) q.val = false →
      waits (.waitS f a imm) (.seq q imm.toNat)) ∧
    (∀ (a : KReg) (imm : BitVec 16), 63 < (x.kr a).toNat → s.dev.issues (.waitS f a imm) f →
      Completes (.waitS f a imm) s fun e => s.dev.faulted e f 8)

/-- How a wait ends (R256, R258, R281): the awaited thing arrives, an event's number or an item that the furrow then holds, or the
time-out passes first; an arrival wins. A wait whose instant has not come goes on. -/
def Obligations.KotriedWaitEnds : Prop :=
  ∀ (s : State) (f : Furrow), (s.dev.fur f).st = .waiting →
    let x := s.dev.fur f
    let now := s.dev.clock.tb.toNat
    let ready (y : FurrowSt) : State := { s with dev := s.dev.setFur f { y with st := .ready, wait := .none } }
    (∀ (r : KReg) (t : Nat), x.wait = .event r t → x.queue = [] → exec (.waitResume f) s = .next s) ∧
    (∀ (r : KReg) (t : Nat) (e : BitVec 9) (rest : List (BitVec 9)), x.wait = .event r t → x.queue = e :: rest →
      e.toNat < 256 →
      exec (.waitResume f) s = .next (ready { x.setK r (BitVec.ofNat 32 e.toNat) with c := false, queue := rest }) ∧
      (t ≠ 0 → x.waitAt + t ≤ now → exec (.waitTimeout f) s = exec (.waitResume f) s)) ∧
    (∀ (r : KReg) (t : Nat) (tag : Tag) (rest : List (BitVec 9)), x.wait = .event r t →
      x.queue = BitVec.ofNat 9 (256 + tag.val) :: rest → Completes (.waitResume f) s fun e =>
        (∀ i ∈ e.inFlight, i.tag = tag → i.stage = .taken f) ∧
        ({ e with hopper := s.dev.hopper } : Dev) = (ready { x.setK r (BitVec.ofNat 32 (256 + tag.val)) with
          c := false, queue := rest, held := x.held ++ [tag] }).dev) ∧
    (∀ (r : KReg) (t : Nat), x.wait = .event r t → x.queue = [] → t ≠ 0 → x.waitAt + t ≤ now →
      exec (.waitTimeout f) s = .next (ready { x.setK r 0xFFFF with c := true })) ∧
    (∀ (r : KReg) (t : Nat), x.wait = .event r t → (t = 0 ∨ now < x.waitAt + t) → exec (.waitTimeout f) s = .next s) ∧
    (∀ n : Nat, x.wait = .ticks n →
      exec (.waitResume f) s = .next (if x.waitAt + n ≤ now then ready x else s)) ∧
    (∀ t : BitVec 32, x.wait = .until t →
      exec (.waitResume f) s = .next (if (2 ^ 32 + now % 2 ^ 32 - t.toNat) % 2 ^ 32 < 2 ^ 31 then ready x else s)) ∧
    (∀ (q : SeqNo) (t : Nat), x.wait = .seq q t → s.dev.mbit (MS_SEQDONE 0) q.val = true →
      exec (.waitResume f) s = .next (ready { x with c := false })) ∧
    (∀ (q : SeqNo) (t : Nat), x.wait = .seq q t → s.dev.mbit (MS_SEQDONE 0) q.val = false →
      exec (.waitResume f) s = .next s) ∧
    (∀ (q : SeqNo) (t : Nat), x.wait = .seq q t → t ≠ 0 → x.waitAt + t ≤ now →
      exec (.waitTimeout f) s = .next (ready { x with c := !s.dev.mbit (MS_SEQDONE 0) q.val }))

/-- The instructions that reach the register space or a block leave their furrow WAITING for the access (R248, R277, R278,
R282), with the values taken from its registers now. -/
def Obligations.KotriedAccessIssue : Prop :=
  ∀ (s : State) (f : Furrow) (d a : KReg) (addr : BitVec 16) (m : MAddr),
    let x := s.dev.fur f
    let waits (i : Instr) (w : Wait) : Prop := s.dev.issues i f → exec i s = .next (s.waits f w)
    let w := (x.kr a).setWidth 16
    (∀ sx : Bool, (x.regAddr m).toNat % 2 = 0 →
      waits (.ldr f d sx m) (.access (.load d (x.regAddr m) sx))) ∧
    ((x.regAddr m).toNat % 2 = 0 →
      waits (.str f d m) (.access (.store (x.regAddr m) ((x.kr d).setWidth 16)))) ∧
    (addr.toNat % 2 = 0 →
      waits (.atomSet f d a addr) (.access (.atom .set d addr w)) ∧
      waits (.atomClr f d a addr) (.access (.atom .clr d addr w)) ∧
      waits (.atomAdd f d a addr) (.access (.atom .add d addr w)) ∧
      waits (.atomXch f d a addr) (.access (.atom .xch d addr w)) ∧
      waits (.cas f d a addr) (.access (.cas d addr w))) ∧
    (∀ slot : WSlot, waits (.wdc f d slot) (.access (.wdc d slot)) ∧
      waits (.wda f a slot) (.access (.wda slot w))) ∧
    (∀ t : TSrc, x.trigArg t < 64 → waits (.trigS f t) (.access (.trigSeq (x.trigArg t)))) ∧
    (∀ v : BitVec 16, v.toNat < 2048 → waits (.trigU f (.imm v)) (.access (.trigUrg v.toNat))) ∧
    waits (.trigU f (.reg a)) (.access (.trigUrg (x.kr a).toNat)) ∧
    (∀ (b : KReg) (tag : Tag), d ≠ 15 → (x.kr a).toNat = tag.val → tag ∈ x.held →
      waits (.post f d a b) (.access (.post tag ((x.kr b).setWidth 8)
        (BitVec.ofNat 64 ((x.kr d).toNat + 2 ^ 32 * (x.kr (d + 1)).toNat)))))

/-- Where an instruction faults (R252, R259, R270, R276 to R278, R280, R282), and with which cause; no register and no byte
of data memory changes. -/
def Obligations.KotriedFaults : Prop :=
  ∀ (s : State) (f : Furrow),
    let x := s.dev.fur f
    let len := s.dev.engine.code.length
    let faults (c : Instr) (cause : Nat) : Prop := s.dev.issues c f → Completes c s fun e => s.dev.faulted e f cause
    (∀ (d : KReg) (m : MAddr),
      let a := (x.dataAddr m).toNat
      let data (c : Instr) (n : Nat) : Prop := 0xA000 < a + n → faults c 3
      let align (c : Instr) (n : Nat) : Prop := a + n ≤ 0xA000 → a % n ≠ 0 → faults c 4
      data (.ldb f d m) 1 ∧ data (.ldbs f d m) 1 ∧ data (.ldh f d m) 2 ∧ data (.ldhs f d m) 2 ∧ data (.ldw f d m) 4 ∧
        data (.stb f d m) 1 ∧ data (.sth f d m) 2 ∧ data (.stw f d m) 4 ∧ align (.ldh f d m) 2 ∧ align (.ldhs f d m) 2 ∧
        align (.ldw f d m) 4 ∧ align (.sth f d m) 2 ∧ align (.stw f d m) 4) ∧
    (∀ t : BitVec 14, len ≤ t.toNat → faults (.call f t) 2 ∧ faults (.b f 0x0 t) 2) ∧
    (∀ t : BitVec 14, t.toNat < len → 8 ≤ x.stack.length → faults (.call f t) 5) ∧
    (∀ a : KReg, len ≤ (x.kr a).toNat → faults (.jmp f a) 2 ∧ faults (.callr f a) 2) ∧
    (∀ a : KReg, (x.kr a).toNat < len → 8 ≤ x.stack.length → faults (.callr f a) 5) ∧
    (x.stack = [] → faults (.ret f) 6) ∧
    (∀ (t : BitVec 14) (rest : List (BitVec 14)), x.stack = t :: rest → len ≤ t.toNat → faults (.ret f) 2) ∧
    (∀ (d a b : KReg) (addr : BitVec 16) (m : MAddr),
      (∀ sx : Bool, (x.regAddr m).toNat % 2 = 1 → faults (.ldr f d sx m) 4 ∧ faults (.str f d m) 4) ∧
      (addr.toNat % 2 = 1 → faults (.atomSet f d a addr) 4 ∧ faults (.atomClr f d a addr) 4 ∧
        faults (.atomAdd f d a addr) 4 ∧ faults (.atomXch f d a addr) 4 ∧ faults (.cas f d a addr) 4) ∧
      (∀ t : TSrc, 63 < x.trigArg t → faults (.trigS f t) 8) ∧
      (∀ w : BitVec 32, (kOp w = 0x3C ∧ kM w = 2 ∧ 2047 < kImm w) ∨ (kOp w = 0x3D ∧ kD w = 15) → s.dev.meetsIllegal f w →
        Completes (.illegalInstruction f w) s fun e => s.dev.faulted e f 1) ∧
      (d ≠ 15 → 127 < (x.kr a).toNat → faults (.post f d a b) 7) ∧
      (∀ tag : Tag, d ≠ 15 → (x.kr a).toNat = tag.val → tag ∉ x.held → faults (.post f d a b) 7))

/-- What an access does when it completes (R248, R277, R278, R282): loads, stores that R253 forbids and allows, atomics on
the shared registers (R254), tokens, triggers and posts. Its furrow becomes READY. The model's readings: Z is 1 for a TRIG.S that its
divider only counts (log entry 25), and 0 for every token of WDA that does not count as an answer (log entry 24). -/
def Obligations.KotriedAccessDone : Prop :=
  ∀ (s : State) (f : Furrow), s.dev.engineOn = true → (s.dev.fur f).st = .waiting →
    let x := s.dev.fur f
    let ready (y : FurrowSt) : FurrowSt := { y with st := .ready, wait := .none }
    let done (P : Dev → Prop) : Prop := Completes (.regAccessDone f) s P
    let awaits (a : Access) : Prop := x.wait = .access a
    let noHeld := (s.dev.accSt (.furrow f)).held = []
    (∀ (r : KReg) (a : BitVec 16) (sx : Bool), awaits (.load r a sx) → a.toNat % 2 = 0 →
      (valueOf (.furrow f) a.toNat).2 = 2 → done fun e =>
        let w := s.dev.viewWord (.furrow f) a.toNat
        e.fur f = ready (x.setK r (if sx then w.signExtend 32 else w.setWidth 32))) ∧
    (∀ (a v : BitVec 16), awaits (.store a v) → furrowMay a.toNat = false →
      exec (.regAccessDone f) s = .next { s with dev := (s.dev.setFlag KE_STICKY KE_STICKY.WREF true).setFur f (ready x) }) ∧
    (∀ (a v : BitVec 16), awaits (.store a v) → furrowMay a.toNat = true → isReg a.toNat = true →
      valueOf (.furrow f) a.toNat = (a.toNat, 2) → noHeld → done fun e =>
        e.regs = (s.dev.regWrite (some (.furrow f)) a.toNat (v.setWidth 32)).2.regs ∧
          (e.fur f).st = .ready ∧ (e.fur f).wait = .none) ∧
    (∀ (op : AtomOp) (r : KReg) (i : Fin 32) (v : BitVec 16), awaits (.atom op r (BitVec.ofNat 16 (KE_SHARE i)) v) → noHeld →
      done fun e =>
        let old := s.dev.rd (KE_SHARE i)
        e.rd (KE_SHARE i) = (match op with
          | .set => old ||| v
          | .clr => old &&& ~~~v
          | .add => BitVec.ofNat 16 (old.toNat + v.toNat)
          | .xch => v) ∧
        e.fur f = ready { x.setK r (old.setWidth 32) with z := decide (old = 0) } ∧
        (∀ b, b ≠ KE_SHARE i → e.rd b = s.dev.rd b) ∧ (∀ g, g ≠ f → e.fur g = s.dev.fur g)) ∧
    (∀ (r : KReg) (i : Fin 32) (v : BitVec 16), awaits (.cas r (BitVec.ofNat 16 (KE_SHARE i)) v) → noHeld → done fun e =>
        let old := s.dev.rd (KE_SHARE i)
        let hit := decide (old = (x.kr r).setWidth 16)
        e.rd (KE_SHARE i) = (if hit then v else old) ∧
        e.fur f = ready { x.setK r (old.setWidth 32) with z := hit } ∧
        (∀ b, b ≠ KE_SHARE i → e.rd b = s.dev.rd b) ∧ (∀ g, g ≠ f → e.fur g = s.dev.fur g)) ∧
    (∀ (r : KReg) (n : WSlot), awaits (.wdc r n) → exec (.regAccessDone f) s =
      .next { s with dev := s.dev.setFur f (ready (x.setK r ((s.dev.slot n).chal.setWidth 32))) }) ∧
    (∀ v : BitVec 16, awaits (.wda 15 v) → exec (.regAccessDone f) s =
      .next { s with dev := (s.dev.setFlag KE_STICKY KE_STICKY.WREF true).setFur f (ready { x with z := false }) }) ∧
    (∀ (n : WSlot) (v : BitVec 16), awaits (.wda n v) → n ≠ 15 → (s.dev.slot n).running = true → (s.dev.slot n).furrow ≠ f →
      exec (.regAccessDone f) s =
        .next { s with dev := (s.dev.setFlag WDG_STICKY WDG_STICKY.FOREIGN true).setFur f (ready { x with z := false }) }) ∧
    (∀ (n : WSlot) (v : BitVec 16), awaits (.wda n v) → n ≠ 15 → (s.dev.slot n).running = false →
      exec (.regAccessDone f) s = .next { s with dev := s.dev.setFur f (ready { x with z := false }) }) ∧
    (∀ q : Nat, awaits (.trigSeq q) → 56 ≤ q → exec (.regAccessDone f) s =
      .next { s with dev := s.dev.setFur f (ready { x with z := false }) }) ∧
    (∀ q : Nat, awaits (.trigSeq q) → q < 56 → done fun e =>
      let m := s.dev.startSeats s.dev.tickStart
      (e.fur f).z = (m.meas.running && m.seqEnabled q &&
        (decide ((m.mseq (Fin.ofNat 64 q)).div < m.fld (MS_SEQDIV q) MS_SEQDIV.DIV) ||
          (m.mseq (Fin.ofNat 64 q)).toSample.isEmpty)) ∧ (e.fur f).st = .ready) ∧
    (∀ q : Nat, awaits (.trigUrg q) → 2048 ≤ q → exec (.regAccessDone f) s =
      .next { s with dev := s.dev.setFur f (ready { x with z := false }) }) ∧
    (∀ (tag : Tag) (status : BitVec 8) (result : BitVec 64), awaits (.post tag status result) →
      s.dev.item tag = none → done fun e =>
        e.rd HOP_LATECNT = satInc (s.dev.rd HOP_LATECNT) ∧
          e.fur f = ready { x with held := x.held.filter (fun t => t ≠ tag), z := false }) ∧
    (∀ (tag : Tag) (status : BitVec 8) (result : BitVec 64), awaits (.post tag status result) →
      (s.dev.item tag).isSome = true → done fun e =>
        e.ended tag (min status.toNat 0x3F) ∧ (e.fur f).z = true ∧ tag ∉ (e.fur f).held ∧ (e.fur f).st = .ready)

/-- A fault of a furrow (R260), as an illegal word takes it: the furrow is FAULTED with cause and address, the fault is
counted and reported, its items (other than a DISABLE that drains) end FAILED_INTERNAL, and the other furrows keep everything
but their queues. STOP (R283): the furrow is STOPPED with an empty queue, its held items end FAILED_INTERNAL and its queued
ones REJECTED_STATE; every watchdog slot is as before. -/
def Obligations.FurrowEnds : Prop :=
  (∀ (s : State) (f : Furrow) (w : BitVec 32), kLegal w = false → s.dev.meetsIllegal f w →
      Completes (.illegalInstruction f w) s fun e =>
        s.dev.faulted e f 1 ∧
        e.flag KE_STICKY KE_STICKY.FAULT = true ∧ e.rd KE_FAULTCNT = satInc (s.dev.rd KE_FAULTCNT) ∧
        e.evtPending 8 = true ∧ e.recorder.flushing = true ∧
        (∀ t, t ∈ s.dev.itemsHeld f ∨ t ∈ s.dev.itemsQueued f → t ∉ s.dev.hopper.drains.map (·.tag) → e.ended t 0x3F) ∧
        (∀ g, g ≠ f → { e.fur g with queue := (s.dev.fur g).queue } = s.dev.fur g)) ∧
  (∀ (s : State) (f : Furrow), s.dev.issues (.stop f) f →
      Completes (.stop f) s fun e =>
        (e.fur f).st = .stopped ∧ (e.fur f).queue = [] ∧ (e.fur f).k = (s.dev.fur f).k ∧ e.wdg = s.dev.wdg ∧
        (∀ t, t ∈ s.dev.itemsHeld f → t ∉ s.dev.itemsQueued f → t ∉ s.dev.hopper.drains.map (·.tag) → e.ended t 0x3F) ∧
        (∀ t, t ∈ s.dev.itemsQueued f → t ∉ s.dev.itemsHeld f → t ∉ s.dev.hopper.drains.map (·.tag) → e.ended t 0x23) ∧
        (∀ g, g ≠ f → { e.fur g with queue := (s.dev.fur g).queue } = s.dev.fur g))

/-- KE_FCTL.RESTART by the owner host (R261): a STOPPED or FAULTED furrow stands at its entry, READY, with K0 from the
image, the other registers and the flags clear and the stack empty, and after a fault a SHED_REQUEST is raised again while tier 4
stands with a deficit (R108, R115; log entry 49); in any other state nothing changes. -/
def Obligations.FurrowRestart : Prop :=
  ∀ (s : State) (p : Port) (f : Furrow), s.dev.mayWrite (.port p) (KE_FCTL f) = true →
    let x := s.dev.fur f
    let d := s.dev.dropHeld (.port p)
    let again := x.st = .faulted ∧ d.flag BG_STATUS BG_STATUS.T4 = true ∧ d.rn BG_DEFICIT ≠ 0
    ((x.st = .stopped ∨ x.st = .faulted) →
      Completes (.furrowRestart (.port p) f) s fun e =>
        let y := e.fur f
        y.st = .ready ∧ y.wait = .none ∧ y.pc = x.entry ∧ y.kr 0 = x.k0 ∧ (∀ r : KReg, r ≠ 0 → y.kr r = 0) ∧
          y.z = false ∧ y.n = false ∧ y.c = false ∧ y.v = false ∧ y.stack = [] ∧
          (¬again → (∀ g, g ≠ f → e.fur g = d.fur g) ∧ ({ e with engine := d.engine } : Dev) = d) ∧
          (again → e.evtPending 120 = true ∧ d.keepsRegs e (fun _ => False) ∧
            (∀ g, g ≠ f → { e.fur g with queue := (d.fur g).queue } = d.fur g) ∧
            ({ e.hush d with engine := d.engine } : Dev) = d)) ∧
    (x.st ≠ .stopped → x.st ≠ .faulted → exec (.furrowRestart (.port p) f) s = .next { s with dev := d })

/-- The owner host's debug commands (R264): DBGEN opens debug where the image grants it and sets DBGREF where it does not,
closing it lets every furrow run; HALT, RESUME and STEP act with debug open and do nothing with it closed; KE_MDATA writes
and shows data memory at KE_MADDR, which moves on. -/
def Obligations.FurrowDebug : Prop :=
  ∀ (s : State) (p : Port) (f : Furrow), s.dev.mayWrite (.port p) (KE_FCTL f) = true →
    s.dev.mayWrite (.port p) KE_CTL = true →
    let x := s.dev.fur f
    let d := s.dev.dropHeld (.port p)
    let as (y : FurrowSt) : State := { s with dev := d.setFur f y }
    (s.dev.engine.debugGranted = true → Completes (.keDbgenWrite (.port p) true) s fun e =>
      e.debugOpen = true ∧ d.onlyRegs e (fun a => a = KE_CTL)) ∧
    (s.dev.engine.debugGranted = false → Completes (.keDbgenWrite (.port p) true) s fun e =>
      e.flag KE_STICKY KE_STICKY.DBGREF = true ∧ d.onlyRegs e (fun a => a = KE_STICKY)) ∧
    Completes (.keDbgenWrite (.port p) false) s (fun e =>
      e.debugOpen = false ∧ ∀ g, e.fur g = { s.dev.fur g with halted := false, stepping := false }) ∧
    (s.dev.debugOpen = true →
      exec (.furrowHalt (.port p) f) s = .next (as { x with halted := true }) ∧
      exec (.furrowResume (.port p) f) s = .next (as { x with halted := false, stepping := false }) ∧
      exec (.furrowStep (.port p) f) s = .next (as { x with halted := true, stepping := true })) ∧
    (s.dev.debugOpen = false →
      exec (.furrowHalt (.port p) f) s = .next { s with dev := d } ∧
        exec (.furrowResume (.port p) f) s = .next { s with dev := d } ∧
        exec (.furrowStep (.port p) f) s = .next { s with dev := d }) ∧
    (s.dev.debugOpen = true → s.dev.rn KE_MCFG % 2 = 0 → s.dev.rn KE_MADDR + 4 ≤ 0xA000 →
      let a := s.dev.rn KE_MADDR
      (∀ v : BitVec 32, Completes (.keMdataAccess p (some v)) s fun e =>
        (∀ i, i < 4 → cellGet e.engine.data (a + i) = BitVec.ofNat 8 (v.toNat / 256 ^ i)) ∧
        (∀ b, b < a ∨ a + 4 ≤ b → cellGet e.engine.data b = cellGet s.dev.engine.data b) ∧ e.rn KE_MADDR = a + 4) ∧
      Completes (.keMdataAccess p none) s fun e =>
        (e.port p).tx = bytesLE 4 (s.dev.dataAt a 4) ∧ e.rn KE_MADDR = a + 4 ∧ e.engine = s.dev.engine)

/-! ## Register accesses, host ports and ownership -/

/-- A write that its accessor may not make: a port's byte is refused with NOTOWN, a count and, when NOTOWN rises,
WRITE_REFUSED (R317); a furrow's is ignored and sets WREF (R253). Nothing is written. Bytes of a 16-bit register (R6, R313):
the low byte is held and changes no register; the high byte then makes the whole write; a high byte with no low byte held
changes no register but, on a port, HALF. -/
def Obligations.RegisterWrites : Prop :=
  (∀ (s : State) (p : Port) (f : Furrow) (a : BitVec 16) (b : Byte),
      (s.dev.portsAnswer = true → s.dev.portMay p a.toNat = false → Completes (.registerWrite (.port p) a b) s fun e =>
        e.flag (HP_STICKY p) HP_STICKY.NOTOWN = true ∧ e.rd (HP_REFCNT p) = satInc (s.dev.rd (HP_REFCNT p)) ∧
        (s.dev.flag (HP_STICKY p) HP_STICKY.NOTOWN = false → e.evtPending 20 = true) ∧
        s.dev.keepsRegs e (fun k => k = HP_STICKY p ∨ k = HP_REFCNT p) ∧ e.hush s.dev = s.dev) ∧
      (s.dev.portsAnswer = false → exec (.registerWrite (.port p) a b) s = .next s) ∧
      (furrowMay a.toNat = false →
        exec (.registerWrite (.furrow f) a b) s = .next { s with dev := s.dev.setFlag KE_STICKY KE_STICKY.WREF true })) ∧
  (∀ (s : State) (acc : Acc) (a : BitVec 16) (v : Word), a.toNat % 2 = 0 → isReg a.toNat = true →
      valueOf acc a.toNat = (a.toNat, 2) → valueOf acc (a.toNat + 1) = (a.toNat, 2) → a.toNat < 0xFFFF →
      s.dev.mayWrite acc a.toNat = true → s.dev.mayWrite acc (a.toNat + 1) = true → (s.dev.accSt acc).held = [] →
      (Completes (.registerWrite acc a (loByte v)) s fun e =>
        e.regs = s.dev.regs ∧ (e.accSt acc).held = [(a.toNat, loByte v)] ∧ ({ e with accs := s.dev.accs } : Dev) = s.dev ∧
        Completes (.registerWrite acc (a + 1) (hiByte v)) { s with dev := e } fun e2 =>
          e2.regs = ((s.dev.modAcc acc fun x => { x with held := [] }).regWrite (some acc) a.toNat (v.setWidth 32)).2.regs) ∧
      (∀ p : Port, acc = .port p → Completes (.registerWrite acc (a + 1) (hiByte v)) s fun e =>
        e.flag (HP_STICKY p) HP_STICKY.HALF = true ∧ s.dev.onlyRegs e (fun k => k = HP_STICKY p)) ∧
      (∀ f : Furrow, acc = .furrow f → exec (.registerWrite acc (a + 1) (hiByte v)) s = .next s))

/-- A transaction without PEC on a port (R312, R313, R317): two bytes set the pointer; two more write a shared register of the
engine for the owner, and are refused for another port; two bytes read back show the register. A write with a wrong PEC
changes nothing it names: PECERR, a count and PEC_ERROR report it (R316). -/
def Obligations.PortTransactions : Prop :=
  (∀ (s : State) (p : Port) (i : Fin 32) (v : Word) (fin : BusEnd), s.dev.portsAnswer = true → s.dev.pecOn p = false →
      (s.dev.port p).dir = .idle →
      let a : Word := BitVec.ofNat 16 (KE_SHARE i)
      let ptr : List Byte := [hiByte a, loByte a]
      let data : List Byte := [loByte v, hiByte v]
      (Completes (.hpWriteTransaction p ptr fin) s fun e =>
        (e.port p).ptr = a ∧ (e.port p).acks = [true, true] ∧
          (fin = .stop → e.flag (HP_STATUS p) HP_STATUS.XFER = false) ∧
          (fin ≠ .stop → e.flag (HP_STATUS p) HP_STATUS.XFER = true) ∧
          e.rd (HP_XFERCNT p) = s.dev.rd (HP_XFERCNT p) + (if s.dev.flag (HP_STATUS p) HP_STATUS.XFER then 0 else 1) ∧
          s.dev.onlyRegs { e with ports := s.dev.ports, accs := s.dev.accs } (fun k => k = HP_STATUS p ∨ k = HP_XFERCNT p)) ∧
      (s.dev.portMay p a.toNat = true → (s.dev.accSt (.port p)).held = [] →
        Completes (.hpWriteTransaction p (ptr ++ data) fin) s fun e =>
          (e.port p).acks = [true, true, true, true] ∧ e.rd a.toNat = v ∧
            s.dev.onlyRegs { e with ports := s.dev.ports, accs := s.dev.accs }
              (fun k => k = HP_STATUS p ∨ k = HP_XFERCNT p ∨ k = a.toNat)) ∧
      (s.dev.isOwner p = false → Completes (.hpWriteTransaction p (ptr ++ data) fin) s fun e =>
          (e.port p).acks = [true, true, false, false] ∧ e.rd a.toNat = s.dev.rd a.toNat ∧
            e.flag (HP_STICKY p) HP_STICKY.NOTOWN = true) ∧
      ((s.dev.port p).ptr = a → Completes (.hpReadTransaction p ⟨2, fin⟩) s fun e =>
        (e.port p).tx = [loByte (s.dev.rd a.toNat), hiByte (s.dev.rd a.toNat)] ∧ (e.port p).ptr = a + 2 ∧
          s.dev.onlyRegs { e with ports := s.dev.ports, accs := s.dev.accs } (fun k => k = HP_STATUS p ∨ k = HP_XFERCNT p))) ∧
  (∀ (s : State) (p : Port) (hi lo b c pec : Byte), s.dev.portsAnswer = true → s.dev.pecOn p = true →
      (s.dev.port p).dir = .idle →
      let a := 256 * hi.toNat + lo.toNat
      s.dev.portMay p a = true → s.dev.portMay p (pageNext a) = true →
      pec ≠ crc8 [BitVec.ofNat 8 (2 * s.dev.portAddr), hi, lo, b, c] →
      Completes (.hpWriteTransaction p [hi, lo, b, c, pec] .stop) s fun e =>
        e.flag (HP_STICKY p) HP_STICKY.PECERR = true ∧ e.rd (HP_PECCNT p) = satInc (s.dev.rd (HP_PECCNT p)) ∧
        e.evtPending 21 = true ∧ (e.port p).ptr = (s.dev.port p).ptr ∧ e.own = s.dev.own ∧
        s.dev.keepsRegs e (fun k => k = HP_STATUS p ∨ k = HP_XFERCNT p ∨ k = HP_STICKY p ∨ k = HP_PECCNT p))

/-- A claim (R319): a lease outside 1 to 600 sets CLREF; a claim with no offer and no window open opens the window of 10 ms
and is held for it. The window closes once its time has passed (R319): among the ports that hold a claim, and the owner at its held
priority while ownership is leased, the highest priority wins, the lowest port among equals. The winner's claim becomes the lease,
and an owner that wins without a claim stays as it is; every other one reads LOST, and a change of owner, or one that an expiry in
the window made (R330), is reported. -/
def Obligations.Elections : Prop :=
  (∀ (s : State) (p : Port) (prio : BitVec 3) (lease : BitVec 10) (nonce : BitVec 16), s.dev.portsAnswer = true →
      let v : BitVec 32 := BitVec.ofNat 32 (nonce.toNat * 65536 + prio.toNat * 8192 + lease.toNat)
      let d := s.dev.dropHeld (.port p)
      (lease.toNat = 0 ∨ 600 < lease.toNat → Completes (.idClaim p v) s fun e =>
        e.flag (accKey p ID_MYSTAT) ID_MYSTAT.CLREF = true ∧ d.onlyRegs e (fun k => k = accKey p ID_MYSTAT)) ∧
      (0 < lease.toNat → lease.toNat ≤ 600 → s.dev.own.offer = none → s.dev.own.elect = false →
        Completes (.idClaim p v) s fun e =>
          e.own = { s.dev.own with elect := true, electEnd := s.dev.now + 10000,
                                   claims := s.dev.own.claims.set p (some { prio := prio, lease := lease, nonce := nonce }) } ∧
          e.evtPending 17 = true ∧ d.keepsRegs e (fun k => k = accKey p ID_MYSTAT) ∧
          ({ e with own := d.own } : Dev).hush d = d)) ∧
  (∀ (s : State) (p : Port) (x : Nat), s.dev.own.elect = true → s.dev.tbRuns = true → s.dev.own.electEnd ≤ s.dev.now →
      let own := s.dev.own
      let stands (q : Port) : Option Nat := match own.claims[q], own.leased && decide (own.port = q) with
        | some c, true => some (max c.prio.toNat own.prio.toNat)
        | some c, false => some c.prio.toNat
        | none, true => some own.prio.toNat
        | none, false => none
      stands p = some x → (∀ (q : Port) (y : Nat), q ≠ p → stands q = some y → y < x ∨ (y = x ∧ p < q)) →
      Completes .electionDecide s fun e =>
        (∀ c : Claim, own.claims[p] = some c → e.own = { own with
          elect := false, claims := Vector.replicate 3 none, leased := true, port := p, prio := c.prio, nonce := c.nonce,
          lease := c.lease, leaseEnd := s.dev.now + 100000 * c.lease.toNat, changeDue := false }) ∧
        (own.claims[p] = none →
          e.own = { own with elect := false, claims := Vector.replicate 3 none, changeDue := false }) ∧
        (∀ q : Port, q ≠ p → (stands q).isSome = true → e.flag (accKey q ID_MYSTAT) ID_MYSTAT.LOST = true) ∧
        s.dev.keepsRegs e (fun k => ∃ q : Port, k = accKey q ID_MYSTAT) ∧
        (own.port ≠ p ∨ own.changeDue = true → e.evtPending 16 = true)) ∧
  (∀ s : State, s.dev.own.elect = true → s.dev.now < s.dev.own.electEnd → exec .electionDecide s = .next s)

/-- Renewals and releases (R320) and offers (R321). The ends of a lease and of an offer (R320, R321, R322, R326): a lease that
expires returns ownership to HP0, clears what the old owner had written half, closes debug and shows OWN to every port; in an
election the old owner is no claimant any more, and the change waits for the decision (R330); an offer without a claim
lapses. None of them acts before its time. CLREF is the model's reading where R317, R320 and R321 only say that the command is
ignored: an offer by a port that is not the owner (log entry 52), and one to SUCC 3 or to the owner itself (log entry 51). -/
def Obligations.Leases : Prop :=
  (∀ (s : State) (p : Port) (nonce : BitVec 16) (succ : BitVec 2), s.dev.portsAnswer = true →
      let own := s.dev.own
      let d := s.dev.dropHeld (.port p)
      (own.leased = true → own.port = p → nonce = own.nonce → Completes (.idRenew p nonce) s fun e =>
        e.own = { own with leaseEnd := s.dev.now + 100000 * own.lease.toNat } ∧ (e.port p).leaseCause = false ∧
          e.flag (accKey p ID_MYSTAT) ID_MYSTAT.CLREF = false) ∧
      ((own.leased = false ∨ own.port ≠ p ∨ nonce ≠ own.nonce) → Completes (.idRenew p nonce) s fun e =>
        e.flag (accKey p ID_MYSTAT) ID_MYSTAT.CLREF = true ∧ d.onlyRegs e (fun k => k = accKey p ID_MYSTAT)) ∧
      (own.port ≠ p → exec (.ownerRelease p) s = .next { s with dev := d }) ∧
      (own.port = p → (∀ q : Port, own.claims[q] = none) → Completes (.ownerRelease p) s fun e =>
        e.own = { own with leased := false, port := 0, prio := 0, nonce := 0, lease := 0, leaseEnd := 0, offer := none } ∧
          (own.offer ≠ none → e.evtPending 19 = true) ∧ (p ≠ 0 → e.evtPending 16 = true)) ∧
      (own.port = p → own.leased = true → own.offer = none → own.elect = false → succ.toNat < 3 → succ.toNat ≠ p.val →
        Completes (.handoverOffer p succ) s fun e =>
          e.own.offer.map (·.val) = some succ.toNat ∧ e.own.offerEnd = s.dev.now + 1000000 ∧
            ({ e with own := own } : Dev) = d) ∧
      ((own.port ≠ p ∨ own.leased = false ∨ own.offer ≠ none ∨ own.elect = true ∨ succ.toNat = 3 ∨ succ.toNat = p.val) →
        Completes (.handoverOffer p succ) s fun e =>
          e.flag (accKey p ID_MYSTAT) ID_MYSTAT.CLREF = true ∧ d.onlyRegs e (fun k => k = accKey p ID_MYSTAT))) ∧
  (∀ s : State, s.dev.tbRuns = true →
      let own := s.dev.own
      let now := s.dev.now
      (now < own.leaseEnd → exec .leaseExpiry s = .next s) ∧
      (now < own.offerEnd → exec .handoverLapse s = .next s) ∧
      (own.leased = true → own.port ≠ 0 → own.leaseEnd ≤ now → own.elect = true → Completes .leaseExpiry s fun e =>
        e.own = { own with leased := false, port := 0, prio := 0, nonce := 0, lease := 0, leaseEnd := 0, offer := none,
                           claims := own.claims.set own.port none, changeDue := true } ∧ e.evtPending 18 = true) ∧
      (own.leased = true → own.port ≠ 0 → own.leaseEnd ≤ now → own.elect = false → own.offer = none →
        (∀ q : Port, own.claims[q] = none) → Completes .leaseExpiry s fun e =>
          e.own = { own with leased := false, port := 0, prio := 0, nonce := 0, lease := 0, leaseEnd := 0 } ∧
          e.evtPending 18 = true ∧ e.evtPending 16 = true ∧ e.debugOpen = false ∧
          (e.accSt (.port own.port)).held = [] ∧ (∀ i : Fin 8, e.rd (accKey own.port (HOP_SUB i)) = 0) ∧
          (∀ q : Port, (e.port q).ownCause = true) ∧ ∀ f, (e.fur f).halted = false) ∧
      (own.leased = true → 4 * (own.leaseEnd - now) < 100000 * own.lease.toNat → Completes .leaseNearlySpent s fun e =>
        e.ports = s.dev.ports.set own.port { s.dev.ports[own.port] with leaseCause := true } ∧
          ({ e with ports := s.dev.ports } : Dev) = s.dev) ∧
      (own.offer ≠ none → own.offerEnd ≤ now → (∀ q : Port, own.claims[q] = none) → Completes .handoverLapse s fun e =>
        e.own = { own with offer := none } ∧ e.evtPending 19 = true ∧ s.dev.keepsRegs e (fun _ => False) ∧
          ({ e with own := own } : Dev).hush s.dev = s.dev))

/-- Attention (R323, R324, R326): on an idle bus a request holds SDA; a miss ends it with a count and ATNMISS; an answer sends
address, low and high byte of HP_ATNSTAT and then 0xFF, counts a frame that is taken and clears OWN. A read that meets the request is
its answer (R325), and a port that does not answer keeps silent (R329). Time-outs of a port: a stretch that is cut off sends 0xFF or
leaves the byte unwritten (R314), and the bus time-out gives the transaction up (R315). The model's readings: which causes of a miss
are new (log entry 53), the bus that is busy until a STOP after a time-out (log entry 54), and where the pointer stands after a byte
sent as 0xFF or refused (log entry 136). -/
def Obligations.PortSignals : Prop :=
  (∀ (s : State) (p : Port),
      let st := s.dev.atnStat p
      let addr : Byte := BitVec.ofNat 8 (2 * s.dev.portAddr + 1)
      let held := s.dev.flag (HP_STATUS p) HP_STATUS.ATNHOLD
      let busy := s.dev.flag (HP_STATUS p) HP_STATUS.BUSY
      (s.dev.portsAnswer = true → s.dev.flag (accKey p ID_PCFG) ID_PCFG.ATTNEN = true → s.dev.causes p ≠ 0 → busy = false →
        held = false → Completes (.attnRequest p) s fun e =>
          e.flag (HP_STATUS p) HP_STATUS.ATNHOLD = true ∧ e.flag (HP_STATUS p) HP_STATUS.BUSY = true ∧
            s.dev.onlyRegs e (fun k => k = HP_STATUS p)) ∧
      (busy = true → exec (.attnRequest p) s = .next s) ∧
      (s.dev.portsAnswer = true → held = true → Completes (.attnMiss p) s fun e =>
        e.flag (HP_STATUS p) HP_STATUS.ATNHOLD = false ∧ e.flag (HP_STICKY p) HP_STICKY.ATNMISS = true ∧
        e.rd (HP_ATNMISS p) = satInc (s.dev.rd (HP_ATNMISS p)) ∧
        (s.dev.causes p &&& ~~~(s.dev.port p).missed ≠ 0 → e.evtPending 23 = true)) ∧
      (∀ (n : Nat) (ack : Bool), s.dev.portsAnswer = true → held = true →
        s.dev.flag (accKey p ID_PCFG) ID_PCFG.PEC = false → 3 ≤ n →
        Completes (.attnAnswer p true n ack) s fun e =>
          (e.port p).tx = [addr, loByte st, hiByte st] ++ List.replicate (n - 3) 0xFF#8 ∧ (e.port p).ownCause = false ∧
            e.rd (HP_ATNCNT p) = satInc (s.dev.rd (HP_ATNCNT p)) ∧ e.flag (HP_STATUS p) HP_STATUS.ATNHOLD = false ∧
            s.dev.onlyRegs { e with ports := s.dev.ports } (fun k => k = HP_STATUS p ∨ k = HP_ATNCNT p)) ∧
      (∀ (n : Nat) (ack : Bool), s.dev.portsAnswer = true → held = true → Completes (.attnAnswer p false n ack) s fun e =>
        e.ports = s.dev.ports ∧ e.flag (HP_STATUS p) HP_STATUS.ATNHOLD = false ∧ s.dev.onlyRegs e (fun k => k = HP_STATUS p)) ∧
      (∀ n : Nat, s.dev.portsAnswer = true → held = true → s.dev.flag (accKey p ID_PCFG) ID_PCFG.PEC = false → 2 ≤ n →
        Completes (.hpReadTransaction p ⟨n, .stop⟩) s fun e =>
          (e.port p).tx = [loByte st, hiByte st] ++ List.replicate (n - 2) 0xFF#8 ∧ (e.port p).ownCause = false ∧
            (e.port p).ptr = (s.dev.port p).ptr ∧ e.rd (HP_ATNCNT p) = satInc (s.dev.rd (HP_ATNCNT p)) ∧
            e.flag (HP_STATUS p) HP_STATUS.ATNHOLD = false) ∧
      (s.dev.portsAnswer = false → ∀ (won : Bool) (n : Nat) (ack : Bool),
        exec (.attnMiss p) s = .next s ∧ exec (.attnAnswer p won n ack) s = .next s) ∧
      (s.dev.portsAnswer = true → Completes (.hpAtnstatRead p) s fun e =>
        (e.port p).tx = [hiByte st] ∧ (e.port p).ownCause = false ∧ ({ e with ports := s.dev.ports } : Dev) = s.dev)) ∧
  (∀ (s : State) (p : Port), s.dev.tbRuns = true → s.dev.portsAnswer = true →
      let x := s.dev.port p
      let late (e : Dev) : Prop := e.flag (HP_STICKY p) HP_STICKY.LATE = true ∧
        s.dev.onlyRegs { e with ports := s.dev.ports } (fun k => k = HP_STICKY p)
      (s.dev.flag (HP_STATUS p) HP_STATUS.XFER = true → x.dir = .read → (x.pec = false ∨ x.sent < s.dev.pecLen p) →
        Completes (.hpStretchTimeout p none) s fun e => late e ∧ (e.port p).tx = [0xFF#8] ∧ (e.port p).ptr = x.ptr + 1) ∧
      (∀ b : Byte, s.dev.flag (HP_STATUS p) HP_STATUS.XFER = true → x.dir = .write → 2 ≤ x.rx.length →
        Completes (.hpStretchTimeout p (some b)) s fun e =>
          late e ∧ (e.port p).acks = [false] ∧ (e.port p).rx = x.rx ∧ (e.port p).ptr = x.ptr) ∧
      (∀ w : Option Byte, s.dev.flag (HP_STATUS p) HP_STATUS.XFER = false → exec (.hpStretchTimeout p w) s = .next s) ∧
      (s.dev.flag (HP_CFG p) HP_CFG.TOEN = true → Completes (.hpBusTimeout p) s fun e =>
        e.flag (HP_STATUS p) HP_STATUS.XFER = false ∧ e.flag (HP_STATUS p) HP_STATUS.ATNHOLD = false ∧
          e.flag (HP_STATUS p) HP_STATUS.BUSY = true ∧ (e.port p).dir = .idle ∧
          e.flag (HP_STICKY p) HP_STICKY.TIMEOUT = true ∧ e.rd (HP_TOCNT p) = satInc (s.dev.rd (HP_TOCNT p)) ∧
          e.evtPending 22 = true ∧ s.dev.keepsRegs e (fun k => k = HP_STATUS p ∨ k = HP_STICKY p ∨ k = HP_TOCNT p) ∧
          ({ e with ports := s.dev.ports } : Dev).hush s.dev = s.dev))

/-- The writes that clear a block's counters, by the register tables (R67, R93, R119, R149, R181, R208, R243, R268, R309, R332,
R352, R378, R396, R413, R435): the counters named read 0, no other register changes, and nothing that no register holds but the
bytes that the writer had held (R6). -/
def Obligations.CounterClears : Prop :=
  ∀ (s : State) (acc : Acc),
    let clears (c : Instr) (a : Nat) (regs : List Nat) : Prop := s.dev.mayWrite acc a = true →
      Completes c s fun e => (∀ k ∈ regs, e.rd k = 0) ∧ (s.dev.dropHeld acc).onlyRegs e (fun k => k ∈ regs)
    (∀ n : Loop, clears (.lpCntclr acc n) (LP_CTL n)
      ([LP_CSKIP_CNT n, LP_STEP_CNT n, LP_REENTER_CNT n, LP_SHED_CNT n] ++ (s.dev.phasesOf n).map fun m => PH_OCCNT m)) ∧
    (∀ k : Link, clears (.vlCntclr acc k) (VL_CTL k) [VL_CRCCNT k, VL_FRAMECNT k, VL_DUPCNT k, VL_CMDCNT k]) ∧
    clears (.bgCntclr acc) BG_CTL [BG_T2CNT, BG_T3CNT, BG_T4CNT, BG_HOCNT, BG_MISSCNT, BG_OVERCNT] ∧
    clears (.bgPkclr acc) BG_CTL [BG_PMAX] ∧
    clears (.chgCntclr acc) CHG_CTL [CHG_CYCCNT, CHG_FLTCNT, CHG_OCPCNT] ∧
    clears (.ggCntclr acc) GG_CTL [GG_LEARNCNT, GG_GAPCNT] ∧
    clears (.pkCntclr acc) PK_CTL [PK_ERRCNT, PK_TXCNT] ∧
    clears (.clkCntclr acc) CLK_CTL [CLK_SWCNT, CLK_LOSTPWM, CLK_LOSTTB, CLK_LOSTRTC, CLK_LOSTOUT] ∧
    clears (.thCntclr acc) TH_CTL [TH_SHUTCNT, TH_NVINHCNT, TH_LASTSHUT] ∧
    (s.dev.mayWrite acc WDG_CTL = true → Completes (.wdgCntclr acc) s fun e =>
      e.rd WDG_WARNCNT = 0 ∧ e.rd WDG_RSTCNT = 0 ∧ e.fld WDG_STATUS WDG_STATUS.ESC = 0 ∧
        (s.dev.dropHeld acc).onlyRegs e (fun k => k = WDG_WARNCNT ∨ k = WDG_RSTCNT ∨ k = WDG_STATUS)) ∧
    (s.dev.mayWrite acc CFG_DSCTL = true → Completes (.cfgDsctlCntclr acc) s fun e =>
      e.rd CFG_ERSTCNT = 0 ∧ e.rd CFG_RCYCCNT = 0 ∧ e.rd CFG_BOCNT = 0 ∧ e.rd CFG_VINMIN = 0xFFFF ∧
        (s.dev.dropHeld acc).onlyRegs e (fun k => k = CFG_ERSTCNT ∨ k = CFG_RCYCCNT ∨ k = CFG_BOCNT ∨ k = CFG_VINMIN)) ∧
    clears (.seqCmdCntclr acc) SEQ_CMD (SEQ_FAILCNT :: (List.range 28).map SEQ_RFAILCNT) ∧
    clears (.msCntclr acc) MS_CTL [MS_LATE_CNT, MS_SLIPCNT, MS_OVRCNT, MS_RESAMPCNT] ∧
    clears (.keCntclr acc) KE_CTL [KE_FAULTCNT, KE_EVQOVCNT] ∧
    clears (.hopCntclr acc) HOP_CTL [HOP_ACCCNT, HOP_REFCNT, HOP_LATECNT, HOP_OVRCNT] ∧
    clears (.hpCntclr acc) HP_CTL ((List.range 3).flatMap fun n =>
      [HP_XFERCNT n, HP_REFCNT n, HP_PECCNT n, HP_ATNCNT n, HP_ATNMISS n, HP_TOCNT n]) ∧
    clears (.recCtlCntclr acc) REC_CTL [REC_LOSTCNT, REC_DROPCNT, REC_SDROPCNT] ∧
    clears (.cfgCntclr acc) CFG_CTL [CFG_REGSKIP, CFG_NVFAILCNT]

/-! ## The hopper -/

/-- A doorbell (R286 to R289): the item of the buffer is accepted under the next free tag and its journal slot opened, or the
doorbell is refused with the first reason that holds. Reading completions (R298): byte 0 of the window freezes the oldest
unread record, byte 15 releases it and moves the reader on; reading HOP_CAVAIL clears its OVR. -/
def Obligations.DoorbellAndReaders : Prop :=
  (∀ (s : State) (acc : Acc) (t : Tag), s.dev.mayWrite acc HOP_SUBCTL = true →
      let set := acc.sharedSet
      let h := s.dev.hopper
      let d := s.dev.dropHeld acc
      let open_ := s.dev.flag CFG_DSTATE CFG_DSTATE.BOOT = false ∧ s.dev.flag CFG_DSTATE CFG_DSTATE.NEWTPEND = false ∧
        h.pendingReset = .none ∧ h.resetTags = [] ∧ s.dev.engineOn = true
      (s.dev.flag CFG_DSTATE CFG_DSTATE.BOOT = true → Completes (.doorbell acc) s fun e =>
        e.rd (accKey set HOP_SUBSTAT) = 0x0300 ∧ e.rd HOP_REFCNT = satInc (s.dev.rd HOP_REFCNT) ∧
          d.onlyRegs e (fun k => k = accKey set HOP_SUBSTAT ∨ k = HOP_REFCNT)) ∧
      (open_ → 128 ≤ s.dev.inFlight.length → Completes (.doorbell acc) s fun e =>
        e.rd (accKey set HOP_SUBSTAT) = 0x0100 ∧ e.flag HOP_STICKY HOP_STICKY.FULL = true ∧ e.evtPending 26 = true ∧
          e.hopper = h) ∧
      (open_ → s.dev.inFlight.length < 128 → h.assigned = true →
        t.val = (s.dev.fld HOP_STATUS HOP_STATUS.LASTTAG + 1) % 128 → s.dev.tagFree t = true →
        (s.dev.nvInhibit = true → Completes (.doorbell acc) s fun e =>
          e.rd (accKey set HOP_SUBSTAT) = 0x0200 ∧ e.flag HOP_STICKY HOP_STICKY.NVBLK = true ∧ e.hopper = h) ∧
        (s.dev.nvInhibit = false → Completes (.doorbell acc) s fun e =>
          let w (i : Nat) : Word := s.dev.rd (accKey set (HOP_SUB i))
          let it : Item := { tag := t, code := loByte (w 0), flags := hiByte (w 0), args := #v[w 1, w 2, w 3, w 4, w 5, w 6],
                             cookie := w 7, source := acc.source, stamp := s.dev.stamp, stage := .accepted }
          e.hopper.items = h.items ++ [it] ∧ 
            { tag := t, seq := h.jseq, item := it, crcOk := true, closed := none } ∈ e.hopper.journal ∧
          e.rd (accKey set HOP_SUBSTAT) = BitVec.ofNat 16 (0x4000 + t.val) ∧ e.fld HOP_STATUS HOP_STATUS.LASTTAG = t.val ∧
          e.rd HOP_ACCCNT = s.dev.rd HOP_ACCCNT + 1 ∧ ({ e with hopper := h, regs := d.regs, cfg := d.cfg } : Dev) = d))) ∧
  (∀ (s : State) (p : Port), s.dev.portsAnswer = true →
      let d := s.dev
      let r : Fin 4 := ⟨p.val, by omega⟩
      (d.unread r ≠ 0 → d.hopper.frozen[r] = none → Completes (.hopCnextRead (.port p) 0) s fun e =>
        e.hopper.frozen[r] = d.hopper.ring[d.unread r - 1]? ∧ e.hopper.crd = d.hopper.crd ∧ e.regs = d.regs) ∧
      (∀ c : Completion, d.unread r ≠ 0 → d.hopper.frozen[r] = some c → Completes (.hopCnextRead (.port p) 15) s fun e =>
        e.hopper.frozen[r] = none ∧ e.hopper.crd[r] = d.hopper.crd[r] + 1 ∧
          (e.port p).tx = [BitVec.ofNat 8 (c.stamp.toNat / 2 ^ 24)] ∧ e.regs = d.regs) ∧
      (d.unread r = 0 → d.hopper.frozen[r] = none → ∀ i : Fin 16, Completes (.hopCnextRead (.port p) i) s fun e =>
        (e.port p).tx = [0] ∧ ({ e with ports := d.ports } : Dev) = d) ∧
      Completes (.hopCavailRead (.port p)) s (fun e =>
        e.hopper.ovr[r] = false ∧ ({ e with ports := d.ports, hopper := d.hopper } : Dev) = d))

/-- Items that the hopper ends itself (R290, R291, R295, R299 to R301, R293): NOP, DISABLE and ENABLE of an idle function, an
ABORT that finds nothing, one that ends its target and one that is refused, a drain that times out with the items that it ends,
the two reset items, a mark, a flush with its end, and an item with bad arguments or a closed function. -/
def Obligations.HopperItems : Prop :=
  ∀ (s : State) (tag : Tag) (it : Item),
    let d := s.dev
    let carries (code : Nat) : Prop := d.carries tag code it
    let ends (c : Instr) (st : Nat) : Prop := Completes c s fun e => e.ended tag st
    let fn := it.args[0].toNat
    (carries 0x00 → ends (.hopNop tag) 0x00) ∧
    (d.isUp = true → d.item tag = some it → it.stage = .accepted → it.bad = true → ends (.hopReservedCode tag) 0x21) ∧
    (d.isUp = true → d.item tag = some it → it.stage = .accepted → it.bad = false → d.fnClosed it = true →
      (it.code.toNat = 0x10 → ends (.drillOn tag) 0x23) ∧ (it.code.toNat = 0x18 → ends (.loopSetv tag) 0x23)) ∧
    (carries 0x01 → (∀ j ∈ d.inFlight, j.tag.val = fn → j.cookie ≠ it.args[1]) → ends (.abort tag) 0x11) ∧
    (∀ j ∈ d.inFlight, carries 0x01 → j.tag.val = fn → j.cookie = it.args[1] → j.tag ≠ tag →
      (∀ k ∈ d.inFlight, (k.tag = j.tag → k = j) ∧ (k.tag = tag → k = it)) →
      (0x80 ≤ j.code.toNat ∨ j.code.toNat = 0x18 → (∀ x ∈ d.hopper.drains, x.tag ≠ j.tag) →
        Completes (.abort tag) s fun e => e.ended j.tag 0x10 ∧ e.ended tag 0x00) ∧
      (j.code.toNat = 0x10 → j.stage = .running → d.ds = drRising → (∀ x ∈ d.hopper.drains, x.tag ≠ j.tag) →
        Completes (.abort tag) s fun e => e.ended j.tag 0x10 ∧ e.ended tag 0x00 ∧ e.evtPending 134 = true) ∧
      (j.code.toNat < 0x80 → j.code.toNat ≠ 0x18 → j.stage ≠ .running → ends (.abort tag) 0x23)) ∧
    (carries 0x02 → (fn < 12 → d.mbit SEQ_RAILON fn = false) → d.mbit HOP_FNDRAIN fn = false → d.mbit HOP_FNDIS fn = false →
      (∀ x ∈ d.hopper.drains, x.fn.val ≠ fn) → (∀ j ∈ d.inFlight, (d.fnOf j).map (·.val) ≠ some fn) →
      Completes (.disable tag) s fun e => e.ended tag 0x00 ∧ e.mbit HOP_FNDIS fn = true ∧ e.evtPending 29 = true) ∧
    (carries 0x03 → d.mbit HOP_FNDRAIN fn = false → d.mbit HOP_FNDIS fn = true →
      Completes (.enable tag) s fun e => e.ended tag 0x00 ∧ e.mbit HOP_FNDIS fn = false ∧ e.evtPending 30 = true) ∧
    (∀ x : Drain, d.isUp = true → x ∈ d.hopper.drains → x.tag = tag → (∀ y ∈ d.hopper.drains, y.tag = tag → y = x) →
      (d.item tag).isSome = true → (∀ y ∈ d.hopper.drains, ∀ j ∈ d.inFlight, d.fnOf j = some x.fn → y.tag ≠ j.tag) →
      Completes (.drainTimeout tag) s fun e => e.ended tag 0x00 ∧
        ∀ j ∈ d.inFlight, d.fnOf j = some x.fn → e.ended j.tag 0x13 ∧ e.evtPending 31 = true) ∧
    (carries 0x30 → Completes (.engineReset tag) s fun e => e.ended tag 0x00 ∧ e.hopper.resetTags = d.hopper.resetTags ++ [tag]) ∧
    (carries 0x31 → Completes (.railCycle tag) s fun e => e.ended tag 0x00 ∧ e.hopper.resetTags = d.hopper.resetTags ++ [tag]) ∧
    (carries 0x38 → ends (.recMark tag) 0x00) ∧
    (carries 0x39 → d.nvInhibit = true → ends (.recFlush tag) 0x33) ∧
    (carries 0x39 → d.nvInhibit = false → Completes (.recFlush tag) s fun e => e.runs tag ∧ e.recorder.flushing = true ∧
      (d.bof = false → tag ∉ d.recorder.later → (d.recorder.flushing = true → d.recorder.ringDone = false ∧
          d.recorder.failed = false) → Completes (.recFlushDone true) { s with dev := e } fun e2 => e2.ended tag 0x00))

/-- Items for a furrow (R257), which stay open in LATCHED (R306), and journal closes (R303, R293). -/
def Obligations.FurrowItemsAndJournal : Prop :=
  ∀ (s : State) (tag : Tag) (it : Item) (f : Furrow),
    let d := s.dev
    let h := d.hopper
    let prog (P : Prop) (Q : Dev → Prop) : Prop := d.isUp = true → d.item tag = some it → it.stage = .accepted →
      0x80 ≤ it.code.toNat → it.bad = false → d.fnClosed it = false → P → Completes (.programCommand tag) s Q
    prog (d.dispatchOf it.code = none) (fun e => e.ended tag 0x21) ∧
    prog (d.dispatchOf it.code = some f ∧ ((d.fur f).st = .stopped ∨ (d.fur f).st = .disabled)) (fun e => e.ended tag 0x23) ∧
    prog (d.dispatchOf it.code = some f ∧ (d.fur f).st = .faulted) (fun e => e.ended tag 0x3F) ∧
    let live : Prop := (d.fur f).st = .ready ∨ (d.fur f).st = .waiting
    prog (d.dispatchOf it.code = some f ∧ live ∧ (d.fur f).queue.length < 16 ∧ d.roomAwaited tag f = false) (fun e =>
      (e.fur f).queue = (d.fur f).queue ++ [BitVec.ofNat 9 (256 + tag.val)] ∧
        (e.item tag).map (·.stage) = some (.queued f) ∧ (∀ g, g ≠ f → e.fur g = d.fur g) ∧ e.regs = d.regs) ∧
    prog (d.dispatchOf it.code = some f ∧ live ∧ (16 ≤ (d.fur f).queue.length ∨ d.roomAwaited tag f = true)) (fun e =>
      (e.item tag).map (·.stage) = some (.waitRoom f) ∧ ({ e with hopper := h } : Dev) = d) ∧
    (d.latched = true → exec .itemPostDeferred s = .next s) ∧
    (∀ rest : List Item, d.latched = false → d.inFlight = it :: rest → it.stage = .waitRoom f → d.dispatchOf it.code = some f →
      live → (d.fur f).queue.length < 16 → Completes .itemPostDeferred s fun e =>
        (e.fur f).queue = (d.fur f).queue ++ [BitVec.ofNat 9 (256 + it.tag.val)]) ∧
    (∀ st : BitVec 6, (tag, st) ∈ h.closes → (∀ c ∈ h.closes, c.1 = tag → c.2 = st) → d.nvInhibit = false →
      Completes (.journalClose tag) s fun e =>
        (∀ c ∈ e.hopper.closes, c.1 ≠ tag) ∧
        (∀ j ∈ e.hopper.journal, j.tag = tag → j.closed = some st ∧ j.crcOk = true) ∧
        e.hopper.journal.map (·.item) = h.journal.map (·.item) ∧ e.cfg.nvWrites = d.cfg.nvWrites + 1 ∧
        (tag ∈ h.resetTags → tag ∉ e.hopper.resetTags ∧ e.hopper.pendingReset ≠ .none) ∧ e.regs = d.regs) ∧
    (∀ st : BitVec 6, (tag, st) ∈ h.closes → d.nvInhibit = true → exec (.journalClose tag) s = .next s)

/-! ## The drill -/

/-- SEQ_CMD (R131, R134, R136, R138, R139, R142): ON starts a power-up, OFF turns it back or takes the rails down, SWITCH
starts a switch, UNLATCH leaves LATCHED, and a command refused, or invalid, sets CMDREF. -/
def Obligations.DrillCommands : Prop :=
  ∀ (s : State) (acc : Acc) (p : Profile) (r : Rail), s.dev.mayWrite acc SEQ_CMD = true →
    let d := s.dev.dropHeld acc
    (d.ds = drOff → d.profileRefused p.val = none → d.inMask p.val r = true → Completes (.seqCmdOn acc p) s fun e =>
      e.ds = drRising ∧ e.profileNow = p.val ∧ e.rstate r = rsWaiting ∧ e.rn32 SEQ_FAILED = 0 ∧ e.drill.t0 = d.now) ∧
    (d.ds = drUp → p.val ≠ d.profileNow → Completes (.seqCmdOn acc p) s fun e =>
      e.flag SEQ_STICKY SEQ_STICKY.CMDREF = true ∧ d.onlyRegs e (fun k => k = SEQ_STICKY)) ∧
    (d.ds = drOff → exec (.seqCmdOff acc) s = .next { s with dev := d }) ∧
    (d.ds = drRising → d.railLive r = true → d.rstate r ≠ rsWaiting → Completes (.seqCmdOff acc) s fun e =>
      e.ds = drReversing ∧ e.evtPending 134 = true ∧ e.drill.offDue.getLsbD r.val = true) ∧
    (d.ds = drUp → d.railLive r = true → Completes (.seqCmdOff acc) s fun e =>
      e.ds = drFalling ∧ e.drill.offDue.getLsbD r.val = true ∧ e.drill.t0 = d.now) ∧
    (d.ds = drUp → d.profileBad p.val = false → d.railLive r = true → d.inMask p.val r = false →
      Completes (.seqCmdSwitch acc p) s fun e =>
        e.ds = drSwitching ∧ e.targetNow = p.val ∧ e.drill.offDue.getLsbD r.val = true) ∧
    (d.ds ≠ drUp → Completes (.seqCmdSwitch acc p) s fun e =>
      e.flag SEQ_STICKY SEQ_STICKY.CMDREF = true ∧ d.onlyRegs e (fun k => k = SEQ_STICKY)) ∧
    (d.ds = drLatched → Completes (.seqCmdUnlatch acc) s fun e =>
      e.ds = drOff ∧ e.rstate r = rsOff ∧ e.rn32 SEQ_FAILED = 0 ∧ e.evtPending 138 = true) ∧
    (d.ds ≠ drLatched → Completes (.seqCmdUnlatch acc) s fun e =>
      e.flag SEQ_STICKY SEQ_STICKY.CMDREF = true ∧ d.onlyRegs e (fun k => k = SEQ_STICKY)) ∧
    (∀ v : BitVec 16, SEQ_CMD.CNTCLR.of v.toNat = 0 → 4 < SEQ_CMD.CMD.of v.toNat → Completes (.seqCmdInvalid acc v) s fun e =>
      e.flag SEQ_STICKY SEQ_STICKY.CMDREF = true ∧ d.onlyRegs e (fun k => k = SEQ_STICKY)) ∧
    (∀ (a : BitVec 16) (v : BitVec 32), 0x1400 ≤ a.toNat → a.toNat < 0x1C00 → d.mayWrite acc a.toNat = true →
      d.profileBusy ((a.toNat - 0x1400) / 0x100) = true → Completes (.seqProfileWrite acc a v) s fun e =>
        e.flag SEQ_STICKY SEQ_STICKY.PFWREF = true ∧ d.onlyRegs e (fun k => k = SEQ_STICKY)) ∧
    (∀ (q : Profile) (v : BitVec 32), d.mayWrite acc (SEQ_PFMASK q) = true → d.profileBusy q.val = false →
      Completes (.seqProfileWrite acc (BitVec.ofNat 16 (SEQ_PFMASK q)) v) s fun e =>
        (∀ x : Rail, e.inMask q.val x = v.getLsbD x.val) ∧ d.onlyRegs e (fun k => k = SEQ_PFMASK q ∨ k = SEQ_PFMASK q + 2))

/-- The drill's items (R291): they run, or end at once, as the command of SEQ_CMD does. -/
def Obligations.DrillItems : Prop :=
  ∀ (s : State) (tag : Tag) (it : Item) (r : Rail),
    let d := s.dev
    let p := it.args[0].toNat
    (d.carries tag 0x10 it → d.loopDisabled (some it) p = false → d.ds = drOff → d.profileRefused p = none → d.inMask p r = true →
      Completes (.drillOn tag) s fun e => e.ds = drRising ∧ e.profileNow = p ∧ e.rstate r = rsWaiting ∧ e.runs tag) ∧
    (d.carries tag 0x11 it → d.ds = drOff → Completes (.drillOff tag) s fun e => e.ended tag 0x00 ∧ e.ds = drOff) ∧
    (d.carries tag 0x11 it → d.ds = drUp → d.railLive r = true →
      Completes (.drillOff tag) s fun e => e.ds = drFalling ∧ e.runs tag) ∧
    (d.carries tag 0x12 it → d.loopDisabled (some it) p = false → d.ds = drUp → d.profileBad p = false → d.railLive r = true →
      d.inMask p r = false → Completes (.drillSwitch tag) s fun e => e.ds = drSwitching ∧ e.targetNow = p ∧ e.runs tag) ∧
    (d.carries tag 0x13 it → d.ds = drLatched →
      Completes (.drillUnlatch tag) s fun e => e.ended tag 0x00 ∧ e.ds = drOff ∧ e.evtPending 138 = true) ∧
    (d.carries tag 0x13 it → d.ds ≠ drLatched → Completes (.drillUnlatch tag) s fun e => e.ended tag 0x23) ∧
    (d.loopDisabled (some it) p = true →
      (d.carries tag 0x10 it → Completes (.drillOn tag) s fun e => e.ended tag 0x23 ∧ e.ds = d.ds) ∧
      (d.carries tag 0x12 it → Completes (.drillSwitch tag) s fun e => e.ended tag 0x23 ∧ e.ds = d.ds))

/-- Slots, time-outs and pins (R126, R132 to R135, R140, R143, R146), each for the rail of a loop and for an external rail: an
on-slot drives XENn or starts the loop, or marks the rail SHED; an off-slot and a fault gap take XENn low or stop the loop; XPGn that
goes high makes its rail GOOD, and one that goes low is the loss of a GOOD rail (R133): reported only with FAILACT 1, and a failure
that starts the fault shutdown with FAILACT 0; a rise time-out makes a rail GOOD or is such a failure; a fall time-out is a failure of a rail that has not
fallen; a dwell ends in a power-up or OFF; a stretch ends with its output released. -/
def Obligations.DrillSlots : Prop :=
  ∀ (s : State) (r : Rail), s.dev.blocksRun = true →
    let d := s.dev
    let xen (e : Dev) (b : Bool) : Prop := ∀ x : Fin 16, r.val = 12 + x.val → e.pins.xen[x] = b
    let stops (e : Dev) : Prop := xen e false ∧ ∀ n : Loop, r.val = n.val → d.lstate n ≠ lsOff → d.lstate n ≠ lsOvLatched →
      e.flag (LP_STATUS n) LP_STATUS.PG = false ∧ e.flag (LP_STATUS n) LP_STATUS.SETTLED = false
    let rises : Prop := d.ds = drRising ∨ (d.ds = drSwitching ∧ d.drill.phase2 = true)
    let falls : Prop := d.ds = drFalling ∨ d.ds = drReversing ∨ (d.ds = drSwitching ∧ d.drill.phase2 = false)
    let newest : Prop := d.drill.lastAt ≠ d.now ∨ d.fld SEQ_LASTFAIL SEQ_LASTFAIL.RAIL ≤ r.val
    let failed (e : Dev) (cause : Nat) : Prop := e.evtPending 131 = true ∧ e.rd SEQ_FAILCNT = satInc (d.rd SEQ_FAILCNT) ∧
      e.rd (SEQ_RFAILCNT r) = satInc (d.rd (SEQ_RFAILCNT r)) ∧ xen e false ∧
      (newest → e.rd SEQ_LASTFAIL = BitVec.ofNat 16 (0x8000 + d.profileNow * 0x1000 + cause * 0x100 + r.val))
    let none_ : Prop := 12 ≤ r.val ∧ d.fld (SEQ_RCFG r) SEQ_RCFG.PGSRC = 3
    (∀ v : BitVec 16, d.rstate r = rsWaiting → rises → (d.bgShedding = false ∨ d.mbit BG_LLSHED r.val = false) →
      Completes (.drillOnSlot r v) s fun e => e.railOn r = true ∧ e.drill.onAt[r] = d.now ∧ xen e true ∧
        ∀ n : Loop, r.val = n.val → d.lstate n = lsOff → d.phasesOf n ≠ [] →
          (d.evalCfgErr n).flag (LP_STATUS n) LP_STATUS.CFGERR = false → e.lstate n = lsSoftStart) ∧
    (∀ v : BitVec 16, d.rstate r = rsWaiting → rises → d.bgShedding = true → d.mbit BG_LLSHED r.val = true →
      Completes (.drillOnSlot r v) s fun e => e.evtPending 137 = true ∧ e.railOn r = d.railOn r ∧ e.pins.xen = d.pins.xen) ∧
    (falls → d.drill.offDue.getLsbD r.val = true → d.railLive r = true → Completes (.drillOffSlot r) s fun e =>
      stops e ∧ e.drill.offDue.getLsbD r.val = false) ∧
    (∀ rest : List Rail, d.ds = drFaulting → d.drill.gap = r :: rest →
      (d.railLive r = true → Completes .faultGapStep s stops) ∧
      (d.railLive r = false →
        exec .faultGapStep s = .next { s with dev := { d with drill := { d.drill with gap := rest } } })) ∧
    (d.rstate r = rsRising → rises → ¬none_ → d.goodCond r = false → Completes (.riseTimeout r) s fun e =>
      failed e 1 ∧ e.evtPending 132 = true ∧ e.flag SEQ_STICKY SEQ_STICKY.FAULTSD = true) ∧
    (d.rstate r = rsRising → none_ ∨ d.goodCond r = true → Completes (.riseTimeout r) s fun e => e.rstate r = rsGood) ∧
    (d.rstate r = rsFalling → d.rn (SEQ_FTO r) ≠ 0 → d.fallenCond r = false →
      Completes (.fallTimeout r) s fun e => failed e 5) ∧
    (d.rstate r = rsFalling → d.rn (SEQ_FTO r) ≠ 0 → d.fallenCond r = true → d.railOn r = true → d.ds = drFalling →
      Completes (.fallTimeout r) s fun e => e.rstate r = rsOff ∧ e.railOn r = false) ∧
    (∀ (x : Fin 16) (level : Bool), Completes (.xpgChange x level) s fun e => e.pins.xpg = d.pins.xpg.set x level) ∧
    (∀ x : Fin 16, r.val = 12 + x.val → d.fld (SEQ_RCFG r) SEQ_RCFG.PGSRC = 0 ∨ d.fld (SEQ_RCFG r) SEQ_RCFG.PGSRC = 2 →
      let loses (P : Dev → Prop) : Prop := d.rstate r = rsGood → Completes (.xpgChange x false) s fun e =>
        e.rstate r = rsFailed ∧ e.fld (SEQ_RSTATE r) SEQ_RSTATE.CAUSE = 2 ∧ e.flag SEQ_STICKY SEQ_STICKY.LOST = true ∧ P e
      (d.flag (SEQ_RCFG r) SEQ_RCFG.FAILACT = true → loses fun e => e.evtPending 139 = true ∧ e.ds = d.ds ∧
        e.pins.xen = d.pins.xen ∧ e.railOn r = d.railOn r ∧ e.rd SEQ_FAILCNT = d.rd SEQ_FAILCNT) ∧
      (d.flag (SEQ_RCFG r) SEQ_RCFG.FAILACT = false → d.ds = drUp → loses fun e => failed e 2 ∧ e.evtPending 132 = true ∧
        e.flag SEQ_STICKY SEQ_STICKY.FAULTSD = true ∧ (e.ds = drFaulting ∨ e.ds = drLatched)) ∧
      (d.fld (SEQ_RCFG r) SEQ_RCFG.PGSRC = 0 → d.rstate r = rsRising → Completes (.xpgChange x true) s fun e =>
        e.rstate r = rsGood)) ∧
    (d.ds = drDwell → d.loadWaits = false →
      (d.flag SEQ_STATUS SEQ_STATUS.DEFER = true → d.inMask d.targetNow r = true → Completes .dwellExpiry s fun e =>
        e.ds = drRising ∧ e.profileNow = d.targetNow ∧ e.rstate r = rsWaiting) ∧
      (∀ p : Profile, d.flag SEQ_STATUS SEQ_STATUS.DEFER = false → d.drill.cycle = some p → d.inMask p.val r = true →
        Completes .dwellExpiry s fun e => e.ds = drRising ∧ e.profileNow = p.val ∧ e.rstate r = rsWaiting) ∧
      (d.flag SEQ_STATUS SEQ_STATUS.DEFER = false → d.drill.cycle = none → Completes .dwellExpiry s fun e =>
        e.ds = drOff ∧ d.onlyRegs e (fun k => k = SEQ_STATUS))) ∧
    (∀ n : RstOut, d.mbit SEQ_RSTSTAT (8 + n.val) = true → d.drill.owed.getLsbD n.val = false →
      Completes (.rstoutStretchExpiry n) s fun e => e.mbit SEQ_RSTSTAT (8 + n.val) = false ∧
        (d.flag (SEQ_RSTCFG n) SEQ_RSTCFG.FORCE = false → d.rstHeld n = false → e.mbit SEQ_RSTSTAT n.val = false ∧
          (d.mbit SEQ_RSTSTAT n.val = true → e.evtPending (140 + n.val) = true)))

/-! ## Configuration, NV and the recorder -/

/-- Configuration items (R358 to R365, R376): one that may go on waits for its role-record write, and the end of that write does
what the item asks for: a staging opens, or closes as its image verifies; a commit rotates the roles and starts probation, a
confirmation ends it, a rollback puts PREVIOUS back with a count of 0 (log entry 67). An item that may not go on ends at once, with
the status of the first condition of R359, R361, R364 and R365 that holds. A write that fails twice ends FAILED_NV, and a commit or
confirmation that the inhibit holds for 1 s ends FAILED_TEMPERATURE. -/
def Obligations.ConfigItems : Prop :=
  ∀ (s : State) (tag : Tag) (it : Item),
    let d := s.dev
    let r := d.cfg.role
    let quiet : Prop := d.nvHeld = false ∧ d.cfg.writes = [] ∧ d.cfg.checks = [] ∧ d.cfg.roleItems = [] ∧
      d.recorder.flushing = false ∧ d.flag CFG_DSTATE CFG_DSTATE.FLUSHING = false ∧
      (it.code.toNat = 0x21 → d.stagingBusy = false)
    let item (c : Instr) (code : Nat) (may : Prop) (ok : Bool) (P : Dev → Prop) : Prop := d.carries tag code it → may →
      Completes c s fun e => e.runs tag ∧ e.cfg = { d.cfg with roleItems := d.cfg.roleItems ++ [tag] } ∧
        ({ e with hopper := d.hopper, cfg := d.cfg } : Dev) = d ∧
        (quiet → Completes (.nvBlockWriteDone ok false) { s with dev := e } P)
    let ends (c : Instr) (code : Nat) (why : Prop) (st : Nat) : Prop := d.carries tag code it → why →
      Completes c s fun e => e.ended tag st ∧ e.cfg.role = r ∧ e.cfg.roleItems = d.cfg.roleItems
    let m := d.img r.staged.val
    let good := m.ok d.cfg.keyLock = true ∧ m.length = r.stgLen.toNat ∧ m.version = r.verStaged.toNat
    let n := it.arg 0 + 65536 * it.arg 1
    let first := BitVec.ofNat 32 n
    let second := BitVec.ofNat 32 (it.arg 2 + 65536 * it.arg 3)
    let loads := d.cfg.pendLoad = true
    let sized := 24 ≤ n ∧ n ≤ 98304
    let mine := r.stage = 1 ∧ d.cfg.opener = some it.source
    let commits := loads ∧ r.probation = true
    item (.cfgStageOpen tag) 0x20 (sized ∧ r.stage ≠ 1 ∧ ¬commits) true (fun e =>
      e.cfg.role = { r with stage := 1, verStaged := second, stgLen := first } ∧
      e.cfg.opener = some it.source ∧ e.rd32 CFG_STGLEN = first ∧ e.ended tag 0x00) ∧
    item (.cfgStageClose tag) 0x21 mine true (fun e => e.cfg.opener = none ∧
      (good → e.cfg.role.stage = 2 ∧ e.evtPending 9 = true ∧ e.ended tag 0x00) ∧
      (¬good → e.cfg.role.stage = 3 ∧ e.evtPending 10 = true ∧ e.ended tag 0x31)) ∧
    (let may := r.stage = 2 ∧ r.verStaged.toNat = n ∧ r.probation = false ∧ ¬loads
     item (.cfgCommit tag) 0x22 may true (fun e =>
       e.cfg.role = { r with active := r.staged, previous := r.active, staged := r.previous, stage := 0,
                             prevValid := !d.cfg.safe, probation := true, prCount := 0, verActive := r.verStaged,
                             verPrevious := r.verActive, verStaged := r.verPrevious } ∧
       e.cfg.pendLoad = true ∧ e.evtPending 11 = true ∧ e.ended tag 0x00) ∧
     item (.cfgCommit tag) 0x22 may false (fun e =>
       e.cfg.role = r ∧ e.flag CFG_STICKY CFG_STICKY.NVFAIL = true ∧ e.evtPending 240 = true ∧ e.ended tag 0x32)) ∧
    item (.cfgConfirm tag) 0x23 (¬loads ∧ r.verActive.toNat = n ∧ r.probation = true) true (fun e =>
      e.cfg.role = { r with probation := false } ∧ e.evtPending 12 = true ∧ e.ended tag 0x00) ∧
    item (.cfgRollback tag) 0x24 (r.prevValid = true ∧ ¬loads) true (fun e =>
      e.cfg.role = { r with active := r.previous, staged := r.active, previous := r.staged, stage := 4, prevValid := false,
                            probation := false, prCount := 0, verActive := r.verPrevious, verStaged := r.verActive,
                            verPrevious := r.verStaged } ∧
      e.cfg.pendLoad = true ∧ e.flag CFG_STICKY CFG_STICKY.ROLLBACK = true ∧ e.evtPending 13 = true ∧ e.ended tag 0x00) ∧
    ends (.cfgStageOpen tag) 0x20 (¬sized) 0x21 ∧ ends (.cfgStageOpen tag) 0x20 (sized ∧ r.stage = 1) 0x22 ∧
    ends (.cfgStageOpen tag) 0x20 (sized ∧ r.stage ≠ 1 ∧ commits) 0x23 ∧ ends (.cfgStageClose tag) 0x21 (¬mine) 0x23 ∧
    ends (.cfgCommit tag) 0x22 (r.stage ≠ 2) 0x23 ∧ ends (.cfgCommit tag) 0x22 (r.stage = 2 ∧ r.verStaged.toNat ≠ n) 0x21 ∧
    ends (.cfgCommit tag) 0x22 (r.stage = 2 ∧ r.verStaged.toNat = n ∧ (r.probation = true ∨ loads)) 0x23 ∧
    ends (.cfgConfirm tag) 0x23 loads 0x23 ∧ ends (.cfgConfirm tag) 0x23 (¬loads ∧ r.verActive.toNat ≠ n) 0x21 ∧
    ends (.cfgConfirm tag) 0x23 (¬loads ∧ r.verActive.toNat = n ∧ r.probation = false) 0x00 ∧
    ends (.cfgRollback tag) 0x24 (r.prevValid = false ∨ loads) 0x23 ∧
    (∀ rest : List Item, d.isUp = true → d.cfg.roleItems.filterMap d.item = it :: rest →
      it.code.toNat = 0x22 ∨ it.code.toNat = 0x23 →
      d.nvInhibit = true → Completes .roleWriteTimeout s fun e => e.ended it.tag 0x33)

/-- Block writes to the user area and to the staged image (R356, R354). GO takes the first row of R356 that holds: BADOFS for an
offset off its block or beyond the target, NOTOPEN, TEMP under the inhibit and WAIT under brown-out; otherwise the write starts, or
waits for those before it, and its start moves CFG_WOFS on. Its end stores the 64 bytes and reports DONE; a second failed read-back
reports VERIFY and NVFAIL, and leaves only the 64 bytes of that block open (log entry 156). A further GO while BUSY sets WREF. -/
def Obligations.NvBlockWrites : Prop :=
  ∀ (s : State) (acc : Acc) (user : Bool),
    let d := s.dev.dropHeld acc
    let r := d.cfg.role
    let k := accKey acc.source
    let ofs := d.rn32 (k CFG_WOFS)
    let target : Nat := if user then 0x7A000 else 0x18000 * r.staged.val
    let fits := ofs % 64 = 0 ∧ ofs + 64 ≤ if user then 0x6000 else (r.stgLen.toNat + 63) / 64 * 64
    let mine := user = true ∨ (r.stage = 1 ∧ d.cfg.opener = some acc.source)
    let own := d.cfg.checks = [] ∧ d.cfg.roleItems = [] ∧ d.recorder.flushing = false ∧ d.recorder.markDue = false ∧
      d.cfg.roleDue = false ∧ d.gauge.recPend = false ∧ d.clock.opDue = false
    let reports (st : Nat) : Prop := Completes (.cfgWctlGo acc user) s fun e => e.rn (k CFG_WSTAT) = st ∧
      e.flag (k CFG_WCTL) CFG_WCTL.BUSY = false ∧ d.onlyRegs e (fun a => a = k CFG_WCTL ∨ a = k CFG_WSTAT)
    let waits (P : Dev → Prop) : Prop := Completes (.cfgWctlGo acc user) s fun e =>
      e.cfg = { d.cfg with waits := d.cfg.waits ++ [acc.source] } ∧ e.flag (k CFG_WCTL) CFG_WCTL.BUSY = true ∧ P e
    (d.mayWrite acc CFG_WCTL = true → d.flag (k CFG_WCTL) CFG_WCTL.BUSY = false →
      (¬fits → reports 3) ∧ (fits → ¬mine → reports 4) ∧ (fits → mine → d.nvInhibit = true → reports 2) ∧
      (fits → mine → d.nvInhibit = false → d.bof = true → waits fun e => e.rn (k CFG_WSTAT) = 1) ∧
      (fits → mine → d.nvHeld = false → own → d.cfg.writes ≠ [] → waits fun _ => True) ∧
      (fits → mine → d.nvHeld = false → own → d.cfg.writes = [] → d.cfg.waits = [] →
        Completes (.cfgWctlGo acc user) s fun e =>
          e.cfg = { d.cfg with writes := [{ set := some acc.source, addr := target + ofs, bytes := d.wbuf acc.source }] } ∧
          e.rn32 (k CFG_WOFS) = ofs + 64 ∧ e.flag (k CFG_WCTL) CFG_WCTL.BUSY = true)) ∧
    (d.mayWrite acc CFG_WCTL = true → d.flag (k CFG_WCTL) CFG_WCTL.BUSY = true → Completes (.cfgWctlGo acc user) s fun e =>
      e.flag CFG_STICKY CFG_STICKY.WREF = true ∧ d.onlyRegs e (fun a => a = CFG_STICKY)) ∧
    (∀ (w : BlockWrite) (set : Fin 4) (ok1 ok2 : Bool), d.cfg.writes = [w] → d.cfg.waits = [] → w.set = some set →
      w.addr % 64 = 0 → w.bytes.length = 64 →
      Completes (.nvBlockWriteDone ok1 ok2) s fun e =>
        e.cfg.writes = [] ∧ e.flag (accKey set CFG_WCTL) CFG_WCTL.BUSY = false ∧
        (d.bof = false → ∀ b, b < w.addr ∨ w.addr + 64 ≤ b → cellGet e.cfg.nv b = cellGet d.cfg.nv b) ∧
        (ok1 = true ∨ ok2 = true → e.rd (accKey set CFG_WSTAT) = 0 ∧
          (d.bof = false → ∀ i (h : i < w.bytes.length), cellGet e.cfg.nv (w.addr + i) = w.bytes[i])) ∧
        (ok1 = false → ok2 = false → e.rd (accKey set CFG_WSTAT) = 5 ∧
          e.flag CFG_STICKY CFG_STICKY.NVFAIL = true ∧ e.evtPending 240 = true))

/-- The recorder (R369, R370, R371, R372, R376, R378): a flush starts by command or period, and one that is asked for while
another has ended its ring stage follows it; its end writes the record to its ring slot, marked CLEAN, and empties the buffer; a
block write that fails sets NVFAIL and ends the flush; REC_CTL.SNAP stages a snapshot. The model's readings (log entry 138): a
REC_FLUSH that is asked for after the ring stage ends with the flush that follows, and no block is written after one that failed. -/
def Obligations.RecorderFlush : Prop :=
  ∀ (s : State) (acc : Acc),
    let d := s.dev
    let starts (d e : Dev) : Prop :=
      (d.recorder.flushing = false →
        e.recorder = { d.recorder with flushing := true, ringDone := false, snapAt := 0, failed := false, again := false } ∧
        e.flag REC_STATUS REC_STATUS.FLUSHING = true ∧ ({ e with regs := d.regs, recorder := d.recorder } : Dev) = d ∧
        ∀ a, a ≠ REC_STATUS → e.rd a = d.rd a) ∧
      (d.recorder.flushing = true →
        e = { d with recorder := { d.recorder with again := d.recorder.again || d.recorder.ringDone } })
    let live := d.fld CFG_DSTATE CFG_DSTATE.LCAUSE ≠ 4
    (d.mayWrite acc REC_CTL = true → Completes (.recCtlFlush acc) s (starts (d.dropHeld acc))) ∧
    (d.blocksRun = true → d.rn REC_CFG ≠ 0 → Completes .recPeriodicFlush s (starts d)) ∧
    (∀ r : Rec, live → d.recorder.flushing = true → d.recorder.ringDone = false → d.recorder.failed = false →
      d.recorder.again = false → d.nvHeld = false → d.recorder.buf = [r] → d.recorder.snaps = [] →
      d.recorder.dropped = none → d.runningItems 0x39 = [] → Completes (.recFlushDone true) s fun e =>
        e.recorder.flushing = false ∧ e.flag REC_STATUS REC_STATUS.FLUSHING = false ∧ e.recorder.buf = [] ∧
        e.recorder.clean = true ∧
        ∀ i, i < 32 → cellGet e.cfg.nv (recAddr r.seq.toNat + i) = (({ r with clean := true } : Rec).bytes[i]?).getD 0) ∧
    (live → d.recorder.flushing = true → d.recorder.failed = false → d.recorder.again = false → d.nvHeld = false →
      d.recorder.buf.length < 380 → d.runningItems 0x39 = [] → Completes (.recFlushDone false) s fun e =>
        e.recorder.flushing = false ∧ e.flag CFG_STICKY CFG_STICKY.NVFAIL = true ∧ e.evtPending 240 = true) ∧
    (d.mayWrite acc REC_CTL = true → d.recorder.snaps = [] → Completes (.recCtlSnap acc) s fun e =>
      e.recorder.snaps.length = 1 ∧ e.recorder.snapNext = d.recorder.snapNext + 1)

/-! ## Events and the watchdog -/

/-- Event registers (R415 to R417, R421): status bits written 1 clear, CLRALL clears all, a route takes the value written,
and a software event that is set is pending. A cause of attention that has gone counts as new when it arises again (R323). -/
def Obligations.EventRegisters : Prop :=
  ∀ (s : State) (acc : Acc) (v : BitVec 16),
    let d := s.dev.dropHeld acc
    let clears (e : Dev) (K : Nat → Prop) : Prop := d.onlyRegs { e with ports := d.ports } K ∧
      ∀ p : Port, { e.port p with missed := (d.port p).missed } = d.port p ∧ (e.port p).missed = (d.port p).missed &&& e.causes p
    (∀ i : Fin 16, d.mayWrite acc (EVT_STAT i) = true → Completes (.evtStatClear acc i v) s fun e =>
      (∀ j, j < 16 → e.evtPending (16 * i.val + j) = (d.evtPending (16 * i.val + j) && !v.getLsbD j)) ∧
        clears e (fun a => a = EVT_STAT i)) ∧
    (d.mayWrite acc EVT_CTL = true → Completes (.evtClrall acc) s fun e =>
      (∀ x : Fin 256, e.evtPending x.val = false) ∧ clears e (fun a => EVT_STAT 0 ≤ a ∧ a < EVT_STAT 16)) ∧
    (∀ x : Fin 256, d.mayWrite acc (EVT_ROUTE (x.val % 16)) = true → Completes (.evtRouteWrite acc x v) s fun e =>
      (∀ j, 2 ≤ j → j < 16 → (e.rd (routeKey x)).getLsbD j = v.getLsbD j) ∧ clears e (fun a => a = routeKey x)) ∧
    (d.mayWrite acc EVT_SWSET = true → Completes (.evtSwset acc v) s fun e =>
      (∀ n : Fin 8, e.evtPending (248 + n.val) = (d.evtPending (248 + n.val) || v.getLsbD n.val)) ∧
        d.keepsRegs e (fun _ => False) ∧ e.hush d = d)

/-- Watchdog slots (R424 to R433): the token of R426 for the present challenge, in an open window and from the slot's own furrow
or host, draws a new challenge and starts a new period, or ends the slot with EN 0; a wrong one, one too early and one from elsewhere
is flagged; a period that ends warns first and asks for an engine reset next, one for slots that expire together; a window opens at
its time, and is judged anew against a new WDG_PER; LOCK refuses a change of a slot. -/
def Obligations.WatchdogSlots : Prop :=
  ∀ (s : State) (acc : Acc) (n : WSlot) (v : BitVec 16),
    let d := s.dev.dropHeld acc
    let x := d.slot n
    let seed := d.rn32 WDG_SEED
    let token (c : Word) : Word :=
      let b := ((c.toNat ^^^ (seed % 65536)) * 0xD7 + seed / 65536 + 0x101 * n.val) % 65536
      BitVec.ofNat 16 (b * 2 ^ n.val + b / 2 ^ (16 - n.val))
    let mine := n = 15 ∨ acc = .furrow x.furrow
    let counts := x.running = true ∧ d.engineOn = true ∧ d.slotPaused n = false
    let period := 1000 * max 1 (d.rn (WDG_PER n))
    let passed := d.now - x.start
    let opens := d.fld (WDG_SCFG n) WDG_SCFG.OPEN
    let holder : Furrow := Fin.ofNat 16 (d.fld (WDG_SCFG n) WDG_SCFG.FURROW)
    (d.mayWrite acc (WDG_TOKEN n) = true → x.running = true → d.engineOn = true →
      (mine → x.windowOpen = true → v = token x.chal → x.replaced.map token ≠ some v →
        Completes (.wdgTokenWrite acc n v) s fun e =>
          (e.slot n).answered = true ∧ (e.slot n).chal ≠ x.chal ∧ (e.slot n).replaced = (if x.drawn then some x.chal else none) ∧
            (e.slot n).warned = false ∧ (e.slot n).running = d.flag (WDG_SCFG n) WDG_SCFG.EN ∧
            (d.flag (WDG_SCFG n) WDG_SCFG.EN = true → (e.slot n).start = d.now) ∧ e.regs = d.regs ∧
            ∀ m, m ≠ n → e.slot m = d.slot m) ∧
      (mine → x.windowOpen = false → v = token x.chal → Completes (.wdgTokenWrite acc n v) s fun e =>
        e.mbit WDG_DOUBLE n.val = true ∧ e.evtPending 43 = true ∧ e.wdg = d.wdg) ∧
      (mine → v ≠ token x.chal → x.replaced.map token ≠ some v → Completes (.wdgTokenWrite acc n v) s fun e =>
        e.mbit WDG_BAD n.val = true ∧ e.evtPending 44 = true ∧ e.wdg = d.wdg) ∧
      (¬mine → Completes (.wdgTokenWrite acc n v) s fun e =>
        e.flag WDG_STICKY WDG_STICKY.FOREIGN = true ∧ d.onlyRegs e (fun a => a = WDG_STICKY))) ∧
    (counts → period ≤ passed → x.warned = false → d.flag (WDG_SCFG n) WDG_SCFG.EN = true →
      Completes (.wdgPeriodEnd n) s fun e =>
        e.slot n = { x with warned := true, windowOpen := true, start := d.now, open16 := opens, furrow := holder } ∧
          e.evtPending 40 = true ∧ e.rd WDG_WARNCNT = satInc (d.rd WDG_WARNCNT) ∧
          e.fld WDG_STATUS WDG_STATUS.LASTWARN = n.val ∧ e.hopper.pendingReset = d.hopper.pendingReset) ∧
    (counts → period ≤ passed → x.warned = true → d.hopper.wdgReset = true → Completes (.wdgPeriodEnd n) s fun e =>
      e.rd WDG_RSTCNT = satInc (d.rd WDG_RSTCNT) ∧
        e.fld WDG_STATUS WDG_STATUS.LASTRST = min (d.fld WDG_STATUS WDG_STATUS.LASTRST) n.val ∧
        s.dev.onlyRegs e (fun a => a = WDG_STATUS ∨ a = WDG_RSTCNT)) ∧
    (counts → period ≤ passed → x.warned = true → d.hopper.pendingReset = .none → d.hopper.wdgReset = false →
      d.fld WDG_CTL WDG_CTL.ESCN = 0 → Completes (.wdgPeriodEnd n) s fun e =>
        e.hopper.pendingReset = .engine 1 ∧ e.evtPending 41 = true ∧ e.rd WDG_RSTCNT = satInc (d.rd WDG_RSTCNT) ∧
          e.fld WDG_STATUS WDG_STATUS.LASTRST = n.val) ∧
    (passed < period → exec (.wdgPeriodEnd n) s = .next s) ∧
    (counts → x.open16 * period ≤ 16 * passed → exec (.wdgWindowOpen n) s =
      .next { s with dev := s.dev.modSlot n fun y => { y with windowOpen := true } }) ∧
    (16 * passed < x.open16 * period → exec (.wdgWindowOpen n) s = .next s) ∧
    (d.mayWrite acc (WDG_PER n) = true → d.flag WDG_CTL WDG_CTL.LOCK = true →
      Completes (.wdgConfigWrite acc (BitVec.ofNat 16 (WDG_PER n)) v) s fun e =>
        e.flag WDG_STICKY WDG_STICKY.LOCKREF = true ∧ d.onlyRegs e (fun a => a = WDG_STICKY)) ∧
    (d.mayWrite acc (WDG_PER n) = true → d.flag WDG_CTL WDG_CTL.LOCK = false →
      Completes (.wdgConfigWrite acc (BitVec.ofNat 16 (WDG_PER n)) v) s fun e =>
        e.rd (WDG_PER n) = v ∧ d.onlyRegs { e with wdg := d.wdg } (fun a => a = WDG_PER n) ∧ (∀ m, m ≠ n → e.slot m = d.slot m) ∧
          (x.running = false → e.slot n = x) ∧ (x.running = true → e.slot n = { x with
            windowOpen := x.warned || decide (x.open16 * (1000 * max 1 v.toNat) ≤ 16 * passed) }))

/-! ## Clocks and time -/

/-- Domain switches (R382, R383) and CLKOUT (R385): one field that changes starts its switch, a second one meanwhile or one of
CKD_PWM in use sets SWREF, and the end of a switch corrects the counts by 6 and reports it. Loss and return of the reference
(R386, R387, R409): the device is LATCHED with its cause and event; in NEWT the oscillator-stopped flag is set, and CLK_STATUS.REFOK,
which R396 says shows the edges, follows them there too (log entry 60). -/
def Obligations.ClockSources : Prop :=
  (∀ (s : State) (acc : Acc) (src : Bool) (v : BitVec 16), s.dev.mayWrite acc CLK_DSEL = true →
      s.dev.mayWrite acc CLK_OUTDIV = true → s.dev.mayWrite acc CLK_OUT = true →
      let d := s.dev.dropHeld acc
      let busy := d.flag CLK_STATUS CLK_STATUS.SWBUSY
      let starts (c : Instr) (f : Fld) (dom : Domain) : Prop := busy = false → d.flag CLK_DSEL f ≠ src →
        Completes c s fun e => e.flag CLK_DSEL f = src ∧ e.flag CLK_STATUS CLK_STATUS.SWBUSY = true ∧
          e.clock = { d.clock with switching := some dom } ∧ d.onlyRegs { e with clock := d.clock }
            (fun a => a = CLK_DSEL ∨ a = CLK_STATUS)
      let refused (c : Instr) : Prop := Completes c s fun e =>
        e.flag CLK_STICKY CLK_STICKY.SWREF = true ∧ d.onlyRegs e (fun a => a = CLK_STICKY)
      let ends (dom : Domain) (lost : Nat) (k : ClockSt) : Prop := d.clock.switching = some dom → d.boot.phase ≠ .newt →
        d.clock.rtcSet = [] → Completes .domainSwitchDone s fun e =>
          e.clock.switching = none ∧ e.clock.tb = k.tb ∧ e.clock.rtc = k.rtc ∧ e.evtPending 34 = true ∧
          e.flag CLK_STATUS CLK_STATUS.SWBUSY = false ∧ e.rd CLK_SWCNT = satInc (d.rd CLK_SWCNT) ∧
          e.rd lost = satAdd (d.rd lost) 6
      starts (.clkSwitchTb acc src) CLK_DSEL.TBSRC .tb ∧ starts (.clkSwitchRtc acc src) CLK_DSEL.RTCSRC .rtc ∧
      (d.pwmFree = true → starts (.clkSwitchPwm acc src) CLK_DSEL.PWMSRC .pwm) ∧
      (busy = true → refused (.clkSwitchTb acc src) ∧ refused (.clkSwitchRtc acc src) ∧ refused (.clkSwitchPwm acc src)) ∧
      (busy = false → d.flag CLK_DSEL CLK_DSEL.PWMSRC ≠ src → d.pwmFree = false → refused (.clkSwitchPwm acc src)) ∧
      ends .pwm CLK_LOSTPWM d.clock ∧
      (d.tbRuns = true → ends .tb CLK_LOSTTB { d.clock with tb := d.clock.tb + 6 }) ∧
      ends .rtc CLK_LOSTRTC { d.clock with rtc := d.clock.rtc + 6 } ∧
      (v ≠ d.rd CLK_OUTDIV → Completes (.clkoutChange acc true v) s fun e =>
        e.rd CLK_OUTDIV = v ∧ e.clock = { d.clock with outHold := true } ∧
          d.onlyRegs { e with clock := d.clock } (fun a => a = CLK_OUTDIV ∨ a = CLK_STATUS)) ∧
      (v &&& 7#16 ≠ d.rd CLK_OUT → Completes (.clkoutChange acc false v) s fun e =>
        e.rd CLK_OUT = v &&& 7#16 ∧ e.clock = { d.clock with outHold := true } ∧
          d.onlyRegs { e with clock := d.clock } (fun a => a = CLK_OUT ∨ a = CLK_STATUS)) ∧
      (d.clock.outHold = true → Completes .clkoutRestart s fun e =>
        e.clock = { d.clock with outHold := false } ∧ e.rd CLK_LOSTOUT = satAdd (d.rd CLK_LOSTOUT) 6 ∧
          s.dev.onlyRegs { e with clock := d.clock } (fun a => a = CLK_LOSTOUT))) ∧
  (∀ s : State,
      let d := s.dev
      let latches (c : Instr) (evt : Nat) (f : Fld) : Prop := d.boot.phase = .up → d.latched = false →
        Completes c s fun e => e.latched = true ∧ e.fld CFG_DSTATE CFG_DSTATE.LCAUSE = 2 ∧ e.evtPending evt = true ∧
          e.flag RTC_STATUS RTC_STATUS.OSCSTOP = true ∧ e.flag CLK_STICKY f = true ∧
          e.flag CLK_STATUS CLK_STATUS.PLLLOCK = false ∧ ∀ m, (e.phase m).drive = .mid
      latches .refLost 32 CLK_STICKY.MISSING ∧ latches .pllUnlock 33 CLK_STICKY.UNLOCK ∧
      (d.boot.phase = .newt → Completes .refLost s fun e =>
        e.flag RTC_STATUS RTC_STATUS.OSCSTOP = true ∧ e.flag CLK_STATUS CLK_STATUS.REFOK = false ∧
          d.onlyRegs e (fun a => a = RTC_STATUS ∨ a = CLK_STATUS)) ∧
      (d.boot.phase = .newt → Completes .refReturn s fun e =>
        e.flag CLK_STATUS CLK_STATUS.REFOK = true ∧ d.onlyRegs e (fun a => a = CLK_STATUS)))

/-- Operating time and the RTC (R389 to R391, R393): a save, once 64 s have passed since the one that the valid copy with the
newer number holds, goes to the other copy with its read-back outstanding (log entry 137), or waits where NV writes are held; a trim
step once the trim has reached a count; a write of the countdown, and its end on a count of CKD_RTC (log entry 70); and RTC_SET, which
waits for the next edge of CKD_RTC and is written there. -/
def Obligations.TimeKeeping : Prop :=
  ∀ (s : State) (acc : Acc) (v : BitVec 32) (tag : Tag) (it : Item),
    let d := s.dev
    let k := d.clock.saved
    let since := d.clock.op - (if k[0].good = true ∧ (k[1].good = false ∨ k[1].seq.toNat < k[0].seq.toNat) then k[0].val.op
      else if k[1].good = true then k[1].val.op else 0)
    let held := d.nvInhibit = true ∨ d.bof = true
    let clear := d.recorder.flushing = false ∧ d.hopper.closes = [] ∧ d.cfg.roleItems = [] ∧ d.cfg.checks = []
    (d.boot.phase = .up → 64 * 65536 ≤ since → ¬held → clear → Completes .optimeSave s fun e =>
      (∃ i : Fin 2, (∀ j : Fin 2, j ≠ i → e.clock.saved[j] = k[j]) ∧ e.clock.saved[i].good = true ∧
        e.clock.saved[i].val.op = d.clock.op ∧ e.clock.saved[i].val.pcycle = d.clock.pcycle ∧
        e.cfg.checks = [.time i]) ∧ e.cfg.nvWrites = d.cfg.nvWrites + 1 ∧ e.clock.opDue = false ∧ e.regs = d.regs) ∧
    (d.boot.phase = .up → 64 * 65536 ≤ since → held → exec .optimeSave s =
      .next { s with dev := { d with clock := { d.clock with opDue := true } } }) ∧
    (since < 64 * 65536 → exec .optimeSave s = .next s) ∧
    (d.rtcRuns = true → Completes .rtcTrimStep s fun e => ({ e with clock := d.clock } : Dev) = d ∧
      (let c := d.clock
       e.clock = if 10 ^ 9 ≤ c.trimAcc then { c with rtc := c.rtc + 1, trimAcc := c.trimAcc - 10 ^ 9 }
         else if c.trimAcc ≤ -(10 ^ 9) then { c with rtc := c.rtc - 1, trimAcc := c.trimAcc + 10 ^ 9 } else c)) ∧
    (d.mayWrite acc RTC_CDN = true → Completes (.rtcCdnWrite acc v) s fun e =>
      e.rd32 RTC_CDN = v ∧ e.flag RTC_STATUS RTC_STATUS.CDRUN = decide (v ≠ 0) ∧ e.clock = { d.clock with cdnSub := 0 } ∧
        (d.dropHeld acc).onlyRegs { e with clock := d.clock } (fun a => a = RTC_CDN ∨ a = RTC_CDN + 2 ∨ a = RTC_STATUS)) ∧
    (d.flag RTC_STATUS RTC_STATUS.CDRUN = true → 64 ≤ d.clock.cdnSub → d.rtcRuns = true → d.boot.phase ≠ .newt →
      Completes .countdown s fun e =>
        e.rd32 RTC_CDN = 0 ∧ e.flag RTC_STATUS RTC_STATUS.CDRUN = false ∧ e.flag CLK_STICKY CLK_STICKY.CDEXP = true ∧
          e.evtPending 35 = true ∧ e.boot = d.boot) ∧
    (d.clock.cdnSub < 64 → exec .countdown s = .next s) ∧
    (let x := BitVec.ofNat 64 ((it.arg 0 + 65536 * it.arg 1 + 2 ^ 32 * it.arg 2) * 65536 + it.arg 3)
     d.carries tag 0x33 it → Completes (.rtcSet tag) s fun e => e.runs tag ∧ e.regs = d.regs ∧
       e.clock = { d.clock with rtcSet := d.clock.rtcSet ++ [(tag, x)] } ∧
       (d.rtcRuns = true → d.clock.rtcSet = [] → d.chg.expiry = false →
         (∀ q : Link, d.flag (VL_STATUS q) VL_STATUS.FRAME = false) → (∀ q : Fin 24, (d.seat q).due = []) →
         s.pending = [] → 1000000 ≤ d.clock.rtcRem + 65536 → ∃ t : State, step { s with dev := e } = .next t ∧
           t.dev.clock.rtc = x ∧ t.dev.flag RTC_STATUS RTC_STATUS.OSCSTOP = false ∧ t.dev.ended tag 0x00))

/-! ## Start-up, device states and resets -/

/-- The boot path (R334 to R336, R263): each step takes the device on to the next, and what fails at t5 or t7 switches the
oscillator off and, the third time, latches the device. A supply below V_BO at t3 sets the brown-out flag (R346, R477). A load applies
the safe image, or every section of the ACTIVE image (R265, R362): furrows, code, dispatch and data, the plan entries, and the REGS
pairs of RWS and RWC fields, here the one pair of an image that has one. -/
def Obligations.BootPath : Prop :=
  ∀ (s : State) (adsel : BitVec 3) (t3 : Measured) (count : Nat),
    let d := s.dev
    let b := d.boot
    let m := d.img d.cfg.role.active.val
    let u16 (a : Nat) : Word := BitVec.ofNat 16 (m.val a 2)
    let blank := m.sect 3 = none ∧ m.pairs = []
    let goes (c : Instr) (b' : BootSt) : Prop := Completes c s fun e => e = { d with boot := b' }
    let fails (c : Instr) (ph : BootPhase) : Prop := b.phase = ph → d.latched = false →
      (b.attempts < 2 → Completes c s fun e =>
        e.boot = { b with phase := .oscOff, attempts := b.attempts + 1 } ∧ e.latched = false) ∧
      (2 ≤ b.attempts → Completes c s fun e => e.latched = true ∧ e.fld CFG_DSTATE CFG_DSTATE.LCAUSE = 4)
    (b.phase = .dark → Completes .bootStart s fun e =>
      e = { d with boot := { b with phase := .hb0 }, pins := { d.pins with newtLost := false } }) ∧
    (b.phase = .hb0 → d.latched = false → goes .hb0Good { b with phase := .hb1 }) ∧
    (b.phase = .hb1 → d.latched = false → d.flag CFG_DSTATE CFG_DSTATE.KILL = false → b.vinLow = false → t3.vinLow = false →
      d.pfiActs = false → Completes (.hb1Good adsel t3) s fun e =>
        e.boot = { b with phase := .startDelay } ∧ e.portAddr = 0x60 + adsel.toNat ∧ e.fld ID_STRAP ID_STRAP.CKDLY = t3.ckdly.toNat ∧
          e.pins = { d.pins with vioLevel := some t3.vio } ∧
          d.onlyRegs { e with boot := b, pins := d.pins } (fun a => a = ID_STRAP)) ∧
    (b.phase = .hb1 → d.latched = false → t3.vinLow = true → d.bof = false → Completes (.hb1Good adsel t3) s fun e =>
      e.bof = true ∧ e.evtPending 1 = true ∧ e.rd CFG_BOCNT = satInc (d.rd CFG_BOCNT)) ∧
    (b.phase = .hb1 → d.latched = false → d.flag CFG_DSTATE CFG_DSTATE.KILL = true → Completes (.hb1Good adsel t3) s fun e =>
      e.latched = true ∧ e.fld CFG_DSTATE CFG_DSTATE.LCAUSE = 3 ∧ e.evtPending 238 = true) ∧
    (b.phase = .startDelay → d.latched = false → 384 ≤ count → count ≤ 5325 → Completes (.startDelayExpiry count) s fun e =>
      e.boot = { b with phase := .locking } ∧ e.rn CLK_BOOTCNT = count) ∧
    (count < 384 ∨ 5325 < count → fails (.startDelayExpiry count) .startDelay) ∧
    fails (.pllLock false) .locking ∧
    (b.phase = .oscOff → d.latched = false → goes .oscRetryExpiry { b with phase := .startDelay }) ∧
    (b.phase = .locking → d.latched = false → Completes (.pllLock true) s fun e =>
      e.boot = { b with phase := .nvCheck } ∧ e.flag CLK_STATUS CLK_STATUS.PLLLOCK = true ∧ e.clock.tb = 0) ∧
    (b.phase = .nvCheck → d.latched = false → d.nvHeld = true → Completes .nvCheck s fun e =>
      e.boot = b ∧ e.flag CFG_DSTATE CFG_DSTATE.NVWAIT = true ∧ d.onlyRegs e (fun a => a = CFG_DSTATE)) ∧
    (b.phase = .nvCheck → d.latched = false → d.nvHeld = false → Completes .nvCheck s fun e => e.boot.phase = .loading) ∧
    (b.phase = .loading → d.latched = false → d.meas.running = true → d.cfg.safe = true → Completes .imageLoad s fun e =>
      e.boot.phase = .loaded ∧ e.routesLive = true ∧ e.cfg.running = 3 ∧ e.cfg.pendLoad = false ∧ e.engine.code = []) ∧
    (∀ fx : Sect, b.phase = .loading → d.latched = false → d.meas.running = true → d.cfg.safe = false → m.sect 5 = some fx →
      Completes .imageLoad s fun e =>
        e.boot.phase = .loaded ∧ e.routesLive = true ∧ e.engine.debugGranted = decide (m.val fx.off 1 % 2 = 1) ∧
        (∀ f : Furrow, let at_ := fx.off + 1 + 8 * f.val
          (e.fur f).st = (if m.val at_ 1 % 2 = 1 then .stopped else .disabled) ∧ (e.fur f).prio.val = m.val (at_ + 1) 1 % 4 ∧
          (e.fur f).entry = BitVec.ofNat 14 (m.val (at_ + 2) 2) ∧ (e.fur f).k0 = BitVec.ofNat 32 (m.val (at_ + 4) 4)) ∧
        (∀ x : Sect, m.sect 1 = some x → e.engine.code.length = x.len / 4 ∧
          ∀ i, i < x.len / 4 → e.engine.code[i]? = some (BitVec.ofNat 32 (m.val (x.off + 4 * i) 4))) ∧
        (∀ x : Sect, m.sect 6 = some x → e.engine.dispatch = m.bytes x.off x.len) ∧
        (∀ x : Sect, m.sect 2 = some x → ∀ i, i < x.len → (cellGet e.engine.data i).toNat = m.val (x.off + i) 1) ∧
        (blank → e.cfg.running.val = d.cfg.role.active.val ∧ e.cfg.pendLoad = false ∧ e.rd32 CFG_RUNVER = d.cfg.role.verActive ∧
          (m.sect 2 = none → ∀ a, cellGet e.engine.data a = if a < 0x4000 then 0 else cellGet d.engine.data a)) ∧
        (∀ (n : WSlot) (v : Word), m.sect 3 = none → m.pairs = [(WDG_PER n, v)] → ∀ k : WSlot,
          e.rd (WDG_PER k) = if k = n then v else resetWord (WDG_PER k)) ∧
        (∀ (n : Loop) (v : Word), m.sect 3 = none → m.pairs = [(LP_SLEW n, v)] → e.rd (LP_SLEW n) = v) ∧
        (∀ x : Sect, m.sect 3 = some x → x.len = 14 → m.pairs = [] → let n := m.val x.off 2
          64 ≤ n → n < 2048 → d.flag (MS_PECTL n) MS_PECTL.VALID = false →
          d.seqEnabled (d.entrySeq n) = false → d.seqEnabled (MS_PESEQ.SEQ.of (m.val (x.off + 4) 2)) = false →
            e.flag (MS_PECTL n) MS_PECTL.VALID = (u16 (x.off + 2)).getLsbD 15 ∧ e.rd (MS_PEDLY n) = u16 (x.off + 6))) ∧
    (b.phase = .loaded → d.latched = false → Completes .bootComplete s fun e =>
      e.boot.phase = .up ∧ e.flag CFG_DSTATE CFG_DSTATE.BOOT = false ∧ e.engine.started = true ∧ e.evtPending 0 = true ∧
        ∀ f, (d.fur f).st ≠ .disabled → (e.fur f).st = .ready ∧ (e.fur f).pc = (d.fur f).entry)

/-- Resets (R262, R329, R342 to R345, R410, R428): what each leaves as its cause, and what it clears. An access that has been granted
completes first. A rail-cycle reset in UP takes the rails down, to power the profile up again. A POR by KILL is held back in LATCHED
while a restart comparator reads hot; whether one reads so that no command has reported is free (log entry 155). -/
def Obligations.Resets : Prop :=
  ∀ (s : State) (src : BitVec 4) (lost : Bool),
    let d := s.dev
    let kind (e : Dev) : Nat := e.fld CFG_RSTCAUSE CFG_RSTCAUSE.KIND
    let core (e : Dev) : Prop := e.engine = Dev.reset.engine ∧ e.own = Dev.reset.own ∧ e.hopper.items = [] ∧
      e.hopper.ring = [] ∧ e.flag CFG_DSTATE CFG_DSTATE.BOOT = true ∧ e.latched = false
    let a := (d.zero substatRegs).finishAccess
    let byKill (e : Dev) : Prop := core e ∧ e.boot.phase = .hb0 ∧ kind e = 2 ∧
      e.fld CFG_RSTCAUSE CFG_RSTCAUSE.LASTLC = d.fld CFG_DSTATE CFG_DSTATE.LCAUSE
    let heldBack (e : Dev) : Prop := e.boot.killDue = true ∧ e.latched = true ∧ e.flag CFG_DSTATE CFG_DSTATE.KILL = false ∧
      e.own = d.own ∧ e.engine = d.engine
    let plain := d.isUp = true ∧ d.hopper.resetTags = [] ∧ d.cfg.pendLoad = false ∧ d.cfg.role.probation = false ∧
      d.cfg.roleItems = []
    Completes (.porSupply lost) s (fun e => core e ∧ e.boot.phase = .dark ∧ kind e = 1) ∧
    (d.flag CFG_DSTATE CFG_DSTATE.KILL = true → d.boot.phase ≠ .dark →
      (d.latched = false → Completes .killRelease s byKill) ∧
      (d.latched = true → d.therm.hot = false → Completes .killRelease s fun e => byKill e ∨ heldBack e) ∧
      (d.latched = true → d.therm.hot = true → Completes .killRelease s heldBack)) ∧
    (d.latched = true → d.boot.killDue = true → Completes .restartComparatorClear s byKill) ∧
    (d.latched = true → d.fld CFG_DSTATE CFG_DSTATE.LCAUSE = 1 → d.therm.hot = false →
      d.flag CFG_DSTATE CFG_DSTATE.FLUSHING = false → d.recorder.flushing = false → Completes .thermalRestart s fun e =>
        core e ∧ e.boot.phase = .hb1 ∧ kind e = 3) ∧
    (d.boot.phase = .newt → Completes (.wakeAssert true) s fun e =>
      core e ∧ e.boot.phase = .hb0 ∧ kind e = 4 ∧ e.fld CFG_RSTCAUSE CFG_RSTCAUSE.SRC = 1) ∧
    (plain → d.hopper.pendingReset = .engine src → Completes .engineResetApply s fun e =>
      e.rd CFG_RSTCAUSE = BitVec.ofNat 16 (src.toNat * 16 + 5) ∧ e.rd CFG_ERSTCNT = satInc (a.rd CFG_ERSTCNT) ∧
      e.hopper.pendingReset = .none ∧ e.hopper.wdgReset = false ∧ e.inFlight = [] ∧ e.evtPending 5 = true ∧ (∀ i : Fin 32, e.rd (KE_SHARE i) = 0) ∧
      e.engine.started = true ∧ e.debugOpen = false ∧
      (d.cfg.safe = true → ∀ a, 0x4000 ≤ a → cellGet e.engine.data a = cellGet d.engine.data a)) ∧
    (plain → d.hopper.pendingReset = .railCycle src → Completes .railCycleReset s fun e =>
      e.rd CFG_RSTCAUSE = BitVec.ofNat 16 (src.toNat * 16 + 6) ∧ e.rd CFG_RCYCCNT = satInc (a.rd CFG_RCYCCNT) ∧
      e.hopper.pendingReset = .none ∧ e.inFlight = [] ∧ e.engine.started = true ∧
      ∀ r : Rail, d.grantedAccess = none → d.ds = drUp → d.railLive r = true →
        e.ds = drFalling ∧ e.drill.cycle = some (Fin.ofNat 8 d.profileNow) ∧ e.drill.offDue.getLsbD r.val = true)

/-- LATCHED, NEWT and the power-fail path (R339, R340, R345, R346, R347, R405, R409). -/
def Obligations.DeviceStates : Prop :=
  ∀ (s : State) (n : Fin 8) (tag : Tag) (it : Item) (us : Nat),
    let d := s.dev
    let up := d.boot.phase = .up ∧ d.latched = false
    (up → Completes (.thermalShutdown n) s fun e =>
      e.latched = true ∧ e.fld CFG_DSTATE CFG_DSTATE.LCAUSE = 1 ∧ e.rd TH_LASTSHUT = BitVec.ofNat 16 (0x8000 + n.val) ∧
        e.evtPending 236 = true ∧ (∀ x : Fin 16, e.pins.xen[x] = false) ∧ ∀ m, (e.phase m).drive = .mid) ∧
    (up → d.flag CFG_DSTATE CFG_DSTATE.KILL = false → Completes .killAssert s fun e =>
      e.latched = true ∧ e.fld CFG_DSTATE CFG_DSTATE.LCAUSE = 3 ∧ e.flag CFG_DSTATE CFG_DSTATE.KILL = true ∧
        e.evtPending 238 = true) ∧
    (d.latched = true → d.boot.killDue = false → Completes .restartComparatorClear s fun e => e.therm.hot = false ∧
      e.flag TH_STATUS TH_STATUS.NVHOT = false) ∧
    (d.carries tag 0x32 it → d.rn32 SEQ_RAILON = 0 → d.dstate = dsIdle → (∀ j ∈ d.inFlight, j.tag = tag) →
      Completes (.enterNewt tag) s fun e => e.ended tag 0x00 ∧ e.flag CFG_DSTATE CFG_DSTATE.NEWTPEND = true) ∧
    (d.carries tag 0x32 it → d.dstate = dsRun → Completes (.enterNewt tag) s fun e => e.ended tag 0x23) ∧
    (up → d.dstate ≠ dsIdle → exec .newtEntry s = .next s) ∧
    (up → d.dstate = dsIdle → d.flag CFG_DSTATE CFG_DSTATE.NEWTPEND = true → Completes .newtEntry s fun e =>
      e.boot.phase = .newt ∧ e.flag CFG_DSTATE CFG_DSTATE.NEWTPEND = false ∧ e.engine.started = false ∧ e.meas.running = false) ∧
    (up → d.flag CFG_DSTATE CFG_DSTATE.NEWTPEND = true → Completes (.wakeAssert true) s fun e =>
      e.boot.phase = .up ∧ e.flag CFG_DSTATE CFG_DSTATE.WAKE = true ∧ e.flag CFG_DSTATE CFG_DSTATE.NEWTPEND = false ∧
        e.evtPending 4 = true) ∧
    (up → d.bof = false → Completes .brownOut s fun e =>
      e.bof = true ∧ e.flag CFG_DSTATE CFG_DSTATE.FLUSHING = true ∧ e.evtPending 1 = true ∧
        e.rd CFG_BOCNT = satInc (d.rd CFG_BOCNT)) ∧
    (up → d.bof = false → d.flag CFG_DSCFG CFG_DSCFG.PFIEN = true → Completes (.pfiAssert true) s fun e =>
      e.bof = true ∧ e.flag CFG_DSTATE CFG_DSTATE.PFI = true ∧ e.evtPending 1 = true) ∧
    (d.bof = true → d.flag CFG_DSTATE CFG_DSTATE.PFI = false → Completes .powerGood s fun e =>
      e.bof = false ∧ e.boot.vinLow = false ∧ e.evtPending 2 = true) ∧
    (d.flag CFG_DSTATE CFG_DSTATE.FLUSHING = true → d.nvInhibit = false → Completes (.flushDone us) s fun e =>
      e.flag CFG_DSTATE CFG_DSTATE.FLUSHING = false ∧ e.rn CFG_FLUSHLAT = min us 0xFFFF ∧ e.evtPending 3 = true)

/-- VIO and the test access port (R84, R87, R438, R450, R451): without VIO the ports do not answer, and a link's frame ends with
the disable that waits for it; with VIO back, attention stands on the links that still have a bit to report. EXTEST, HIGHZ and CLAMP
are taken only with no rail on and the stage OFF, and are BYPASS otherwise. -/
def Obligations.PinsAndTestAccess : Prop :=
  ∀ (s : State) (k : Link),
    let d := s.dev
    let loads (c : Instr) (i : JtagInstr) : Prop := Completes c s fun e => e.jtag.ir = i ∧
      ({ e with jtag := d.jtag, freeCount := d.freeCount } : Dev) = d
    Completes (.vioFault true) s (fun e => e.pins.vio = false ∧ e.portsAnswer = false ∧ (d.boot.phase ≠ .newt →
      e.flag (VL_STATUS k) VL_STATUS.FRAME = false ∧ e.flag (VL_STATUS k) VL_STATUS.ATTN = false ∧
      (d.flag (VL_STATUS k) VL_STATUS.FRAME = true → (d.link k).disPend = true → e.vlState k = vlDisabled) ∧
      ∀ p : Port, e.flag (HP_STATUS p) HP_STATUS.ATNHOLD = false ∧ e.flag (HP_STATUS p) HP_STATUS.XFER = false)) ∧
    Completes (.vioFault false) s (fun e => e.pins = { d.pins with vio := true } ∧
      d.onlyRegs { e with pins := d.pins } (fun a => ∃ j : Link, a = VL_STATUS j) ∧
      (d.blocksRun = true → d.flag (VL_CTL k) VL_CTL.ATTNEN = true → (d.link k).bits ≠ 0 → d.vlState k ≠ vlDisabled →
        d.flag (VL_STATUS k) VL_STATUS.FRAME = false → e.flag (VL_STATUS k) VL_STATUS.ATTN = true)) ∧
    (d.pins.vio = true → d.coreOn = true →
      loads .jtagTapReset .idcode ∧ loads .jtagIdcode .idcode ∧ loads .jtagSamplePreload .sample ∧
      loads .jtagBypass .bypass ∧
      (d.jtagFree = true → loads .jtagExtest .extest ∧ loads .jtagHighz .highz ∧ loads .jtagClamp .clamp) ∧
      (d.jtagFree = false → loads .jtagExtest .bypass ∧ loads .jtagHighz .bypass ∧ loads .jtagClamp .bypass) ∧
      Completes .jtagIdcode s fun e => e.jtag.dr = 0x12412E6B)

/-! ## Regulation loops -/

/-- Writes of loop and phase registers (R28, R42, R49, R50, R63): what PH_CFG takes and refuses; LP_CFG, of which a running loop
keeps ATTEN and OSR; a coefficient, a slew, a limit and the period; BSWAP; and OVCLR. A rail that is not on is not touched by its
loop's supervision. A limit written while a case of R49 stands raises the setpoint fault also where an earlier write made the
case hold (the model's choice, log entry 145). -/
def Obligations.LoopRegisterWrites : Prop :=
  ∀ (s : State) (acc : Acc) (n : Loop) (m : Phase) (v : BitVec 32),
    let d := s.dev
    let d0 := d.dropHeld acc
    let w : Word := v.setWidth 16
    let old := d.phaseLoop m
    let new := loopOf (w.toNat % 16)
    let off := d.lstate n = lsOff
    let idle := d.railOn (loopRail n) = false ∧ d.rstate (loopRail n) = rsOff
    let polled (a : Nat) : Prop := a = SEQ_RSTATE (loopRail n)
    let badPole := (d.rn (LP_A1 n) = 0 ∨ 0x8000 < d.rn (LP_A1 n)) ∨ (d.rn (LP_A2 n) = 0 ∨ 0x8000 < d.rn (LP_A2 n))
    let writes (a : Nat) (P : Dev → Prop) : Prop :=
      d.mayWrite acc a = true → Completes (.loopConfigWrite acc (BitVec.ofNat 16 a) v) s P
    (d.mayWrite acc (PH_CFG m) = true →
      ((∀ k : Loop, (old = some k ∨ new = some k) → d.lstate k = lsOff) →
        (∀ k : Loop, new = some k → old ≠ new → (d.phasesOf k).length < 8) →
        Completes (.phCfgWrite acc m w) s fun e => e.phaseLoop m = new ∧ e.pstate m = psOff ∧ e.rd (PH_IOUT m) = 0 ∧
          d.keepsRegs e (fun a => a = PH_CFG m ∨ a = PH_STATE m ∨ a = PH_IOUT m ∨ ∃ k : Loop, a = LP_STATUS k)) ∧
      (∀ k : Loop, (old = some k ∨ new = some k) → d.lstate k ≠ lsOff → Completes (.phCfgWrite acc m w) s fun e =>
        e.flag (LP_STICKY k) LP_STICKY.PHCFGREF = true ∧ d0.onlyRegs e (fun a => ∃ j : Loop, a = LP_STICKY j)) ∧
      (∀ k : Loop, new = some k → old ≠ new → 8 ≤ (d.phasesOf k).length → Completes (.phCfgWrite acc m w) s fun e =>
        e.flag (LP_STICKY k) LP_STICKY.PHCFGREF = true ∧ d0.onlyRegs e (fun a => ∃ j : Loop, a = LP_STICKY j))) ∧
    writes (LP_B0 n) (fun e => e.rd32 (LP_B0 n) = v ∧
      (idle → e.loops = d.loops ∧ d.keepsRegs e (fun a => a = LP_B0 n ∨ a = LP_B0 n + 2 ∨ a = LP_STATUS n ∨ polled a))) ∧
    writes (LP_SLEW n) (fun e => e.rd (LP_SLEW n) = w) ∧
    writes (LP_OV n) (fun e => e.rd (LP_OV n) = w ∧
      (¬off → e.limitsBad n = true → e.flag (LP_STICKY n) LP_STICKY.SPFAULT = true ∧ e.evtPending (51 + 4 * n.val) = true)) ∧
    (off → writes (LP_CFG n) fun e => e.rd (LP_CFG n) &&& 0x3FFF = w &&& 0x3FFF ∧ (idle → e.loops = d.loops ∧
      d.keepsRegs e (fun a => a = LP_CFG n ∨ a = LP_STATUS n ∨ polled a))) ∧
    (¬off → writes (LP_CFG n) fun e =>
      e.rd (LP_CFG n) &&& 0x3FFF = w &&& 0x3FE0 ||| d.rd (LP_CFG n) &&& 0x001F ∧
      (w &&& 0x001F ≠ d.rd (LP_CFG n) &&& 0x001F → e.flag (LP_STICKY n) LP_STICKY.RUNREF = true) ∧
      (w &&& 0x001F = d.rd (LP_CFG n) &&& 0x001F → e.rd (LP_STICKY n) = d.rd (LP_STICKY n))) ∧
    (off → writes (LP_PERIOD n) fun e => e.fld (LP_PERIOD n) LP_PERIOD.PERIOD = w.toNat % 4096) ∧
    (¬off → d.fld (LP_PERIOD n) LP_PERIOD.PERIOD ≠ w.toNat % 4096 → writes (LP_PERIOD n) fun e =>
      e.rd (LP_PERIOD n) = d.rd (LP_PERIOD n) ∧ e.flag (LP_STICKY n) LP_STICKY.RUNREF = true) ∧
    (d.mayWrite acc (LP_CTL n) = true →
      ((off ∨ ¬badPole) → Completes (.lpBswap acc n) s fun e =>
        e.loop n = { d.loop n with bank := ⟨d.rd32 (LP_B0 n), d.rd32 (LP_B1 n), d.rd32 (LP_B2 n), d.rd (LP_A1 n), d.rd (LP_A2 n)⟩ } ∧
          (∀ k, k ≠ n → e.loop k = d.loop k) ∧ d.keepsRegs e (fun a => a = LP_STATUS n)) ∧
      (¬off → badPole → Completes (.lpBswap acc n) s fun e =>
        e.flag (LP_STICKY n) LP_STICKY.RUNREF = true ∧ d0.onlyRegs e (fun a => a = LP_STICKY n)) ∧
      (d.lstate n = lsOvLatched → d.rn (LP_VOUT n) < d.rn (LP_UV n) → Completes (.lpOvclr acc n) s fun e =>
        e.lstate n = lsOff ∧ ∀ j ∈ d.phasesOf n, e.pstate j = psOff ∧ (e.phase j).drive = .mid) ∧
      (d.lstate n ≠ lsOvLatched ∨ d.rn (LP_UV n) ≤ d.rn (LP_VOUT n) → idle → Completes (.lpOvclr acc n) s fun e =>
        d0.onlyRegs e polled))

/-- Setpoints of a loop (R47, R48, R291, R292): its owner's write is limited to LP_VMIN and LP_VMAX, with a setpoint fault where
the limit acts; anyone else's is ignored with a setpoint fault; LOOP_SETV writes as its submitter and ends as R292 says. That
LP_VSET holds the clamped value, and that a LOOP_SETV of another than the owner writes and raises nothing, are the model's
choice (log entry 73), as is what ends the item (log entry 74). Tag `tag` names one item in flight, which no drain waits for. -/
def Obligations.LoopSetpoints : Prop :=
  ∀ (s : State) (acc : Acc) (n : Loop) (v : BitVec 16) (tag : Tag) (it : Item),
    let d := s.dev
    let st := d.lstate n
    let lim (x : Nat) : Nat :=
      if x < d.rn (LP_VMIN n) then d.rn (LP_VMIN n) else if d.rn (LP_VMAX n) < x then d.rn (LP_VMAX n) else x
    let spFaulted (e : Dev) : Prop := e.flag (LP_STICKY n) LP_STICKY.SPFAULT = true ∧ e.evtPending (51 + 4 * n.val) = true
    let takes (e : Dev) (x : Nat) : Prop :=
      e.rn (LP_VSET n) = lim x ∧ (e.loop n).target = lim x ∧ (lim x ≠ x → spFaulted e) ∧ ∀ k, k ≠ n → e.loop k = d.loop k
    let owner := d.fld (LP_CFG n) LP_CFG.SPSRC
    let src := if it.source = 3 then 1 else 0
    let x := it.arg 1
    (d.mayWrite acc (LP_VSET n) = true → owner = spsrcOf acc → Completes (.lpVsetWrite acc n v) s fun e => takes e v.toNat ∧
      d.keepsRegs e (fun a => a = LP_VSET n ∨ a = LP_STICKY n ∨ a = LP_STATUS n ∨ (0x400 ≤ a ∧ a < 0x800))) ∧
    (d.mayWrite acc (LP_VSET n) = true → owner ≠ spsrcOf acc → Completes (.lpVsetWrite acc n v) s fun e =>
      spFaulted e ∧ d.keepsRegs e (fun a => a = LP_STICKY n) ∧ e.hush d = d.dropHeld acc) ∧
    (d.carries tag 0x18 it → it.arg 0 = n.val → (∀ i ∈ d.inFlight, i.tag = tag → i = it) →
      tag ∉ d.hopper.drains.map (·.tag) →
      ((owner ≠ src ∨ st = lsOvLatched) → Completes (.loopSetv tag) s fun e =>
        e.ended tag 0x23 ∧ e.rd (LP_VSET n) = d.rd (LP_VSET n) ∧ e.loops = d.loops) ∧
      (owner = src → st = lsOff → Completes (.loopSetv tag) s fun e => e.ended tag 0x01 ∧ takes e x) ∧
      (owner = src → st ≠ lsOff → st ≠ lsOvLatched → (d.loop n).target = lim x →
        d.flag (LP_STATUS n) LP_STATUS.SETTLED = true → Completes (.loopSetv tag) s fun e =>
          e.ended tag (if lim x ≠ x then 0x01 else 0x00) ∧ takes e x) ∧
      (owner = src → st ≠ lsOff → st ≠ lsOvLatched → (d.loop n).target ≠ lim x ∨ d.flag (LP_STATUS n) LP_STATUS.SETTLED = false →
        Completes (.loopSetv tag) s fun e => e.runs tag ∧ takes e x ∧ (e.loop n).setvClamped = decide (lim x ≠ x))) ∧
    (d.isUp = true → d.item tag = some it → it.stage = .running → it.code = 0x18 → Completes (.loopSetvTimeout tag) s fun e =>
      e.ended tag 0x30 ∧ e.loops = d.loops ∧ d.keepsRegs e (fun a => 0x400 ≤ a ∧ a < 0x800))

/-- A running loop (R29, R32 to R34, R37, R40, R43, R50 to R52, R56 to R60, R64, R65): an error sample, a computation of the
compensator, a phase's period with the mode that LSMODE gives it, power-good, shedding and restoring a phase, and the trims.
Choices of the model: the numbers carried and their rounding (log entry 72), what an on-time below LP_TONMIN carries (log entry
115), and the states and counts of a phase (log entry 76). -/
def Obligations.LoopOperation : Prop :=
  ∀ (s : State) (n : Loop) (m : Phase) (x : BitVec 16),
    let d := s.dev
    let st := d.lstate n
    let q := d.loop n
    let att : Nat := 2 ^ d.fld (LP_CFG n) LP_CFG.ATTEN
    let poll := d.rstate (loopRail n) = rsGood → d.goodCond (loopRail n) = true
    let live := d.blocksRun = true ∧ st ≠ lsOff ∧ st ≠ lsOvLatched
    let mine := d.phaseLoop m = some n
    (live → Completes (.ecSample n x) s fun e =>
      let diff : Int := (d.rn (LP_VREF n) / att * att : Nat) - x.toNat
      e.rs (LP_ERR n) = clampInt (-256) 255 (divRound (2 * diff) (5 * att)) ∧
        e.flag (LP_STATUS n) LP_STATUS.INWIN = decide (diff.natAbs ≤ 640 * att)) ∧
    (∀ (e0 : Int) (b : Bank), q.busy = some (e0, b) → Completes (.compensatorRun n x) s fun e =>
      let sat (y : Int) : Int := clampInt (-2147483648) 2147483647 y
      let v := clampInt 0 (min 2147483647 (d.rn (LP_DMAX n) * 65536))
        (sat (sat (sat (q.v + b.b0.toInt * e0) + b.b1.toInt * q.e1) + b.b2.toInt * q.e2))
      let w := sat (q.w + divRound (b.a1.toNat * sat (v - q.w)) 32768)
      let dd := sat (q.d + divRound (b.a2.toNat * sat (w - q.d)) 32768)
      let y := e.loop n
      y.v = v ∧ y.w = w ∧ y.d = dd ∧ y.e1 = e0 ∧ y.e2 = q.e1 ∧ y.busy = q.waiting.map (fun e' => (e', q.bank)) ∧
        y.waiting = none ∧ e.rn (LP_DUTY n) = (clampInt 0 65535 (divRound dd 65536)).toNat ∧ e.rd (LP_CMPLAT n) = x ∧
        (∀ k, k ≠ n → e.loop k = d.loop k) ∧ d.keepsRegs e (fun a => a = LP_DUTY n ∨ a = LP_CMPLAT n)) ∧
    (q.busy = none → exec (.compensatorRun n x) s = .next s) ∧
    (mine → live →
      (d.pstate m = psJoining → q.offPend = false → Completes (.phasePeriodStart m) s fun e =>
        e.pstate m = psActive ∧ e.rd (PH_TRIM m) = 0 ∧ e.rd (LP_REENTER_CNT n) = satInc (d.rd (LP_REENTER_CNT n))) ∧
      (d.pstate m = psLeaving → d.leadPhase n ≠ some m → Completes (.phasePeriodStart m) s fun e =>
        e.pstate m = psFallow ∧ e.rd (PH_IOUT m) = 0 ∧ (e.phase m).drive = .mid) ∧
      (d.pstate m = psActive → d.leadPhase n = some m → q.offPend = true → Completes (.phasePeriodStart m) s fun e =>
        e.lstate n = lsOff ∧ ∀ j ∈ d.phasesOf n, (e.phase j).drive = .mid ∧ e.pstate j = psOff) ∧
      (d.pstate m = psActive → q.offPend = false → Completes (.phasePeriodStart m) s fun e =>
        let duty := clampInt 0 (d.rn (LP_DMAX n)) (q.duty + d.rs (PH_TRIM m))
        let total := duty * (16 * d.fld (LP_PERIOD n) LP_PERIOD.PERIOD) + (d.phase m).rem
        let steps := divRound total 65536
        let diode := if d.leadPhase n = some m ∧ q.ramped = true then d.flag (LP_CFG n) LP_CFG.LSMODE else q.diode
        let y := e.phase m
        if steps ≤ 0 ∨ steps < 16 * d.fld (LP_TONMIN n) LP_TONMIN.TONMIN then
          y.onTime = 0 ∧ y.rem = total ∧ y.drive = (if diode || st = lsSoftStop then .mid else .low)
        else y.onTime = steps.toNat ∧ y.rem = total - steps * 65536 ∧ y.drive = .pulse)) ∧
    (mine → d.blocksRun = true → d.pstate m = psActive ∨ d.pstate m = psLeaving ∨ d.pstate m = psJoining → d.diodeNow n = true →
      exec (.diodeEmulationMid m) s = .next { s with dev := d.modPhase m fun y => { y with drive := .mid } }) ∧
    (mine → d.diodeNow n = false → exec (.diodeEmulationMid m) s = .next s) ∧
    (d.blocksRun = true → q.offPend = false →
      (st = lsSoftStart → Completes (.pgDwellExpiry n) s fun e =>
        e.flag (LP_STATUS n) LP_STATUS.PG = true ∧ e.lstate n = lsRegulating ∧ (e.loop n).up = true ∧
          (e.loop n).uvArmed = true ∧ (d.rn (LP_VREF n) = d.refGoal n → e.flag (LP_STATUS n) LP_STATUS.SETTLED = true)) ∧
      (poll → st = lsRegulating ∨ st = lsTransition → Completes (.pgDwellExpiry n) s fun e =>
        e.lstate n = st ∧ (e.loop n).dwelled = true ∧
          (d.rn (LP_VREF n) = d.refGoal n → e.flag (LP_STATUS n) LP_STATUS.SETTLED = true))) ∧
    (let act := d.activePhases n
     let least := min 8 (max 1 (d.fld (LP_SHED_CFG n) LP_SHED_CFG.MINPH))
     let may := d.blocksRun = true ∧ d.flag (LP_CTL n) LP_CTL.SHEDEN = true ∧ st = lsRegulating
     (may → q.shedSusp = false → d.flag (LP_STATUS n) LP_STATUS.STEPHOLD = false →
       least < act.length → d.rs (LP_IOUT n) < ((act.length : Int) - 1) * d.rs (LP_IPHDN n) →
       d.highestOrder act = some m → Completes (.phaseShed n) s fun e =>
         e.pstate m = psLeaving ∧ e.rd (LP_SHED_CNT n) = satInc (d.rd (LP_SHED_CNT n)) ∧
         d.keepsRegs e (fun a => a = PH_STATE m ∨ a = LP_SHED_CNT n ∨ a = LP_STATUS n)) ∧
     (may → (act.length : Int) * d.rs (LP_IPHUP n) < d.rs (LP_IOUT n) →
       d.lowestOrder ((d.phasesOf n).filter fun j => d.pstate j = psFallow) = some m → Completes (.phaseRestore n) s fun e =>
         e.pstate m = psJoining ∧ e.rd (PH_TRIM m) = 0 ∧ d.onlyRegs e (fun a => a = PH_STATE m ∨ a = PH_TRIM m)) ∧
     (may → act.length ≤ least → exec (.phaseShed n) s = .next s)) ∧
    Completes (.shedHoldExpiry n) s (fun e =>
      e.flag (LP_STATUS n) LP_STATUS.STEPHOLD = false ∧ d.onlyRegs e (fun a => a = LP_STATUS n)) ∧
    (let shares (j : Phase) : Bool := d.flag (PH_CFG j) PH_CFG.SHAREN && d.flag (PH_IMONENT j) PH_IMONENT.VALID
     let ps := (d.activePhases n).filter shares
     mine → d.blocksRun = true → d.pstate m = psActive → shares m = true → Completes (.shareTrimUpdate m) s fun e =>
       let excess := ps.length * d.rs (PH_IOUT m) - (ps.map fun j => d.rs (PH_IOUT j)).sum
       let k : Int := d.fld (LP_SHARE n) LP_SHARE.SHAREK
       let top : Int := 16 * d.fld (LP_SHARE n) LP_SHARE.TRIMMAX
       let band : Int := ps.length * d.rs (LP_SHAREDB n)
       let t := d.rs (PH_TRIM m)
       e.rd (PH_TRIM m) = BitVec.ofInt 16
         (clampInt (-top) top (if band < excess then t - k else if excess < -band then t + k else t)) ∧
         d.onlyRegs e (fun a => a = PH_TRIM m)) ∧
    (d.blocksRun = true → d.flag (LP_CTL n) LP_CTL.TRIMEN = true → st = lsRegulating → q.spoiled = false → 0 < q.errCnt →
      0 < q.senseCnt → (d.rs (LP_ECTRIM n)).natAbs ≤ 512 → Completes (.ecTrimUpdate n) s fun e =>
        let t0 := d.rs (LP_ECTRIM n)
        let t := e.rs (LP_ECTRIM n)
        let sense : Int := q.senseSum * q.errCnt
        let wanted : Int := (d.rn (LP_VREF n) * q.errCnt : Nat) * q.senseCnt
        let lsb : Int := 5 * att
        let scale : Int := q.errCnt * q.senseCnt * lsb
        let diff : Int := 128 * (sense - wanted) + 64 * q.errSum * q.senseCnt * lsb
        (t - t0).natAbs ≤ 6 ∧ t.natAbs ≤ 512 ∧
          (scale ≤ diff - t0 * scale → t0 < t ∨ t = 512) ∧ (scale ≤ t0 * scale - diff → t < t0 ∨ t = -512) ∧
          ((diff - t0 * scale).natAbs ≤ 6 * scale.natAbs → t.natAbs < 512 → 2 * (diff - t * scale).natAbs ≤ scale.natAbs) ∧
          e.flag (LP_STATUS n) LP_STATUS.TRIMSAT = decide (t.natAbs = 512) ∧ (e.loop n).errCnt = 0 ∧ (e.loop n).senseCnt = 0) ∧
    (q.spoiled = true → Completes (.ecTrimUpdate n) s fun e =>
      e.regs = d.regs ∧ (e.loop n).errCnt = 0 ∧ (e.loop n).senseCnt = 0 ∧ (e.loop n).spoiled = false) ∧
    (d.blocksRun = true → Completes (.delayLineCal m x) s fun e =>
      e.rd (PH_DLCAL m) = x ∧ d.onlyRegs e (fun a => a = PH_DLCAL m))

/-- Protection of a loop (R61, R62, R141): the over-voltage latch, the under-voltage report, a phase's over-current cut and
the loop's over-current report. That the phases of a latched loop, which drive low, show PH_STATE OFF is the model's choice (log
entry 76). -/
def Obligations.LoopProtection : Prop :=
  ∀ (s : State) (n : Loop) (m : Phase),
    let d := s.dev
    let q := d.loop n
    let idle := d.railOn (loopRail n) = false ∧ d.rstate (loopRail n) = rsOff
    let persist := d.fld (LP_OCCFG n) LP_OCCFG.PERSIST
    let oc := d.rs (LP_OCTHR n) < d.rs (LP_IOUT n) ∨ (persist ≠ 0 ∧ ∃ j ∈ d.phasesOf n, persist ≤ (d.phase j).cutRun)
    let watched := d.blocksRun = true ∧ d.phasesOf n ≠ [] ∧ d.flag (LP_STATUS n) LP_STATUS.CFGERR = false
    let armed := watched ∧ d.lstate n ≠ lsOvLatched
    (armed → Completes (.loopOvTrip n) s fun e =>
      e.lstate n = lsOvLatched ∧ (∀ j ∈ d.phasesOf n, (e.phase j).drive = .low ∧ e.pstate j = psOff) ∧
        e.flag (LP_STICKY n) LP_STICKY.OV = true ∧ e.flag (LP_STATUS n) LP_STATUS.PG = false ∧
        e.evtPending (48 + 4 * n.val) = true) ∧
    (¬armed → idle → Completes (.loopOvTrip n) s fun e => d.onlyRegs e (fun a => a = SEQ_RSTATE (loopRail n))) ∧
    (d.blocksRun = true → q.uvArmed = true → Completes (.loopUv n) s fun e =>
      e.flag (LP_STICKY n) LP_STICKY.UV = true ∧ e.flag (LP_STATUS n) LP_STATUS.PG = false ∧
        e.evtPending (49 + 4 * n.val) = true) ∧
    (q.uvArmed = false → idle → Completes (.loopUv n) s fun e => d.onlyRegs e (fun a => a = SEQ_RSTATE (loopRail n))) ∧
    (d.phaseLoop m = some n → d.blocksRun = true → (d.phase m).drive = .pulse → (d.phase m).cut = false →
      Completes (.phaseOc m) s fun e =>
        e.phases = d.phases.set m { d.phase m with drive := if d.diodeNow n then .mid else .low, cut := true } ∧
        e.flag (PH_STATE m) PH_STATE.OCNOW = true ∧ e.rd (PH_OCCNT m) = satInc (d.rd (PH_OCCNT m)) ∧
        d.onlyRegs { e with phases := d.phases } (fun a => a = PH_STATE m ∨ a = PH_OCCNT m)) ∧
    ((d.phase m).drive ≠ .pulse → exec (.phaseOc m) s = .next s) ∧
    (watched → oc → Completes (.loopOc n) s fun e =>
      e.flag (LP_STICKY n) LP_STICKY.OC = true ∧ e.evtPending (50 + 4 * n.val) = true) ∧
    (¬(watched ∧ oc) → exec (.loopOc n) s = .next s)

/-! ## Velong links -/

/-- A good command frame with a SEQ that is not stored (R74 to R85, R88): the link is UP and the frame is counted; the answer
is the command's, as R78, R79 and R82 give it, and is stored for replay, but for RESYNC. A stored SEQ is answered from the
store and executes nothing (R80). -/
def Obligations.VelongCommands : Prop :=
  ∀ (s : State) (k : Link) (x : VlFrame), s.dev.listens k = true → s.dev.flag (VL_STATUS k) VL_STATUS.FRAME = false →
    let d := s.dev
    let lim (n : Loop) (v : Nat) : Nat :=
      if v < d.rn (LP_VMIN n) then d.rn (LP_VMIN n) else if d.rn (LP_VMAX n) < v then d.rn (LP_VMAX n) else v
    let bit (i : Fin 4) : Nat := if (d.railLoop k i).isSome then 2 ^ i.val else 0
    let fresh := ∀ rsp : BitVec 32, (d.link k).stored ≠ some (x.seq, rsp)
    let taken (e : Dev) (cmd : Nat) : Prop :=
      e.vlState k = vlUp ∧ (d.vlState k ≠ vlUp → e.evtPending (97 + 4 * k.val) = true) ∧ (e.link k).errs = 0 ∧
        e.rd32 (VL_LASTCMD k) = vlFrame (cmd * 4 + x.rail.val) x.data x.seq ∧ e.rd (VL_CMDCNT k) = d.rd (VL_CMDCNT k) + 1 ∧
        e.rd (VL_CKFREQ k) = x.freq ∧ e.rd (VL_ACKLAT k) = x.lat ∧ e.flag (VL_STATUS k) VL_STATUS.FRAME = x.still ∧
        (cmd ≠ 9 → (e.link k).stored = some (x.seq, e.rd32 (VL_LASTRSP k)))
    let acks (c : Instr) (cmd : Nat) (data : Word) (P : Dev → Prop) : Prop := Completes c s fun e =>
      taken e cmd ∧ e.rd32 (VL_LASTRSP k) = vlFrame (e.ackStatus k x.rail) data x.seq ∧ P e
    let naks (c : Instr) (cmd reason : Nat) : Prop := Completes c s fun e =>
      taken e cmd ∧ e.rd32 (VL_LASTRSP k) = vlFrame (16 + reason) 0 x.seq ∧ e.loops = d.loops
    let same (e : Dev) : Prop := e.loops = d.loops
    (fresh →
      acks (.vlPing k x) 0 (BitVec.ofNat 16 (0x0100 + 16 * (bit 0 + bit 1 + bit 2 + bit 3))) same ∧
      acks (.vlGetstat k x) 5 (d.vlWord k) (fun e => (e.link k).bits = 0 ∧ same e) ∧
      (x.data.toNat ≤ 3 → acks (.vlThrack k x) 6 x.data fun e => e.thrAck k = x.data.toNat ∧ same e) ∧
      (3 < x.data.toNat → naks (.vlThrack k x) 6 5) ∧
      acks (.vlResync k x) 9 0 (fun e => (e.link k).stored = none ∧ same e) ∧
      (∀ i : Fin 6, naks (.vlReservedCmd k i x) (10 + i.val) 1) ∧
      (d.railLoop k x.rail = none → naks (.vlSetv k x) 1 2 ∧ naks (.vlGetv k x) 2 2 ∧ naks (.vlGeti k x) 3 2 ∧
        naks (.vlGetp k x) 4 2 ∧ naks (.vlSetslew k x) 7 2 ∧ naks (.vlGetvset k x) 8 2) ∧
      (∀ n : Loop, d.railLoop k x.rail = some n →
        let mine := d.fld (LP_CFG n) LP_CFG.SPSRC = 2
        let latch := d.lstate n = lsOvLatched
        acks (.vlGetv k x) 2 (d.rd (LP_VOUT n)) same ∧ acks (.vlGeti k x) 3 (d.rd (LP_IOUT n)) same ∧
        acks (.vlGetp k x) 4 (d.rd (LP_POUT n)) same ∧ acks (.vlGetvset k x) 8 (d.rd (LP_VSET n)) same ∧
        (¬mine → naks (.vlSetv k x) 1 3 ∧ naks (.vlSetslew k x) 7 3) ∧
        (mine → latch → naks (.vlSetv k x) 1 4 ∧ naks (.vlSetslew k x) 7 4) ∧
        (mine → ¬latch → acks (.vlSetv k x) 1 (BitVec.ofNat 16 (lim n x.data.toNat)) fun e =>
          e.rn (LP_VSET n) = lim n x.data.toNat ∧ (e.loop n).target = lim n x.data.toNat) ∧
        (mine → ¬latch → d.flag (VL_CFG k) VL_CFG.SLEWEN = false → naks (.vlSetslew k x) 7 6) ∧
        (mine → ¬latch → d.flag (VL_CFG k) VL_CFG.SLEWEN = true → acks (.vlSetslew k x) 7 x.data fun e =>
          e.rd (LP_SLEW n) = x.data ∧ same e))) ∧
    (∀ rsp : BitVec 32, (d.link k).stored = some (x.seq, rsp) → Completes (.vlSetv k x) s fun e => taken e 1 ∧
      e.rd32 (VL_LASTRSP k) = rsp ∧ e.flag (VL_STICKY k) VL_STICKY.DUP = true ∧
        e.rd (VL_DUPCNT k) = satInc (d.rd (VL_DUPCNT k)) ∧ same e)

/-- Bad frames, and the states of a link (R80, R86 to R90, R92, R93): RETRY for a bad CRC, no answer for a framing error or
a stopped clock, loss at ERRLIM and at the keepalive time-out, and enabling and disabling. That an abandoned response counts
neither for ERRLIM nor for PROTOCOL is the model's choice (log entry 79), and so is EN of a link with CFGERR (log entry 78). -/
def Obligations.VelongLinks : Prop :=
  ∀ (s : State) (acc : Acc) (k : Link) (f : BitVec 32) (lat freq : Word) (still : Bool),
    let d := s.dev
    let st := d.vlState k
    let busy := d.flag (VL_STATUS k) VL_STATUS.FRAME
    let q := d.link k
    let limit := d.fld (VL_CFG k) VL_CFG.ERRLIM
    let lost (e : Dev) : Prop := e.vlState k = vlLost ∧ e.flag (VL_STICKY k) VL_STICKY.LOST = true ∧
      e.evtPending (96 + 4 * k.val) = true ∧ e.thrAck k = 0 ∧ (e.link k).stored = none ∧
      ∀ (r : Fin 4) (n : Loop), d.railLoop k r = some n → d.fld (LP_CFG n) LP_CFG.SPSRC = 2 →
        (d.fld (VL_CFG k) VL_CFG.LOSSACT = 2 → e.fld (LP_CFG n) LP_CFG.SPSRC = 1) ∧
        (d.fld (VL_CFG k) VL_CFG.LOSSACT = 0 → e.rd (LP_VSET n) = d.rd (LP_VSET n) ∧ e.fld (LP_CFG n) LP_CFG.SPSRC = 2) ∧
        (d.fld (VL_CFG k) VL_CFG.LOSSACT = 1 → d.rn (LP_VMIN n) ≤ d.rn (VL_SAFEV k r) →
          d.rn (VL_SAFEV k r) ≤ d.rn (LP_VMAX n) → e.rd (LP_VSET n) = d.rd (VL_SAFEV k r))
    let counts (e : Dev) (sticky : Fld) (cnt : Nat) : Prop :=
      e.flag (VL_STICKY k) sticky = true ∧ e.rd cnt = satInc (d.rd cnt) ∧
        (q.protoArmed = true → e.evtPending (98 + 4 * k.val) = true) ∧
        (limit = 0 ∨ q.errs + 1 < limit → e.vlState k = st ∧ (e.link k).errs = q.errs + 1 ∧ (e.link k).stored = q.stored) ∧
        (limit ≠ 0 → limit ≤ q.errs + 1 → st = vlUp → lost e)
    (d.listens k = true → busy = false → frameStart f = true → frameGood f = false →
      Completes (.vlBadCrc k f lat freq still) s fun e => counts e VL_STICKY.CRCERR (VL_CRCCNT k) ∧
        e.rd32 (VL_LASTCMD k) = f ∧ e.rd32 (VL_LASTRSP k) = vlFrame 32 0 (f.extractLsb' 4 4)) ∧
    (d.listens k = true → busy = false →
      Completes (.vlBadStart k) s (fun e => counts e VL_STICKY.FRAMEERR (VL_FRAMECNT k)) ∧
      Completes (.vlFrameClockStop k) s (fun e => counts e VL_STICKY.FRAMEERR (VL_FRAMECNT k))) ∧
    (d.blocksRun = true → busy = true → q.disPend = false → Completes (.vlResponseAbandon k) s fun e =>
      e.flag (VL_STICKY k) VL_STICKY.FRAMEERR = true ∧ e.flag (VL_STATUS k) VL_STATUS.FRAME = false ∧ e.links = d.links ∧
        d.onlyRegs e (fun a => a = VL_STICKY k ∨ a = VL_STATUS k)) ∧
    (d.blocksRun = true → st = vlUp → d.rn (VL_KATO k) ≠ 0 → Completes (.vlKeepaliveTimeout k) s lost) ∧
    (st ≠ vlUp ∨ d.rn (VL_KATO k) = 0 → exec (.vlKeepaliveTimeout k) s = .next s) ∧
    (d.blocksRun = true → d.thrAck k < d.thrReq k → d.rn (VL_THRTO k) ≠ 0 → q.thrRaised = false →
      Completes (.vlThrottleTimeout k) s fun e => e.flag (VL_STICKY k) VL_STICKY.THRTO = true ∧
        e.evtPending (99 + 4 * k.val) = true ∧ e.link k = { q with thrRaised := true } ∧
        d.keepsRegs e (fun a => a = VL_STICKY k)) ∧
    (d.mayWrite acc (VL_CTL k) = true →
      (st = vlDisabled → d.flag (VL_STATUS k) VL_STATUS.CFGERR = false → Completes (.vlLinkEnable acc k) s fun e =>
        e.vlState k = vlWait ∧ e.flag (VL_CTL k) VL_CTL.EN = true ∧ (e.link k).stored = none ∧ (e.link k).errs = 0) ∧
      (d.flag (VL_STATUS k) VL_STATUS.CFGERR = true ∨ st ≠ vlDisabled → Completes (.vlLinkEnable acc k) s fun e =>
        e.vlState k = st ∧ e.flag (VL_CTL k) VL_CTL.EN = true) ∧
      (busy = false → Completes (.vlLinkDisable acc k) s fun e =>
        e.vlState k = vlDisabled ∧ e.flag (VL_CTL k) VL_CTL.EN = false ∧ (st ≠ vlDisabled → e.thrAck k = 0)) ∧
      (busy = true → st ≠ vlDisabled → Completes (.vlLinkDisable acc k) s fun e =>
        e.vlState k = st ∧ (e.link k).disPend = true ∧ e.flag (VL_CTL k) VL_CTL.EN = false ∧
          Completes (.vlDeferredDisable k) { s with dev := e } fun e2 =>
            e2.vlState k = vlDisabled ∧ (e2.link k).disPend = false) ∧
      Completes (.vlCtlResync acc k) s (fun e => e.link k = { q with stored := none } ∧
        (∀ j, j ≠ k → e.link j = d.link j) ∧ ({ e with links := d.links } : Dev) = d.dropHeld acc)) ∧
    (q.disPend = true → busy = true → Completes (.vlDeferredDisable k) s fun e =>
      e.vlState k = vlDisabled ∧ (e.link k).disPend = false ∧ e.flag (VL_STATUS k) VL_STATUS.FRAME = false ∧ e.thrAck k = 0 ∧
        (st = vlUp → (e.link k).stored = none)) ∧
    (q.disPend = false ∨ busy = false → exec (.vlDeferredDisable k) s = .next s)

/-! ## The Budget Guard -/

/-- A Guard frame with a result for each channel that BG_CFG has fitted and enabled and for the bus, none over range (R16 to
R18, R95, R96, R98, R120, R121, R185): each channel's current and power, the bus voltage, the sum, the charger's means and the
FDENn pins; a frame without the bus result is missed. In a switch of CKD_TB there is no frame (R384). The model keeps powers in
1/65,536 of 0.1 W and rounds them to nearest (log entry 38), and counts missed frames as log entry 109 says. -/
def Obligations.GuardFrames : Prop :=
  ∀ (s : State) (x : GuardFrame), s.dev.blocksRun = true → s.dev.guard.started = true →
    let d := s.dev
    let code (r : GuardRes) : Int := r.code.toNat
    let res (c : Chan) : GuardRes := x.fd[c]
    let mv := fitU16 (divRound (code x.bus * d.rn BG_VBUSDIV * 25) 16384)
    let own (i : Fin 3) (y : BitVec 12) : Int := 10 * y.toNat + d.chg.ofs[i]
    let on (c : Chan) : Bool := d.fitted c && !natBit (d.fld BG_CFG BG_CFG.CHDIS) c.val
    let calm := d.clock.switching ≠ some .tb
    let good := calm ∧ (x.bus.got = true ∧ x.bus.ovr = false) ∧ ∀ c : Chan, on c = true → (res c).got = true ∧ (res c).ovr = false
    (good → Completes (.guardFrame x) s fun e =>
      let p (c : Chan) : Int :=
        divQ (code x.bus * d.rn BG_VBUSDIV * (code (res c) - 2048) * 625) (16 * d.rn (BG_RSHUNT c))
      (∀ c : Chan,
        e.channelOn c = on c ∧ e.pins.fdenLow.getLsbD c.val = !on c ∧
        (on c = true →
          e.rd (BG_I c) = BitVec.ofInt 16 (fitS16 (divQ ((code (res c) - 2048) * 15625) (4 * d.rn (BG_RSHUNT c)))) ∧
          e.rd (BG_P c) = BitVec.ofInt 16 (fitU16 (divRound (p c) 65536))) ∧
        (on c = false → e.rd (BG_I c) = 0 ∧ e.rd (BG_P c) = 0)) ∧
      e.rd BG_VBUS = BitVec.ofInt 16 mv ∧
      e.rd BG_PTOT = BitVec.ofInt 16 (fitU16 (divRound ((((List.finRange 4).filter on).map p).sum) 65536)) ∧
      e.rd CHG_IBAT = BitVec.ofInt 16 (fitS16 (divQ ((own 0 x.cs - 20480) * 390625) (1000 * d.rn CHG_RSHUNT))) ∧
      e.rd CHG_VBAT = BitVec.ofInt 16 (fitU16 (divRound (own 1 x.vb * 25 * d.rn CHG_VBATDIV) 163840)) ∧
      e.rd BG_LAT = x.lat ∧ e.rn BG_PMAX = max (d.rn BG_PMAX) (e.rn BG_PTOT) ∧
      e.rd BG_MISSCNT = d.rd BG_MISSCNT ∧ e.guard.missed = 0 ∧ e.bgFlag BG_STATUS.MEASFLT = false) ∧
    (d.clock.switching = some .tb → exec (.guardFrame x) s = .next s) ∧
    (calm → x.bus.got = false → Completes (.guardFrame x) s fun e =>
      e.rd BG_MISSCNT = satInc (d.rd BG_MISSCNT) ∧
      e.guard.missed = (if d.bgState = bgOff ∧ d.bgFlag BG_STATUS.CFGERR = false then 0 else d.guard.missed) + 1)

/-- The Guard's decisions (R98, R106 to R119, R121, R124): the feed signals and the hand-over, the throttle of tier 3 and
its release, the shed request of tier 4, breach, measurement fault, the qualification of the feed, and a register write. Choices
of the model: BG_DEFICIT at 0 from the hand-over on (log entry 113), the levels that LLTHR raised and the credit of a step that
is not yet acknowledged (log entry 83), the frames that an over-run counts (log entry 84), and the hand-over and the start of
the return ramp (log entry 85). -/
def Obligations.GuardDecisions : Prop :=
  ∀ (s : State) (c : Chan) (k : Link) (r : Rail) (acc : Acc) (v : BitVec 32),
    let d := s.dev
    let g := d.guard
    let may := d.tiersAct = true
    let deficit := d.rn BG_DEFICIT
    (d.blocksRun = true → d.channelOn c = true → d.mayHandover = true → d.ploss = false → Completes (.fdokFall c) s fun e =>
      e.bgState = bgHandover ∧ e.rd BG_HOCNT = satInc (d.rd BG_HOCNT) ∧ e.rd BG_CEIL = 0 ∧ e.rd BG_DEFICIT = 0 ∧
        e.fdok c = false ∧ e.mbit BG_FEEDSTAT (8 + c.val) = true ∧ e.flag BG_STICKY BG_STICKY.FEEDLOSS = true ∧
        e.evtPending 112 = true) ∧
    (d.channelOn c = false → Completes (.fdokFall c) s fun e =>
      e.fdok c = false ∧ d.onlyRegs e (fun a => a = BG_FEEDSTAT)) ∧
    Completes (.fdokRise c) s (fun e => e.fdok c = true ∧ d.onlyRegs e (fun a => a = BG_FEEDSTAT ∨ a = BG_STATUS)) ∧
    (d.blocksRun = true → d.bgState = bgHandover → d.busStands = true → Completes .handoverDone s fun e =>
      e.bgState = bgLifeline ∧ e.dstate = dsLifeline ∧ e.evtPending 113 = true) ∧
    (d.bgState ≠ bgHandover ∨ d.busStands = false → exec .handoverDone s = .next s) ∧
    (d.blocksRun = true → d.bgFlag BG_STATUS.QUAL = true →
      (d.bgState = bgLifeline → Completes .qualExpiry s fun e =>
        e.bgState = bgReturn ∧ e.bgFlag BG_STATUS.QUAL = false ∧ e.guard.assist = max 0 (-(65536 * d.rs BG_PSTG))) ∧
      (d.bgState ≠ bgLifeline → Completes .qualExpiry s fun e =>
        e.bgState = bgNormal ∧ e.bgFlag BG_STATUS.QUAL = false ∧ e.evtPending 114 = true)) ∧
    (may → d.flag BG_CTL BG_CTL.T3EN = true → 0 < deficit → d.stepSettled = true →
      (d.t3Links.find? fun j => !d.linkSpent j) = some k → Completes .throttleStep s fun e =>
        e.thrReq k = d.stepLevel k ∧ d.thrReq k < e.thrReq k ∧ e.bgFlag BG_STATUS.T3 = true ∧ e.guard.raised.head? = some k ∧
        (d.bgFlag BG_STATUS.T3 = false → e.rd BG_T3CNT = satInc (d.rd BG_T3CNT) ∧ e.evtPending 118 = true) ∧
        ∀ j, j ≠ k → e.thrReq j = d.thrReq j) ∧
    (deficit = 0 → exec .throttleStep s = .next s ∧ exec .shedRequest s = .next s ∧ exec .shedRequestRepeat s = .next s) ∧
    (let given := d.thrw k (d.credit k) - d.thrw k (min (d.credit k) (d.thrReq k - 1))
     ∀ rest : List Link, g.raised = k :: rest → (∀ j ∈ g.raised, d.credit j ≠ 0) →
      (may → d.bgFlag BG_STATUS.T2 = false → given + d.rn BG_T3HYS < d.rn BG_CEIL → Completes .throttleRelease s fun e =>
        e.thrReq k = d.thrReq k - 1 ∧ ∀ j, j ≠ k → e.thrReq j = d.thrReq j) ∧
      (d.rn BG_CEIL ≤ given + d.rn BG_T3HYS → exec .throttleRelease s = .next s)) ∧
    (may → d.bgFlag BG_STATUS.T2 = false → k ∈ g.raised → d.credit k = 0 →
      Completes .throttleRelease s fun e => e.thrReq k = 0 ∧ k ∉ e.guard.raised) ∧
    (d.bgFlag BG_STATUS.T2 = true → exec .throttleRelease s = .next s) ∧
    (may → d.flag BG_CTL BG_CTL.T4EN = true → 0 < deficit → d.t3Spent = true → d.bgFlag BG_STATUS.T4 = false →
      Completes .shedRequest s fun e => e.bgFlag BG_STATUS.T4 = true ∧ e.rd BG_T4CNT = satInc (d.rd BG_T4CNT) ∧
        e.flag BG_STICKY BG_STICKY.T4 = true ∧ e.evtPending 120 = true ∧
        d.keepsRegs e (fun a => a = BG_STATUS ∨ a = BG_T4CNT ∨ a = BG_STICKY) ∧ e.hush d = d) ∧
    (may → d.bgFlag BG_STATUS.T4 = true → 0 < deficit → Completes .shedRequestRepeat s fun e =>
      e.evtPending 120 = true ∧ d.keepsRegs e (fun _ => False) ∧ e.hush d = d) ∧
    (d.blocksRun = true → d.bgFlag BG_STATUS.T4 = true → d.bgFlag BG_STATUS.MEASFLT = false → deficit = 0 →
      Completes .shedClear s fun e => e.bgFlag BG_STATUS.T4 = false ∧ e.evtPending 121 = true ∧
        d.keepsRegs e (fun a => a = BG_STATUS) ∧ e.hush d = d) ∧
    (d.blocksRun = true → d.bgState ≠ bgOff → 0 < g.overRun → g.breached = false → Completes .breach s fun e =>
      e.rd BG_OVERCNT = satAdd (d.rd BG_OVERCNT) g.overRun ∧ e.guard = { g with breached := true } ∧
        e.flag BG_STICKY BG_STICKY.BREACH = true ∧ e.evtPending 123 = true ∧
        d.keepsRegs e (fun a => a = BG_OVERCNT ∨ a = BG_STICKY)) ∧
    (d.blocksRun = true → d.bgState ≠ bgOff → d.bgFlag BG_STATUS.MEASFLT = false →
      max 1 (d.fld BG_MISSLIM BG_MISSLIM.VALUE) ≤ g.missed → Completes .measFault s fun e =>
        e.bgFlag BG_STATUS.MEASFLT = true ∧ e.rd BG_CEIL = 0 ∧ e.flag BG_STICKY BG_STICKY.MEASFLT = true ∧
          e.evtPending 124 = true) ∧
    (∀ rest : List Rail, d.drill.shedList = r :: rest → d.blocksRun = true → d.railOn r = true → d.rstate r ≠ rsShed →
      d.rstate r ≠ rsFailed → d.fallenCond r = false → Completes .llshedStep s fun e =>
        e.drill.shedList = rest ∧ e.rstate r = rsShed ∧ e.evtPending 137 = true) ∧
    (d.mayWrite acc BG_BUDGET = true → Completes (.bgConfigWrite acc (BitVec.ofNat 16 BG_BUDGET) v) s fun e =>
      e.rd BG_BUDGET = v.setWidth 16 ∧ (d.blocksRun = true → e.bgFlag BG_STATUS.CFGERR = e.guardCfgBad)) ∧
    (d.mayWrite acc BG_RESERVE = true → Completes (.bgConfigWrite acc (BitVec.ofNat 16 BG_RESERVE) v) s fun e =>
      e.rd32 BG_RESERVE = v ∧ (d.blocksRun = true → e.bgFlag BG_STATUS.CFGERR = e.guardCfgBad))

/-! ## Measurement -/

/-- Triggers (R158, R162, R163, R177): a trigger below the divider only counts (log entry 25); one beyond it starts a run, or is an
overrun while entries of the last run have not been sampled; a sequence that is not enabled takes none. A trigger timer reads its
offset and period at its tick, and one row may bring several ticks (log entry 126). -/
def Obligations.MeasurementTriggers : Prop :=
  ∀ (s : State) (acc : Acc) (q : SeqNo) (n : Fin 16) (m : Phase) (edge : Fin 3) (frac : Fin 800) (v : BitVec 16),
    let d := s.dev
    let d0 := d.dropHeld acc
    let x := d.mseq q
    let below := x.div < d.fld (MS_SEQDIV q) MS_SEQDIV.DIV
    let on := d.measOn = true ∧ d.seqEnabled q.val = true
    let counts (c : Instr) : Prop := Completes c s fun e => (e.mseq q).div = x.div + 1
    let chosen (src sel : Nat) : Prop := d.fld (MS_SEQTRIG q) MS_SEQTRIG.SRC = src ∧ d.fld (MS_SEQTRIG q) MS_SEQTRIG.SEL = sel
    let alone (c : Instr) (b : Dev) : Prop :=
      (on → below → exec c s = .next { s with dev := b.modSeq q fun y => { y with div := y.div + 1 } }) ∧
      (on → ¬below → (b.mseq q).toSample ≠ [] → Completes c s fun e => (e.mseq q).div = 0 ∧
        e.rd MS_OVRCNT = satInc (d.rd MS_OVRCNT) ∧ e.flag MS_STICKY MS_STICKY.OVRUN = true ∧
        b.keepsRegs e (fun a => a = MS_OVRCNT ∨ a = MS_STICKY)) ∧
      (on → ¬below → (b.mseq q).toSample = [] → Completes c s fun e => (e.mseq q).div = 0 ∧
        (e.mseq q).toStore.getLast? = some (x.runs + 1, (b.seqEntries q.val).filter fun j => !b.entrySkipped j) ∧
        e.rd MS_OVRCNT = d.rd MS_OVRCNT) ∧
      (d.seqEnabled q.val = false → exec c s = .next { s with dev := b })
    (∀ u, on → below → d.mbit MS_TTCTL n.val = true → d.timerDue n = some u → chosen 1 n.val →
      Completes (.triggerTimerTick n) s fun e => (e.mseq q).div = x.div + 1 ∧
        (e.meas.timers[n]).map (·.last) = (d.meas.timers[n]).map fun _ => some u) ∧
    (d.mbit MS_TTCTL n.val = false ∨ d.timerDue n = none → exec (.triggerTimerTick n) s = .next s) ∧
    (on → below → (d.phase m).onTime ≠ 0 → chosen 2 m.val → d.fld (MS_SEQTRIG q) MS_SEQTRIG.EDGE = edge.val →
      counts (.pwmEdgeTrigger m edge frac)) ∧
    ((d.phase m).onTime = 0 → exec (.pwmEdgeTrigger m edge frac) s = .next s) ∧
    (d.mayWrite acc MS_SWTRIG = true → v.getLsbD 15 = true → v.toNat % 64 = q.val → q.val < 56 → d.measOn = true →
      alone (.msSwtrig acc v) (d0.startSeats d.tickStart)) ∧
    (d.mayWrite acc MS_SWTRIG = true → (v.getLsbD 15 = false ∨ 56 ≤ v.toNat % 64) →
      exec (.msSwtrig acc v) s = .next { s with dev := d0 }) ∧
    (∀ i : Fin 4, q.val = 57 + i.val → d.measOn = true → alone (.reservedSequenceTrigger i) (d.startSeats d.tickStart))

/-- Conversions and results (R150, R160, R161, R164 to R170): a sample of an average, with the next one 0.9 us later; the stored
result with its flags and every reader's NEW, and a late result, which is discarded; a report that names another entry, another
instant or one that the conversion has not reached is none. `b` is what the seats have sampled by that instant. An urgent request,
after what was due before it (`w`), takes the conversion under way off its seat, to resume with RESAMP; one that finds an urgent
conversion there waits behind those before it, in arrival order (log entry 125); and the read that clears the reader's own NEW. -/
def Obligations.MeasurementResults : Prop :=
  ∀ (s : State) (a : Adc) (en : Entry) (code : BitVec 12) (ovr : Bool) (t : BitVec 64) (c : Conv) (acc : Acc) (k : Fin 24)
    (p : Port) (f : Furrow),
    let d := s.dev
    let i := t.toNat
    let b := d.startSeats (min (i + 1) d.tickEnd)
    let mean := divRound ((c.sum : Int) + code.toNat) (c.taken + 1)
    let urg (P : Dev → Prop) : Prop := Completes (.msUrgent acc en) s P
    let u := (d.dropHeld acc).storeWord (accKey acc.ownSet MS_URGENT) MS_URGENT (BitVec.ofNat 16 (0x8000 + en.val))
    let w := u.startSeats (d.tickStart + 1)
    let src : Fin 20 := Fin.ofNat 20 acc.index.val
    let fresh : Conv := { w.newConv en.val k d.tickStart with urgent := true, src := src, req := d.meas.reqs[src] + 1 }
    let at_ (x : Conv) : Conv := { x with instant := max x.instant (w.seat k).freeAt }
    (d.measOn = true → b.conv a = some c →
      (c.entry = en.val → c.instant = i → i + 720 ≤ d.tickEnd →
        (1 < c.left → exec (.conversionDone a en code ovr t) s = .next { s with dev := b.setConv a (some { c with
          left := c.left - 1, taken := c.taken + 1, sum := c.sum + code.toNat, ovr := c.ovr || ovr, instant := i + 720 }) }) ∧
        (c.left ≤ 1 → d.newest en.val i = true → Completes (.conversionDone a en code ovr t) s fun e =>
          e.rn (MS_RESULT en) % 4096 = mean.toNat % 4096 ∧ (e.rd (MS_RESULT en)).getLsbD 13 = (c.ovr || ovr) ∧
            (e.rd (MS_RESULT en)).getLsbD 14 = c.resamp ∧ e.rd (newKey en) = 15) ∧
        (c.left ≤ 1 → d.newest en.val i = false → Completes (.conversionDone a en code ovr t) s fun e =>
          e.flag MS_STICKY MS_STICKY.LATE = true ∧ e.rd MS_LATE_CNT = satInc (d.rd MS_LATE_CNT) ∧
            e.rd (MS_RESULT en) = d.rd (MS_RESULT en) ∧ e.rd (newKey en) = d.rd (newKey en))) ∧
      (c.entry ≠ en.val ∨ c.instant ≠ i ∨ d.tickEnd < i + 720 → exec (.conversionDone a en code ovr t) s =
        .next { s with dev := b })) ∧
    (d.measOn = true → b.conv a = none → exec (.conversionDone a en code ovr t) s = .next { s with dev := b }) ∧
    (d.measOn = false → exec (.conversionDone a en code ovr t) s = .next s) ∧
    (d.mayWrite acc MS_URGENT = true → d.latched = false →
      (u.urgentSeat en.val = none → urg fun e => e.flag MS_STICKY MS_STICKY.URGREF = true ∧ e.meas = d.meas) ∧
      (u.urgentSeat en.val = some k → 4 ≤ d.urgentHeld k → urg fun e =>
        e.flag MS_STICKY MS_STICKY.URGOVF = true ∧ e.meas = d.meas) ∧
      (u.urgentSeat en.val = some k → d.urgentHeld k < 4 → d.meas.running = true → u.seatAdc k = some a →
        (w.conv a = none → (w.seat k).urgents = [] → urg fun e =>
          e.conv a = some (at_ fresh) ∧ (∀ y, y ≠ a → e.conv y = w.conv y) ∧ e.seat k = w.seat k) ∧
        (w.conv a = some c → c.urgent = false → (w.seat k).urgents = [] → urg fun e =>
          e.conv a = some (at_ fresh) ∧ (∀ y, y ≠ a → e.conv y = w.conv y) ∧
            e.seat k = { w.seat k with resume := some { c with resamp := true } }) ∧
        (w.conv a = some c → c.urgent = true → urg fun e =>
          e.meas.convs = w.meas.convs ∧ e.seat k = { w.seat k with urgents := (w.seat k).urgents ++ [fresh] }))) ∧
    (d.portsAnswer = true → Completes (.msResultRead (.port p) en) s fun e =>
      (e.port p).tx = bytesLE 2 (d.resultWord p.val en.val).toNat ∧ (e.rd (newKey en)).getLsbD p.val = false ∧
        (∀ i : Nat, i < 4 → i ≠ p.val → (e.rd (newKey en)).getLsbD i = (d.rd (newKey en)).getLsbD i) ∧
        d.keepsRegs e (fun b => b = newKey en)) ∧
    Completes (.msResultRead (.furrow f) en) s (fun e =>
      (e.rd (newKey en)).getLsbD 3 = false ∧ d.onlyRegs e (fun b => b = newKey en))

/-- Sequences, plan and converters (R156, R157, R162, R172 to R175, R177): enabling and disabling a sequence, a write in the
plan window, the trigger timers, a rotation step of a ring and the end of the start-up pass. The model's readings: a plan write is
refused only for an entry in use of an enabled sequence (log entry 92), and a ring with few converters rotates as long as one stands
in its bay (log entry 94). -/
def Obligations.MeasurementPlan : Prop :=
  ∀ (s : State) (acc : Acc) (q : SeqNo) (v addr : BitVec 16) (ring : Fin 2) (b : Adc) (failed : BitVec 24),
    let d := s.dev
    let d0 := d.dropHeld acc
    let bad := trigInvalid (v ||| 0x8000#16) = true ∨ ∃ e ∈ d.seqEntries q.val, d.entryInvalid e = true
    let en := d.planEntry acc addr.toNat
    let off := addr.toNat % 16 / 2 * 2
    let held := off < 6 ∧ d.flag (MS_PECTL en) MS_PECTL.VALID = true ∧ d.seqEnabled (d.entrySeq en) = true
    let k := d.fld MS_STATUS (ringNext ring)
    (d.mayWrite acc (MS_SEQTRIG q) = true →
      (56 ≤ q.val → exec (.msSeqEnable acc q v) s = .next { s with dev := d0 } ∧
        exec (.msSeqDisable acc q v) s = .next { s with dev := d0 }) ∧
      (q.val < 56 → ¬bad → Completes (.msSeqEnable acc q v) s fun e => e.seqEnabled q.val = true ∧ (e.mseq q).div = 0 ∧
        (∀ j, j ≠ q → e.mseq j = d.mseq j) ∧ d.keepsRegs e (fun a => a = MS_SEQTRIG q)) ∧
      (q.val < 56 → bad → Completes (.msSeqEnable acc q v) s fun e => e.seqEnabled q.val = false ∧
        e.flag MS_STICKY MS_STICKY.SEQREF = true ∧
        d.keepsRegs e (fun a => a = MS_SEQTRIG q ∨ a = MS_SLIPCNT ∨ a = MS_STICKY)) ∧
      (q.val < 56 → Completes (.msSeqDisable acc q v) s fun e => e.seqEnabled q.val = false ∧
        e.mseq q = { d.mseq q with div := 0, toSample := [], toStore := [] } ∧
        (∀ i, ∀ x ∈ (e.seat i).due, d.entrySeq x.1 ≠ q.val) ∧ e.meas.convs = (d0.startSeats d.tickStart).meas.convs ∧
        d.keepsRegs e (fun a => a = MS_SEQTRIG q ∨ a = MS_SLIPCNT ∨ a = MS_STICKY))) ∧
    (d.mayWrite acc addr.toNat = true → 0x4800 ≤ addr.toNat → addr.toNat < 0x5000 →
      (en < 64 → exec (.msPlanWrite acc addr v) s = .next { s with dev := d0 }) ∧
      (64 ≤ en → held → Completes (.msPlanWrite acc addr v) s fun e =>
        e.flag MS_STICKY MS_STICKY.PLANWREF = true ∧ d0.onlyRegs e (fun a => a = MS_STICKY)) ∧
      (64 ≤ en → ¬held → Completes (.msPlanWrite acc addr v) s fun e =>
        (off = 4 → e.rd (MS_PEDLY en) = v) ∧ d0.onlyRegs e (fun a => a = MS_PECTL en + off))) ∧
    (d.mayWrite acc MS_TTCTL = true → Completes (.msTtctlWrite acc v) s fun e =>
      e.rd MS_TTCTL = v ∧ d0.onlyRegs { e with meas := d.meas } (fun a => a = MS_TTCTL) ∧
        ({ e.meas with timers := d.meas.timers } : MeasSt) = d.meas ∧
        ∀ n : Fin 16, e.meas.timers[n] = if v.getLsbD n.val = false then none
          else if d.mbit MS_TTCTL n.val = true then d.meas.timers[n] else some { start := d.now, last := none }) ∧
    (d.measOn = true → d.flag MS_STATUS (ringStop ring) = false → d.bayAdc ring = some b →
      Completes (.rotationStep ring false) s (fun e =>
        e.retired b = true ∧ e.flag MS_STATUS (ringStop ring) = true ∧ e.flag MS_STICKY MS_STICKY.CALFAIL = true ∧
          e.flag MS_STATUS MS_STATUS.DEGRADED = true ∧ e.evtPending 191 = true) ∧
      (∀ l : Adc, k < 11 → d.seatAdc (Fin.ofNat 24 (ringSeat ring k)) = some l → l ≠ b →
        Completes (.rotationStep ring true) s fun e =>
          e.flag (MS_ADCSTAT b) MS_ADCSTAT.INBAY = false ∧
          ((d.startSeats d.tickStart).conv l = none → e.flag (MS_ADCSTAT l) MS_ADCSTAT.INBAY = true) ∧
          ((d.startSeats d.tickStart).conv l ≠ none → l ∈ e.meas.leaving) ∧
          4 * e.fld (MS_ADCSTAT b) MS_ADCSTAT.QUAD + e.fld (MS_ADCSTAT b) MS_ADCSTAT.SEAT = ringSeat ring k ∧
          e.fld MS_STATUS (ringNext ring) = (k + 1) % 11 ∧ e.rd MS_MIGCNT = d.rd MS_MIGCNT + 1)) ∧
    (d.measOn = false → exec (.rotationStep ring true) s = .next s) ∧
    (d.meas.running = false → d.tbRuns = true → Completes (.startupPassDone failed) s fun e =>
      e.meas.running = true ∧ e.flag MS_STATUS MS_STATUS.SETTLING = true ∧
        (∀ i : Fin 5, e.seqEnabled (56 + i.val) = true) ∧ (failed ≠ 0 → e.evtPending 191 = true) ∧
        (failed.getLsbD b.val = true → e.retired b = true)) ∧
    (d.meas.running = true → exec (.startupPassDone failed) s = .next s)

/-! ## Battery stage and charger -/

/-- The battery stage (R185, R188 to R194, R201 to R204, R209, R210): the samples of a period and the current reference, the
connection of the pack, the hardware limits, HOLD, a register write, FLTCLR, the sense checks and a lamp's pattern. The
controllers are those of log entry 127, the clamps at use and the 2 A of CONNECT those of log entry 98, and a stage configuration
that is held those of log entry 99: choices of the model. -/
def Obligations.ChargerStage : Prop :=
  ∀ (s : State) (acc : Acc) (cs vb vs : BitVec 12) (v : BitVec 32) (hold : Bool) (l : Fin 2),
    let d := s.dev
    let m := d.cmode
    let own (i : Fin 3) (x : BitVec 12) : Int := 10 * x.toNat + d.chg.ofs[i]
    let faults (e : Dev) (cause : Nat) : Prop := e.cphase = cpFault ∧ e.rn CHG_FAULT = cause ∧
      e.rd CHG_FLTCNT = satInc (d.rd CHG_FLTCNT) ∧ e.cmode = cmOff ∧ e.flag CHG_STATUS CHG_STATUS.BATFET = false ∧
      e.rd CHG_ILIM = 0 ∧ e.evtPending 200 = true
    (d.blocksRun = true →
      Completes (.stagePeriodStart cs vb vs) s (fun e =>
        let dis := e.cmode = cmAssist ∨ e.cmode = cmBusreg
        e.chg.iNow = fitS16 (divQ ((own 0 cs - 20480) * 390625) (1000 * d.rn CHG_RSHUNT)) ∧
        e.chg.vNow = (fitU16 (divRound (own 1 vb * 25 * d.rn CHG_VBATDIV) 163840)).toNat ∧
        e.rd CHG_IBAT = d.rd CHG_IBAT ∧ e.rd CHG_VBAT = d.rd CHG_VBAT ∧ e.chg.cut = false ∧
        e.chg.sets.ichg = d.rd CHG_ICHG ∧ e.chg.sets.vcv = d.rd CHG_VCV ∧
        (e.cmode = cmCharge → e.chg.region = regionOf e.chg.vbus e.chg.vNow ∧ e.chg.iref ≤ e.rn CHG_ILIM ∧
          (e.flag CHG_STATUS CHG_STATUS.VLIM = false → e.chg.iref = e.rn CHG_ILIM) ∧
          (∀ c, e.chem = some c → c.pulse ≤ e.chg.vNow → e.flag CHG_STATUS CHG_STATUS.VLIM = true)) ∧
        (dis → e.chg.region = regionOf e.chg.vNow e.chg.vbus ∧
          (e.chg.vNow ≤ e.vempty → e.flag CHG_STATUS CHG_STATUS.CLAMP = true)) ∧
        (¬dis → e.flag CHG_STATUS CHG_STATUS.CLAMP = false)) ∧
      (m = cmConnect → d.packUsable = true → Completes .packConnected s fun e =>
        e.flag CHG_STATUS CHG_STATUS.BATFET = true ∧ (e.cmode = cmReady ∨ e.cmode = cmCharge) ∧
          (d.flag CHG_STATUS CHG_STATUS.BATFET = false → e.evtPending 201 = true)) ∧
      (m = cmConnect → d.cphase ≠ cpFault → Completes .connectTimeout s fun e => faults e cfConnect) ∧
      (m = cmCharge → 8 ≤ d.chg.idleRun → Completes .chargeToReady s fun e =>
        e.cmode = cmReady ∧ e.chg.legs = Vector.replicate 4 .mid ∧ e.chg.iref = 0) ∧
      (d.chg.idleRun < 8 → exec .chargeToReady s = .next s) ∧
      Completes (.chgSenseCheck cs vb vs) s (fun e =>
        (∀ i : Fin 3, e.chg.ofs[i] = d.chg.ofs[i] + max (-1) (min 1
          (10 * (d.rn (MS_RESULT (![5, 6, 4] i)) % 4096 : Nat) - own i (![cs, vb, vs] i)))) ∧
        e = { d with chg := { d.chg with ofs := e.chg.ofs } }) ∧
      Completes .senseMismatch s (fun e => e.flag CHG_STICKY CHG_STICKY.SENSE = true ∧ e.evtPending 206 = true ∧
        d.keepsRegs e (fun a => a = CHG_STICKY) ∧ e.hush d = d) ∧
      (d.chem.isSome = true → d.cphase ≠ cpFault → Completes .packOvTrip s fun e =>
        faults e cfPackOv ∧ e.evtPending 205 = true) ∧
      (m = cmAssist ∨ m = cmBusreg → Completes .packUvTrip s fun e =>
        e.flag CHG_STICKY CHG_STICKY.UVTRIP = true ∧ e.chg.uvBlock = true ∧ e.cmode ≠ cmAssist ∧ e.cmode ≠ cmBusreg) ∧
      (d.chg.cut = false →
        (d.chg.ocRun + 1 < 8 → Completes .stageOc s fun e => e.flag CHG_STICKY CHG_STICKY.OCP = true ∧
          e.rd CHG_OCPCNT = satInc (d.rd CHG_OCPCNT) ∧ e.chg.cut = true ∧ e.chg.ocRun = d.chg.ocRun + 1 ∧
          e.chg.legs = Vector.replicate 4 .mid ∧ d.onlyRegs { e with chg := d.chg } (fun a => a = CHG_STICKY ∨ a = CHG_OCPCNT)) ∧
        (8 ≤ d.chg.ocRun + 1 → d.cphase ≠ cpFault → Completes .stageOc s fun e =>
          faults e cfStageOc ∧ e.evtPending 204 = true))) ∧
    (m ≠ cmConnect → exec .packConnected s = .next s ∧ exec .connectTimeout s = .next s) ∧
    (m ≠ cmAssist → m ≠ cmBusreg → exec .packUvTrip s = .next s) ∧
    (d.mayWrite acc CHG_CTL = true →
      Completes (.chgHold acc hold) s (fun e => e.flag CHG_CTL CHG_CTL.HOLD = hold ∧
        e.flag CHG_CTL CHG_CTL.CHGEN = d.flag CHG_CTL CHG_CTL.CHGEN ∧
        (hold = true → d.blocksRun = true → e.rd CHG_ILIM = 0)) ∧
      (d.blocksRun = true → d.cphase = cpFault → d.rn CHG_FAULT = cfConfig ∨ d.rn CHG_FAULT = cfNoStage →
        Completes (.chgFltclr acc) s fun e => e.flag CHG_STICKY CHG_STICKY.FLTREF = true ∧
          (d.dropHeld acc).onlyRegs e (fun a => a = CHG_STICKY)) ∧
      (d.blocksRun = true → d.cphase = cpFault → d.rn CHG_FAULT ∈ [cfSafety, cfSafetyThermal, cfPreTimeout, cfStageOc, cfConnect] →
        d.phen ≠ 0 → d.flag CHG_STATUS CHG_STATUS.CFGERR = false → (∀ c, d.chem = some c → d.rn CHG_VBAT ≤ c.ov) →
        Completes (.chgFltclr acc) s fun e => e.cphase ≠ cpFault) ∧
      (d.cphase ≠ cpFault → exec (.chgFltclr acc) s = .next { s with dev := d.dropHeld acc })) ∧
    (d.mayWrite acc CHG_ICHG = true → Completes (.chgConfigWrite acc (BitVec.ofNat 16 CHG_ICHG) v) s fun e =>
      e.rd CHG_ICHG = v.setWidth 16 ∧ (d.blocksRun = true → e.flag CHG_STATUS CHG_STATUS.CFGERR = e.chgCfgBad)) ∧
    (d.mayWrite acc CHG_QRECH = true → Completes (.chgConfigWrite acc (BitVec.ofNat 16 CHG_QRECH) v) s fun e =>
      e.rd32 CHG_QRECH = v) ∧
    (d.boot.phase = .newt → d.flag CLK_STATUS CLK_STATUS.REFOK = false → exec (.lampPatternStep l) s = .next s) ∧
    (d.boot.phase ≠ .newt ∨ d.flag CLK_STATUS CLK_STATUS.REFOK = true → Completes (.lampPatternStep l) s fun e =>
      let w := d.lampWanted l
      let x := d.lamps[l]
      let at_ := if w = (x.mode, x.n) then x.phase else 0
      e = { d with lamps := d.lamps.set l { mode := w.1, n := w.2, phase := (at_ + 1) % lampLen w.1 w.2 } })

/-- The pulse charge cycle (R195 to R200, R206) while the stage and the pack allow charging: the qualifying rest, precharge, the
rests and pulses of PULSE-CC and PULSE-CV, the taper, the safety timers, and a new cycle. Choices of the model: the events and
holds of a cycle (log entry 99), the units of charge and taper (log entry 100), and that a safety expiry waits for a rest of
PULSE-CV that ends in the same second (log entry 150). -/
def Obligations.ChargeCycle : Prop :=
  ∀ (s : State) (acc : Acc) (v imax iavg : BitVec 16) (c : Chem), s.dev.blocksRun = true → s.dev.packUsable = true →
    s.dev.mayCharge = true → s.dev.stageAble = true → s.dev.chem = some c → s.dev.tempHold = false →
    let d := s.dev
    let x := v.toNat
    let ph := d.cphase
    let calm := imax.toNat ≤ 5
    let cc (e : Dev) : Prop := e.cphase = cpCC ∧ e.rn CHG_IPULSE = d.iccNow ∧ e.chg.inRest = false
    let cv (e : Dev) : Prop := e.cphase = cpCV ∧ e.evtPending 194 = true ∧ e.chg.inRest = false ∧
      e.rn CHG_IPULSE = (divRound (d.iccNow * d.cvstep) 32768).toNat
    let fault (e : Dev) (cause : Nat) : Prop := e.cphase = cpFault ∧ e.rn CHG_FAULT = cause ∧ e.evtPending 200 = true
    let again (e : Dev) (evt : Nat) : Prop := e.cphase = cpQualify ∧ e.evtPending evt = true ∧ e.rn32 CHG_TEQ = 0 ∧
      e.rn32 CHG_TWALL = 0 ∧ e.chg.taperCycles = 0 ∧ e.chg.preBegun = false
    let rest := d.pulsing = true ∧ d.chg.inRest = true ∧ calm ∧ d.chg.assisted = false
    let ends := rest ∧ d.chg.expiry = false
    let i := d.rn CHG_IPULSE
    let hys := d.chg.sets.cvhys.toNat
    (ph = cpQualify → d.flag CHG_STATUS CHG_STATUS.PRE = false → calm →
      (c.ov ≤ x → Completes (.qualifyRestEnd v imax) s fun e => fault e cfPackOv) ∧
      (x < c.ov → x < c.dead → Completes (.qualifyRestEnd v imax) s fun e => fault e cfDead) ∧
      (x < c.ov → c.dead ≤ x → x < c.pre → Completes (.qualifyRestEnd v imax) s fun e =>
        e.cphase = cpQualify ∧ e.flag CHG_STATUS CHG_STATUS.PRE = true ∧ e.rn CHG_IPULSE = d.ipre ∧ e.chg.preBegun = true) ∧
      (x < c.ov → c.dead ≤ x → c.pre ≤ x → x < d.vcv → Completes (.qualifyRestEnd v imax) s fun e =>
        cc e ∧ e.evtPending 193 = true) ∧
      (x < c.ov → c.dead ≤ x → c.pre ≤ x → d.vcv ≤ x → Completes (.qualifyRestEnd v imax) s cv)) ∧
    (¬calm → exec (.qualifyRestEnd v imax) s = .next s) ∧
    (ph = cpQualify → d.flag CHG_STATUS CHG_STATUS.PRE = true → Completes .prechargeDone s fun e =>
      e.cphase = cpQualify ∧ e.flag CHG_STATUS CHG_STATUS.PRE = false) ∧
    (ph = cpQualify → d.chg.preBegun = true → d.tpre * 1000000 ≤ d.chg.preUs → Completes .preTimeout s fun e =>
      fault e cfPreTimeout) ∧
    (d.chg.preUs < d.tpre * 1000000 → exec .preTimeout s = .next s) ∧
    (d.pulsing = true → d.chg.inRest = false → Completes .pulseEnd s fun e =>
      e.cphase = ph ∧ e.chg.inRest = true ∧ e.rd CHG_ILIM = 0) ∧
    (ends → ph = cpCC → Completes (.restEnd v imax iavg) s fun e => e.rn CHG_VREST = x ∧
      (d.vcv ≤ x → cv e) ∧ (x < d.vcv → cc e)) ∧
    (rest → ph = cpCV → d.chg.cycleBad = true → d.tapered = false → d.chg.expiry = true →
      Completes (.restEnd v imax iavg) s fun e => e.chg.expiry = false ∧
        (fault e cfSafety ∨ fault e cfSafetyThermal ∨ e.cphase = cpSuspend)) ∧
    (ends → ph = cpCV → d.chg.cycleBad = true → d.tapered = false → Completes (.restEnd v imax iavg) s fun e =>
      e.rn CHG_VREST = x ∧ e.cphase = cpCV ∧ e.chg.inRest = false ∧
      (d.vcv ≤ x → e.rd CHG_IPULSE = BitVec.ofNat 16 (max (divRound (i * d.cvstep) 32768).toNat
        (d.chg.sets.itaper.toNat / 4))) ∧
      (x + hys < d.vcv → e.rd CHG_IPULSE = BitVec.ofNat 16 (min (divRound (i * 32768) d.cvstep).toNat d.iccNow)) ∧
      (x < d.vcv → d.vcv ≤ x + hys → e.rn CHG_IPULSE = i)) ∧
    (rest → ph = cpCV → d.chg.cycleBad = false → iavg.toInt ≤ d.chg.sets.itaper.toNat → d.vcv ≤ x + hys →
      1 ≤ d.chg.taperCycles → 10 * d.ttaper ≤ d.chg.taper + 10 * d.chg.pulseLen + d.trest →
      Completes (.restEnd v imax iavg) s fun e => e.cphase = cpDone ∧ e.rd CHG_CYCCNT = satInc (d.rd CHG_CYCCNT) ∧
        e.evtPending 195 = true ∧ e.evtPending 214 = true ∧ e.rd32 GG_QCNT = e.rd32 GG_QLEARN ∧
        e.flag GG_STATUS GG_STATUS.ANCHORED = true ∧ e.fld GG_STATUS GG_STATUS.TRAV = 1) ∧
    (¬calm → d.pulsing = true → d.chg.inRest = true → d.chg.expiry = false → Completes (.restEnd v imax iavg) s fun e =>
      e.regs = d.regs ∧ e.chg.inRest = true ∧ ({ e with chg := d.chg } : Dev) = d) ∧
    (d.safetyDue = false → exec .safetyExpiry s = .next s) ∧
    (d.pulsing = true → d.safetyDue = true → d.taperMayCome = true →
      exec .safetyExpiry s = .next { s with dev := { d with chg := { d.chg with expiry := true } } }) ∧
    (d.pulsing = true → d.safetyDue = true → d.taperMayCome = false →
      (d.flag CHG_STATUS CHG_STATUS.THLIM = false → Completes .safetyExpiry s fun e => fault e cfSafety) ∧
      (d.flag CHG_STATUS CHG_STATUS.THLIM = true → d.fld CHG_STATUS CHG_STATUS.SUSPCNT < 2 → Completes .safetyExpiry s fun e =>
        e.cphase = cpSuspend ∧ e.fld CHG_STATUS CHG_STATUS.SUSPCNT = d.fld CHG_STATUS CHG_STATUS.SUSPCNT + 1 ∧
          e.flag CHG_STICKY CHG_STICKY.SUSPEND = true ∧ e.evtPending 198 = true) ∧
      (d.flag CHG_STATUS CHG_STATUS.THLIM = true → 2 ≤ d.fld CHG_STATUS CHG_STATUS.SUSPCNT → Completes .safetyExpiry s fun e =>
        fault e cfSafetyThermal)) ∧
    (ph = cpSuspend → d.thermalCeiling = d.icc → Completes .chargeResume s fun e => again e 199 ∧
      e.fld CHG_STATUS CHG_STATUS.SUSPCNT = d.fld CHG_STATUS CHG_STATUS.SUSPCNT) ∧
    (ph = cpDone → d.rn CHG_VBAT < d.chg.sets.vrech.toNat ∧ (d.rs CHG_IBAT).natAbs ≤ 5 ∨ d.rn32 CHG_QRECH * 100000 < d.chg.drawn →
      Completes .recharge s fun e => again e 196 ∧ e.fld CHG_STATUS CHG_STATUS.SUSPCNT = 0) ∧
    (d.mayWrite acc CHG_CTL = true → ph ≠ cpFault → Completes (.chgRestart acc) s fun e => again e 192 ∧
      e.fld CHG_STATUS CHG_STATUS.SUSPCNT = 0)

/-! ## Gauge, pack and thermal -/

/-- The gauge (R212, R216 to R224, R242): the low rate, a record to the older copy or one that waits, UNANCHOR, and the
EMPTY anchor with the candidate it may learn. What a record holds, and how many an anchor writes, is the model's choice (log
entry 102). A record waits while blocks that come before it are pending (R354). -/
def Obligations.Gauge : Prop :=
  ∀ (s : State) (acc : Acc) (u w : Nat), s.dev.gaugeOn = true →
    let d := s.dev
    let span := w - u
    let old := if d.gauge.copies[0].seq.toNat ≤ d.gauge.copies[1].seq.toNat then d.gauge.copies[0] else d.gauge.copies[1]
    let new := if d.gauge.copies[0].seq.toNat ≤ d.gauge.copies[1].seq.toNat then d.gauge.copies[1] else d.gauge.copies[0]
    let refused := d.nvInhibit = true ∨ d.bof = true ∨ d.hopper.closes ≠ [] ∨ d.recorder.flushing = true ∨
      d.cfg.roleItems ≠ [] ∨ ∃ j ∈ d.cfg.checks, j.rank < 2
    let written (e : Dev) : Prop := e.cfg.nvWrites = d.cfg.nvWrites + 1 ∧ e.gauge.recPend = false ∧ e.regs = d.regs ∧
      new ∈ e.gauge.copies.toList ∧ ∃ r ∈ e.gauge.copies.toList, r.valid = true ∧ r.seq = new.seq + 1 ∧
        (d.pack.restored = none → r.qcnt = d.rd32 GG_QCNT ∧ r.cycles = d.rd PK_CYCLES)
    let cand : Int := (d.rn32 GG_QLEARN : Int) - d.rs32 GG_QCNT
    let trav := d.fld GG_STATUS GG_STATUS.TRAV
    let rated : Int := d.ratedMc
    (d.gauge.lastAt = some w → d.gauge.quietAt = some u →
      (d.cmode = cmOff ∨ d.cmode = cmReady → 800000000 ≤ span → Completes .gaugeLowRate s fun e =>
        e.flag GG_STATUS GG_STATUS.LOWRATE = true ∧ d.onlyRegs e (fun a => a = GG_STATUS)) ∧
      (span < 800000000 → exec .gaugeLowRate s = .next s)) ∧
    (d.gauge.quietAt = none → exec .gaugeLowRate s = .next s) ∧
    (d.cmode ≠ cmOff → d.cmode ≠ cmReady → exec .gaugeLowRate s = .next s) ∧
    (¬refused → Completes .gaugeCheckpoint s written) ∧
    (refused → exec .gaugeCheckpoint s = .next { s with dev := d.modGauge fun g => { g with recPend := true } }) ∧
    (d.mayWrite acc GG_CTL = true → exec (.ggCkpt acc) s = exec .gaugeCheckpoint { s with dev := d.dropHeld acc } ∧
      (¬refused → Completes (.ggCkpt acc) s written) ∧
      Completes (.ggUnanchor acc) s fun e => e.flag GG_STATUS GG_STATUS.ANCHORED = false ∧
        e.fld GG_STATUS GG_STATUS.TRAV = 0 ∧ e.rn32 GG_QREM = 0 ∧ e.rn GG_SOC = 0 ∧ e.rd32 GG_QCNT = d.rd32 GG_QCNT) ∧
    (d.gauge.window = true → d.gauge.taperAt = some u → d.gauge.lastAt = some w → 8000000 * max 1 (d.rn GG_ETIME) ≤ span →
      Completes .emptyAnchor s fun e =>
      e.rn32 GG_QCNT = 0 ∧ e.flag GG_STATUS GG_STATUS.ANCHORED = true ∧ e.fld GG_STATUS GG_STATUS.TRAV = 2 ∧
        e.flag GG_STICKY GG_STICKY.EMPTY = true ∧ e.evtPending 215 = true ∧ e.gauge.window = false ∧
        (trav ≠ 1 → e.rd32 GG_QLEARN = d.rd32 GG_QLEARN) ∧
        (trav = 1 → (2 * cand < rated ∨ 6 * rated < 5 * cand) → e.rd32 GG_QLEARN = d.rd32 GG_QLEARN ∧
          e.flag GG_STICKY GG_STICKY.LREJECT = true ∧ e.evtPending 217 = true) ∧
        (trav = 1 → rated ≤ 2 * cand → 5 * cand ≤ 6 * rated →
          32768 * (cand - d.rn32 GG_QLEARN).natAbs ≤ d.rn GG_LSTEP * d.rn32 GG_QLEARN →
          e.rd32 GG_QLEARN = BitVec.ofInt 32 cand ∧ e.rd GG_LEARNCNT = satInc (d.rd GG_LEARNCNT) ∧ e.evtPending 216 = true)) ∧
    (d.gauge.window = false ∨ d.gauge.taperAt = none → exec .emptyAnchor s = .next s)

/-- The pack and its tag (R225 to R237): presence, which needs PACKNTC and the four pages, removal, and a RESCAN, which reads
the pages again; the mailbox, a poll, and the responses to a PING, to a READ of a page and to a mailbox read, as half-bits on
the line; and an attempt that fails. `starts` says how a transaction begins, or waits for the one under way. XSTAT FFh after a
mailbox read with a bad page CRC is the model's choice (log entry 104), as are the type and the pages of PACK_PRESENT (log entry
129). -/
def Obligations.PackAndTag : Prop :=
  ∀ (s : State) (acc : Acc) (type lo hi : Byte) (page : Fin 16) (pg : Fin 4) (data : List Byte), s.dev.gaugeOn = true →
    let d := s.dev
    let d0 := d.dropHeld acc
    let known (e : Dev) (p0 : List Byte) : Prop := ∀ i : Fin 4, e.rd (PK_SERIAL i) = BitVec.ofNat 16 (pageVal p0 (2 * i.val) 2)
    let serialOf (p0 : List Byte) : BitVec 64 := BitVec.ofNat 64 (pageVal p0 0 8)
    let seen := d.packPresent = false ∧ d.ntcHeld false 100000 = true ∧ d.pack.pages.length = 64
    let gone := d.packPresent = true ∧ d.ntcHeld true 10000 = true
    let p0 := pageOf d.pack.pages 0
    let usable := type = 0x31 ∧ (chemOf (pageVal p0 8 1)).isSome = true ∧ pageVal p0 10 2 ≠ 0
    let starts (e : Dev) (o : TagOp) : Prop :=
      (d.pack.busy = false → d.pack.queue = [] → e.pack.queue = [o] ∧ e.pack.busy = true ∧ e.pack.attempts = 0 ∧
        e.pack.request = o.request ∧ e.rd PK_TXCNT = d.rd PK_TXCNT + 1) ∧
      (d.pack.busy = true → e.pack.queue = d.pack.queue ++ [o] ∧ e.pack.request = d.pack.request ∧
        e.rd PK_TXCNT = d.rd PK_TXCNT)
    let good (bs : List Byte) (P : Dev → Prop) : Prop := Completes (.tagResponse (tagLine (0 :: bs ++ [crc8 (0 :: bs)]))) s P
    (seen → pageGood p0 = true → Completes (.packPresent type d.pack.pages) s fun e =>
      e.packPresent = true ∧ known e p0 ∧ e.rd PK_RATEDCAP = BitVec.ofNat 16 (pageVal p0 10 2) ∧
        (e.packUsable = true ↔ usable) ∧ (usable → e.rn CHG_CHEM = pageVal p0 8 1) ∧ (¬usable → e.evtPending 213 = true) ∧
        (d.pack.restored = none → d.pack.known = true → serialOf p0 = d.packSerial → e.evtPending 208 = true) ∧
        (d.pack.restored = none → d.pack.known = false ∨ serialOf p0 ≠ d.packSerial → e.evtPending 210 = true) ∧
        (∀ r, d.pack.restored = some r →
          (r.serial = serialOf p0 → r.serial ≠ 0 → e.rd32 GG_QCNT = r.qcnt ∧ e.rd32 GG_QLEARN = r.qlearn) ∧
          (r.serial ≠ serialOf p0 ∨ r.serial = 0 → e.evtPending 210 = true))) ∧
    (¬seen ∨ data ≠ d.pack.pages → exec (.packPresent type data) s = .next s) ∧
    (gone → Completes .packRemoval s fun e =>
      e.packPresent = false ∧ e.packUsable = false ∧ e.rn CHG_CHEM = 0 ∧ e.flag PK_STICKY PK_STICKY.REMOVED = true ∧
        e.evtPending 209 = true ∧ e.fld GG_STATUS GG_STATUS.TRAV = 0 ∧ e.pack.queue = [] ∧ e.cmode = cmOff) ∧
    (¬gone → exec .packRemoval s = .next s) ∧
    (d.mayWrite acc PK_CTL = true → d.packPresent = true → d.pack.queue = [] ∨ d.pack.queue = [.ping] → lo.getLsbD 0 = true →
      Completes (.pkRescan acc lo hi) s fun e => (lo.getLsbD 1 = false → starts e (.read 0 true)) ∧
        (lo.getLsbD 1 = true → e.rd PK_ERRCNT = 0) ∧ e.pack.pages = [] ∧ e.fld PK_STATUS PK_STATUS.TAG = 3) ∧
    (d.mayWrite acc PK_XCTL = true →
      (d.flag PK_XCTL PK_XCTL.BUSY = false → Completes (.pkMailboxRead acc page) s fun e =>
        e.flag PK_XCTL PK_XCTL.BUSY = true ∧ starts e (.boxRead page)) ∧
      (d.flag PK_XCTL PK_XCTL.BUSY = false → page.val < 8 → Completes (.pkMailboxWrite acc page) s fun e =>
        e.rn PK_XSTAT = 0xFE ∧ e.flag PK_XCTL PK_XCTL.BUSY = false ∧ d0.onlyRegs e (fun a => a = PK_XCTL ∨ a = PK_XSTAT)) ∧
      (d.flag PK_XCTL PK_XCTL.BUSY = false → 8 ≤ page.val → Completes (.pkMailboxWrite acc page) s fun e =>
        e.flag PK_XCTL PK_XCTL.BUSY = true ∧ starts e (.boxWrite page d.boxBytes)) ∧
      (d.flag PK_XCTL PK_XCTL.BUSY = true → Completes (.pkMailboxRead acc page) s fun e =>
        e.pack = d.pack ∧ d0.onlyRegs e (fun a => a = PK_XCTL))) ∧
    (d.packPresent = true → Completes .tagPoll s fun e => starts e .ping) ∧
    (d.pack.busy = true →
      (d.pack.queue = [.ping] → d.packPresent = true → d.pack.type = 0x31 → type ≠ 0x31 → good [type] fun e =>
        e.packUsable = false ∧ e.pack.type = type ∧ e.evtPending 213 = true ∧ e.pack.queue = []) ∧
      (d.pack.queue = [.read pg true] → data.length = 16 →
        (pg.val < 3 → good data fun e => e.pack.pages = d.pack.pages ++ data ∧ e.pack.queue = [.read (pg + 1) true] ∧
          e.pack.request = (TagOp.read (pg + 1) true).request) ∧
        (pg = 3 → d.packPresent = true → pageGood (pageOf (d.pack.pages ++ data) 0) = true → good data fun e =>
          e.packPresent = true ∧ known e (pageOf (d.pack.pages ++ data) 0) ∧
            (serialOf (pageOf (d.pack.pages ++ data) 0) ≠ d.packSerial →
              e.evtPending 209 = true ∧ e.flag PK_STICKY PK_STICKY.REMOVED = true))) ∧
      (d.pack.queue = [.boxRead page] → data.length = 16 → good data fun e =>
        (∀ i : Fin 8, e.rn (PK_XBUF i) = pageVal data (2 * i.val) 2) ∧ e.flag PK_XCTL PK_XCTL.BUSY = false ∧
          e.rn PK_XSTAT = (if pageGood data then 0 else 0xFF) ∧ e.pack.queue = []) ∧
      (∀ (o : TagOp) (rest : List TagOp), d.pack.queue = o :: rest →
        (d.pack.attempts < 2 → Completes .tagAttemptTimeout s fun e =>
          e.pack = { d.pack with good := false, attempts := d.pack.attempts + 1, wake := true, lineAt := some d.now } ∧
            e.rd PK_ERRCNT = satInc (d.rd PK_ERRCNT) ∧ e.flag PK_STICKY PK_STICKY.TAGERR = true ∧
            (d.pack.good = true → e.evtPending 212 = true)) ∧
        (2 ≤ d.pack.attempts → d.packPresent = false ∨ d.pack.fails + 1 < max 1 (d.fld PK_CFG PK_CFG.FAILLIM) →
          Completes .tagAttemptTimeout s fun e => e.pack.fails = d.pack.fails + 1 ∧
            e.flag PK_STICKY PK_STICKY.TAGLOST = true ∧ (d.ntc ≠ ntcOpen → e.evtPending 211 = true) ∧
            e.pack.queue.tail = rest.tail ∧ (rest = [] → e.pack.queue = [] ∧ e.pack.busy = false)) ∧
        (2 ≤ d.pack.attempts → d.packPresent = true → max 1 (d.fld PK_CFG PK_CFG.FAILLIM) ≤ d.pack.fails + 1 →
          Completes .tagAttemptTimeout s fun e => e.packPresent = false ∧ e.evtPending 209 = true))) ∧
    (d.pack.busy = false ∨ d.pack.queue = [] → exec .tagAttemptTimeout s = .next s)

/-- The temperature rates (R403): every 100 ms the mean of a sensor's readings is kept, and the difference of means 1 s or
10 s apart sets its rate state above the limit and clears it below half of it. -/
def Obligations.ThermalRates : Prop :=
  ∀ (s : State) (i : Fin 15), s.dev.meas.running = true → s.dev.latched = false →
    Completes .thermalRateUpdate s fun e =>
      let x := s.dev.therm.sensors[i]
      let y := e.therm.sensors[i]
      let lim1 := s.dev.rs (TH_RATE1 i)
      let lim10 := s.dev.rs (TH_RATE10 i)
      y.sum = 0 ∧ y.cnt = 0 ∧ y.broken = false ∧
        (x.cnt = 0 ∨ x.broken = true → y.means = []) ∧
        (0 < x.cnt → x.broken = false → y.means = (divRound x.sum x.cnt :: x.means).take 101 ∧
          (0 < lim1 → ∀ b, y.means[10]? = some b →
            (lim1 < divRound x.sum x.cnt - b → y.fast = true) ∧
            (2 * (divRound x.sum x.cnt - b) ≤ lim1 → y.fast = false)) ∧
          (0 < lim10 → ∀ b, y.means[100]? = some b →
            (10 * lim10 < divRound x.sum x.cnt - b → y.slow = true) ∧
            (2 * (divRound x.sum x.cnt - b) ≤ 10 * lim10 → y.slow = false))) ∧
        (y.fast = true → x.fast = false → s.dev.flag (TH_SCFG i) TH_SCFG.RATE1EV = true → e.evtPending 230 = true) ∧
        (y.slow = true → x.slow = false → s.dev.flag (TH_SCFG i) TH_SCFG.RATE10EV = true → e.evtPending 231 = true) ∧
        (lim1 = 0 → y.fast = false) ∧ (lim10 = 0 → y.slow = false) ∧
        e.mbit TH_RATEMASK i = (y.fast || y.slow)
end

