-- ==== Sys2Proof/Laws/Copies.lean ====
section
/-!
SUPPORT. The two copies that NV holds of a block: what a write of one, and a write that fails, leave of both.
-/

namespace Sys2Proof.Machine

variable {α : Type} (cs : Vector (NvCopy α) 2)

theorem writeCopy_other (v : α) {i : Fin 2} (hi : i ≠ olderCopy cs) : (writeCopy cs v)[i] = cs[i] := by
  simp only [writeCopy, Fin.getElem_fin]
  exact Vector.getElem_set_ne _ _ fun h => hi (Fin.ext h.symm)

@[simp] theorem writeCopy_older (v : α) : (writeCopy cs v)[olderCopy cs] =
    { good := true, seq := BitVec.ofNat 32 (max cs[0].seq.toNat cs[1].seq.toNat + 1), val := v } := by
  simp [writeCopy]

/-- A good copy with the newest number is not the one that the next write replaces. -/
theorem olderCopy_set (i : Fin 2) (x : NvCopy α) (hx : x.good = true) (h : max cs[0].seq.toNat cs[1].seq.toNat < x.seq.toNat) :
    olderCopy (cs.set i x) = 1 - i := by
  obtain rfl | rfl : i = 0 ∨ i = 1 := by omega
  · have : ¬x.seq.toNat ≤ cs[1].seq.toNat := by omega
    simp [olderCopy, hx, this]
  · have : cs[0].seq.toNat ≤ x.seq.toNat := by omega
    simp [olderCopy, hx, this]

/-- What has been written governs a start, as long as the sequence number has not wrapped. -/
theorem governs_writeCopy (v dflt : α) (h : max cs[0].seq.toNat cs[1].seq.toNat + 1 < 2 ^ 32) :
    governs (writeCopy cs v) dflt = v := by
  have hn : olderCopy (writeCopy cs v) = 1 - olderCopy cs :=
    olderCopy_set cs (olderCopy cs) _ rfl (by simp only [BitVec.toNat_ofNat]; omega)
  have hi : 1 - olderCopy (writeCopy cs v) = olderCopy cs := by rw [hn]; omega
  simp only [governs, hi, writeCopy_older, if_true]

/-- Where a write has failed both read-backs, the other copy governs, if its check holds. -/
theorem governs_spoilCopy (i : Fin 2) (dflt : α) (h : (cs[1 - i]).good = true) :
    governs (spoilCopy cs i) dflt = (cs[1 - i]).val := by
  obtain rfl | rfl : i = 0 ∨ i = 1 := by omega
  · replace h : cs[1].good = true := h
    simp [governs, spoilCopy, olderCopy, h]
  · replace h : cs[0].good = true := h
    simp [governs, spoilCopy, olderCopy, h]

end Sys2Proof.Machine
end

