-- ==== Sys2Proof/Laws/Regs.lean ====
section
/-!
SUPPORT. The laws of the register file and of the byte memories: what a read finds after a write, and that every write keeps
the canonical form.
-/

namespace Sys2Proof.Machine

open Sys2Proof Sys2Proof.R

/-! ## Sparse maps -/

theorem lookupKey_eraseKey_same {α : Type} (k : Nat) (m : List (Nat × α)) : lookupKey k (eraseKey k m) = none := by
  induction m with
  | nil => rfl
  | cons c t ih =>
    obtain ⟨j, w⟩ := c
    by_cases h : j = k
    · simpa [eraseKey, h] using ih
    · simpa [eraseKey, h, lookupKey] using ih

theorem lookupKey_eraseKey_ne {α : Type} {k j : Nat} (h : j ≠ k) (m : List (Nat × α)) :
    lookupKey j (eraseKey k m) = lookupKey j m := by
  induction m with
  | nil => rfl
  | cons c t ih =>
    obtain ⟨i, w⟩ := c
    by_cases hi : i = k
    · have : i ≠ j := fun e => h (e ▸ hi)
      simpa [eraseKey, hi, lookupKey, Ne.symm h] using ih
    · by_cases hj : i = j
      · simp [eraseKey, hj, lookupKey, h]
      · simpa [eraseKey, hi, hj, lookupKey] using ih

theorem lookupKey_insertKey {α : Type} (k j : Nat) (v : α) (m : List (Nat × α)) (hk : lookupKey k m = none) :
    lookupKey j (insertKey k v m) = if j = k then some v else lookupKey j m := by
  induction m with
  | nil => by_cases h : k = j <;> simp [insertKey, lookupKey, h, eq_comm]
  | cons c t ih =>
    obtain ⟨i, w⟩ := c
    have hik : i ≠ k := fun e => by simp [lookupKey, e] at hk
    have ht : lookupKey k t = none := by simpa [lookupKey, hik] using hk
    by_cases hlt : k < i
    · rw [insertKey, if_pos hlt, lookupKey]
      by_cases h : k = j
      · rw [if_pos h, if_pos h.symm]
      · rw [if_neg h, if_neg (Ne.symm h)]
    · rw [insertKey, if_neg hlt, lookupKey]
      by_cases hij : i = j
      · have : j ≠ k := fun e => hik (hij.trans e)
        rw [if_pos hij, if_neg this, lookupKey, if_pos hij]
      · rw [if_neg hij, ih ht, lookupKey, if_neg hij]

theorem mem_insertKey {α : Type} {k : Nat} {v : α} {c : Nat × α} {m : List (Nat × α)} (h : c ∈ insertKey k v m) :
    c = (k, v) ∨ c ∈ m := by
  induction m with
  | nil => simpa [insertKey] using h
  | cons a t ih =>
    obtain ⟨j, w⟩ := a
    by_cases hlt : k < j
    · simpa [insertKey, hlt] using h
    · simp only [insertKey, hlt, ↓reduceIte, List.mem_cons] at h ⊢
      rcases h with h | h
      · exact .inr (.inl h)
      · rcases ih h with h | h
        · exact .inl h
        · exact .inr (.inr h)

/-- Strictly rising keys stay so. -/
theorem insertKey_sorted {α : Type} (k : Nat) (v : α) (m : List (Nat × α)) (hs : m.Pairwise (fun x y => x.1 < y.1))
    (hk : lookupKey k m = none) : (insertKey k v m).Pairwise (fun x y => x.1 < y.1) := by
  induction m with
  | nil => simp [insertKey]
  | cons c t ih =>
    obtain ⟨i, w⟩ := c
    have hik : i ≠ k := fun e => by simp [lookupKey, e] at hk
    have ht : lookupKey k t = none := by simpa [lookupKey, hik] using hk
    rw [List.pairwise_cons] at hs
    by_cases hlt : k < i
    · simp only [insertKey, hlt, ↓reduceIte, List.pairwise_cons, List.mem_cons]
      refine ⟨?_, hs.1, hs.2⟩
      rintro c (rfl | hc)
      · exact hlt
      · exact lt_trans hlt (hs.1 c hc)
    · simp only [insertKey, hlt, ↓reduceIte, List.pairwise_cons]
      refine ⟨fun c hc => ?_, ih hs.2 ht⟩
      rcases mem_insertKey hc with rfl | hc
      · show i < k
        omega
      · exact hs.1 c hc

theorem eraseKey_sorted {α : Type} (k : Nat) (m : List (Nat × α)) (hs : m.Pairwise (fun x y => x.1 < y.1)) :
    (eraseKey k m).Pairwise (fun x y => x.1 < y.1) := hs.filter _

/-! ## The register file -/

theorem regGet_regSet (m : List (Nat × Word)) (a b : Nat) (v : Word) :
    regGet (regSet m a v) b = if b = a then v else regGet m b := by
  unfold regGet regSet
  by_cases hv : v = resetWord a
  · by_cases h : b = a
    · subst h
      rw [if_pos hv, lookupKey_eraseKey_same]
      simp [hv]
    · rw [if_pos hv, lookupKey_eraseKey_ne h]
      simp [h]
  · rw [if_neg hv, lookupKey_insertKey _ _ _ _ (lookupKey_eraseKey_same a m)]
    by_cases h : b = a
    · simp [h]
    · simp [h, lookupKey_eraseKey_ne h]

/-- A write keeps the canonical form of the register file. -/
theorem regSet_wf (m : List (Nat × Word)) (a : Nat) (v : Word) (h : regWf m = true) : regWf (regSet m a v) = true := by
  simp only [regWf, decide_eq_true_eq] at h ⊢
  unfold regSet
  by_cases hv : v = resetWord a
  · rw [if_pos hv]
    exact ⟨eraseKey_sorted _ _ h.1, fun c hc => h.2 c (List.mem_of_mem_filter hc)⟩
  · rw [if_neg hv]
    refine ⟨insertKey_sorted _ _ _ (eraseKey_sorted _ _ h.1) (lookupKey_eraseKey_same a m), fun c hc => ?_⟩
    rcases mem_insertKey hc with rfl | hc
    · exact hv
    · exact h.2 c (List.mem_of_mem_filter hc)

@[simp] theorem Dev.rd_wr_same (d : Dev) (a : Nat) (v : Word) : (d.wr a v).rd a = v := by
  simp [Dev.rd, Dev.wr, regGet_regSet]

theorem Dev.rd_wr_ne (d : Dev) {a b : Nat} (v : Word) (h : b ≠ a) : (d.wr a v).rd b = d.rd b := by
  simp [Dev.rd, Dev.wr, regGet_regSet, h]

theorem Dev.rd_wr (d : Dev) (a b : Nat) (v : Word) : (d.wr a v).rd b = if b = a then v else d.rd b := by
  simp [Dev.rd, Dev.wr, regGet_regSet]

@[simp] theorem Dev.rd_wn_same (d : Dev) (a v : Nat) : (d.wn a v).rd a = BitVec.ofNat 16 v := Dev.rd_wr_same d a _
theorem Dev.rd_wn_ne (d : Dev) {a b : Nat} (v : Nat) (h : b ≠ a) : (d.wn a v).rd b = d.rd b := Dev.rd_wr_ne d _ h

theorem Dev.rd_wr32_ne (d : Dev) {a b : Nat} (v : BitVec 32) (h : b ≠ a) (h2 : b ≠ a + 2) :
    (d.wr32 a v).rd b = d.rd b := by
  rw [Dev.wr32, Dev.rd_wr_ne _ _ h2, Dev.rd_wr_ne _ _ h]

@[simp] theorem Dev.rd32_wr32_same (d : Dev) (a : Nat) (v : BitVec 32) : (d.wr32 a v).rd32 a = v := by
  rw [Dev.rd32, Dev.wr32, Dev.rd_wr_same, Dev.rd_wr_ne _ _ (by omega), Dev.rd_wr_same]
  apply BitVec.eq_of_getLsbD_eq
  intro i hi
  rw [BitVec.getLsbD_append]
  by_cases h : i < 16
  · simp [h]
  · simp [h, show i - 16 < 16 by omega, show 16 + (i - 16) = i by omega]

theorem Dev.rd32_wr_ne (d : Dev) {a b : Nat} (v : Word) (h : b ≠ a) (h2 : b + 2 ≠ a) : (d.wr a v).rd32 b = d.rd32 b := by
  rw [Dev.rd32, Dev.rd32, Dev.rd_wr_ne _ _ h2, Dev.rd_wr_ne _ _ h]

/-! ## Fields -/

theorem Fld.of_lt (f : Fld) (w : Nat) : f.of w < 2 ^ f.w := Nat.mod_lt _ (by positivity)

/-- What a field reads after it has been put. -/
theorem Fld.of_put (f : Fld) (w v : Nat) : f.of (f.put w v) = v % 2 ^ f.w := by
  obtain ⟨lo, n⟩ := f
  unfold Fld.put Fld.of
  have h1 : w = (w / 2 ^ lo / 2 ^ n * 2 ^ n + w / 2 ^ lo % 2 ^ n) * 2 ^ lo + w % 2 ^ lo := by
    rw [Nat.div_add_mod', Nat.div_add_mod']
  have h2 : w - w / 2 ^ lo % 2 ^ n * 2 ^ lo = w / 2 ^ lo / 2 ^ n * 2 ^ n * 2 ^ lo + w % 2 ^ lo := by
    conv_lhs => lhs; rw [h1]
    rw [Nat.add_mul]; omega
  have h3 : (w / 2 ^ lo / 2 ^ n * 2 ^ n * 2 ^ lo + w % 2 ^ lo + v % 2 ^ n * 2 ^ lo) =
      w % 2 ^ lo + 2 ^ lo * (w / 2 ^ lo / 2 ^ n * 2 ^ n + v % 2 ^ n) := by ring
  rw [h2, h3, Nat.add_mul_div_left _ _ (by positivity), Nat.div_eq_of_lt (Nat.mod_lt _ (by positivity)), Nat.zero_add,
    Nat.mul_comm, Nat.mul_add_mod, Nat.mod_mod]

/-- A put keeps the word within its width. -/
theorem Fld.put_lt (f : Fld) (w v n : Nat) (hf : f.lo + f.w ≤ n) (hw : w < 2 ^ n) : f.put w v < 2 ^ n := by
  obtain ⟨lo, k⟩ := f
  simp only at hf
  unfold Fld.put Fld.of
  have hk : (2 : Nat) ^ n = 2 ^ (n - lo - k) * 2 ^ k * 2 ^ lo := by
    rw [← pow_add, ← pow_add]; congr 1; omega
  set q := w / 2 ^ lo / 2 ^ k with hq
  have h1 : w = (q * 2 ^ k + w / 2 ^ lo % 2 ^ k) * 2 ^ lo + w % 2 ^ lo := by
    rw [hq, Nat.div_add_mod', Nat.div_add_mod']
  have hqlt : q < 2 ^ (n - lo - k) := by
    rw [hq, Nat.div_div_eq_div_mul, Nat.div_lt_iff_lt_mul (by positivity)]
    calc w < 2 ^ n := hw
      _ = 2 ^ (n - lo - k) * (2 ^ lo * 2 ^ k) := by rw [hk]; ring
  have h2 : w - w / 2 ^ lo % 2 ^ k * 2 ^ lo = q * 2 ^ k * 2 ^ lo + w % 2 ^ lo := by
    conv_lhs => lhs; rw [h1]
    rw [Nat.add_mul]; omega
  rw [h2, hk]
  have h3 : v % 2 ^ k < 2 ^ k := Nat.mod_lt _ (by positivity)
  have h4 : w % 2 ^ lo < 2 ^ lo := Nat.mod_lt _ (by positivity)
  have h5 : q * 2 ^ k + v % 2 ^ k + 1 ≤ 2 ^ (n - lo - k) * 2 ^ k := by
    calc q * 2 ^ k + v % 2 ^ k + 1 ≤ q * 2 ^ k + 2 ^ k := by omega
      _ = (q + 1) * 2 ^ k := by ring
      _ ≤ _ := Nat.mul_le_mul_right _ hqlt
  calc q * 2 ^ k * 2 ^ lo + w % 2 ^ lo + v % 2 ^ k * 2 ^ lo
      < q * 2 ^ k * 2 ^ lo + 2 ^ lo + v % 2 ^ k * 2 ^ lo := by omega
    _ = (q * 2 ^ k + v % 2 ^ k + 1) * 2 ^ lo := by ring
    _ ≤ _ := Nat.mul_le_mul_right _ h5

/-- A field of one word reads what was written to it. -/
theorem Dev.fld_setFld_same (d : Dev) (a : Nat) (f : Fld) (v : Nat) (hf : f.lo + f.w ≤ 16) :
    (d.setFld a f v).fld a f = v % 2 ^ f.w := by
  have hlt := Fld.put_lt f (d.rn a) v 16 hf (d.rd a).isLt
  simp only [Dev.setFld, Dev.fld, hf, ↓reduceIte, Dev.rn, Dev.rd_wn_same, BitVec.toNat_ofNat] at hlt ⊢
  rw [Nat.mod_eq_of_lt hlt, Fld.of_put]

@[simp] theorem Dev.flag_setFlag_same (d : Dev) (a : Nat) (f : Fld) (b : Bool) (hf : f.lo + f.w ≤ 16) (hw : 0 < f.w) :
    (d.setFlag a f b).flag a f = b := by
  have h1 : 1 % 2 ^ f.w = 1 := Nat.mod_eq_of_lt (Nat.one_lt_two_pow (by omega))
  cases b <;> simp [Dev.flag, Dev.setFlag, Dev.fld_setFld_same _ _ _ _ hf, h1]

/-- Writing a field of one word changes no other register. -/
theorem Dev.rd_setFld_ne (d : Dev) {a b : Nat} (f : Fld) (v : Nat) (hf : f.lo + f.w ≤ 16) (h : b ≠ a) :
    (d.setFld a f v).rd b = d.rd b := by
  simp only [Dev.setFld, hf, ↓reduceIte]
  exact Dev.rd_wn_ne d _ h

theorem Dev.rd_setFlag_ne (d : Dev) {a b : Nat} (f : Fld) (v : Bool) (hf : f.lo + f.w ≤ 16) (h : b ≠ a) :
    (d.setFlag a f v).rd b = d.rd b := Dev.rd_setFld_ne d f _ hf h

theorem Dev.rd_setMbit_ne (d : Dev) {a b i : Nat} (v : Bool) (h : b ≠ a + 2 * (i / 16)) :
    (d.setMbit a i v).rd b = d.rd b := Dev.rd_wr_ne d _ h

/-- A bit of a mask reads what was written to it. -/
theorem Dev.mbit_setMbit_same (d : Dev) (a i : Nat) (v : Bool) : (d.setMbit a i v).mbit a i = v := by
  have h : i % 16 < 16 := Nat.mod_lt _ (by decide)
  have h1 : ((1 : Word) <<< (i % 16)).getLsbD (i % 16) = true := by
    simp [h]
  cases v
  · simp only [Dev.mbit, Dev.setMbit, Bool.false_eq_true, ↓reduceIte, Dev.rd_wr_same, BitVec.getLsbD_and,
      BitVec.getLsbD_not, h, decide_true, Bool.true_and]
    rw [h1]; simp
  · simp only [Dev.mbit, Dev.setMbit, ↓reduceIte, Dev.rd_wr_same, BitVec.getLsbD_or]
    rw [h1]; simp

theorem Dev.mbit_setMbit_ne (d : Dev) (a i j : Nat) (v : Bool) (h : j ≠ i) : (d.setMbit a i v).mbit a j = d.mbit a j := by
  by_cases hk : j / 16 = i / 16
  · have hm : j % 16 ≠ i % 16 := by omega
    have hj : j % 16 < 16 := Nat.mod_lt _ (by decide)
    have h1 : ((1 : Word) <<< (i % 16)).getLsbD (j % 16) = false := by
      rw [BitVec.getLsbD_shiftLeft, Bool.and_eq_false_iff]
      by_cases hlt : j % 16 < i % 16
      · simp [hlt]
      · right
        show (1#16 : BitVec 16).getLsbD _ = false
        rw [BitVec.getLsbD_one]
        simp; omega
    cases v
    · simp only [Dev.mbit, Dev.setMbit, Bool.false_eq_true, ↓reduceIte, hk, Dev.rd_wr_same, BitVec.getLsbD_and,
        BitVec.getLsbD_not, hj, decide_true, Bool.true_and]
      rw [h1]; simp
    · simp only [Dev.mbit, Dev.setMbit, ↓reduceIte, hk, Dev.rd_wr_same, BitVec.getLsbD_or]
      rw [h1]; simp
  · simp only [Dev.mbit]
    rw [Dev.rd_setMbit_ne _ _ (by omega)]

theorem Dev.rd_bump_ne (d : Dev) {a b : Nat} (h : b ≠ a) : (d.bump a).rd b = d.rd b := Dev.rd_wr_ne d _ h
@[simp] theorem Dev.rd_bump_same (d : Dev) (a : Nat) : (d.bump a).rd a = satInc (d.rd a) := Dev.rd_wr_same d a _

/-- Registers that a list of clears does not name keep their words. -/
theorem Dev.rd_zero (d : Dev) (as : List Nat) (b : Nat) : (d.zero as).rd b = if b ∈ as then 0 else d.rd b := by
  induction as generalizing d with
  | nil => simp [Dev.zero]
  | cons a t ih =>
    have : d.zero (a :: t) = (d.wr a 0).zero t := rfl
    rw [this, ih, Dev.rd_wr]
    by_cases h1 : b ∈ t <;> by_cases h2 : b = a <;> simp [h1, h2]

/-! ## Byte memories -/

theorem cellGet_cellSet (m : List Host.Cell) (a b : Nat) (v : Byte) :
    cellGet (cellSet m a v) b = if b = a then v else cellGet m b := by
  unfold cellGet cellSet
  by_cases hv : v = 0
  · by_cases h : b = a
    · subst h
      rw [if_pos hv, lookupKey_eraseKey_same]
      simp [hv]
    · rw [if_pos hv, lookupKey_eraseKey_ne h]
      simp [h]
  · rw [if_neg hv, lookupKey_insertKey _ _ _ _ (lookupKey_eraseKey_same a m)]
    by_cases h : b = a
    · simp [h]
    · simp [h, lookupKey_eraseKey_ne h]

/-- Writing a byte keeps the canonical form of a memory. -/
theorem cellSet_wf (m : List Host.Cell) (a : Nat) (v : Byte) (h : cellWf m = true) : cellWf (cellSet m a v) = true := by
  simp only [cellWf, decide_eq_true_eq] at h ⊢
  unfold cellSet
  by_cases hv : v = 0
  · rw [if_pos hv]
    exact ⟨eraseKey_sorted _ _ h.1, fun c hc => h.2 c (List.mem_of_mem_filter hc)⟩
  · rw [if_neg hv]
    refine ⟨insertKey_sorted _ _ _ (eraseKey_sorted _ _ h.1) (lookupKey_eraseKey_same a m), fun c hc => ?_⟩
    rcases mem_insertKey hc with rfl | hc
    · exact hv
    · exact h.2 c (List.mem_of_mem_filter hc)

/-- Writing bytes keeps the canonical form of a memory. -/
theorem cellWrite_wf (m : List Host.Cell) (a : Nat) (bs : List Byte) (h : cellWf m = true) :
    cellWf (cellWrite m a bs) = true := by
  induction bs generalizing m a with
  | nil => exact h
  | cons b t ih => exact ih _ _ (cellSet_wf m a b h)

/-- A byte outside the bytes written reads as before. -/
theorem cellGet_cellWrite_out (m : List Host.Cell) (a b : Nat) (bs : List Byte) (h : b < a ∨ a + bs.length ≤ b) :
    cellGet (cellWrite m a bs) b = cellGet m b := by
  induction bs generalizing m a with
  | nil => rfl
  | cons x t ih =>
    rw [cellWrite, ih _ _ (by simp only [List.length_cons] at h; omega), cellGet_cellSet, if_neg]
    simp only [List.length_cons] at h
    omega

/-- A byte inside the bytes written reads what was written. -/
theorem cellGet_cellWrite_in (m : List Host.Cell) (a i : Nat) (bs : List Byte) (h : i < bs.length) :
    cellGet (cellWrite m a bs) (a + i) = bs[i] := by
  induction bs generalizing m a i with
  | nil => simp at h
  | cons x t ih =>
    cases i with
    | zero => rw [cellWrite, cellGet_cellWrite_out _ _ _ _ (by omega), cellGet_cellSet]; simp
    | succ i =>
      rw [cellWrite, show a + (i + 1) = a + 1 + i by omega, ih _ _ _ (by simpa using h)]
      simp

end Sys2Proof.Machine
end

