-- ==== Sys2Proof/Laws/State.lean ====
section
/-!
SUPPORT. What each named update of the state leaves as it was: one lemma for each field and update, so that no later proof
unfolds a record update.
-/

namespace Sys2Proof.Machine

open Sys2Proof Sys2Proof.R

variable (d : Dev)

/-! ### wr -/

@[simp] theorem Dev.wr_accs (a : Nat) (v : Word) : (d.wr a v).accs = d.accs := rfl
@[simp] theorem Dev.wr_engine (a : Nat) (v : Word) : (d.wr a v).engine = d.engine := rfl
@[simp] theorem Dev.wr_hopper (a : Nat) (v : Word) : (d.wr a v).hopper = d.hopper := rfl
@[simp] theorem Dev.wr_own (a : Nat) (v : Word) : (d.wr a v).own = d.own := rfl
@[simp] theorem Dev.wr_ports (a : Nat) (v : Word) : (d.wr a v).ports = d.ports := rfl
@[simp] theorem Dev.wr_boot (a : Nat) (v : Word) : (d.wr a v).boot = d.boot := rfl
@[simp] theorem Dev.wr_cfg (a : Nat) (v : Word) : (d.wr a v).cfg = d.cfg := rfl
@[simp] theorem Dev.wr_recorder (a : Nat) (v : Word) : (d.wr a v).recorder = d.recorder := rfl
@[simp] theorem Dev.wr_clock (a : Nat) (v : Word) : (d.wr a v).clock = d.clock := rfl
@[simp] theorem Dev.wr_wdg (a : Nat) (v : Word) : (d.wr a v).wdg = d.wdg := rfl
@[simp] theorem Dev.wr_routesLive (a : Nat) (v : Word) : (d.wr a v).routesLive = d.routesLive := rfl
@[simp] theorem Dev.wr_freeCount (a : Nat) (v : Word) : (d.wr a v).freeCount = d.freeCount := rfl
@[simp] theorem Dev.wr_pins (a : Nat) (v : Word) : (d.wr a v).pins = d.pins := rfl
@[simp] theorem Dev.wr_phases (a : Nat) (v : Word) : (d.wr a v).phases = d.phases := rfl
@[simp] theorem Dev.wr_loops (a : Nat) (v : Word) : (d.wr a v).loops = d.loops := rfl
@[simp] theorem Dev.wr_links (a : Nat) (v : Word) : (d.wr a v).links = d.links := rfl
@[simp] theorem Dev.wr_meas (a : Nat) (v : Word) : (d.wr a v).meas = d.meas := rfl
@[simp] theorem Dev.wr_drill (a : Nat) (v : Word) : (d.wr a v).drill = d.drill := rfl
@[simp] theorem Dev.wr_gauge (a : Nat) (v : Word) : (d.wr a v).gauge = d.gauge := rfl
@[simp] theorem Dev.wr_pack (a : Nat) (v : Word) : (d.wr a v).pack = d.pack := rfl
@[simp] theorem Dev.wr_chg (a : Nat) (v : Word) : (d.wr a v).chg = d.chg := rfl
@[simp] theorem Dev.wr_lamps (a : Nat) (v : Word) : (d.wr a v).lamps = d.lamps := rfl
@[simp] theorem Dev.wr_guard (a : Nat) (v : Word) : (d.wr a v).guard = d.guard := rfl
@[simp] theorem Dev.wr_therm (a : Nat) (v : Word) : (d.wr a v).therm = d.therm := rfl
@[simp] theorem Dev.wr_jtag (a : Nat) (v : Word) : (d.wr a v).jtag = d.jtag := rfl

/-! ### wn -/

@[simp] theorem Dev.wn_accs (a v : Nat) : (d.wn a v).accs = d.accs := rfl
@[simp] theorem Dev.wn_engine (a v : Nat) : (d.wn a v).engine = d.engine := rfl
@[simp] theorem Dev.wn_hopper (a v : Nat) : (d.wn a v).hopper = d.hopper := rfl
@[simp] theorem Dev.wn_own (a v : Nat) : (d.wn a v).own = d.own := rfl
@[simp] theorem Dev.wn_ports (a v : Nat) : (d.wn a v).ports = d.ports := rfl
@[simp] theorem Dev.wn_boot (a v : Nat) : (d.wn a v).boot = d.boot := rfl
@[simp] theorem Dev.wn_cfg (a v : Nat) : (d.wn a v).cfg = d.cfg := rfl
@[simp] theorem Dev.wn_recorder (a v : Nat) : (d.wn a v).recorder = d.recorder := rfl
@[simp] theorem Dev.wn_clock (a v : Nat) : (d.wn a v).clock = d.clock := rfl
@[simp] theorem Dev.wn_wdg (a v : Nat) : (d.wn a v).wdg = d.wdg := rfl
@[simp] theorem Dev.wn_routesLive (a v : Nat) : (d.wn a v).routesLive = d.routesLive := rfl
@[simp] theorem Dev.wn_freeCount (a v : Nat) : (d.wn a v).freeCount = d.freeCount := rfl
@[simp] theorem Dev.wn_pins (a v : Nat) : (d.wn a v).pins = d.pins := rfl
@[simp] theorem Dev.wn_phases (a v : Nat) : (d.wn a v).phases = d.phases := rfl
@[simp] theorem Dev.wn_loops (a v : Nat) : (d.wn a v).loops = d.loops := rfl
@[simp] theorem Dev.wn_links (a v : Nat) : (d.wn a v).links = d.links := rfl
@[simp] theorem Dev.wn_meas (a v : Nat) : (d.wn a v).meas = d.meas := rfl
@[simp] theorem Dev.wn_drill (a v : Nat) : (d.wn a v).drill = d.drill := rfl
@[simp] theorem Dev.wn_gauge (a v : Nat) : (d.wn a v).gauge = d.gauge := rfl
@[simp] theorem Dev.wn_pack (a v : Nat) : (d.wn a v).pack = d.pack := rfl
@[simp] theorem Dev.wn_chg (a v : Nat) : (d.wn a v).chg = d.chg := rfl
@[simp] theorem Dev.wn_lamps (a v : Nat) : (d.wn a v).lamps = d.lamps := rfl
@[simp] theorem Dev.wn_guard (a v : Nat) : (d.wn a v).guard = d.guard := rfl
@[simp] theorem Dev.wn_therm (a v : Nat) : (d.wn a v).therm = d.therm := rfl
@[simp] theorem Dev.wn_jtag (a v : Nat) : (d.wn a v).jtag = d.jtag := rfl

/-! ### wi -/

@[simp] theorem Dev.wi_accs (a : Nat) (v : Int) : (d.wi a v).accs = d.accs := rfl
@[simp] theorem Dev.wi_engine (a : Nat) (v : Int) : (d.wi a v).engine = d.engine := rfl
@[simp] theorem Dev.wi_hopper (a : Nat) (v : Int) : (d.wi a v).hopper = d.hopper := rfl
@[simp] theorem Dev.wi_own (a : Nat) (v : Int) : (d.wi a v).own = d.own := rfl
@[simp] theorem Dev.wi_ports (a : Nat) (v : Int) : (d.wi a v).ports = d.ports := rfl
@[simp] theorem Dev.wi_boot (a : Nat) (v : Int) : (d.wi a v).boot = d.boot := rfl
@[simp] theorem Dev.wi_cfg (a : Nat) (v : Int) : (d.wi a v).cfg = d.cfg := rfl
@[simp] theorem Dev.wi_recorder (a : Nat) (v : Int) : (d.wi a v).recorder = d.recorder := rfl
@[simp] theorem Dev.wi_clock (a : Nat) (v : Int) : (d.wi a v).clock = d.clock := rfl
@[simp] theorem Dev.wi_wdg (a : Nat) (v : Int) : (d.wi a v).wdg = d.wdg := rfl
@[simp] theorem Dev.wi_routesLive (a : Nat) (v : Int) : (d.wi a v).routesLive = d.routesLive := rfl
@[simp] theorem Dev.wi_freeCount (a : Nat) (v : Int) : (d.wi a v).freeCount = d.freeCount := rfl
@[simp] theorem Dev.wi_pins (a : Nat) (v : Int) : (d.wi a v).pins = d.pins := rfl
@[simp] theorem Dev.wi_phases (a : Nat) (v : Int) : (d.wi a v).phases = d.phases := rfl
@[simp] theorem Dev.wi_loops (a : Nat) (v : Int) : (d.wi a v).loops = d.loops := rfl
@[simp] theorem Dev.wi_links (a : Nat) (v : Int) : (d.wi a v).links = d.links := rfl
@[simp] theorem Dev.wi_meas (a : Nat) (v : Int) : (d.wi a v).meas = d.meas := rfl
@[simp] theorem Dev.wi_drill (a : Nat) (v : Int) : (d.wi a v).drill = d.drill := rfl
@[simp] theorem Dev.wi_gauge (a : Nat) (v : Int) : (d.wi a v).gauge = d.gauge := rfl
@[simp] theorem Dev.wi_pack (a : Nat) (v : Int) : (d.wi a v).pack = d.pack := rfl
@[simp] theorem Dev.wi_chg (a : Nat) (v : Int) : (d.wi a v).chg = d.chg := rfl
@[simp] theorem Dev.wi_lamps (a : Nat) (v : Int) : (d.wi a v).lamps = d.lamps := rfl
@[simp] theorem Dev.wi_guard (a : Nat) (v : Int) : (d.wi a v).guard = d.guard := rfl
@[simp] theorem Dev.wi_therm (a : Nat) (v : Int) : (d.wi a v).therm = d.therm := rfl
@[simp] theorem Dev.wi_jtag (a : Nat) (v : Int) : (d.wi a v).jtag = d.jtag := rfl

/-! ### wr32 -/

@[simp] theorem Dev.wr32_accs (a : Nat) (v : BitVec 32) : (d.wr32 a v).accs = d.accs := rfl
@[simp] theorem Dev.wr32_engine (a : Nat) (v : BitVec 32) : (d.wr32 a v).engine = d.engine := rfl
@[simp] theorem Dev.wr32_hopper (a : Nat) (v : BitVec 32) : (d.wr32 a v).hopper = d.hopper := rfl
@[simp] theorem Dev.wr32_own (a : Nat) (v : BitVec 32) : (d.wr32 a v).own = d.own := rfl
@[simp] theorem Dev.wr32_ports (a : Nat) (v : BitVec 32) : (d.wr32 a v).ports = d.ports := rfl
@[simp] theorem Dev.wr32_boot (a : Nat) (v : BitVec 32) : (d.wr32 a v).boot = d.boot := rfl
@[simp] theorem Dev.wr32_cfg (a : Nat) (v : BitVec 32) : (d.wr32 a v).cfg = d.cfg := rfl
@[simp] theorem Dev.wr32_recorder (a : Nat) (v : BitVec 32) : (d.wr32 a v).recorder = d.recorder := rfl
@[simp] theorem Dev.wr32_clock (a : Nat) (v : BitVec 32) : (d.wr32 a v).clock = d.clock := rfl
@[simp] theorem Dev.wr32_wdg (a : Nat) (v : BitVec 32) : (d.wr32 a v).wdg = d.wdg := rfl
@[simp] theorem Dev.wr32_routesLive (a : Nat) (v : BitVec 32) : (d.wr32 a v).routesLive = d.routesLive := rfl
@[simp] theorem Dev.wr32_freeCount (a : Nat) (v : BitVec 32) : (d.wr32 a v).freeCount = d.freeCount := rfl
@[simp] theorem Dev.wr32_pins (a : Nat) (v : BitVec 32) : (d.wr32 a v).pins = d.pins := rfl
@[simp] theorem Dev.wr32_phases (a : Nat) (v : BitVec 32) : (d.wr32 a v).phases = d.phases := rfl
@[simp] theorem Dev.wr32_loops (a : Nat) (v : BitVec 32) : (d.wr32 a v).loops = d.loops := rfl
@[simp] theorem Dev.wr32_links (a : Nat) (v : BitVec 32) : (d.wr32 a v).links = d.links := rfl
@[simp] theorem Dev.wr32_meas (a : Nat) (v : BitVec 32) : (d.wr32 a v).meas = d.meas := rfl
@[simp] theorem Dev.wr32_drill (a : Nat) (v : BitVec 32) : (d.wr32 a v).drill = d.drill := rfl
@[simp] theorem Dev.wr32_gauge (a : Nat) (v : BitVec 32) : (d.wr32 a v).gauge = d.gauge := rfl
@[simp] theorem Dev.wr32_pack (a : Nat) (v : BitVec 32) : (d.wr32 a v).pack = d.pack := rfl
@[simp] theorem Dev.wr32_chg (a : Nat) (v : BitVec 32) : (d.wr32 a v).chg = d.chg := rfl
@[simp] theorem Dev.wr32_lamps (a : Nat) (v : BitVec 32) : (d.wr32 a v).lamps = d.lamps := rfl
@[simp] theorem Dev.wr32_guard (a : Nat) (v : BitVec 32) : (d.wr32 a v).guard = d.guard := rfl
@[simp] theorem Dev.wr32_therm (a : Nat) (v : BitVec 32) : (d.wr32 a v).therm = d.therm := rfl
@[simp] theorem Dev.wr32_jtag (a : Nat) (v : BitVec 32) : (d.wr32 a v).jtag = d.jtag := rfl

/-! ### wn32 -/

@[simp] theorem Dev.wn32_accs (a v : Nat) : (d.wn32 a v).accs = d.accs := rfl
@[simp] theorem Dev.wn32_engine (a v : Nat) : (d.wn32 a v).engine = d.engine := rfl
@[simp] theorem Dev.wn32_hopper (a v : Nat) : (d.wn32 a v).hopper = d.hopper := rfl
@[simp] theorem Dev.wn32_own (a v : Nat) : (d.wn32 a v).own = d.own := rfl
@[simp] theorem Dev.wn32_ports (a v : Nat) : (d.wn32 a v).ports = d.ports := rfl
@[simp] theorem Dev.wn32_boot (a v : Nat) : (d.wn32 a v).boot = d.boot := rfl
@[simp] theorem Dev.wn32_cfg (a v : Nat) : (d.wn32 a v).cfg = d.cfg := rfl
@[simp] theorem Dev.wn32_recorder (a v : Nat) : (d.wn32 a v).recorder = d.recorder := rfl
@[simp] theorem Dev.wn32_clock (a v : Nat) : (d.wn32 a v).clock = d.clock := rfl
@[simp] theorem Dev.wn32_wdg (a v : Nat) : (d.wn32 a v).wdg = d.wdg := rfl
@[simp] theorem Dev.wn32_routesLive (a v : Nat) : (d.wn32 a v).routesLive = d.routesLive := rfl
@[simp] theorem Dev.wn32_freeCount (a v : Nat) : (d.wn32 a v).freeCount = d.freeCount := rfl
@[simp] theorem Dev.wn32_pins (a v : Nat) : (d.wn32 a v).pins = d.pins := rfl
@[simp] theorem Dev.wn32_phases (a v : Nat) : (d.wn32 a v).phases = d.phases := rfl
@[simp] theorem Dev.wn32_loops (a v : Nat) : (d.wn32 a v).loops = d.loops := rfl
@[simp] theorem Dev.wn32_links (a v : Nat) : (d.wn32 a v).links = d.links := rfl
@[simp] theorem Dev.wn32_meas (a v : Nat) : (d.wn32 a v).meas = d.meas := rfl
@[simp] theorem Dev.wn32_drill (a v : Nat) : (d.wn32 a v).drill = d.drill := rfl
@[simp] theorem Dev.wn32_gauge (a v : Nat) : (d.wn32 a v).gauge = d.gauge := rfl
@[simp] theorem Dev.wn32_pack (a v : Nat) : (d.wn32 a v).pack = d.pack := rfl
@[simp] theorem Dev.wn32_chg (a v : Nat) : (d.wn32 a v).chg = d.chg := rfl
@[simp] theorem Dev.wn32_lamps (a v : Nat) : (d.wn32 a v).lamps = d.lamps := rfl
@[simp] theorem Dev.wn32_guard (a v : Nat) : (d.wn32 a v).guard = d.guard := rfl
@[simp] theorem Dev.wn32_therm (a v : Nat) : (d.wn32 a v).therm = d.therm := rfl
@[simp] theorem Dev.wn32_jtag (a v : Nat) : (d.wn32 a v).jtag = d.jtag := rfl

/-! ### wi32 -/

@[simp] theorem Dev.wi32_accs (a : Nat) (v : Int) : (d.wi32 a v).accs = d.accs := rfl
@[simp] theorem Dev.wi32_engine (a : Nat) (v : Int) : (d.wi32 a v).engine = d.engine := rfl
@[simp] theorem Dev.wi32_hopper (a : Nat) (v : Int) : (d.wi32 a v).hopper = d.hopper := rfl
@[simp] theorem Dev.wi32_own (a : Nat) (v : Int) : (d.wi32 a v).own = d.own := rfl
@[simp] theorem Dev.wi32_ports (a : Nat) (v : Int) : (d.wi32 a v).ports = d.ports := rfl
@[simp] theorem Dev.wi32_boot (a : Nat) (v : Int) : (d.wi32 a v).boot = d.boot := rfl
@[simp] theorem Dev.wi32_cfg (a : Nat) (v : Int) : (d.wi32 a v).cfg = d.cfg := rfl
@[simp] theorem Dev.wi32_recorder (a : Nat) (v : Int) : (d.wi32 a v).recorder = d.recorder := rfl
@[simp] theorem Dev.wi32_clock (a : Nat) (v : Int) : (d.wi32 a v).clock = d.clock := rfl
@[simp] theorem Dev.wi32_wdg (a : Nat) (v : Int) : (d.wi32 a v).wdg = d.wdg := rfl
@[simp] theorem Dev.wi32_routesLive (a : Nat) (v : Int) : (d.wi32 a v).routesLive = d.routesLive := rfl
@[simp] theorem Dev.wi32_freeCount (a : Nat) (v : Int) : (d.wi32 a v).freeCount = d.freeCount := rfl
@[simp] theorem Dev.wi32_pins (a : Nat) (v : Int) : (d.wi32 a v).pins = d.pins := rfl
@[simp] theorem Dev.wi32_phases (a : Nat) (v : Int) : (d.wi32 a v).phases = d.phases := rfl
@[simp] theorem Dev.wi32_loops (a : Nat) (v : Int) : (d.wi32 a v).loops = d.loops := rfl
@[simp] theorem Dev.wi32_links (a : Nat) (v : Int) : (d.wi32 a v).links = d.links := rfl
@[simp] theorem Dev.wi32_meas (a : Nat) (v : Int) : (d.wi32 a v).meas = d.meas := rfl
@[simp] theorem Dev.wi32_drill (a : Nat) (v : Int) : (d.wi32 a v).drill = d.drill := rfl
@[simp] theorem Dev.wi32_gauge (a : Nat) (v : Int) : (d.wi32 a v).gauge = d.gauge := rfl
@[simp] theorem Dev.wi32_pack (a : Nat) (v : Int) : (d.wi32 a v).pack = d.pack := rfl
@[simp] theorem Dev.wi32_chg (a : Nat) (v : Int) : (d.wi32 a v).chg = d.chg := rfl
@[simp] theorem Dev.wi32_lamps (a : Nat) (v : Int) : (d.wi32 a v).lamps = d.lamps := rfl
@[simp] theorem Dev.wi32_guard (a : Nat) (v : Int) : (d.wi32 a v).guard = d.guard := rfl
@[simp] theorem Dev.wi32_therm (a : Nat) (v : Int) : (d.wi32 a v).therm = d.therm := rfl
@[simp] theorem Dev.wi32_jtag (a : Nat) (v : Int) : (d.wi32 a v).jtag = d.jtag := rfl

/-! ### bump -/

@[simp] theorem Dev.bump_accs (a : Nat) : (d.bump a).accs = d.accs := rfl
@[simp] theorem Dev.bump_engine (a : Nat) : (d.bump a).engine = d.engine := rfl
@[simp] theorem Dev.bump_hopper (a : Nat) : (d.bump a).hopper = d.hopper := rfl
@[simp] theorem Dev.bump_own (a : Nat) : (d.bump a).own = d.own := rfl
@[simp] theorem Dev.bump_ports (a : Nat) : (d.bump a).ports = d.ports := rfl
@[simp] theorem Dev.bump_boot (a : Nat) : (d.bump a).boot = d.boot := rfl
@[simp] theorem Dev.bump_cfg (a : Nat) : (d.bump a).cfg = d.cfg := rfl
@[simp] theorem Dev.bump_recorder (a : Nat) : (d.bump a).recorder = d.recorder := rfl
@[simp] theorem Dev.bump_clock (a : Nat) : (d.bump a).clock = d.clock := rfl
@[simp] theorem Dev.bump_wdg (a : Nat) : (d.bump a).wdg = d.wdg := rfl
@[simp] theorem Dev.bump_routesLive (a : Nat) : (d.bump a).routesLive = d.routesLive := rfl
@[simp] theorem Dev.bump_freeCount (a : Nat) : (d.bump a).freeCount = d.freeCount := rfl
@[simp] theorem Dev.bump_pins (a : Nat) : (d.bump a).pins = d.pins := rfl
@[simp] theorem Dev.bump_phases (a : Nat) : (d.bump a).phases = d.phases := rfl
@[simp] theorem Dev.bump_loops (a : Nat) : (d.bump a).loops = d.loops := rfl
@[simp] theorem Dev.bump_links (a : Nat) : (d.bump a).links = d.links := rfl
@[simp] theorem Dev.bump_meas (a : Nat) : (d.bump a).meas = d.meas := rfl
@[simp] theorem Dev.bump_drill (a : Nat) : (d.bump a).drill = d.drill := rfl
@[simp] theorem Dev.bump_gauge (a : Nat) : (d.bump a).gauge = d.gauge := rfl
@[simp] theorem Dev.bump_pack (a : Nat) : (d.bump a).pack = d.pack := rfl
@[simp] theorem Dev.bump_chg (a : Nat) : (d.bump a).chg = d.chg := rfl
@[simp] theorem Dev.bump_lamps (a : Nat) : (d.bump a).lamps = d.lamps := rfl
@[simp] theorem Dev.bump_guard (a : Nat) : (d.bump a).guard = d.guard := rfl
@[simp] theorem Dev.bump_therm (a : Nat) : (d.bump a).therm = d.therm := rfl
@[simp] theorem Dev.bump_jtag (a : Nat) : (d.bump a).jtag = d.jtag := rfl

/-! ### bumpBy -/

@[simp] theorem Dev.bumpBy_accs (a n : Nat) : (d.bumpBy a n).accs = d.accs := rfl
@[simp] theorem Dev.bumpBy_engine (a n : Nat) : (d.bumpBy a n).engine = d.engine := rfl
@[simp] theorem Dev.bumpBy_hopper (a n : Nat) : (d.bumpBy a n).hopper = d.hopper := rfl
@[simp] theorem Dev.bumpBy_own (a n : Nat) : (d.bumpBy a n).own = d.own := rfl
@[simp] theorem Dev.bumpBy_ports (a n : Nat) : (d.bumpBy a n).ports = d.ports := rfl
@[simp] theorem Dev.bumpBy_boot (a n : Nat) : (d.bumpBy a n).boot = d.boot := rfl
@[simp] theorem Dev.bumpBy_cfg (a n : Nat) : (d.bumpBy a n).cfg = d.cfg := rfl
@[simp] theorem Dev.bumpBy_recorder (a n : Nat) : (d.bumpBy a n).recorder = d.recorder := rfl
@[simp] theorem Dev.bumpBy_clock (a n : Nat) : (d.bumpBy a n).clock = d.clock := rfl
@[simp] theorem Dev.bumpBy_wdg (a n : Nat) : (d.bumpBy a n).wdg = d.wdg := rfl
@[simp] theorem Dev.bumpBy_routesLive (a n : Nat) : (d.bumpBy a n).routesLive = d.routesLive := rfl
@[simp] theorem Dev.bumpBy_freeCount (a n : Nat) : (d.bumpBy a n).freeCount = d.freeCount := rfl
@[simp] theorem Dev.bumpBy_pins (a n : Nat) : (d.bumpBy a n).pins = d.pins := rfl
@[simp] theorem Dev.bumpBy_phases (a n : Nat) : (d.bumpBy a n).phases = d.phases := rfl
@[simp] theorem Dev.bumpBy_loops (a n : Nat) : (d.bumpBy a n).loops = d.loops := rfl
@[simp] theorem Dev.bumpBy_links (a n : Nat) : (d.bumpBy a n).links = d.links := rfl
@[simp] theorem Dev.bumpBy_meas (a n : Nat) : (d.bumpBy a n).meas = d.meas := rfl
@[simp] theorem Dev.bumpBy_drill (a n : Nat) : (d.bumpBy a n).drill = d.drill := rfl
@[simp] theorem Dev.bumpBy_gauge (a n : Nat) : (d.bumpBy a n).gauge = d.gauge := rfl
@[simp] theorem Dev.bumpBy_pack (a n : Nat) : (d.bumpBy a n).pack = d.pack := rfl
@[simp] theorem Dev.bumpBy_chg (a n : Nat) : (d.bumpBy a n).chg = d.chg := rfl
@[simp] theorem Dev.bumpBy_lamps (a n : Nat) : (d.bumpBy a n).lamps = d.lamps := rfl
@[simp] theorem Dev.bumpBy_guard (a n : Nat) : (d.bumpBy a n).guard = d.guard := rfl
@[simp] theorem Dev.bumpBy_therm (a n : Nat) : (d.bumpBy a n).therm = d.therm := rfl
@[simp] theorem Dev.bumpBy_jtag (a n : Nat) : (d.bumpBy a n).jtag = d.jtag := rfl

/-! ### bumpWrap -/

@[simp] theorem Dev.bumpWrap_accs (a : Nat) : (d.bumpWrap a).accs = d.accs := rfl
@[simp] theorem Dev.bumpWrap_engine (a : Nat) : (d.bumpWrap a).engine = d.engine := rfl
@[simp] theorem Dev.bumpWrap_hopper (a : Nat) : (d.bumpWrap a).hopper = d.hopper := rfl
@[simp] theorem Dev.bumpWrap_own (a : Nat) : (d.bumpWrap a).own = d.own := rfl
@[simp] theorem Dev.bumpWrap_ports (a : Nat) : (d.bumpWrap a).ports = d.ports := rfl
@[simp] theorem Dev.bumpWrap_boot (a : Nat) : (d.bumpWrap a).boot = d.boot := rfl
@[simp] theorem Dev.bumpWrap_cfg (a : Nat) : (d.bumpWrap a).cfg = d.cfg := rfl
@[simp] theorem Dev.bumpWrap_recorder (a : Nat) : (d.bumpWrap a).recorder = d.recorder := rfl
@[simp] theorem Dev.bumpWrap_clock (a : Nat) : (d.bumpWrap a).clock = d.clock := rfl
@[simp] theorem Dev.bumpWrap_wdg (a : Nat) : (d.bumpWrap a).wdg = d.wdg := rfl
@[simp] theorem Dev.bumpWrap_routesLive (a : Nat) : (d.bumpWrap a).routesLive = d.routesLive := rfl
@[simp] theorem Dev.bumpWrap_freeCount (a : Nat) : (d.bumpWrap a).freeCount = d.freeCount := rfl
@[simp] theorem Dev.bumpWrap_pins (a : Nat) : (d.bumpWrap a).pins = d.pins := rfl
@[simp] theorem Dev.bumpWrap_phases (a : Nat) : (d.bumpWrap a).phases = d.phases := rfl
@[simp] theorem Dev.bumpWrap_loops (a : Nat) : (d.bumpWrap a).loops = d.loops := rfl
@[simp] theorem Dev.bumpWrap_links (a : Nat) : (d.bumpWrap a).links = d.links := rfl
@[simp] theorem Dev.bumpWrap_meas (a : Nat) : (d.bumpWrap a).meas = d.meas := rfl
@[simp] theorem Dev.bumpWrap_drill (a : Nat) : (d.bumpWrap a).drill = d.drill := rfl
@[simp] theorem Dev.bumpWrap_gauge (a : Nat) : (d.bumpWrap a).gauge = d.gauge := rfl
@[simp] theorem Dev.bumpWrap_pack (a : Nat) : (d.bumpWrap a).pack = d.pack := rfl
@[simp] theorem Dev.bumpWrap_chg (a : Nat) : (d.bumpWrap a).chg = d.chg := rfl
@[simp] theorem Dev.bumpWrap_lamps (a : Nat) : (d.bumpWrap a).lamps = d.lamps := rfl
@[simp] theorem Dev.bumpWrap_guard (a : Nat) : (d.bumpWrap a).guard = d.guard := rfl
@[simp] theorem Dev.bumpWrap_therm (a : Nat) : (d.bumpWrap a).therm = d.therm := rfl
@[simp] theorem Dev.bumpWrap_jtag (a : Nat) : (d.bumpWrap a).jtag = d.jtag := rfl

/-! ### setMbit -/

@[simp] theorem Dev.setMbit_accs (a i : Nat) (b : Bool) : (d.setMbit a i b).accs = d.accs := rfl
@[simp] theorem Dev.setMbit_engine (a i : Nat) (b : Bool) : (d.setMbit a i b).engine = d.engine := rfl
@[simp] theorem Dev.setMbit_hopper (a i : Nat) (b : Bool) : (d.setMbit a i b).hopper = d.hopper := rfl
@[simp] theorem Dev.setMbit_own (a i : Nat) (b : Bool) : (d.setMbit a i b).own = d.own := rfl
@[simp] theorem Dev.setMbit_ports (a i : Nat) (b : Bool) : (d.setMbit a i b).ports = d.ports := rfl
@[simp] theorem Dev.setMbit_boot (a i : Nat) (b : Bool) : (d.setMbit a i b).boot = d.boot := rfl
@[simp] theorem Dev.setMbit_cfg (a i : Nat) (b : Bool) : (d.setMbit a i b).cfg = d.cfg := rfl
@[simp] theorem Dev.setMbit_recorder (a i : Nat) (b : Bool) : (d.setMbit a i b).recorder = d.recorder := rfl
@[simp] theorem Dev.setMbit_clock (a i : Nat) (b : Bool) : (d.setMbit a i b).clock = d.clock := rfl
@[simp] theorem Dev.setMbit_wdg (a i : Nat) (b : Bool) : (d.setMbit a i b).wdg = d.wdg := rfl
@[simp] theorem Dev.setMbit_routesLive (a i : Nat) (b : Bool) : (d.setMbit a i b).routesLive = d.routesLive := rfl
@[simp] theorem Dev.setMbit_freeCount (a i : Nat) (b : Bool) : (d.setMbit a i b).freeCount = d.freeCount := rfl
@[simp] theorem Dev.setMbit_pins (a i : Nat) (b : Bool) : (d.setMbit a i b).pins = d.pins := rfl
@[simp] theorem Dev.setMbit_phases (a i : Nat) (b : Bool) : (d.setMbit a i b).phases = d.phases := rfl
@[simp] theorem Dev.setMbit_loops (a i : Nat) (b : Bool) : (d.setMbit a i b).loops = d.loops := rfl
@[simp] theorem Dev.setMbit_links (a i : Nat) (b : Bool) : (d.setMbit a i b).links = d.links := rfl
@[simp] theorem Dev.setMbit_meas (a i : Nat) (b : Bool) : (d.setMbit a i b).meas = d.meas := rfl
@[simp] theorem Dev.setMbit_drill (a i : Nat) (b : Bool) : (d.setMbit a i b).drill = d.drill := rfl
@[simp] theorem Dev.setMbit_gauge (a i : Nat) (b : Bool) : (d.setMbit a i b).gauge = d.gauge := rfl
@[simp] theorem Dev.setMbit_pack (a i : Nat) (b : Bool) : (d.setMbit a i b).pack = d.pack := rfl
@[simp] theorem Dev.setMbit_chg (a i : Nat) (b : Bool) : (d.setMbit a i b).chg = d.chg := rfl
@[simp] theorem Dev.setMbit_lamps (a i : Nat) (b : Bool) : (d.setMbit a i b).lamps = d.lamps := rfl
@[simp] theorem Dev.setMbit_guard (a i : Nat) (b : Bool) : (d.setMbit a i b).guard = d.guard := rfl
@[simp] theorem Dev.setMbit_therm (a i : Nat) (b : Bool) : (d.setMbit a i b).therm = d.therm := rfl
@[simp] theorem Dev.setMbit_jtag (a i : Nat) (b : Bool) : (d.setMbit a i b).jtag = d.jtag := rfl

/-! ### setFld -/

@[simp] theorem Dev.setFld_accs (a : Nat) (f : Fld) (v : Nat) : (d.setFld a f v).accs = d.accs := by unfold Dev.setFld; split <;> rfl
@[simp] theorem Dev.setFld_engine (a : Nat) (f : Fld) (v : Nat) : (d.setFld a f v).engine = d.engine := by unfold Dev.setFld; split <;> rfl
@[simp] theorem Dev.setFld_hopper (a : Nat) (f : Fld) (v : Nat) : (d.setFld a f v).hopper = d.hopper := by unfold Dev.setFld; split <;> rfl
@[simp] theorem Dev.setFld_own (a : Nat) (f : Fld) (v : Nat) : (d.setFld a f v).own = d.own := by unfold Dev.setFld; split <;> rfl
@[simp] theorem Dev.setFld_ports (a : Nat) (f : Fld) (v : Nat) : (d.setFld a f v).ports = d.ports := by unfold Dev.setFld; split <;> rfl
@[simp] theorem Dev.setFld_boot (a : Nat) (f : Fld) (v : Nat) : (d.setFld a f v).boot = d.boot := by unfold Dev.setFld; split <;> rfl
@[simp] theorem Dev.setFld_cfg (a : Nat) (f : Fld) (v : Nat) : (d.setFld a f v).cfg = d.cfg := by unfold Dev.setFld; split <;> rfl
@[simp] theorem Dev.setFld_recorder (a : Nat) (f : Fld) (v : Nat) : (d.setFld a f v).recorder = d.recorder := by unfold Dev.setFld; split <;> rfl
@[simp] theorem Dev.setFld_clock (a : Nat) (f : Fld) (v : Nat) : (d.setFld a f v).clock = d.clock := by unfold Dev.setFld; split <;> rfl
@[simp] theorem Dev.setFld_wdg (a : Nat) (f : Fld) (v : Nat) : (d.setFld a f v).wdg = d.wdg := by unfold Dev.setFld; split <;> rfl
@[simp] theorem Dev.setFld_routesLive (a : Nat) (f : Fld) (v : Nat) : (d.setFld a f v).routesLive = d.routesLive := by unfold Dev.setFld; split <;> rfl
@[simp] theorem Dev.setFld_freeCount (a : Nat) (f : Fld) (v : Nat) : (d.setFld a f v).freeCount = d.freeCount := by unfold Dev.setFld; split <;> rfl
@[simp] theorem Dev.setFld_pins (a : Nat) (f : Fld) (v : Nat) : (d.setFld a f v).pins = d.pins := by unfold Dev.setFld; split <;> rfl
@[simp] theorem Dev.setFld_phases (a : Nat) (f : Fld) (v : Nat) : (d.setFld a f v).phases = d.phases := by unfold Dev.setFld; split <;> rfl
@[simp] theorem Dev.setFld_loops (a : Nat) (f : Fld) (v : Nat) : (d.setFld a f v).loops = d.loops := by unfold Dev.setFld; split <;> rfl
@[simp] theorem Dev.setFld_links (a : Nat) (f : Fld) (v : Nat) : (d.setFld a f v).links = d.links := by unfold Dev.setFld; split <;> rfl
@[simp] theorem Dev.setFld_meas (a : Nat) (f : Fld) (v : Nat) : (d.setFld a f v).meas = d.meas := by unfold Dev.setFld; split <;> rfl
@[simp] theorem Dev.setFld_drill (a : Nat) (f : Fld) (v : Nat) : (d.setFld a f v).drill = d.drill := by unfold Dev.setFld; split <;> rfl
@[simp] theorem Dev.setFld_gauge (a : Nat) (f : Fld) (v : Nat) : (d.setFld a f v).gauge = d.gauge := by unfold Dev.setFld; split <;> rfl
@[simp] theorem Dev.setFld_pack (a : Nat) (f : Fld) (v : Nat) : (d.setFld a f v).pack = d.pack := by unfold Dev.setFld; split <;> rfl
@[simp] theorem Dev.setFld_chg (a : Nat) (f : Fld) (v : Nat) : (d.setFld a f v).chg = d.chg := by unfold Dev.setFld; split <;> rfl
@[simp] theorem Dev.setFld_lamps (a : Nat) (f : Fld) (v : Nat) : (d.setFld a f v).lamps = d.lamps := by unfold Dev.setFld; split <;> rfl
@[simp] theorem Dev.setFld_guard (a : Nat) (f : Fld) (v : Nat) : (d.setFld a f v).guard = d.guard := by unfold Dev.setFld; split <;> rfl
@[simp] theorem Dev.setFld_therm (a : Nat) (f : Fld) (v : Nat) : (d.setFld a f v).therm = d.therm := by unfold Dev.setFld; split <;> rfl
@[simp] theorem Dev.setFld_jtag (a : Nat) (f : Fld) (v : Nat) : (d.setFld a f v).jtag = d.jtag := by unfold Dev.setFld; split <;> rfl

/-! ### setFlag -/

@[simp] theorem Dev.setFlag_accs (a : Nat) (f : Fld) (b : Bool) : (d.setFlag a f b).accs = d.accs := Dev.setFld_accs d a f _
@[simp] theorem Dev.setFlag_engine (a : Nat) (f : Fld) (b : Bool) : (d.setFlag a f b).engine = d.engine := Dev.setFld_engine d a f _
@[simp] theorem Dev.setFlag_hopper (a : Nat) (f : Fld) (b : Bool) : (d.setFlag a f b).hopper = d.hopper := Dev.setFld_hopper d a f _
@[simp] theorem Dev.setFlag_own (a : Nat) (f : Fld) (b : Bool) : (d.setFlag a f b).own = d.own := Dev.setFld_own d a f _
@[simp] theorem Dev.setFlag_ports (a : Nat) (f : Fld) (b : Bool) : (d.setFlag a f b).ports = d.ports := Dev.setFld_ports d a f _
@[simp] theorem Dev.setFlag_boot (a : Nat) (f : Fld) (b : Bool) : (d.setFlag a f b).boot = d.boot := Dev.setFld_boot d a f _
@[simp] theorem Dev.setFlag_cfg (a : Nat) (f : Fld) (b : Bool) : (d.setFlag a f b).cfg = d.cfg := Dev.setFld_cfg d a f _
@[simp] theorem Dev.setFlag_recorder (a : Nat) (f : Fld) (b : Bool) : (d.setFlag a f b).recorder = d.recorder := Dev.setFld_recorder d a f _
@[simp] theorem Dev.setFlag_clock (a : Nat) (f : Fld) (b : Bool) : (d.setFlag a f b).clock = d.clock := Dev.setFld_clock d a f _
@[simp] theorem Dev.setFlag_wdg (a : Nat) (f : Fld) (b : Bool) : (d.setFlag a f b).wdg = d.wdg := Dev.setFld_wdg d a f _
@[simp] theorem Dev.setFlag_routesLive (a : Nat) (f : Fld) (b : Bool) : (d.setFlag a f b).routesLive = d.routesLive := Dev.setFld_routesLive d a f _
@[simp] theorem Dev.setFlag_freeCount (a : Nat) (f : Fld) (b : Bool) : (d.setFlag a f b).freeCount = d.freeCount := Dev.setFld_freeCount d a f _
@[simp] theorem Dev.setFlag_pins (a : Nat) (f : Fld) (b : Bool) : (d.setFlag a f b).pins = d.pins := Dev.setFld_pins d a f _
@[simp] theorem Dev.setFlag_phases (a : Nat) (f : Fld) (b : Bool) : (d.setFlag a f b).phases = d.phases := Dev.setFld_phases d a f _
@[simp] theorem Dev.setFlag_loops (a : Nat) (f : Fld) (b : Bool) : (d.setFlag a f b).loops = d.loops := Dev.setFld_loops d a f _
@[simp] theorem Dev.setFlag_links (a : Nat) (f : Fld) (b : Bool) : (d.setFlag a f b).links = d.links := Dev.setFld_links d a f _
@[simp] theorem Dev.setFlag_meas (a : Nat) (f : Fld) (b : Bool) : (d.setFlag a f b).meas = d.meas := Dev.setFld_meas d a f _
@[simp] theorem Dev.setFlag_drill (a : Nat) (f : Fld) (b : Bool) : (d.setFlag a f b).drill = d.drill := Dev.setFld_drill d a f _
@[simp] theorem Dev.setFlag_gauge (a : Nat) (f : Fld) (b : Bool) : (d.setFlag a f b).gauge = d.gauge := Dev.setFld_gauge d a f _
@[simp] theorem Dev.setFlag_pack (a : Nat) (f : Fld) (b : Bool) : (d.setFlag a f b).pack = d.pack := Dev.setFld_pack d a f _
@[simp] theorem Dev.setFlag_chg (a : Nat) (f : Fld) (b : Bool) : (d.setFlag a f b).chg = d.chg := Dev.setFld_chg d a f _
@[simp] theorem Dev.setFlag_lamps (a : Nat) (f : Fld) (b : Bool) : (d.setFlag a f b).lamps = d.lamps := Dev.setFld_lamps d a f _
@[simp] theorem Dev.setFlag_guard (a : Nat) (f : Fld) (b : Bool) : (d.setFlag a f b).guard = d.guard := Dev.setFld_guard d a f _
@[simp] theorem Dev.setFlag_therm (a : Nat) (f : Fld) (b : Bool) : (d.setFlag a f b).therm = d.therm := Dev.setFld_therm d a f _
@[simp] theorem Dev.setFlag_jtag (a : Nat) (f : Fld) (b : Bool) : (d.setFlag a f b).jtag = d.jtag := Dev.setFld_jtag d a f _

/-! ### zero -/

@[simp] theorem Dev.zero_accs (as : List Nat) : (d.zero as).accs = d.accs := by
  induction as generalizing d with
  | nil => rfl
  | cons a as ih => exact ih (d.wr a 0)
@[simp] theorem Dev.zero_engine (as : List Nat) : (d.zero as).engine = d.engine := by
  induction as generalizing d with
  | nil => rfl
  | cons a as ih => exact ih (d.wr a 0)
@[simp] theorem Dev.zero_hopper (as : List Nat) : (d.zero as).hopper = d.hopper := by
  induction as generalizing d with
  | nil => rfl
  | cons a as ih => exact ih (d.wr a 0)
@[simp] theorem Dev.zero_own (as : List Nat) : (d.zero as).own = d.own := by
  induction as generalizing d with
  | nil => rfl
  | cons a as ih => exact ih (d.wr a 0)
@[simp] theorem Dev.zero_ports (as : List Nat) : (d.zero as).ports = d.ports := by
  induction as generalizing d with
  | nil => rfl
  | cons a as ih => exact ih (d.wr a 0)
@[simp] theorem Dev.zero_boot (as : List Nat) : (d.zero as).boot = d.boot := by
  induction as generalizing d with
  | nil => rfl
  | cons a as ih => exact ih (d.wr a 0)
@[simp] theorem Dev.zero_cfg (as : List Nat) : (d.zero as).cfg = d.cfg := by
  induction as generalizing d with
  | nil => rfl
  | cons a as ih => exact ih (d.wr a 0)
@[simp] theorem Dev.zero_recorder (as : List Nat) : (d.zero as).recorder = d.recorder := by
  induction as generalizing d with
  | nil => rfl
  | cons a as ih => exact ih (d.wr a 0)
@[simp] theorem Dev.zero_clock (as : List Nat) : (d.zero as).clock = d.clock := by
  induction as generalizing d with
  | nil => rfl
  | cons a as ih => exact ih (d.wr a 0)
@[simp] theorem Dev.zero_wdg (as : List Nat) : (d.zero as).wdg = d.wdg := by
  induction as generalizing d with
  | nil => rfl
  | cons a as ih => exact ih (d.wr a 0)
@[simp] theorem Dev.zero_routesLive (as : List Nat) : (d.zero as).routesLive = d.routesLive := by
  induction as generalizing d with
  | nil => rfl
  | cons a as ih => exact ih (d.wr a 0)
@[simp] theorem Dev.zero_freeCount (as : List Nat) : (d.zero as).freeCount = d.freeCount := by
  induction as generalizing d with
  | nil => rfl
  | cons a as ih => exact ih (d.wr a 0)
@[simp] theorem Dev.zero_pins (as : List Nat) : (d.zero as).pins = d.pins := by
  induction as generalizing d with
  | nil => rfl
  | cons a as ih => exact ih (d.wr a 0)
@[simp] theorem Dev.zero_phases (as : List Nat) : (d.zero as).phases = d.phases := by
  induction as generalizing d with
  | nil => rfl
  | cons a as ih => exact ih (d.wr a 0)
@[simp] theorem Dev.zero_loops (as : List Nat) : (d.zero as).loops = d.loops := by
  induction as generalizing d with
  | nil => rfl
  | cons a as ih => exact ih (d.wr a 0)
@[simp] theorem Dev.zero_links (as : List Nat) : (d.zero as).links = d.links := by
  induction as generalizing d with
  | nil => rfl
  | cons a as ih => exact ih (d.wr a 0)
@[simp] theorem Dev.zero_meas (as : List Nat) : (d.zero as).meas = d.meas := by
  induction as generalizing d with
  | nil => rfl
  | cons a as ih => exact ih (d.wr a 0)
@[simp] theorem Dev.zero_drill (as : List Nat) : (d.zero as).drill = d.drill := by
  induction as generalizing d with
  | nil => rfl
  | cons a as ih => exact ih (d.wr a 0)
@[simp] theorem Dev.zero_gauge (as : List Nat) : (d.zero as).gauge = d.gauge := by
  induction as generalizing d with
  | nil => rfl
  | cons a as ih => exact ih (d.wr a 0)
@[simp] theorem Dev.zero_pack (as : List Nat) : (d.zero as).pack = d.pack := by
  induction as generalizing d with
  | nil => rfl
  | cons a as ih => exact ih (d.wr a 0)
@[simp] theorem Dev.zero_chg (as : List Nat) : (d.zero as).chg = d.chg := by
  induction as generalizing d with
  | nil => rfl
  | cons a as ih => exact ih (d.wr a 0)
@[simp] theorem Dev.zero_lamps (as : List Nat) : (d.zero as).lamps = d.lamps := by
  induction as generalizing d with
  | nil => rfl
  | cons a as ih => exact ih (d.wr a 0)
@[simp] theorem Dev.zero_guard (as : List Nat) : (d.zero as).guard = d.guard := by
  induction as generalizing d with
  | nil => rfl
  | cons a as ih => exact ih (d.wr a 0)
@[simp] theorem Dev.zero_therm (as : List Nat) : (d.zero as).therm = d.therm := by
  induction as generalizing d with
  | nil => rfl
  | cons a as ih => exact ih (d.wr a 0)
@[simp] theorem Dev.zero_jtag (as : List Nat) : (d.zero as).jtag = d.jtag := by
  induction as generalizing d with
  | nil => rfl
  | cons a as ih => exact ih (d.wr a 0)

/-! ### modGauge -/

@[simp] theorem Dev.modGauge_regs (g : GaugeSt → GaugeSt) : (d.modGauge g).regs = d.regs := rfl
@[simp] theorem Dev.modGauge_accs (g : GaugeSt → GaugeSt) : (d.modGauge g).accs = d.accs := rfl
@[simp] theorem Dev.modGauge_engine (g : GaugeSt → GaugeSt) : (d.modGauge g).engine = d.engine := rfl
@[simp] theorem Dev.modGauge_hopper (g : GaugeSt → GaugeSt) : (d.modGauge g).hopper = d.hopper := rfl
@[simp] theorem Dev.modGauge_own (g : GaugeSt → GaugeSt) : (d.modGauge g).own = d.own := rfl
@[simp] theorem Dev.modGauge_ports (g : GaugeSt → GaugeSt) : (d.modGauge g).ports = d.ports := rfl
@[simp] theorem Dev.modGauge_boot (g : GaugeSt → GaugeSt) : (d.modGauge g).boot = d.boot := rfl
@[simp] theorem Dev.modGauge_cfg (g : GaugeSt → GaugeSt) : (d.modGauge g).cfg = d.cfg := rfl
@[simp] theorem Dev.modGauge_recorder (g : GaugeSt → GaugeSt) : (d.modGauge g).recorder = d.recorder := rfl
@[simp] theorem Dev.modGauge_clock (g : GaugeSt → GaugeSt) : (d.modGauge g).clock = d.clock := rfl
@[simp] theorem Dev.modGauge_wdg (g : GaugeSt → GaugeSt) : (d.modGauge g).wdg = d.wdg := rfl
@[simp] theorem Dev.modGauge_routesLive (g : GaugeSt → GaugeSt) : (d.modGauge g).routesLive = d.routesLive := rfl
@[simp] theorem Dev.modGauge_freeCount (g : GaugeSt → GaugeSt) : (d.modGauge g).freeCount = d.freeCount := rfl
@[simp] theorem Dev.modGauge_pins (g : GaugeSt → GaugeSt) : (d.modGauge g).pins = d.pins := rfl
@[simp] theorem Dev.modGauge_phases (g : GaugeSt → GaugeSt) : (d.modGauge g).phases = d.phases := rfl
@[simp] theorem Dev.modGauge_loops (g : GaugeSt → GaugeSt) : (d.modGauge g).loops = d.loops := rfl
@[simp] theorem Dev.modGauge_links (g : GaugeSt → GaugeSt) : (d.modGauge g).links = d.links := rfl
@[simp] theorem Dev.modGauge_meas (g : GaugeSt → GaugeSt) : (d.modGauge g).meas = d.meas := rfl
@[simp] theorem Dev.modGauge_drill (g : GaugeSt → GaugeSt) : (d.modGauge g).drill = d.drill := rfl
@[simp] theorem Dev.modGauge_pack (g : GaugeSt → GaugeSt) : (d.modGauge g).pack = d.pack := rfl
@[simp] theorem Dev.modGauge_chg (g : GaugeSt → GaugeSt) : (d.modGauge g).chg = d.chg := rfl
@[simp] theorem Dev.modGauge_lamps (g : GaugeSt → GaugeSt) : (d.modGauge g).lamps = d.lamps := rfl
@[simp] theorem Dev.modGauge_guard (g : GaugeSt → GaugeSt) : (d.modGauge g).guard = d.guard := rfl
@[simp] theorem Dev.modGauge_therm (g : GaugeSt → GaugeSt) : (d.modGauge g).therm = d.therm := rfl
@[simp] theorem Dev.modGauge_jtag (g : GaugeSt → GaugeSt) : (d.modGauge g).jtag = d.jtag := rfl
@[simp] theorem Dev.modGauge_gauge (g : GaugeSt → GaugeSt) : (d.modGauge g).gauge = g d.gauge := rfl
@[simp] theorem Dev.rd_modGauge (g : GaugeSt → GaugeSt) (a : Nat) : (d.modGauge g).rd a = d.rd a := rfl

/-! ### modPack -/

@[simp] theorem Dev.modPack_regs (g : PackSt → PackSt) : (d.modPack g).regs = d.regs := rfl
@[simp] theorem Dev.modPack_accs (g : PackSt → PackSt) : (d.modPack g).accs = d.accs := rfl
@[simp] theorem Dev.modPack_engine (g : PackSt → PackSt) : (d.modPack g).engine = d.engine := rfl
@[simp] theorem Dev.modPack_hopper (g : PackSt → PackSt) : (d.modPack g).hopper = d.hopper := rfl
@[simp] theorem Dev.modPack_own (g : PackSt → PackSt) : (d.modPack g).own = d.own := rfl
@[simp] theorem Dev.modPack_ports (g : PackSt → PackSt) : (d.modPack g).ports = d.ports := rfl
@[simp] theorem Dev.modPack_boot (g : PackSt → PackSt) : (d.modPack g).boot = d.boot := rfl
@[simp] theorem Dev.modPack_cfg (g : PackSt → PackSt) : (d.modPack g).cfg = d.cfg := rfl
@[simp] theorem Dev.modPack_recorder (g : PackSt → PackSt) : (d.modPack g).recorder = d.recorder := rfl
@[simp] theorem Dev.modPack_clock (g : PackSt → PackSt) : (d.modPack g).clock = d.clock := rfl
@[simp] theorem Dev.modPack_wdg (g : PackSt → PackSt) : (d.modPack g).wdg = d.wdg := rfl
@[simp] theorem Dev.modPack_routesLive (g : PackSt → PackSt) : (d.modPack g).routesLive = d.routesLive := rfl
@[simp] theorem Dev.modPack_freeCount (g : PackSt → PackSt) : (d.modPack g).freeCount = d.freeCount := rfl
@[simp] theorem Dev.modPack_pins (g : PackSt → PackSt) : (d.modPack g).pins = d.pins := rfl
@[simp] theorem Dev.modPack_phases (g : PackSt → PackSt) : (d.modPack g).phases = d.phases := rfl
@[simp] theorem Dev.modPack_loops (g : PackSt → PackSt) : (d.modPack g).loops = d.loops := rfl
@[simp] theorem Dev.modPack_links (g : PackSt → PackSt) : (d.modPack g).links = d.links := rfl
@[simp] theorem Dev.modPack_meas (g : PackSt → PackSt) : (d.modPack g).meas = d.meas := rfl
@[simp] theorem Dev.modPack_drill (g : PackSt → PackSt) : (d.modPack g).drill = d.drill := rfl
@[simp] theorem Dev.modPack_gauge (g : PackSt → PackSt) : (d.modPack g).gauge = d.gauge := rfl
@[simp] theorem Dev.modPack_chg (g : PackSt → PackSt) : (d.modPack g).chg = d.chg := rfl
@[simp] theorem Dev.modPack_lamps (g : PackSt → PackSt) : (d.modPack g).lamps = d.lamps := rfl
@[simp] theorem Dev.modPack_guard (g : PackSt → PackSt) : (d.modPack g).guard = d.guard := rfl
@[simp] theorem Dev.modPack_therm (g : PackSt → PackSt) : (d.modPack g).therm = d.therm := rfl
@[simp] theorem Dev.modPack_jtag (g : PackSt → PackSt) : (d.modPack g).jtag = d.jtag := rfl
@[simp] theorem Dev.modPack_pack (g : PackSt → PackSt) : (d.modPack g).pack = g d.pack := rfl
@[simp] theorem Dev.rd_modPack (g : PackSt → PackSt) (a : Nat) : (d.modPack g).rd a = d.rd a := rfl

/-! ### modChg -/

@[simp] theorem Dev.modChg_regs (g : ChgSt → ChgSt) : (d.modChg g).regs = d.regs := rfl
@[simp] theorem Dev.modChg_accs (g : ChgSt → ChgSt) : (d.modChg g).accs = d.accs := rfl
@[simp] theorem Dev.modChg_engine (g : ChgSt → ChgSt) : (d.modChg g).engine = d.engine := rfl
@[simp] theorem Dev.modChg_hopper (g : ChgSt → ChgSt) : (d.modChg g).hopper = d.hopper := rfl
@[simp] theorem Dev.modChg_own (g : ChgSt → ChgSt) : (d.modChg g).own = d.own := rfl
@[simp] theorem Dev.modChg_ports (g : ChgSt → ChgSt) : (d.modChg g).ports = d.ports := rfl
@[simp] theorem Dev.modChg_boot (g : ChgSt → ChgSt) : (d.modChg g).boot = d.boot := rfl
@[simp] theorem Dev.modChg_cfg (g : ChgSt → ChgSt) : (d.modChg g).cfg = d.cfg := rfl
@[simp] theorem Dev.modChg_recorder (g : ChgSt → ChgSt) : (d.modChg g).recorder = d.recorder := rfl
@[simp] theorem Dev.modChg_clock (g : ChgSt → ChgSt) : (d.modChg g).clock = d.clock := rfl
@[simp] theorem Dev.modChg_wdg (g : ChgSt → ChgSt) : (d.modChg g).wdg = d.wdg := rfl
@[simp] theorem Dev.modChg_routesLive (g : ChgSt → ChgSt) : (d.modChg g).routesLive = d.routesLive := rfl
@[simp] theorem Dev.modChg_freeCount (g : ChgSt → ChgSt) : (d.modChg g).freeCount = d.freeCount := rfl
@[simp] theorem Dev.modChg_pins (g : ChgSt → ChgSt) : (d.modChg g).pins = d.pins := rfl
@[simp] theorem Dev.modChg_phases (g : ChgSt → ChgSt) : (d.modChg g).phases = d.phases := rfl
@[simp] theorem Dev.modChg_loops (g : ChgSt → ChgSt) : (d.modChg g).loops = d.loops := rfl
@[simp] theorem Dev.modChg_links (g : ChgSt → ChgSt) : (d.modChg g).links = d.links := rfl
@[simp] theorem Dev.modChg_meas (g : ChgSt → ChgSt) : (d.modChg g).meas = d.meas := rfl
@[simp] theorem Dev.modChg_drill (g : ChgSt → ChgSt) : (d.modChg g).drill = d.drill := rfl
@[simp] theorem Dev.modChg_gauge (g : ChgSt → ChgSt) : (d.modChg g).gauge = d.gauge := rfl
@[simp] theorem Dev.modChg_pack (g : ChgSt → ChgSt) : (d.modChg g).pack = d.pack := rfl
@[simp] theorem Dev.modChg_lamps (g : ChgSt → ChgSt) : (d.modChg g).lamps = d.lamps := rfl
@[simp] theorem Dev.modChg_guard (g : ChgSt → ChgSt) : (d.modChg g).guard = d.guard := rfl
@[simp] theorem Dev.modChg_therm (g : ChgSt → ChgSt) : (d.modChg g).therm = d.therm := rfl
@[simp] theorem Dev.modChg_jtag (g : ChgSt → ChgSt) : (d.modChg g).jtag = d.jtag := rfl
@[simp] theorem Dev.modChg_chg (g : ChgSt → ChgSt) : (d.modChg g).chg = g d.chg := rfl
@[simp] theorem Dev.rd_modChg (g : ChgSt → ChgSt) (a : Nat) : (d.modChg g).rd a = d.rd a := rfl

/-! ### modLoop -/

@[simp] theorem Dev.modLoop_regs (n : Loop) (g : LoopSt → LoopSt) : (d.modLoop n g).regs = d.regs := rfl
@[simp] theorem Dev.modLoop_accs (n : Loop) (g : LoopSt → LoopSt) : (d.modLoop n g).accs = d.accs := rfl
@[simp] theorem Dev.modLoop_engine (n : Loop) (g : LoopSt → LoopSt) : (d.modLoop n g).engine = d.engine := rfl
@[simp] theorem Dev.modLoop_hopper (n : Loop) (g : LoopSt → LoopSt) : (d.modLoop n g).hopper = d.hopper := rfl
@[simp] theorem Dev.modLoop_own (n : Loop) (g : LoopSt → LoopSt) : (d.modLoop n g).own = d.own := rfl
@[simp] theorem Dev.modLoop_ports (n : Loop) (g : LoopSt → LoopSt) : (d.modLoop n g).ports = d.ports := rfl
@[simp] theorem Dev.modLoop_boot (n : Loop) (g : LoopSt → LoopSt) : (d.modLoop n g).boot = d.boot := rfl
@[simp] theorem Dev.modLoop_cfg (n : Loop) (g : LoopSt → LoopSt) : (d.modLoop n g).cfg = d.cfg := rfl
@[simp] theorem Dev.modLoop_recorder (n : Loop) (g : LoopSt → LoopSt) : (d.modLoop n g).recorder = d.recorder := rfl
@[simp] theorem Dev.modLoop_clock (n : Loop) (g : LoopSt → LoopSt) : (d.modLoop n g).clock = d.clock := rfl
@[simp] theorem Dev.modLoop_wdg (n : Loop) (g : LoopSt → LoopSt) : (d.modLoop n g).wdg = d.wdg := rfl
@[simp] theorem Dev.modLoop_routesLive (n : Loop) (g : LoopSt → LoopSt) : (d.modLoop n g).routesLive = d.routesLive := rfl
@[simp] theorem Dev.modLoop_freeCount (n : Loop) (g : LoopSt → LoopSt) : (d.modLoop n g).freeCount = d.freeCount := rfl
@[simp] theorem Dev.modLoop_pins (n : Loop) (g : LoopSt → LoopSt) : (d.modLoop n g).pins = d.pins := rfl
@[simp] theorem Dev.modLoop_phases (n : Loop) (g : LoopSt → LoopSt) : (d.modLoop n g).phases = d.phases := rfl
@[simp] theorem Dev.modLoop_links (n : Loop) (g : LoopSt → LoopSt) : (d.modLoop n g).links = d.links := rfl
@[simp] theorem Dev.modLoop_meas (n : Loop) (g : LoopSt → LoopSt) : (d.modLoop n g).meas = d.meas := rfl
@[simp] theorem Dev.modLoop_drill (n : Loop) (g : LoopSt → LoopSt) : (d.modLoop n g).drill = d.drill := rfl
@[simp] theorem Dev.modLoop_gauge (n : Loop) (g : LoopSt → LoopSt) : (d.modLoop n g).gauge = d.gauge := rfl
@[simp] theorem Dev.modLoop_pack (n : Loop) (g : LoopSt → LoopSt) : (d.modLoop n g).pack = d.pack := rfl
@[simp] theorem Dev.modLoop_chg (n : Loop) (g : LoopSt → LoopSt) : (d.modLoop n g).chg = d.chg := rfl
@[simp] theorem Dev.modLoop_lamps (n : Loop) (g : LoopSt → LoopSt) : (d.modLoop n g).lamps = d.lamps := rfl
@[simp] theorem Dev.modLoop_guard (n : Loop) (g : LoopSt → LoopSt) : (d.modLoop n g).guard = d.guard := rfl
@[simp] theorem Dev.modLoop_therm (n : Loop) (g : LoopSt → LoopSt) : (d.modLoop n g).therm = d.therm := rfl
@[simp] theorem Dev.modLoop_jtag (n : Loop) (g : LoopSt → LoopSt) : (d.modLoop n g).jtag = d.jtag := rfl
@[simp] theorem Dev.modLoop_loops (n : Loop) (g : LoopSt → LoopSt) : (d.modLoop n g).loops = d.loops.set n (g d.loops[n]) := rfl
@[simp] theorem Dev.rd_modLoop (n : Loop) (g : LoopSt → LoopSt) (a : Nat) : (d.modLoop n g).rd a = d.rd a := rfl

/-! ### modPhase -/

@[simp] theorem Dev.modPhase_regs (m : Phase) (g : PhaseSt → PhaseSt) : (d.modPhase m g).regs = d.regs := rfl
@[simp] theorem Dev.modPhase_accs (m : Phase) (g : PhaseSt → PhaseSt) : (d.modPhase m g).accs = d.accs := rfl
@[simp] theorem Dev.modPhase_engine (m : Phase) (g : PhaseSt → PhaseSt) : (d.modPhase m g).engine = d.engine := rfl
@[simp] theorem Dev.modPhase_hopper (m : Phase) (g : PhaseSt → PhaseSt) : (d.modPhase m g).hopper = d.hopper := rfl
@[simp] theorem Dev.modPhase_own (m : Phase) (g : PhaseSt → PhaseSt) : (d.modPhase m g).own = d.own := rfl
@[simp] theorem Dev.modPhase_ports (m : Phase) (g : PhaseSt → PhaseSt) : (d.modPhase m g).ports = d.ports := rfl
@[simp] theorem Dev.modPhase_boot (m : Phase) (g : PhaseSt → PhaseSt) : (d.modPhase m g).boot = d.boot := rfl
@[simp] theorem Dev.modPhase_cfg (m : Phase) (g : PhaseSt → PhaseSt) : (d.modPhase m g).cfg = d.cfg := rfl
@[simp] theorem Dev.modPhase_recorder (m : Phase) (g : PhaseSt → PhaseSt) : (d.modPhase m g).recorder = d.recorder := rfl
@[simp] theorem Dev.modPhase_clock (m : Phase) (g : PhaseSt → PhaseSt) : (d.modPhase m g).clock = d.clock := rfl
@[simp] theorem Dev.modPhase_wdg (m : Phase) (g : PhaseSt → PhaseSt) : (d.modPhase m g).wdg = d.wdg := rfl
@[simp] theorem Dev.modPhase_routesLive (m : Phase) (g : PhaseSt → PhaseSt) : (d.modPhase m g).routesLive = d.routesLive := rfl
@[simp] theorem Dev.modPhase_freeCount (m : Phase) (g : PhaseSt → PhaseSt) : (d.modPhase m g).freeCount = d.freeCount := rfl
@[simp] theorem Dev.modPhase_pins (m : Phase) (g : PhaseSt → PhaseSt) : (d.modPhase m g).pins = d.pins := rfl
@[simp] theorem Dev.modPhase_loops (m : Phase) (g : PhaseSt → PhaseSt) : (d.modPhase m g).loops = d.loops := rfl
@[simp] theorem Dev.modPhase_links (m : Phase) (g : PhaseSt → PhaseSt) : (d.modPhase m g).links = d.links := rfl
@[simp] theorem Dev.modPhase_meas (m : Phase) (g : PhaseSt → PhaseSt) : (d.modPhase m g).meas = d.meas := rfl
@[simp] theorem Dev.modPhase_drill (m : Phase) (g : PhaseSt → PhaseSt) : (d.modPhase m g).drill = d.drill := rfl
@[simp] theorem Dev.modPhase_gauge (m : Phase) (g : PhaseSt → PhaseSt) : (d.modPhase m g).gauge = d.gauge := rfl
@[simp] theorem Dev.modPhase_pack (m : Phase) (g : PhaseSt → PhaseSt) : (d.modPhase m g).pack = d.pack := rfl
@[simp] theorem Dev.modPhase_chg (m : Phase) (g : PhaseSt → PhaseSt) : (d.modPhase m g).chg = d.chg := rfl
@[simp] theorem Dev.modPhase_lamps (m : Phase) (g : PhaseSt → PhaseSt) : (d.modPhase m g).lamps = d.lamps := rfl
@[simp] theorem Dev.modPhase_guard (m : Phase) (g : PhaseSt → PhaseSt) : (d.modPhase m g).guard = d.guard := rfl
@[simp] theorem Dev.modPhase_therm (m : Phase) (g : PhaseSt → PhaseSt) : (d.modPhase m g).therm = d.therm := rfl
@[simp] theorem Dev.modPhase_jtag (m : Phase) (g : PhaseSt → PhaseSt) : (d.modPhase m g).jtag = d.jtag := rfl
@[simp] theorem Dev.modPhase_phases (m : Phase) (g : PhaseSt → PhaseSt) : (d.modPhase m g).phases = d.phases.set m (g d.phases[m]) := rfl
@[simp] theorem Dev.rd_modPhase (m : Phase) (g : PhaseSt → PhaseSt) (a : Nat) : (d.modPhase m g).rd a = d.rd a := rfl

/-! ### modLink -/

@[simp] theorem Dev.modLink_regs (k : Link) (g : LinkSt → LinkSt) : (d.modLink k g).regs = d.regs := rfl
@[simp] theorem Dev.modLink_accs (k : Link) (g : LinkSt → LinkSt) : (d.modLink k g).accs = d.accs := rfl
@[simp] theorem Dev.modLink_engine (k : Link) (g : LinkSt → LinkSt) : (d.modLink k g).engine = d.engine := rfl
@[simp] theorem Dev.modLink_hopper (k : Link) (g : LinkSt → LinkSt) : (d.modLink k g).hopper = d.hopper := rfl
@[simp] theorem Dev.modLink_own (k : Link) (g : LinkSt → LinkSt) : (d.modLink k g).own = d.own := rfl
@[simp] theorem Dev.modLink_ports (k : Link) (g : LinkSt → LinkSt) : (d.modLink k g).ports = d.ports := rfl
@[simp] theorem Dev.modLink_boot (k : Link) (g : LinkSt → LinkSt) : (d.modLink k g).boot = d.boot := rfl
@[simp] theorem Dev.modLink_cfg (k : Link) (g : LinkSt → LinkSt) : (d.modLink k g).cfg = d.cfg := rfl
@[simp] theorem Dev.modLink_recorder (k : Link) (g : LinkSt → LinkSt) : (d.modLink k g).recorder = d.recorder := rfl
@[simp] theorem Dev.modLink_clock (k : Link) (g : LinkSt → LinkSt) : (d.modLink k g).clock = d.clock := rfl
@[simp] theorem Dev.modLink_wdg (k : Link) (g : LinkSt → LinkSt) : (d.modLink k g).wdg = d.wdg := rfl
@[simp] theorem Dev.modLink_routesLive (k : Link) (g : LinkSt → LinkSt) : (d.modLink k g).routesLive = d.routesLive := rfl
@[simp] theorem Dev.modLink_freeCount (k : Link) (g : LinkSt → LinkSt) : (d.modLink k g).freeCount = d.freeCount := rfl
@[simp] theorem Dev.modLink_pins (k : Link) (g : LinkSt → LinkSt) : (d.modLink k g).pins = d.pins := rfl
@[simp] theorem Dev.modLink_phases (k : Link) (g : LinkSt → LinkSt) : (d.modLink k g).phases = d.phases := rfl
@[simp] theorem Dev.modLink_loops (k : Link) (g : LinkSt → LinkSt) : (d.modLink k g).loops = d.loops := rfl
@[simp] theorem Dev.modLink_meas (k : Link) (g : LinkSt → LinkSt) : (d.modLink k g).meas = d.meas := rfl
@[simp] theorem Dev.modLink_drill (k : Link) (g : LinkSt → LinkSt) : (d.modLink k g).drill = d.drill := rfl
@[simp] theorem Dev.modLink_gauge (k : Link) (g : LinkSt → LinkSt) : (d.modLink k g).gauge = d.gauge := rfl
@[simp] theorem Dev.modLink_pack (k : Link) (g : LinkSt → LinkSt) : (d.modLink k g).pack = d.pack := rfl
@[simp] theorem Dev.modLink_chg (k : Link) (g : LinkSt → LinkSt) : (d.modLink k g).chg = d.chg := rfl
@[simp] theorem Dev.modLink_lamps (k : Link) (g : LinkSt → LinkSt) : (d.modLink k g).lamps = d.lamps := rfl
@[simp] theorem Dev.modLink_guard (k : Link) (g : LinkSt → LinkSt) : (d.modLink k g).guard = d.guard := rfl
@[simp] theorem Dev.modLink_therm (k : Link) (g : LinkSt → LinkSt) : (d.modLink k g).therm = d.therm := rfl
@[simp] theorem Dev.modLink_jtag (k : Link) (g : LinkSt → LinkSt) : (d.modLink k g).jtag = d.jtag := rfl
@[simp] theorem Dev.modLink_links (k : Link) (g : LinkSt → LinkSt) : (d.modLink k g).links = d.links.set k (g d.links[k]) := rfl
@[simp] theorem Dev.rd_modLink (k : Link) (g : LinkSt → LinkSt) (a : Nat) : (d.modLink k g).rd a = d.rd a := rfl

/-! ### modBoot -/

@[simp] theorem Dev.modBoot_regs (g : BootSt → BootSt) : (d.modBoot g).regs = d.regs := rfl
@[simp] theorem Dev.modBoot_accs (g : BootSt → BootSt) : (d.modBoot g).accs = d.accs := rfl
@[simp] theorem Dev.modBoot_engine (g : BootSt → BootSt) : (d.modBoot g).engine = d.engine := rfl
@[simp] theorem Dev.modBoot_hopper (g : BootSt → BootSt) : (d.modBoot g).hopper = d.hopper := rfl
@[simp] theorem Dev.modBoot_own (g : BootSt → BootSt) : (d.modBoot g).own = d.own := rfl
@[simp] theorem Dev.modBoot_ports (g : BootSt → BootSt) : (d.modBoot g).ports = d.ports := rfl
@[simp] theorem Dev.modBoot_cfg (g : BootSt → BootSt) : (d.modBoot g).cfg = d.cfg := rfl
@[simp] theorem Dev.modBoot_recorder (g : BootSt → BootSt) : (d.modBoot g).recorder = d.recorder := rfl
@[simp] theorem Dev.modBoot_clock (g : BootSt → BootSt) : (d.modBoot g).clock = d.clock := rfl
@[simp] theorem Dev.modBoot_wdg (g : BootSt → BootSt) : (d.modBoot g).wdg = d.wdg := rfl
@[simp] theorem Dev.modBoot_routesLive (g : BootSt → BootSt) : (d.modBoot g).routesLive = d.routesLive := rfl
@[simp] theorem Dev.modBoot_freeCount (g : BootSt → BootSt) : (d.modBoot g).freeCount = d.freeCount := rfl
@[simp] theorem Dev.modBoot_pins (g : BootSt → BootSt) : (d.modBoot g).pins = d.pins := rfl
@[simp] theorem Dev.modBoot_phases (g : BootSt → BootSt) : (d.modBoot g).phases = d.phases := rfl
@[simp] theorem Dev.modBoot_loops (g : BootSt → BootSt) : (d.modBoot g).loops = d.loops := rfl
@[simp] theorem Dev.modBoot_links (g : BootSt → BootSt) : (d.modBoot g).links = d.links := rfl
@[simp] theorem Dev.modBoot_meas (g : BootSt → BootSt) : (d.modBoot g).meas = d.meas := rfl
@[simp] theorem Dev.modBoot_drill (g : BootSt → BootSt) : (d.modBoot g).drill = d.drill := rfl
@[simp] theorem Dev.modBoot_gauge (g : BootSt → BootSt) : (d.modBoot g).gauge = d.gauge := rfl
@[simp] theorem Dev.modBoot_pack (g : BootSt → BootSt) : (d.modBoot g).pack = d.pack := rfl
@[simp] theorem Dev.modBoot_chg (g : BootSt → BootSt) : (d.modBoot g).chg = d.chg := rfl
@[simp] theorem Dev.modBoot_lamps (g : BootSt → BootSt) : (d.modBoot g).lamps = d.lamps := rfl
@[simp] theorem Dev.modBoot_guard (g : BootSt → BootSt) : (d.modBoot g).guard = d.guard := rfl
@[simp] theorem Dev.modBoot_therm (g : BootSt → BootSt) : (d.modBoot g).therm = d.therm := rfl
@[simp] theorem Dev.modBoot_jtag (g : BootSt → BootSt) : (d.modBoot g).jtag = d.jtag := rfl
@[simp] theorem Dev.modBoot_boot (g : BootSt → BootSt) : (d.modBoot g).boot = g d.boot := rfl
@[simp] theorem Dev.rd_modBoot (g : BootSt → BootSt) (a : Nat) : (d.modBoot g).rd a = d.rd a := rfl

/-! ### modCfg -/

@[simp] theorem Dev.modCfg_regs (g : CfgSt → CfgSt) : (d.modCfg g).regs = d.regs := rfl
@[simp] theorem Dev.modCfg_accs (g : CfgSt → CfgSt) : (d.modCfg g).accs = d.accs := rfl
@[simp] theorem Dev.modCfg_engine (g : CfgSt → CfgSt) : (d.modCfg g).engine = d.engine := rfl
@[simp] theorem Dev.modCfg_hopper (g : CfgSt → CfgSt) : (d.modCfg g).hopper = d.hopper := rfl
@[simp] theorem Dev.modCfg_own (g : CfgSt → CfgSt) : (d.modCfg g).own = d.own := rfl
@[simp] theorem Dev.modCfg_ports (g : CfgSt → CfgSt) : (d.modCfg g).ports = d.ports := rfl
@[simp] theorem Dev.modCfg_boot (g : CfgSt → CfgSt) : (d.modCfg g).boot = d.boot := rfl
@[simp] theorem Dev.modCfg_recorder (g : CfgSt → CfgSt) : (d.modCfg g).recorder = d.recorder := rfl
@[simp] theorem Dev.modCfg_clock (g : CfgSt → CfgSt) : (d.modCfg g).clock = d.clock := rfl
@[simp] theorem Dev.modCfg_wdg (g : CfgSt → CfgSt) : (d.modCfg g).wdg = d.wdg := rfl
@[simp] theorem Dev.modCfg_routesLive (g : CfgSt → CfgSt) : (d.modCfg g).routesLive = d.routesLive := rfl
@[simp] theorem Dev.modCfg_freeCount (g : CfgSt → CfgSt) : (d.modCfg g).freeCount = d.freeCount := rfl
@[simp] theorem Dev.modCfg_pins (g : CfgSt → CfgSt) : (d.modCfg g).pins = d.pins := rfl
@[simp] theorem Dev.modCfg_phases (g : CfgSt → CfgSt) : (d.modCfg g).phases = d.phases := rfl
@[simp] theorem Dev.modCfg_loops (g : CfgSt → CfgSt) : (d.modCfg g).loops = d.loops := rfl
@[simp] theorem Dev.modCfg_links (g : CfgSt → CfgSt) : (d.modCfg g).links = d.links := rfl
@[simp] theorem Dev.modCfg_meas (g : CfgSt → CfgSt) : (d.modCfg g).meas = d.meas := rfl
@[simp] theorem Dev.modCfg_drill (g : CfgSt → CfgSt) : (d.modCfg g).drill = d.drill := rfl
@[simp] theorem Dev.modCfg_gauge (g : CfgSt → CfgSt) : (d.modCfg g).gauge = d.gauge := rfl
@[simp] theorem Dev.modCfg_pack (g : CfgSt → CfgSt) : (d.modCfg g).pack = d.pack := rfl
@[simp] theorem Dev.modCfg_chg (g : CfgSt → CfgSt) : (d.modCfg g).chg = d.chg := rfl
@[simp] theorem Dev.modCfg_lamps (g : CfgSt → CfgSt) : (d.modCfg g).lamps = d.lamps := rfl
@[simp] theorem Dev.modCfg_guard (g : CfgSt → CfgSt) : (d.modCfg g).guard = d.guard := rfl
@[simp] theorem Dev.modCfg_therm (g : CfgSt → CfgSt) : (d.modCfg g).therm = d.therm := rfl
@[simp] theorem Dev.modCfg_jtag (g : CfgSt → CfgSt) : (d.modCfg g).jtag = d.jtag := rfl
@[simp] theorem Dev.modCfg_cfg (g : CfgSt → CfgSt) : (d.modCfg g).cfg = g d.cfg := rfl
@[simp] theorem Dev.rd_modCfg (g : CfgSt → CfgSt) (a : Nat) : (d.modCfg g).rd a = d.rd a := rfl

/-! ### modRec -/

@[simp] theorem Dev.modRec_regs (g : RecSt → RecSt) : (d.modRec g).regs = d.regs := rfl
@[simp] theorem Dev.modRec_accs (g : RecSt → RecSt) : (d.modRec g).accs = d.accs := rfl
@[simp] theorem Dev.modRec_engine (g : RecSt → RecSt) : (d.modRec g).engine = d.engine := rfl
@[simp] theorem Dev.modRec_hopper (g : RecSt → RecSt) : (d.modRec g).hopper = d.hopper := rfl
@[simp] theorem Dev.modRec_own (g : RecSt → RecSt) : (d.modRec g).own = d.own := rfl
@[simp] theorem Dev.modRec_ports (g : RecSt → RecSt) : (d.modRec g).ports = d.ports := rfl
@[simp] theorem Dev.modRec_boot (g : RecSt → RecSt) : (d.modRec g).boot = d.boot := rfl
@[simp] theorem Dev.modRec_cfg (g : RecSt → RecSt) : (d.modRec g).cfg = d.cfg := rfl
@[simp] theorem Dev.modRec_clock (g : RecSt → RecSt) : (d.modRec g).clock = d.clock := rfl
@[simp] theorem Dev.modRec_wdg (g : RecSt → RecSt) : (d.modRec g).wdg = d.wdg := rfl
@[simp] theorem Dev.modRec_routesLive (g : RecSt → RecSt) : (d.modRec g).routesLive = d.routesLive := rfl
@[simp] theorem Dev.modRec_freeCount (g : RecSt → RecSt) : (d.modRec g).freeCount = d.freeCount := rfl
@[simp] theorem Dev.modRec_pins (g : RecSt → RecSt) : (d.modRec g).pins = d.pins := rfl
@[simp] theorem Dev.modRec_phases (g : RecSt → RecSt) : (d.modRec g).phases = d.phases := rfl
@[simp] theorem Dev.modRec_loops (g : RecSt → RecSt) : (d.modRec g).loops = d.loops := rfl
@[simp] theorem Dev.modRec_links (g : RecSt → RecSt) : (d.modRec g).links = d.links := rfl
@[simp] theorem Dev.modRec_meas (g : RecSt → RecSt) : (d.modRec g).meas = d.meas := rfl
@[simp] theorem Dev.modRec_drill (g : RecSt → RecSt) : (d.modRec g).drill = d.drill := rfl
@[simp] theorem Dev.modRec_gauge (g : RecSt → RecSt) : (d.modRec g).gauge = d.gauge := rfl
@[simp] theorem Dev.modRec_pack (g : RecSt → RecSt) : (d.modRec g).pack = d.pack := rfl
@[simp] theorem Dev.modRec_chg (g : RecSt → RecSt) : (d.modRec g).chg = d.chg := rfl
@[simp] theorem Dev.modRec_lamps (g : RecSt → RecSt) : (d.modRec g).lamps = d.lamps := rfl
@[simp] theorem Dev.modRec_guard (g : RecSt → RecSt) : (d.modRec g).guard = d.guard := rfl
@[simp] theorem Dev.modRec_therm (g : RecSt → RecSt) : (d.modRec g).therm = d.therm := rfl
@[simp] theorem Dev.modRec_jtag (g : RecSt → RecSt) : (d.modRec g).jtag = d.jtag := rfl
@[simp] theorem Dev.modRec_recorder (g : RecSt → RecSt) : (d.modRec g).recorder = g d.recorder := rfl
@[simp] theorem Dev.rd_modRec (g : RecSt → RecSt) (a : Nat) : (d.modRec g).rd a = d.rd a := rfl

/-! ### modSlot -/

@[simp] theorem Dev.modSlot_regs (n : WSlot) (g : WdgSlot → WdgSlot) : (d.modSlot n g).regs = d.regs := rfl
@[simp] theorem Dev.modSlot_accs (n : WSlot) (g : WdgSlot → WdgSlot) : (d.modSlot n g).accs = d.accs := rfl
@[simp] theorem Dev.modSlot_engine (n : WSlot) (g : WdgSlot → WdgSlot) : (d.modSlot n g).engine = d.engine := rfl
@[simp] theorem Dev.modSlot_hopper (n : WSlot) (g : WdgSlot → WdgSlot) : (d.modSlot n g).hopper = d.hopper := rfl
@[simp] theorem Dev.modSlot_own (n : WSlot) (g : WdgSlot → WdgSlot) : (d.modSlot n g).own = d.own := rfl
@[simp] theorem Dev.modSlot_ports (n : WSlot) (g : WdgSlot → WdgSlot) : (d.modSlot n g).ports = d.ports := rfl
@[simp] theorem Dev.modSlot_boot (n : WSlot) (g : WdgSlot → WdgSlot) : (d.modSlot n g).boot = d.boot := rfl
@[simp] theorem Dev.modSlot_cfg (n : WSlot) (g : WdgSlot → WdgSlot) : (d.modSlot n g).cfg = d.cfg := rfl
@[simp] theorem Dev.modSlot_recorder (n : WSlot) (g : WdgSlot → WdgSlot) : (d.modSlot n g).recorder = d.recorder := rfl
@[simp] theorem Dev.modSlot_clock (n : WSlot) (g : WdgSlot → WdgSlot) : (d.modSlot n g).clock = d.clock := rfl
@[simp] theorem Dev.modSlot_routesLive (n : WSlot) (g : WdgSlot → WdgSlot) : (d.modSlot n g).routesLive = d.routesLive := rfl
@[simp] theorem Dev.modSlot_freeCount (n : WSlot) (g : WdgSlot → WdgSlot) : (d.modSlot n g).freeCount = d.freeCount := rfl
@[simp] theorem Dev.modSlot_pins (n : WSlot) (g : WdgSlot → WdgSlot) : (d.modSlot n g).pins = d.pins := rfl
@[simp] theorem Dev.modSlot_phases (n : WSlot) (g : WdgSlot → WdgSlot) : (d.modSlot n g).phases = d.phases := rfl
@[simp] theorem Dev.modSlot_loops (n : WSlot) (g : WdgSlot → WdgSlot) : (d.modSlot n g).loops = d.loops := rfl
@[simp] theorem Dev.modSlot_links (n : WSlot) (g : WdgSlot → WdgSlot) : (d.modSlot n g).links = d.links := rfl
@[simp] theorem Dev.modSlot_meas (n : WSlot) (g : WdgSlot → WdgSlot) : (d.modSlot n g).meas = d.meas := rfl
@[simp] theorem Dev.modSlot_drill (n : WSlot) (g : WdgSlot → WdgSlot) : (d.modSlot n g).drill = d.drill := rfl
@[simp] theorem Dev.modSlot_gauge (n : WSlot) (g : WdgSlot → WdgSlot) : (d.modSlot n g).gauge = d.gauge := rfl
@[simp] theorem Dev.modSlot_pack (n : WSlot) (g : WdgSlot → WdgSlot) : (d.modSlot n g).pack = d.pack := rfl
@[simp] theorem Dev.modSlot_chg (n : WSlot) (g : WdgSlot → WdgSlot) : (d.modSlot n g).chg = d.chg := rfl
@[simp] theorem Dev.modSlot_lamps (n : WSlot) (g : WdgSlot → WdgSlot) : (d.modSlot n g).lamps = d.lamps := rfl
@[simp] theorem Dev.modSlot_guard (n : WSlot) (g : WdgSlot → WdgSlot) : (d.modSlot n g).guard = d.guard := rfl
@[simp] theorem Dev.modSlot_therm (n : WSlot) (g : WdgSlot → WdgSlot) : (d.modSlot n g).therm = d.therm := rfl
@[simp] theorem Dev.modSlot_jtag (n : WSlot) (g : WdgSlot → WdgSlot) : (d.modSlot n g).jtag = d.jtag := rfl
@[simp] theorem Dev.modSlot_wdg (n : WSlot) (g : WdgSlot → WdgSlot) : (d.modSlot n g).wdg = d.wdg.set n (g d.wdg[n]) := rfl
@[simp] theorem Dev.rd_modSlot (n : WSlot) (g : WdgSlot → WdgSlot) (a : Nat) : (d.modSlot n g).rd a = d.rd a := rfl

/-! ### modGuard -/

@[simp] theorem Dev.modGuard_regs (g : GuardSt → GuardSt) : (d.modGuard g).regs = d.regs := rfl
@[simp] theorem Dev.modGuard_accs (g : GuardSt → GuardSt) : (d.modGuard g).accs = d.accs := rfl
@[simp] theorem Dev.modGuard_engine (g : GuardSt → GuardSt) : (d.modGuard g).engine = d.engine := rfl
@[simp] theorem Dev.modGuard_hopper (g : GuardSt → GuardSt) : (d.modGuard g).hopper = d.hopper := rfl
@[simp] theorem Dev.modGuard_own (g : GuardSt → GuardSt) : (d.modGuard g).own = d.own := rfl
@[simp] theorem Dev.modGuard_ports (g : GuardSt → GuardSt) : (d.modGuard g).ports = d.ports := rfl
@[simp] theorem Dev.modGuard_boot (g : GuardSt → GuardSt) : (d.modGuard g).boot = d.boot := rfl
@[simp] theorem Dev.modGuard_cfg (g : GuardSt → GuardSt) : (d.modGuard g).cfg = d.cfg := rfl
@[simp] theorem Dev.modGuard_recorder (g : GuardSt → GuardSt) : (d.modGuard g).recorder = d.recorder := rfl
@[simp] theorem Dev.modGuard_clock (g : GuardSt → GuardSt) : (d.modGuard g).clock = d.clock := rfl
@[simp] theorem Dev.modGuard_wdg (g : GuardSt → GuardSt) : (d.modGuard g).wdg = d.wdg := rfl
@[simp] theorem Dev.modGuard_routesLive (g : GuardSt → GuardSt) : (d.modGuard g).routesLive = d.routesLive := rfl
@[simp] theorem Dev.modGuard_freeCount (g : GuardSt → GuardSt) : (d.modGuard g).freeCount = d.freeCount := rfl
@[simp] theorem Dev.modGuard_pins (g : GuardSt → GuardSt) : (d.modGuard g).pins = d.pins := rfl
@[simp] theorem Dev.modGuard_phases (g : GuardSt → GuardSt) : (d.modGuard g).phases = d.phases := rfl
@[simp] theorem Dev.modGuard_loops (g : GuardSt → GuardSt) : (d.modGuard g).loops = d.loops := rfl
@[simp] theorem Dev.modGuard_links (g : GuardSt → GuardSt) : (d.modGuard g).links = d.links := rfl
@[simp] theorem Dev.modGuard_meas (g : GuardSt → GuardSt) : (d.modGuard g).meas = d.meas := rfl
@[simp] theorem Dev.modGuard_drill (g : GuardSt → GuardSt) : (d.modGuard g).drill = d.drill := rfl
@[simp] theorem Dev.modGuard_gauge (g : GuardSt → GuardSt) : (d.modGuard g).gauge = d.gauge := rfl
@[simp] theorem Dev.modGuard_pack (g : GuardSt → GuardSt) : (d.modGuard g).pack = d.pack := rfl
@[simp] theorem Dev.modGuard_chg (g : GuardSt → GuardSt) : (d.modGuard g).chg = d.chg := rfl
@[simp] theorem Dev.modGuard_lamps (g : GuardSt → GuardSt) : (d.modGuard g).lamps = d.lamps := rfl
@[simp] theorem Dev.modGuard_therm (g : GuardSt → GuardSt) : (d.modGuard g).therm = d.therm := rfl
@[simp] theorem Dev.modGuard_jtag (g : GuardSt → GuardSt) : (d.modGuard g).jtag = d.jtag := rfl
@[simp] theorem Dev.modGuard_guard (g : GuardSt → GuardSt) : (d.modGuard g).guard = g d.guard := rfl
@[simp] theorem Dev.rd_modGuard (g : GuardSt → GuardSt) (a : Nat) : (d.modGuard g).rd a = d.rd a := rfl

/-! ### modClock -/

@[simp] theorem Dev.modClock_regs (g : ClockSt → ClockSt) : (d.modClock g).regs = d.regs := rfl
@[simp] theorem Dev.modClock_accs (g : ClockSt → ClockSt) : (d.modClock g).accs = d.accs := rfl
@[simp] theorem Dev.modClock_engine (g : ClockSt → ClockSt) : (d.modClock g).engine = d.engine := rfl
@[simp] theorem Dev.modClock_hopper (g : ClockSt → ClockSt) : (d.modClock g).hopper = d.hopper := rfl
@[simp] theorem Dev.modClock_own (g : ClockSt → ClockSt) : (d.modClock g).own = d.own := rfl
@[simp] theorem Dev.modClock_ports (g : ClockSt → ClockSt) : (d.modClock g).ports = d.ports := rfl
@[simp] theorem Dev.modClock_boot (g : ClockSt → ClockSt) : (d.modClock g).boot = d.boot := rfl
@[simp] theorem Dev.modClock_cfg (g : ClockSt → ClockSt) : (d.modClock g).cfg = d.cfg := rfl
@[simp] theorem Dev.modClock_recorder (g : ClockSt → ClockSt) : (d.modClock g).recorder = d.recorder := rfl
@[simp] theorem Dev.modClock_wdg (g : ClockSt → ClockSt) : (d.modClock g).wdg = d.wdg := rfl
@[simp] theorem Dev.modClock_routesLive (g : ClockSt → ClockSt) : (d.modClock g).routesLive = d.routesLive := rfl
@[simp] theorem Dev.modClock_freeCount (g : ClockSt → ClockSt) : (d.modClock g).freeCount = d.freeCount := rfl
@[simp] theorem Dev.modClock_pins (g : ClockSt → ClockSt) : (d.modClock g).pins = d.pins := rfl
@[simp] theorem Dev.modClock_phases (g : ClockSt → ClockSt) : (d.modClock g).phases = d.phases := rfl
@[simp] theorem Dev.modClock_loops (g : ClockSt → ClockSt) : (d.modClock g).loops = d.loops := rfl
@[simp] theorem Dev.modClock_links (g : ClockSt → ClockSt) : (d.modClock g).links = d.links := rfl
@[simp] theorem Dev.modClock_meas (g : ClockSt → ClockSt) : (d.modClock g).meas = d.meas := rfl
@[simp] theorem Dev.modClock_drill (g : ClockSt → ClockSt) : (d.modClock g).drill = d.drill := rfl
@[simp] theorem Dev.modClock_gauge (g : ClockSt → ClockSt) : (d.modClock g).gauge = d.gauge := rfl
@[simp] theorem Dev.modClock_pack (g : ClockSt → ClockSt) : (d.modClock g).pack = d.pack := rfl
@[simp] theorem Dev.modClock_chg (g : ClockSt → ClockSt) : (d.modClock g).chg = d.chg := rfl
@[simp] theorem Dev.modClock_lamps (g : ClockSt → ClockSt) : (d.modClock g).lamps = d.lamps := rfl
@[simp] theorem Dev.modClock_guard (g : ClockSt → ClockSt) : (d.modClock g).guard = d.guard := rfl
@[simp] theorem Dev.modClock_therm (g : ClockSt → ClockSt) : (d.modClock g).therm = d.therm := rfl
@[simp] theorem Dev.modClock_jtag (g : ClockSt → ClockSt) : (d.modClock g).jtag = d.jtag := rfl
@[simp] theorem Dev.modClock_clock (g : ClockSt → ClockSt) : (d.modClock g).clock = g d.clock := rfl
@[simp] theorem Dev.rd_modClock (g : ClockSt → ClockSt) (a : Nat) : (d.modClock g).rd a = d.rd a := rfl

/-! ### modPort -/

@[simp] theorem Dev.modPort_regs (p : Port) (g : PortSt → PortSt) : (d.modPort p g).regs = d.regs := rfl
@[simp] theorem Dev.modPort_accs (p : Port) (g : PortSt → PortSt) : (d.modPort p g).accs = d.accs := rfl
@[simp] theorem Dev.modPort_engine (p : Port) (g : PortSt → PortSt) : (d.modPort p g).engine = d.engine := rfl
@[simp] theorem Dev.modPort_hopper (p : Port) (g : PortSt → PortSt) : (d.modPort p g).hopper = d.hopper := rfl
@[simp] theorem Dev.modPort_own (p : Port) (g : PortSt → PortSt) : (d.modPort p g).own = d.own := rfl
@[simp] theorem Dev.modPort_boot (p : Port) (g : PortSt → PortSt) : (d.modPort p g).boot = d.boot := rfl
@[simp] theorem Dev.modPort_cfg (p : Port) (g : PortSt → PortSt) : (d.modPort p g).cfg = d.cfg := rfl
@[simp] theorem Dev.modPort_recorder (p : Port) (g : PortSt → PortSt) : (d.modPort p g).recorder = d.recorder := rfl
@[simp] theorem Dev.modPort_clock (p : Port) (g : PortSt → PortSt) : (d.modPort p g).clock = d.clock := rfl
@[simp] theorem Dev.modPort_wdg (p : Port) (g : PortSt → PortSt) : (d.modPort p g).wdg = d.wdg := rfl
@[simp] theorem Dev.modPort_routesLive (p : Port) (g : PortSt → PortSt) : (d.modPort p g).routesLive = d.routesLive := rfl
@[simp] theorem Dev.modPort_freeCount (p : Port) (g : PortSt → PortSt) : (d.modPort p g).freeCount = d.freeCount := rfl
@[simp] theorem Dev.modPort_pins (p : Port) (g : PortSt → PortSt) : (d.modPort p g).pins = d.pins := rfl
@[simp] theorem Dev.modPort_phases (p : Port) (g : PortSt → PortSt) : (d.modPort p g).phases = d.phases := rfl
@[simp] theorem Dev.modPort_loops (p : Port) (g : PortSt → PortSt) : (d.modPort p g).loops = d.loops := rfl
@[simp] theorem Dev.modPort_links (p : Port) (g : PortSt → PortSt) : (d.modPort p g).links = d.links := rfl
@[simp] theorem Dev.modPort_meas (p : Port) (g : PortSt → PortSt) : (d.modPort p g).meas = d.meas := rfl
@[simp] theorem Dev.modPort_drill (p : Port) (g : PortSt → PortSt) : (d.modPort p g).drill = d.drill := rfl
@[simp] theorem Dev.modPort_gauge (p : Port) (g : PortSt → PortSt) : (d.modPort p g).gauge = d.gauge := rfl
@[simp] theorem Dev.modPort_pack (p : Port) (g : PortSt → PortSt) : (d.modPort p g).pack = d.pack := rfl
@[simp] theorem Dev.modPort_chg (p : Port) (g : PortSt → PortSt) : (d.modPort p g).chg = d.chg := rfl
@[simp] theorem Dev.modPort_lamps (p : Port) (g : PortSt → PortSt) : (d.modPort p g).lamps = d.lamps := rfl
@[simp] theorem Dev.modPort_guard (p : Port) (g : PortSt → PortSt) : (d.modPort p g).guard = d.guard := rfl
@[simp] theorem Dev.modPort_therm (p : Port) (g : PortSt → PortSt) : (d.modPort p g).therm = d.therm := rfl
@[simp] theorem Dev.modPort_jtag (p : Port) (g : PortSt → PortSt) : (d.modPort p g).jtag = d.jtag := rfl
@[simp] theorem Dev.modPort_ports (p : Port) (g : PortSt → PortSt) : (d.modPort p g).ports = d.ports.set p (g d.ports[p]) := rfl
@[simp] theorem Dev.rd_modPort (p : Port) (g : PortSt → PortSt) (a : Nat) : (d.modPort p g).rd a = d.rd a := rfl

/-! ### modAcc -/

@[simp] theorem Dev.modAcc_regs (acc : Acc) (g : AccSt → AccSt) : (d.modAcc acc g).regs = d.regs := rfl
@[simp] theorem Dev.modAcc_engine (acc : Acc) (g : AccSt → AccSt) : (d.modAcc acc g).engine = d.engine := rfl
@[simp] theorem Dev.modAcc_hopper (acc : Acc) (g : AccSt → AccSt) : (d.modAcc acc g).hopper = d.hopper := rfl
@[simp] theorem Dev.modAcc_own (acc : Acc) (g : AccSt → AccSt) : (d.modAcc acc g).own = d.own := rfl
@[simp] theorem Dev.modAcc_ports (acc : Acc) (g : AccSt → AccSt) : (d.modAcc acc g).ports = d.ports := rfl
@[simp] theorem Dev.modAcc_boot (acc : Acc) (g : AccSt → AccSt) : (d.modAcc acc g).boot = d.boot := rfl
@[simp] theorem Dev.modAcc_cfg (acc : Acc) (g : AccSt → AccSt) : (d.modAcc acc g).cfg = d.cfg := rfl
@[simp] theorem Dev.modAcc_recorder (acc : Acc) (g : AccSt → AccSt) : (d.modAcc acc g).recorder = d.recorder := rfl
@[simp] theorem Dev.modAcc_clock (acc : Acc) (g : AccSt → AccSt) : (d.modAcc acc g).clock = d.clock := rfl
@[simp] theorem Dev.modAcc_wdg (acc : Acc) (g : AccSt → AccSt) : (d.modAcc acc g).wdg = d.wdg := rfl
@[simp] theorem Dev.modAcc_routesLive (acc : Acc) (g : AccSt → AccSt) : (d.modAcc acc g).routesLive = d.routesLive := rfl
@[simp] theorem Dev.modAcc_freeCount (acc : Acc) (g : AccSt → AccSt) : (d.modAcc acc g).freeCount = d.freeCount := rfl
@[simp] theorem Dev.modAcc_pins (acc : Acc) (g : AccSt → AccSt) : (d.modAcc acc g).pins = d.pins := rfl
@[simp] theorem Dev.modAcc_phases (acc : Acc) (g : AccSt → AccSt) : (d.modAcc acc g).phases = d.phases := rfl
@[simp] theorem Dev.modAcc_loops (acc : Acc) (g : AccSt → AccSt) : (d.modAcc acc g).loops = d.loops := rfl
@[simp] theorem Dev.modAcc_links (acc : Acc) (g : AccSt → AccSt) : (d.modAcc acc g).links = d.links := rfl
@[simp] theorem Dev.modAcc_meas (acc : Acc) (g : AccSt → AccSt) : (d.modAcc acc g).meas = d.meas := rfl
@[simp] theorem Dev.modAcc_drill (acc : Acc) (g : AccSt → AccSt) : (d.modAcc acc g).drill = d.drill := rfl
@[simp] theorem Dev.modAcc_gauge (acc : Acc) (g : AccSt → AccSt) : (d.modAcc acc g).gauge = d.gauge := rfl
@[simp] theorem Dev.modAcc_pack (acc : Acc) (g : AccSt → AccSt) : (d.modAcc acc g).pack = d.pack := rfl
@[simp] theorem Dev.modAcc_chg (acc : Acc) (g : AccSt → AccSt) : (d.modAcc acc g).chg = d.chg := rfl
@[simp] theorem Dev.modAcc_lamps (acc : Acc) (g : AccSt → AccSt) : (d.modAcc acc g).lamps = d.lamps := rfl
@[simp] theorem Dev.modAcc_guard (acc : Acc) (g : AccSt → AccSt) : (d.modAcc acc g).guard = d.guard := rfl
@[simp] theorem Dev.modAcc_therm (acc : Acc) (g : AccSt → AccSt) : (d.modAcc acc g).therm = d.therm := rfl
@[simp] theorem Dev.modAcc_jtag (acc : Acc) (g : AccSt → AccSt) : (d.modAcc acc g).jtag = d.jtag := rfl
@[simp] theorem Dev.rd_modAcc (acc : Acc) (g : AccSt → AccSt) (a : Nat) : (d.modAcc acc g).rd a = d.rd a := rfl

/-! ### setFur -/

@[simp] theorem Dev.setFur_regs (f : Furrow) (x : FurrowSt) : (d.setFur f x).regs = d.regs := rfl
@[simp] theorem Dev.setFur_accs (f : Furrow) (x : FurrowSt) : (d.setFur f x).accs = d.accs := rfl
@[simp] theorem Dev.setFur_hopper (f : Furrow) (x : FurrowSt) : (d.setFur f x).hopper = d.hopper := rfl
@[simp] theorem Dev.setFur_own (f : Furrow) (x : FurrowSt) : (d.setFur f x).own = d.own := rfl
@[simp] theorem Dev.setFur_ports (f : Furrow) (x : FurrowSt) : (d.setFur f x).ports = d.ports := rfl
@[simp] theorem Dev.setFur_boot (f : Furrow) (x : FurrowSt) : (d.setFur f x).boot = d.boot := rfl
@[simp] theorem Dev.setFur_cfg (f : Furrow) (x : FurrowSt) : (d.setFur f x).cfg = d.cfg := rfl
@[simp] theorem Dev.setFur_recorder (f : Furrow) (x : FurrowSt) : (d.setFur f x).recorder = d.recorder := rfl
@[simp] theorem Dev.setFur_clock (f : Furrow) (x : FurrowSt) : (d.setFur f x).clock = d.clock := rfl
@[simp] theorem Dev.setFur_wdg (f : Furrow) (x : FurrowSt) : (d.setFur f x).wdg = d.wdg := rfl
@[simp] theorem Dev.setFur_routesLive (f : Furrow) (x : FurrowSt) : (d.setFur f x).routesLive = d.routesLive := rfl
@[simp] theorem Dev.setFur_freeCount (f : Furrow) (x : FurrowSt) : (d.setFur f x).freeCount = d.freeCount := rfl
@[simp] theorem Dev.setFur_pins (f : Furrow) (x : FurrowSt) : (d.setFur f x).pins = d.pins := rfl
@[simp] theorem Dev.setFur_phases (f : Furrow) (x : FurrowSt) : (d.setFur f x).phases = d.phases := rfl
@[simp] theorem Dev.setFur_loops (f : Furrow) (x : FurrowSt) : (d.setFur f x).loops = d.loops := rfl
@[simp] theorem Dev.setFur_links (f : Furrow) (x : FurrowSt) : (d.setFur f x).links = d.links := rfl
@[simp] theorem Dev.setFur_meas (f : Furrow) (x : FurrowSt) : (d.setFur f x).meas = d.meas := rfl
@[simp] theorem Dev.setFur_drill (f : Furrow) (x : FurrowSt) : (d.setFur f x).drill = d.drill := rfl
@[simp] theorem Dev.setFur_gauge (f : Furrow) (x : FurrowSt) : (d.setFur f x).gauge = d.gauge := rfl
@[simp] theorem Dev.setFur_pack (f : Furrow) (x : FurrowSt) : (d.setFur f x).pack = d.pack := rfl
@[simp] theorem Dev.setFur_chg (f : Furrow) (x : FurrowSt) : (d.setFur f x).chg = d.chg := rfl
@[simp] theorem Dev.setFur_lamps (f : Furrow) (x : FurrowSt) : (d.setFur f x).lamps = d.lamps := rfl
@[simp] theorem Dev.setFur_guard (f : Furrow) (x : FurrowSt) : (d.setFur f x).guard = d.guard := rfl
@[simp] theorem Dev.setFur_therm (f : Furrow) (x : FurrowSt) : (d.setFur f x).therm = d.therm := rfl
@[simp] theorem Dev.setFur_jtag (f : Furrow) (x : FurrowSt) : (d.setFur f x).jtag = d.jtag := rfl
@[simp] theorem Dev.rd_setFur (f : Furrow) (x : FurrowSt) (a : Nat) : (d.setFur f x).rd a = d.rd a := rfl

/-! ### modFur -/

@[simp] theorem Dev.modFur_regs (f : Furrow) (g : FurrowSt → FurrowSt) : (d.modFur f g).regs = d.regs := rfl
@[simp] theorem Dev.modFur_accs (f : Furrow) (g : FurrowSt → FurrowSt) : (d.modFur f g).accs = d.accs := rfl
@[simp] theorem Dev.modFur_hopper (f : Furrow) (g : FurrowSt → FurrowSt) : (d.modFur f g).hopper = d.hopper := rfl
@[simp] theorem Dev.modFur_own (f : Furrow) (g : FurrowSt → FurrowSt) : (d.modFur f g).own = d.own := rfl
@[simp] theorem Dev.modFur_ports (f : Furrow) (g : FurrowSt → FurrowSt) : (d.modFur f g).ports = d.ports := rfl
@[simp] theorem Dev.modFur_boot (f : Furrow) (g : FurrowSt → FurrowSt) : (d.modFur f g).boot = d.boot := rfl
@[simp] theorem Dev.modFur_cfg (f : Furrow) (g : FurrowSt → FurrowSt) : (d.modFur f g).cfg = d.cfg := rfl
@[simp] theorem Dev.modFur_recorder (f : Furrow) (g : FurrowSt → FurrowSt) : (d.modFur f g).recorder = d.recorder := rfl
@[simp] theorem Dev.modFur_clock (f : Furrow) (g : FurrowSt → FurrowSt) : (d.modFur f g).clock = d.clock := rfl
@[simp] theorem Dev.modFur_wdg (f : Furrow) (g : FurrowSt → FurrowSt) : (d.modFur f g).wdg = d.wdg := rfl
@[simp] theorem Dev.modFur_routesLive (f : Furrow) (g : FurrowSt → FurrowSt) : (d.modFur f g).routesLive = d.routesLive := rfl
@[simp] theorem Dev.modFur_freeCount (f : Furrow) (g : FurrowSt → FurrowSt) : (d.modFur f g).freeCount = d.freeCount := rfl
@[simp] theorem Dev.modFur_pins (f : Furrow) (g : FurrowSt → FurrowSt) : (d.modFur f g).pins = d.pins := rfl
@[simp] theorem Dev.modFur_phases (f : Furrow) (g : FurrowSt → FurrowSt) : (d.modFur f g).phases = d.phases := rfl
@[simp] theorem Dev.modFur_loops (f : Furrow) (g : FurrowSt → FurrowSt) : (d.modFur f g).loops = d.loops := rfl
@[simp] theorem Dev.modFur_links (f : Furrow) (g : FurrowSt → FurrowSt) : (d.modFur f g).links = d.links := rfl
@[simp] theorem Dev.modFur_meas (f : Furrow) (g : FurrowSt → FurrowSt) : (d.modFur f g).meas = d.meas := rfl
@[simp] theorem Dev.modFur_drill (f : Furrow) (g : FurrowSt → FurrowSt) : (d.modFur f g).drill = d.drill := rfl
@[simp] theorem Dev.modFur_gauge (f : Furrow) (g : FurrowSt → FurrowSt) : (d.modFur f g).gauge = d.gauge := rfl
@[simp] theorem Dev.modFur_pack (f : Furrow) (g : FurrowSt → FurrowSt) : (d.modFur f g).pack = d.pack := rfl
@[simp] theorem Dev.modFur_chg (f : Furrow) (g : FurrowSt → FurrowSt) : (d.modFur f g).chg = d.chg := rfl
@[simp] theorem Dev.modFur_lamps (f : Furrow) (g : FurrowSt → FurrowSt) : (d.modFur f g).lamps = d.lamps := rfl
@[simp] theorem Dev.modFur_guard (f : Furrow) (g : FurrowSt → FurrowSt) : (d.modFur f g).guard = d.guard := rfl
@[simp] theorem Dev.modFur_therm (f : Furrow) (g : FurrowSt → FurrowSt) : (d.modFur f g).therm = d.therm := rfl
@[simp] theorem Dev.modFur_jtag (f : Furrow) (g : FurrowSt → FurrowSt) : (d.modFur f g).jtag = d.jtag := rfl
@[simp] theorem Dev.rd_modFur (f : Furrow) (g : FurrowSt → FurrowSt) (a : Nat) : (d.modFur f g).rd a = d.rd a := rfl

/-! ### modTherm -/

@[simp] theorem Dev.modTherm_regs (s : Fin 15) (g : ThSensor → ThSensor) : (d.modTherm s g).regs = d.regs := rfl
@[simp] theorem Dev.modTherm_accs (s : Fin 15) (g : ThSensor → ThSensor) : (d.modTherm s g).accs = d.accs := rfl
@[simp] theorem Dev.modTherm_engine (s : Fin 15) (g : ThSensor → ThSensor) : (d.modTherm s g).engine = d.engine := rfl
@[simp] theorem Dev.modTherm_hopper (s : Fin 15) (g : ThSensor → ThSensor) : (d.modTherm s g).hopper = d.hopper := rfl
@[simp] theorem Dev.modTherm_own (s : Fin 15) (g : ThSensor → ThSensor) : (d.modTherm s g).own = d.own := rfl
@[simp] theorem Dev.modTherm_ports (s : Fin 15) (g : ThSensor → ThSensor) : (d.modTherm s g).ports = d.ports := rfl
@[simp] theorem Dev.modTherm_boot (s : Fin 15) (g : ThSensor → ThSensor) : (d.modTherm s g).boot = d.boot := rfl
@[simp] theorem Dev.modTherm_cfg (s : Fin 15) (g : ThSensor → ThSensor) : (d.modTherm s g).cfg = d.cfg := rfl
@[simp] theorem Dev.modTherm_recorder (s : Fin 15) (g : ThSensor → ThSensor) : (d.modTherm s g).recorder = d.recorder := rfl
@[simp] theorem Dev.modTherm_clock (s : Fin 15) (g : ThSensor → ThSensor) : (d.modTherm s g).clock = d.clock := rfl
@[simp] theorem Dev.modTherm_wdg (s : Fin 15) (g : ThSensor → ThSensor) : (d.modTherm s g).wdg = d.wdg := rfl
@[simp] theorem Dev.modTherm_routesLive (s : Fin 15) (g : ThSensor → ThSensor) : (d.modTherm s g).routesLive = d.routesLive := rfl
@[simp] theorem Dev.modTherm_freeCount (s : Fin 15) (g : ThSensor → ThSensor) : (d.modTherm s g).freeCount = d.freeCount := rfl
@[simp] theorem Dev.modTherm_pins (s : Fin 15) (g : ThSensor → ThSensor) : (d.modTherm s g).pins = d.pins := rfl
@[simp] theorem Dev.modTherm_phases (s : Fin 15) (g : ThSensor → ThSensor) : (d.modTherm s g).phases = d.phases := rfl
@[simp] theorem Dev.modTherm_loops (s : Fin 15) (g : ThSensor → ThSensor) : (d.modTherm s g).loops = d.loops := rfl
@[simp] theorem Dev.modTherm_links (s : Fin 15) (g : ThSensor → ThSensor) : (d.modTherm s g).links = d.links := rfl
@[simp] theorem Dev.modTherm_meas (s : Fin 15) (g : ThSensor → ThSensor) : (d.modTherm s g).meas = d.meas := rfl
@[simp] theorem Dev.modTherm_drill (s : Fin 15) (g : ThSensor → ThSensor) : (d.modTherm s g).drill = d.drill := rfl
@[simp] theorem Dev.modTherm_gauge (s : Fin 15) (g : ThSensor → ThSensor) : (d.modTherm s g).gauge = d.gauge := rfl
@[simp] theorem Dev.modTherm_pack (s : Fin 15) (g : ThSensor → ThSensor) : (d.modTherm s g).pack = d.pack := rfl
@[simp] theorem Dev.modTherm_chg (s : Fin 15) (g : ThSensor → ThSensor) : (d.modTherm s g).chg = d.chg := rfl
@[simp] theorem Dev.modTherm_lamps (s : Fin 15) (g : ThSensor → ThSensor) : (d.modTherm s g).lamps = d.lamps := rfl
@[simp] theorem Dev.modTherm_guard (s : Fin 15) (g : ThSensor → ThSensor) : (d.modTherm s g).guard = d.guard := rfl
@[simp] theorem Dev.modTherm_jtag (s : Fin 15) (g : ThSensor → ThSensor) : (d.modTherm s g).jtag = d.jtag := rfl
@[simp] theorem Dev.rd_modTherm (s : Fin 15) (g : ThSensor → ThSensor) (a : Nat) : (d.modTherm s g).rd a = d.rd a := rfl

/-! ### modSeat -/

@[simp] theorem Dev.modSeat_regs (k : Fin 24) (g : SeatSt → SeatSt) : (d.modSeat k g).regs = d.regs := rfl
@[simp] theorem Dev.modSeat_accs (k : Fin 24) (g : SeatSt → SeatSt) : (d.modSeat k g).accs = d.accs := rfl
@[simp] theorem Dev.modSeat_engine (k : Fin 24) (g : SeatSt → SeatSt) : (d.modSeat k g).engine = d.engine := rfl
@[simp] theorem Dev.modSeat_hopper (k : Fin 24) (g : SeatSt → SeatSt) : (d.modSeat k g).hopper = d.hopper := rfl
@[simp] theorem Dev.modSeat_own (k : Fin 24) (g : SeatSt → SeatSt) : (d.modSeat k g).own = d.own := rfl
@[simp] theorem Dev.modSeat_ports (k : Fin 24) (g : SeatSt → SeatSt) : (d.modSeat k g).ports = d.ports := rfl
@[simp] theorem Dev.modSeat_boot (k : Fin 24) (g : SeatSt → SeatSt) : (d.modSeat k g).boot = d.boot := rfl
@[simp] theorem Dev.modSeat_cfg (k : Fin 24) (g : SeatSt → SeatSt) : (d.modSeat k g).cfg = d.cfg := rfl
@[simp] theorem Dev.modSeat_recorder (k : Fin 24) (g : SeatSt → SeatSt) : (d.modSeat k g).recorder = d.recorder := rfl
@[simp] theorem Dev.modSeat_clock (k : Fin 24) (g : SeatSt → SeatSt) : (d.modSeat k g).clock = d.clock := rfl
@[simp] theorem Dev.modSeat_wdg (k : Fin 24) (g : SeatSt → SeatSt) : (d.modSeat k g).wdg = d.wdg := rfl
@[simp] theorem Dev.modSeat_routesLive (k : Fin 24) (g : SeatSt → SeatSt) : (d.modSeat k g).routesLive = d.routesLive := rfl
@[simp] theorem Dev.modSeat_freeCount (k : Fin 24) (g : SeatSt → SeatSt) : (d.modSeat k g).freeCount = d.freeCount := rfl
@[simp] theorem Dev.modSeat_pins (k : Fin 24) (g : SeatSt → SeatSt) : (d.modSeat k g).pins = d.pins := rfl
@[simp] theorem Dev.modSeat_phases (k : Fin 24) (g : SeatSt → SeatSt) : (d.modSeat k g).phases = d.phases := rfl
@[simp] theorem Dev.modSeat_loops (k : Fin 24) (g : SeatSt → SeatSt) : (d.modSeat k g).loops = d.loops := rfl
@[simp] theorem Dev.modSeat_links (k : Fin 24) (g : SeatSt → SeatSt) : (d.modSeat k g).links = d.links := rfl
@[simp] theorem Dev.modSeat_drill (k : Fin 24) (g : SeatSt → SeatSt) : (d.modSeat k g).drill = d.drill := rfl
@[simp] theorem Dev.modSeat_gauge (k : Fin 24) (g : SeatSt → SeatSt) : (d.modSeat k g).gauge = d.gauge := rfl
@[simp] theorem Dev.modSeat_pack (k : Fin 24) (g : SeatSt → SeatSt) : (d.modSeat k g).pack = d.pack := rfl
@[simp] theorem Dev.modSeat_chg (k : Fin 24) (g : SeatSt → SeatSt) : (d.modSeat k g).chg = d.chg := rfl
@[simp] theorem Dev.modSeat_lamps (k : Fin 24) (g : SeatSt → SeatSt) : (d.modSeat k g).lamps = d.lamps := rfl
@[simp] theorem Dev.modSeat_guard (k : Fin 24) (g : SeatSt → SeatSt) : (d.modSeat k g).guard = d.guard := rfl
@[simp] theorem Dev.modSeat_therm (k : Fin 24) (g : SeatSt → SeatSt) : (d.modSeat k g).therm = d.therm := rfl
@[simp] theorem Dev.modSeat_jtag (k : Fin 24) (g : SeatSt → SeatSt) : (d.modSeat k g).jtag = d.jtag := rfl
@[simp] theorem Dev.rd_modSeat (k : Fin 24) (g : SeatSt → SeatSt) (a : Nat) : (d.modSeat k g).rd a = d.rd a := rfl

/-! ### modSeq -/

@[simp] theorem Dev.modSeq_regs (s : SeqNo) (g : SeqSt → SeqSt) : (d.modSeq s g).regs = d.regs := rfl
@[simp] theorem Dev.modSeq_accs (s : SeqNo) (g : SeqSt → SeqSt) : (d.modSeq s g).accs = d.accs := rfl
@[simp] theorem Dev.modSeq_engine (s : SeqNo) (g : SeqSt → SeqSt) : (d.modSeq s g).engine = d.engine := rfl
@[simp] theorem Dev.modSeq_hopper (s : SeqNo) (g : SeqSt → SeqSt) : (d.modSeq s g).hopper = d.hopper := rfl
@[simp] theorem Dev.modSeq_own (s : SeqNo) (g : SeqSt → SeqSt) : (d.modSeq s g).own = d.own := rfl
@[simp] theorem Dev.modSeq_ports (s : SeqNo) (g : SeqSt → SeqSt) : (d.modSeq s g).ports = d.ports := rfl
@[simp] theorem Dev.modSeq_boot (s : SeqNo) (g : SeqSt → SeqSt) : (d.modSeq s g).boot = d.boot := rfl
@[simp] theorem Dev.modSeq_cfg (s : SeqNo) (g : SeqSt → SeqSt) : (d.modSeq s g).cfg = d.cfg := rfl
@[simp] theorem Dev.modSeq_recorder (s : SeqNo) (g : SeqSt → SeqSt) : (d.modSeq s g).recorder = d.recorder := rfl
@[simp] theorem Dev.modSeq_clock (s : SeqNo) (g : SeqSt → SeqSt) : (d.modSeq s g).clock = d.clock := rfl
@[simp] theorem Dev.modSeq_wdg (s : SeqNo) (g : SeqSt → SeqSt) : (d.modSeq s g).wdg = d.wdg := rfl
@[simp] theorem Dev.modSeq_routesLive (s : SeqNo) (g : SeqSt → SeqSt) : (d.modSeq s g).routesLive = d.routesLive := rfl
@[simp] theorem Dev.modSeq_freeCount (s : SeqNo) (g : SeqSt → SeqSt) : (d.modSeq s g).freeCount = d.freeCount := rfl
@[simp] theorem Dev.modSeq_pins (s : SeqNo) (g : SeqSt → SeqSt) : (d.modSeq s g).pins = d.pins := rfl
@[simp] theorem Dev.modSeq_phases (s : SeqNo) (g : SeqSt → SeqSt) : (d.modSeq s g).phases = d.phases := rfl
@[simp] theorem Dev.modSeq_loops (s : SeqNo) (g : SeqSt → SeqSt) : (d.modSeq s g).loops = d.loops := rfl
@[simp] theorem Dev.modSeq_links (s : SeqNo) (g : SeqSt → SeqSt) : (d.modSeq s g).links = d.links := rfl
@[simp] theorem Dev.modSeq_drill (s : SeqNo) (g : SeqSt → SeqSt) : (d.modSeq s g).drill = d.drill := rfl
@[simp] theorem Dev.modSeq_gauge (s : SeqNo) (g : SeqSt → SeqSt) : (d.modSeq s g).gauge = d.gauge := rfl
@[simp] theorem Dev.modSeq_pack (s : SeqNo) (g : SeqSt → SeqSt) : (d.modSeq s g).pack = d.pack := rfl
@[simp] theorem Dev.modSeq_chg (s : SeqNo) (g : SeqSt → SeqSt) : (d.modSeq s g).chg = d.chg := rfl
@[simp] theorem Dev.modSeq_lamps (s : SeqNo) (g : SeqSt → SeqSt) : (d.modSeq s g).lamps = d.lamps := rfl
@[simp] theorem Dev.modSeq_guard (s : SeqNo) (g : SeqSt → SeqSt) : (d.modSeq s g).guard = d.guard := rfl
@[simp] theorem Dev.modSeq_therm (s : SeqNo) (g : SeqSt → SeqSt) : (d.modSeq s g).therm = d.therm := rfl
@[simp] theorem Dev.modSeq_jtag (s : SeqNo) (g : SeqSt → SeqSt) : (d.modSeq s g).jtag = d.jtag := rfl
@[simp] theorem Dev.rd_modSeq (s : SeqNo) (g : SeqSt → SeqSt) (a : Nat) : (d.modSeq s g).rd a = d.rd a := rfl

/-! ### nvWrite -/

@[simp] theorem Dev.nvWrite_regs (x : Nat) (bs : List Byte) : (d.nvWrite x bs).regs = d.regs := rfl
@[simp] theorem Dev.nvWrite_accs (x : Nat) (bs : List Byte) : (d.nvWrite x bs).accs = d.accs := rfl
@[simp] theorem Dev.nvWrite_engine (x : Nat) (bs : List Byte) : (d.nvWrite x bs).engine = d.engine := rfl
@[simp] theorem Dev.nvWrite_hopper (x : Nat) (bs : List Byte) : (d.nvWrite x bs).hopper = d.hopper := rfl
@[simp] theorem Dev.nvWrite_own (x : Nat) (bs : List Byte) : (d.nvWrite x bs).own = d.own := rfl
@[simp] theorem Dev.nvWrite_ports (x : Nat) (bs : List Byte) : (d.nvWrite x bs).ports = d.ports := rfl
@[simp] theorem Dev.nvWrite_boot (x : Nat) (bs : List Byte) : (d.nvWrite x bs).boot = d.boot := rfl
@[simp] theorem Dev.nvWrite_recorder (x : Nat) (bs : List Byte) : (d.nvWrite x bs).recorder = d.recorder := rfl
@[simp] theorem Dev.nvWrite_clock (x : Nat) (bs : List Byte) : (d.nvWrite x bs).clock = d.clock := rfl
@[simp] theorem Dev.nvWrite_wdg (x : Nat) (bs : List Byte) : (d.nvWrite x bs).wdg = d.wdg := rfl
@[simp] theorem Dev.nvWrite_routesLive (x : Nat) (bs : List Byte) : (d.nvWrite x bs).routesLive = d.routesLive := rfl
@[simp] theorem Dev.nvWrite_freeCount (x : Nat) (bs : List Byte) : (d.nvWrite x bs).freeCount = d.freeCount := rfl
@[simp] theorem Dev.nvWrite_pins (x : Nat) (bs : List Byte) : (d.nvWrite x bs).pins = d.pins := rfl
@[simp] theorem Dev.nvWrite_phases (x : Nat) (bs : List Byte) : (d.nvWrite x bs).phases = d.phases := rfl
@[simp] theorem Dev.nvWrite_loops (x : Nat) (bs : List Byte) : (d.nvWrite x bs).loops = d.loops := rfl
@[simp] theorem Dev.nvWrite_links (x : Nat) (bs : List Byte) : (d.nvWrite x bs).links = d.links := rfl
@[simp] theorem Dev.nvWrite_meas (x : Nat) (bs : List Byte) : (d.nvWrite x bs).meas = d.meas := rfl
@[simp] theorem Dev.nvWrite_drill (x : Nat) (bs : List Byte) : (d.nvWrite x bs).drill = d.drill := rfl
@[simp] theorem Dev.nvWrite_gauge (x : Nat) (bs : List Byte) : (d.nvWrite x bs).gauge = d.gauge := rfl
@[simp] theorem Dev.nvWrite_pack (x : Nat) (bs : List Byte) : (d.nvWrite x bs).pack = d.pack := rfl
@[simp] theorem Dev.nvWrite_chg (x : Nat) (bs : List Byte) : (d.nvWrite x bs).chg = d.chg := rfl
@[simp] theorem Dev.nvWrite_lamps (x : Nat) (bs : List Byte) : (d.nvWrite x bs).lamps = d.lamps := rfl
@[simp] theorem Dev.nvWrite_guard (x : Nat) (bs : List Byte) : (d.nvWrite x bs).guard = d.guard := rfl
@[simp] theorem Dev.nvWrite_therm (x : Nat) (bs : List Byte) : (d.nvWrite x bs).therm = d.therm := rfl
@[simp] theorem Dev.nvWrite_jtag (x : Nat) (bs : List Byte) : (d.nvWrite x bs).jtag = d.jtag := rfl
@[simp] theorem Dev.rd_nvWrite (x : Nat) (bs : List Byte) (a : Nat) : (d.nvWrite x bs).rd a = d.rd a := rfl

/-! ### setStage -/

@[simp] theorem Dev.setStage_regs (tag : Tag) (st : ItemStage) : (d.setStage tag st).regs = d.regs := rfl
@[simp] theorem Dev.setStage_accs (tag : Tag) (st : ItemStage) : (d.setStage tag st).accs = d.accs := rfl
@[simp] theorem Dev.setStage_engine (tag : Tag) (st : ItemStage) : (d.setStage tag st).engine = d.engine := rfl
@[simp] theorem Dev.setStage_own (tag : Tag) (st : ItemStage) : (d.setStage tag st).own = d.own := rfl
@[simp] theorem Dev.setStage_ports (tag : Tag) (st : ItemStage) : (d.setStage tag st).ports = d.ports := rfl
@[simp] theorem Dev.setStage_boot (tag : Tag) (st : ItemStage) : (d.setStage tag st).boot = d.boot := rfl
@[simp] theorem Dev.setStage_cfg (tag : Tag) (st : ItemStage) : (d.setStage tag st).cfg = d.cfg := rfl
@[simp] theorem Dev.setStage_recorder (tag : Tag) (st : ItemStage) : (d.setStage tag st).recorder = d.recorder := rfl
@[simp] theorem Dev.setStage_clock (tag : Tag) (st : ItemStage) : (d.setStage tag st).clock = d.clock := rfl
@[simp] theorem Dev.setStage_wdg (tag : Tag) (st : ItemStage) : (d.setStage tag st).wdg = d.wdg := rfl
@[simp] theorem Dev.setStage_routesLive (tag : Tag) (st : ItemStage) : (d.setStage tag st).routesLive = d.routesLive := rfl
@[simp] theorem Dev.setStage_freeCount (tag : Tag) (st : ItemStage) : (d.setStage tag st).freeCount = d.freeCount := rfl
@[simp] theorem Dev.setStage_pins (tag : Tag) (st : ItemStage) : (d.setStage tag st).pins = d.pins := rfl
@[simp] theorem Dev.setStage_phases (tag : Tag) (st : ItemStage) : (d.setStage tag st).phases = d.phases := rfl
@[simp] theorem Dev.setStage_loops (tag : Tag) (st : ItemStage) : (d.setStage tag st).loops = d.loops := rfl
@[simp] theorem Dev.setStage_links (tag : Tag) (st : ItemStage) : (d.setStage tag st).links = d.links := rfl
@[simp] theorem Dev.setStage_meas (tag : Tag) (st : ItemStage) : (d.setStage tag st).meas = d.meas := rfl
@[simp] theorem Dev.setStage_drill (tag : Tag) (st : ItemStage) : (d.setStage tag st).drill = d.drill := rfl
@[simp] theorem Dev.setStage_gauge (tag : Tag) (st : ItemStage) : (d.setStage tag st).gauge = d.gauge := rfl
@[simp] theorem Dev.setStage_pack (tag : Tag) (st : ItemStage) : (d.setStage tag st).pack = d.pack := rfl
@[simp] theorem Dev.setStage_chg (tag : Tag) (st : ItemStage) : (d.setStage tag st).chg = d.chg := rfl
@[simp] theorem Dev.setStage_lamps (tag : Tag) (st : ItemStage) : (d.setStage tag st).lamps = d.lamps := rfl
@[simp] theorem Dev.setStage_guard (tag : Tag) (st : ItemStage) : (d.setStage tag st).guard = d.guard := rfl
@[simp] theorem Dev.setStage_therm (tag : Tag) (st : ItemStage) : (d.setStage tag st).therm = d.therm := rfl
@[simp] theorem Dev.setStage_jtag (tag : Tag) (st : ItemStage) : (d.setStage tag st).jtag = d.jtag := rfl
@[simp] theorem Dev.rd_setStage (tag : Tag) (st : ItemStage) (a : Nat) : (d.setStage tag st).rd a = d.rd a := rfl

end Sys2Proof.Machine
end

