-- ==== Sys2Proof/Laws/Events.lean ====
section
/-!
SUPPORT. What raising an event or making a record can do, said once: it changes nothing but what `Dev.hush` puts back, of the
registers only those of `evtReg`, and an event that is raised is pending.
-/

namespace Sys2Proof.Machine

open Sys2Proof Sys2Proof.R

/-! ## Putting back -/

theorem furrows_queue_self (v : Vector FurrowSt 16) :
    (Vector.ofFn fun f : Fin 16 => { v[f] with queue := v[f].queue }) = v := by
  ext i hi : 1
  simp

/-- What changed from `d` to `e` and then to `g` is put back at once. -/
theorem Dev.hush_hush (g e d : Dev) : (g.hush e).hush d = g.hush d := by
  simp [Dev.hush]

theorem Dev.hush_self (d : Dev) : d.hush d = d := by
  simp only [Dev.hush, furrows_queue_self]

theorem Dev.hush_trans {d e g : Dev} (h1 : e.hush d = d) (h2 : g.hush e = e) : g.hush d = d := by
  rw [← Dev.hush_hush g e d, h2, h1]

/-- Registers, the recorder and NV are put back. -/
theorem Dev.hush_of_eq {d e : Dev}
    (h : { e with regs := d.regs, recorder := d.recorder,
                  cfg := { e.cfg with nv := d.cfg.nv, nvWrites := d.cfg.nvWrites, checks := d.cfg.checks } } = d) :
    e.hush d = d := by
  have : e.hush d = ({ e with regs := d.regs, recorder := d.recorder,
                              cfg := { e.cfg with nv := d.cfg.nv, nvWrites := d.cfg.nvWrites, checks := d.cfg.checks } } :
    Dev).hush d := rfl
  rw [this, h, Dev.hush_self]

theorem Dev.hush_wr (d : Dev) (a : Nat) (v : Word) : (d.wr a v).hush d = d := Dev.hush_of_eq rfl
theorem Dev.hush_wr32 (d : Dev) (a : Nat) (v : BitVec 32) : (d.wr32 a v).hush d = d := Dev.hush_of_eq rfl
theorem Dev.hush_setMbit (d : Dev) (a i : Nat) (b : Bool) : (d.setMbit a i b).hush d = d := Dev.hush_wr d _ _
theorem Dev.hush_setFld (d : Dev) (a : Nat) (f : Fld) (v : Nat) : (d.setFld a f v).hush d = d := by
  unfold Dev.setFld
  split
  · exact Dev.hush_wr d _ _
  · exact Dev.hush_wr32 d _ _
theorem Dev.hush_setFlag (d : Dev) (a : Nat) (f : Fld) (b : Bool) : (d.setFlag a f b).hush d = d := Dev.hush_setFld d a f _
theorem Dev.hush_bump (d : Dev) (a : Nat) : (d.bump a).hush d = d := Dev.hush_wr d _ _
theorem Dev.hush_modRec (d : Dev) (g : RecSt → RecSt) : (d.modRec g).hush d = d := Dev.hush_of_eq rfl
theorem Dev.hush_nvWrite (d : Dev) (a : Nat) (bs : List Byte) : (d.nvWrite a bs).hush d = d := Dev.hush_of_eq rfl
theorem Dev.hush_queue (d : Dev) (f : Furrow) (q : List (BitVec 9)) : (d.modFur f fun x => { x with queue := q }).hush d = d := by
  have : ∀ i : Fin 16, ({ (d.engine.furrows.set f { d.engine.furrows[f] with queue := q })[i] with
      queue := d.engine.furrows[i].queue } : FurrowSt) = d.engine.furrows[i] := by
    intro i
    by_cases hi : f.val = i.val
    · obtain rfl : f = i := Fin.ext hi
      simp
    · simp [Vector.getElem_set_ne _ _ hi]
  have hv : (Vector.ofFn fun i : Fin 16 => ({ (d.engine.furrows.set f { d.engine.furrows[f] with queue := q })[i] with
      queue := d.engine.furrows[i].queue } : FurrowSt)) = d.engine.furrows := by
    ext i hi : 1
    simpa using this ⟨i, hi⟩
  show ({ (d.modFur f fun x => { x with queue := q }) with
    regs := d.regs, recorder := d.recorder,
    cfg := { d.cfg with nv := d.cfg.nv, nvWrites := d.cfg.nvWrites, checks := d.cfg.checks },
    engine := { d.engine with furrows := Vector.ofFn fun i : Fin 16 =>
      ({ (d.engine.furrows.set f { d.engine.furrows[f] with queue := q })[i] with
          queue := d.engine.furrows[i].queue } : FurrowSt) } } : Dev) = d
  rw [hv]
  rfl

/-! ## Every relation that the parts of a raise keep, a raise keeps -/

/-- The words of EVT_STAT. -/
def statReg (a : Nat) : Bool := decide (EVT_STAT 0 ≤ a) && decide (a < EVT_STAT 16)

/-- `R` holds across each part of which raising events and making records are built. -/
structure RaiseClosed (R : Dev → Dev → Prop) : Prop where
  refl : ∀ d, R d d
  trans : ∀ {d e g}, R d e → R e g → R d g
  recorder : ∀ (d : Dev) (r : RecSt), R d { d with recorder := r }
  nvCount : ∀ (d : Dev) (n : Nat) (js : List NvJob), R d { d with cfg := { d.cfg with nvWrites := n, checks := js } }
  nvBytes : ∀ (d : Dev) (a : Nat) (bs : List Byte), R d { d with cfg := { d.cfg with nv := cellWrite d.cfg.nv a bs } }
  nvWrite : ∀ (d : Dev) (a : Nat) (bs : List Byte), R d (d.nvWrite a bs)
  queue : ∀ (d : Dev) (f : Furrow) (q : List (BitVec 9)), R d (d.modFur f fun x => { x with queue := q })
  wr : ∀ (d : Dev) (a : Nat) (v : Word), evtReg a = true → statReg a = false → R d (d.wr a v)
  stat : ∀ (d : Dev) (e : Nat), e < 256 → R d (d.setMbit (EVT_STAT 0) e true)

namespace RaiseClosed

variable {R : Dev → Dev → Prop} (h : RaiseClosed R)
include h

theorem wr32 (d : Dev) (a : Nat) (v : BitVec 32) (h1 : evtReg a = true) (h2 : statReg a = false)
    (h3 : evtReg (a + 2) = true) (h4 : statReg (a + 2) = false) : R d (d.wr32 a v) :=
  h.trans (h.wr d _ _ h1 h2) (h.wr _ _ _ h3 h4)

theorem setFld (d : Dev) (a : Nat) (f : Fld) (v : Nat) (hf : f.lo + f.w ≤ 16) (h1 : evtReg a = true)
    (h2 : statReg a = false) : R d (d.setFld a f v) := by
  simp only [Dev.setFld, hf, ↓reduceIte]
  exact h.wr d _ _ h1 h2

theorem setFlag (d : Dev) (a : Nat) (f : Fld) (b : Bool) (hf : f.lo + f.w ≤ 16) (h1 : evtReg a = true)
    (h2 : statReg a = false) : R d (d.setFlag a f b) := h.setFld d a f _ hf h1 h2

theorem syncRec (d : Dev) : R d d.syncRec :=
  h.trans (h.trans (h.setFld d _ _ _ (by decide) (by decide) (by decide))
    (h.setFld _ _ _ _ (by decide) (by decide) (by decide))) (h.setFlag _ _ _ _ (by decide) (by decide) (by decide))

theorem holdRecord (d : Dev) (n : BitVec 32) : R d (d.holdRecord n) := by
  have h1 := h.recorder d { d.recorder with anyRec := true }
  generalize hx : ({ d with recorder := { d.recorder with anyRec := true } } : Dev) = x at h1
  have h2 := h.trans h1 (h.wr32 x REC_NEWEST n (by decide) (by decide) (by decide) (by decide))
  have h3 : ∀ v : BitVec 32, R d ((x.wr32 REC_NEWEST n).wr32 REC_OLDEST v) := fun v =>
    h.trans h2 (h.wr32 _ REC_OLDEST v (by decide) (by decide) (by decide) (by decide))
  have : d.holdRecord n = if !d.recorder.anyRec then (x.wr32 REC_NEWEST n).wr32 REC_OLDEST n
      else if 3071 < (n - (x.wr32 REC_NEWEST n).rd32 REC_OLDEST).toNat then
        (x.wr32 REC_NEWEST n).wr32 REC_OLDEST (n - 3071) else x.wr32 REC_NEWEST n := by
    subst hx
    rfl
  rw [this]
  split
  · exact h3 n
  · split
    · exact h3 _
    · exact h2

theorem foldl {α : Type} (f : Dev → α → Dev) (l : List α) (d : Dev) (hf : ∀ e, ∀ x ∈ l, R e (f e x)) :
    R d (l.foldl f d) := by
  induction l generalizing d with
  | nil => exact h.refl d
  | cons x l ih =>
    exact h.trans (hf d x (List.mem_cons_self ..)) (ih _ fun e y hy => hf e y (List.mem_cons_of_mem _ hy))

theorem nvMade (d : Dev) (j : NvJob) : R d (d.nvMade j) := h.nvCount d _ _

theorem putMark (d : Dev) : R d d.putMark := by
  unfold Dev.putMark
  dsimp only
  split
  · exact h.refl d
  · exact h.trans (h.recorder d _) (h.nvMade _ _)

theorem takeSeq (d : Dev) : R d d.takeSeq.2 := h.trans (h.recorder d _) (h.putMark _)

theorem putBuffer (d : Dev) : R d d.putBuffer := by
  unfold Dev.putBuffer
  dsimp only
  split
  · exact h.refl d
  · exact h.trans (h.foldl _ _ d fun e x _ => h.trans (h.nvBytes e _ _) (h.nvMade _ _)) (h.recorder _ _)

theorem bufferRec (d : Dev) (type arg : Byte) (data : List Byte) : R d (d.bufferRec type arg data) := by
  have h0 := h.takeSeq d
  unfold Dev.bufferRec
  split
  · exact h.refl d
  generalize d.takeSeq = q at h0 ⊢
  obtain ⟨n, x⟩ := q
  refine h.trans h0 ?_
  have hd (r : RecSt) : R x ((({ x with recorder := r } : Dev).bump REC_DROPCNT).setFlag REC_STICKY REC_STICKY.DROP true) :=
    h.trans (h.recorder x r) (h.trans (h.wr _ _ _ (by decide) (by decide))
      (h.setFlag _ _ _ _ (by decide) (by decide) (by decide)))
  have hb (r : RecSt) : R x (((({ x with recorder := r } : Dev).putBuffer).holdRecord n).syncRec) :=
    h.trans (h.recorder x r) (h.trans (h.putBuffer _) (h.trans (h.holdRecord _ _) (h.syncRec _)))
  dsimp only
  split
  · exact hd _
  · exact hb _

theorem postEvent (d : Dev) (f : Furrow) (e : Nat) : R d (d.postEvent f e) := by
  unfold Dev.postEvent
  dsimp only
  split
  · exact h.refl d
  split
  · exact h.refl d
  split
  · exact h.trans (h.setFlag _ _ _ _ (by decide) (by decide) (by decide)) (h.wr _ _ _ (by decide) (by decide))
  · exact h.queue d f _

theorem evtSetPost (d : Dev) {e : Nat} (he : e < 256) : R d (d.evtSetPost e) := by
  have h1 := h.stat d e he
  unfold Dev.evtSetPost
  dsimp only
  split
  · exact h.trans h1 (h.postEvent _ _ _)
  · exact h1

theorem raisePlain (d : Dev) {e : Nat} (he : e < 256) : R d (d.raisePlain e) := by
  unfold Dev.raisePlain
  dsimp only
  split
  · exact h.trans (h.evtSetPost d he) (h.bufferRec _ _ _ _)
  · exact h.evtSetPost d he

theorem beginFlush (d : Dev) : R d d.beginFlush := h.trans (h.recorder d _) (h.syncRec _)

theorem startFlush (d : Dev) : R d d.startFlush := by
  unfold Dev.startFlush
  split
  · exact h.beginFlush d
  split
  · exact h.recorder d _
  · exact h.refl d

theorem record (d : Dev) (type arg : Byte) (data : List Byte) : R d (d.record type arg data) := by
  have h1 := h.bufferRec d type arg data
  unfold Dev.record
  dsimp only
  split
  · exact h.trans h1 (h.trans (h.setFlag _ _ _ _ (by decide) (by decide) (by decide))
      (h.trans (h.startFlush _) (h.raisePlain _ (by decide))))
  · exact h1

theorem raiseWith (d : Dev) {e : Nat} (blk : Option Nat × Option Nat) (always : Bool) (he : e < 256) :
    R d (d.raiseWith e blk always) := by
  unfold Dev.raiseWith
  dsimp only
  split
  · exact h.trans (h.evtSetPost d he) (h.record _ _ _ _)
  · exact h.evtSetPost d he

theorem raise (d : Dev) {e : Nat} (he : e < 256) : R d (d.raise e) := h.raiseWith d _ _ he
theorem raisePort (d : Dev) (p : Port) {e : Nat} (he : e < 256) : R d (d.raisePort p e) := h.raiseWith d _ _ he

omit h in
theorem mem_insertEvt (d : Dev) (e x : Nat) (l : List Nat) : x ∈ d.insertEvt e l ↔ x = e ∨ x ∈ l := by
  induction l with
  | nil => simp [Dev.insertEvt]
  | cons y l ih =>
    unfold Dev.insertEvt
    split
    · simp
    · simp only [List.mem_cons, ih]
      tauto

omit h in
/-- Putting events in order loses none and adds none. -/
theorem mem_sortEvts (d : Dev) (x : Nat) (es : List Nat) :
    x ∈ es.foldr (fun e l => d.insertEvt e l) [] ↔ x ∈ es := by
  induction es with
  | nil => simp
  | cons e es ih => simp [mem_insertEvt, ih]

/-- Several events raised in one instant. -/
theorem raiseAll (d : Dev) (es : List Nat) (he : ∀ e ∈ es, e < 256) : R d (d.raiseAll es) :=
  h.foldl _ _ d fun g x hx => h.raise g (he x ((mem_sortEvts d x es).mp hx))

end RaiseClosed

/-! ## What a raise leaves -/

/-- From `d` to `e` nothing changes but what an event or a record may change. -/
def Dev.Quiet (d e : Dev) : Prop := e.hush d = d ∧ ∀ a, evtReg a = false → e.rd a = d.rd a

theorem evtReg_stat {e : Nat} (h : e < 256) : evtReg (EVT_STAT 0 + 2 * (e / 16)) = true := by
  simp only [evtReg, EVT_STAT, Bool.or_eq_true, Bool.and_eq_true, decide_eq_true_eq]
  exact .inl (.inl (.inl (.inl ⟨by omega, by omega⟩)))

theorem Dev.quiet_wr (d : Dev) {a : Nat} (v : Word) (h : evtReg a = true) : d.Quiet (d.wr a v) :=
  ⟨Dev.hush_wr d a v, fun b hb => Dev.rd_wr_ne d v (fun e => by rw [e, h] at hb; cases hb)⟩

theorem quiet_closed : RaiseClosed Dev.Quiet where
  refl d := ⟨Dev.hush_self d, fun _ _ => rfl⟩
  trans h1 h2 := ⟨Dev.hush_trans h1.1 h2.1, fun a h => (h2.2 a h).trans (h1.2 a h)⟩
  recorder d r := ⟨Dev.hush_modRec d fun _ => r, fun _ _ => rfl⟩
  nvCount _ _ _ := ⟨Dev.hush_of_eq rfl, fun _ _ => rfl⟩
  nvBytes _ _ _ := ⟨Dev.hush_of_eq rfl, fun _ _ => rfl⟩
  nvWrite d _ _ := ⟨Dev.hush_nvWrite d _ _, fun _ _ => rfl⟩
  queue d f q := ⟨Dev.hush_queue d f q, fun _ _ => rfl⟩
  wr d _ v h _ := Dev.quiet_wr d v h
  stat d _ h := Dev.quiet_wr d _ (evtReg_stat h)

theorem Dev.Quiet.keepsRegs {d e : Dev} (h : d.Quiet e) (K : Nat → Prop) : d.keepsRegs e K := fun a _ ha => h.2 a ha

/-- Raising an event, and making a record, change nothing but what `evtReg` and `Dev.hush` name. -/
theorem Dev.quiet_raise (d : Dev) {e : Nat} (h : e < 256) : d.Quiet (d.raise e) := quiet_closed.raise d h
theorem Dev.quiet_raisePort (d : Dev) (p : Port) {e : Nat} (h : e < 256) : d.Quiet (d.raisePort p e) :=
  quiet_closed.raisePort d p h
theorem Dev.quiet_record (d : Dev) (type arg : Byte) (data : List Byte) : d.Quiet (d.record type arg data) :=
  quiet_closed.record d type arg data

/-- What is pending stays pending. -/
def Dev.StillPending (d e : Dev) : Prop := ∀ x, x < 256 → d.evtPending x = true → e.evtPending x = true

theorem statReg_of_lt {x : Nat} (h : x < 256) : statReg (EVT_STAT 0 + 2 * (x / 16)) = true := by
  simp only [statReg, EVT_STAT, Bool.and_eq_true, decide_eq_true_eq]
  omega

theorem stillPending_closed : RaiseClosed Dev.StillPending where
  refl _ _ _ h := h
  trans h1 h2 x hx h := h2 x hx (h1 x hx h)
  recorder _ _ _ _ h := h
  nvCount _ _ _ _ _ h := h
  nvBytes _ _ _ _ _ h := h
  nvWrite _ _ _ _ _ h := h
  queue _ _ _ _ _ h := h
  wr d a v _ hs x hx h := by
    have : EVT_STAT 0 + 2 * (x / 16) ≠ a := fun e => by rw [← e, statReg_of_lt hx] at hs; cases hs
    simpa [Dev.evtPending, Dev.mbit, Dev.rd_wr_ne d v this] using h
  stat d e _ x hx h := by
    by_cases he : x = e
    · subst he
      exact Dev.mbit_setMbit_same d _ _ _
    · exact (Dev.mbit_setMbit_ne d _ _ _ _ he).trans h

/-- An event that is raised is pending, and what was pending before stays so. -/
theorem Dev.stillPending_raise (d : Dev) {e : Nat} (h : e < 256) : d.StillPending (d.raise e) :=
  stillPending_closed.raise d h

theorem Dev.evtPending_raiseWith (d : Dev) {e : Nat} (blk : Option Nat × Option Nat) (always : Bool) (h : e < 256) :
    (d.raiseWith e blk always).evtPending e = true := by
  have h1 : (d.evtSetPost e).evtPending e = true := by
    have h0 : (d.setMbit (EVT_STAT 0) e true).evtPending e = true := Dev.mbit_setMbit_same d _ _ _
    unfold Dev.evtSetPost
    dsimp only
    split
    · exact stillPending_closed.postEvent _ _ _ e h h0
    · exact h0
  unfold Dev.raiseWith
  dsimp only
  split
  · exact stillPending_closed.record _ _ _ _ e h h1
  · exact h1

theorem Dev.evtPending_raise (d : Dev) {e : Nat} (h : e < 256) : (d.raise e).evtPending e = true :=
  Dev.evtPending_raiseWith d _ _ h
theorem Dev.evtPending_raisePort (d : Dev) (p : Port) {e : Nat} (h : e < 256) : (d.raisePort p e).evtPending e = true :=
  Dev.evtPending_raiseWith d _ _ h

/-- One event, and none, raised in an instant. -/
@[simp] theorem Dev.raiseAll_one (d : Dev) (e : Nat) : d.raiseAll [e] = d.raise e := rfl
@[simp] theorem Dev.raiseAll_nil (d : Dev) : d.raiseAll [] = d := rfl

theorem Dev.quiet_raiseAll (d : Dev) (es : List Nat) (he : ∀ e ∈ es, e < 256) : d.Quiet (d.raiseAll es) :=
  quiet_closed.raiseAll d es he

theorem Dev.evtPending_foldl (l : List Nat) (d : Dev) (hl : ∀ e ∈ l, e < 256) {e : Nat} (he : e ∈ l) :
    (l.foldl Dev.raise d).evtPending e = true := by
  induction l generalizing d with
  | nil => cases he
  | cons x l ih =>
    have hl' := fun y hy => hl y (List.mem_cons_of_mem _ hy)
    rcases List.mem_cons.mp he with rfl | h
    · exact stillPending_closed.foldl _ l _ (fun g y hy => stillPending_closed.raise g (hl' y hy)) _ (hl _ he)
        (Dev.evtPending_raise d (hl _ he))
    · exact ih _ hl' h

/-- Every event raised in one instant is pending after it. -/
theorem Dev.evtPending_raiseAll (d : Dev) (es : List Nat) (hs : ∀ e ∈ es, e < 256) {e : Nat} (he : e ∈ es) :
    (d.raiseAll es).evtPending e = true :=
  Dev.evtPending_foldl _ d (fun x hx => hs x ((RaiseClosed.mem_sortEvts d x es).mp hx))
    ((RaiseClosed.mem_sortEvts d e es).mpr he)

/-- The one form of the register file, and that of NV, outlast a raise. -/
theorem regsWf_closed : RaiseClosed fun d e => regWf d.regs = true → regWf e.regs = true where
  refl _ h := h
  trans h1 h2 h := h2 (h1 h)
  recorder _ _ h := h
  nvCount _ _ _ h := h
  nvBytes _ _ _ h := h
  nvWrite _ _ _ h := h
  queue _ _ _ h := h
  wr _ _ _ _ _ h := regSet_wf _ _ _ h
  stat _ _ _ h := regSet_wf _ _ _ h

theorem nvWf_closed : RaiseClosed fun d e => cellWf d.cfg.nv = true → cellWf e.cfg.nv = true where
  refl _ h := h
  trans h1 h2 h := h2 (h1 h)
  recorder _ _ h := h
  nvCount _ _ _ h := h
  nvBytes _ _ _ h := cellWrite_wf _ _ _ h
  nvWrite _ _ _ h := cellWrite_wf _ _ _ h
  queue _ _ _ h := h
  wr _ _ _ _ _ h := h
  stat _ _ _ h := h

end Sys2Proof.Machine
end

