-- ==== Sys2Proof/Laws/Hopper.lean ====
section
/-!
SUPPORT. Completion of commands, the gate of register writes, and the completion of hopper items: an item that is in flight and
is completed has ended, and no other item is revived.
-/

namespace Sys2Proof.Machine

open Sys2Proof Sys2Proof.R

/-! ## Completion of a command -/

/-- A command whose meaning is `f` on the device completes with what `f` leaves. -/
theorem completes_step1 {c : Instr} {s : State} {P : Dev → Prop} (f : Dev → Dev) (h : exec c s = s.step1 f)
    (hp : P (f s.dev)) : Completes c s P := ⟨f s.dev, h, hp⟩

theorem Completes.mono {c : Instr} {s : State} {P Q : Dev → Prop} (h : Completes c s P) (hq : ∀ d, P d → Q d) :
    Completes c s Q := ⟨h.choose, h.choose_spec.1, hq _ h.choose_spec.2⟩

/-! ## The gate (R253, R317) -/

/-- A write that is let through is its effect, with the accessor's held bytes discarded (R6). -/
theorem Dev.gate_of_mayWrite (d : Dev) {acc : Acc} {a : Nat} (eff : Dev → Dev) (h : d.mayWrite acc a = true) :
    d.gate acc a eff = eff (d.dropHeld acc) := by
  cases acc <;> simp_all [Dev.gate, Dev.permit, Dev.mayWrite]

/-- A furrow's write that is not let through sets WREF. -/
theorem Dev.gate_furrow_refused (d : Dev) (f : Furrow) {a : Nat} (eff : Dev → Dev) (h : furrowMay a = false) :
    d.gate (.furrow f) a eff = d.setFlag KE_STICKY KE_STICKY.WREF true := by
  simp [Dev.gate, Dev.permit, h]

/-- A port's write while the ports do not answer does nothing. -/
theorem Dev.gate_port_silent (d : Dev) (p : Port) (a : Nat) (eff : Dev → Dev) (h : d.portsAnswer = false) :
    d.gate (.port p) a eff = d := by
  simp [Dev.gate, Dev.permit, h]

/-! ## Completion of an item (R296, R297) -/

/-- Items and due closes are the same in `d` and `e`. -/
def Dev.SameItems (d e : Dev) : Prop := e.hopper.items = d.hopper.items ∧ e.hopper.closes = d.hopper.closes

theorem sameItems_closed : RaiseClosed Dev.SameItems where
  refl _ := ⟨rfl, rfl⟩
  trans h1 h2 := ⟨h2.1.trans h1.1, h2.2.trans h1.2⟩
  recorder _ _ := ⟨rfl, rfl⟩
  nvCount _ _ _ := ⟨rfl, rfl⟩
  nvBytes _ _ _ := ⟨rfl, rfl⟩
  nvWrite _ _ _ := ⟨rfl, rfl⟩
  queue _ _ _ := ⟨rfl, rfl⟩
  wr _ _ _ _ _ := ⟨rfl, rfl⟩
  stat _ _ _ := ⟨rfl, rfl⟩

theorem Dev.sameItems_overrun (d : Dev) (r : Fin 4) : d.SameItems (d.overrun r) := by
  unfold Dev.overrun
  split
  · exact ⟨by simp, by simp⟩
  · exact ⟨rfl, rfl⟩

theorem Dev.sameItems_pushCompletion (d : Dev) (c : Completion) : d.SameItems (d.pushCompletion c) := by
  unfold Dev.pushCompletion
  have t := @RaiseClosed.trans _ sameItems_closed
  refine t ?_ (sameItems_closed.raiseAll _ _ fun e he => ?_)
  rotate_left
  · simp only [List.mem_cons, List.mem_map] at he
    obtain rfl | ⟨_, _, rfl⟩ := he <;> decide
  refine t ?_ (Dev.sameItems_overrun _ 3)
  refine t ?_ (Dev.sameItems_overrun _ 2)
  refine t ?_ (Dev.sameItems_overrun _ 1)
  refine t ?_ (Dev.sameItems_overrun _ 0)
  exact ⟨rfl, rfl⟩

/-- The items that a completion of `tag` leaves. -/
def Dev.itemsAfter (d : Dev) (tag : Tag) : List Item :=
  if d.tagHeld tag then d.hopper.items.map (fun j => if j.tag = tag then { j with stage := .done } else j)
  else d.hopper.items.filter (fun j => j.tag ≠ tag)

theorem Dev.completeOne_none (d : Dev) {tag : Tag} (status : Nat) (result : BitVec 64) (h : d.item tag = none) :
    d.completeOne tag status result = d := by
  simp [Dev.completeOne, h]

theorem Dev.completeOne_items (d : Dev) {tag : Tag} (status : Nat) (result : BitVec 64) (h : d.item tag ≠ none) :
    (d.completeOne tag status result).hopper.items = d.itemsAfter tag ∧
      (d.completeOne tag status result).hopper.closes = d.hopper.closes ++ [(tag, BitVec.ofNat 6 status)] := by
  obtain ⟨i, hi⟩ := Option.ne_none_iff_exists'.mp h
  unfold Dev.completeOne
  rw [hi]
  dsimp only
  have h1 (d : Dev) (b : Bool) (x y : Byte) (l : List Byte) : d.SameItems (d.when b fun d => d.record x y l) := by
    unfold Dev.when
    split
    · exact sameItems_closed.record _ _ _ _
    · exact ⟨rfl, rfl⟩
  have h2 (x : Dev) (b : Bool) (l : List Byte) (c : Completion) :
      x.SameItems ((x.when b fun d => d.record 0x06 0 l).pushCompletion c) :=
    sameItems_closed.trans (h1 x b 0x06 0 l) (Dev.sameItems_pushCompletion _ c)
  refine ⟨(h2 _ _ _ _).1.trans ?_, (h2 _ _ _ _).2.trans ?_⟩
  · simp only [Dev.syncHop, Dev.setFld_hopper]
    rfl
  · simp only [Dev.syncHop, Dev.setFld_hopper]
    rfl

theorem find_map_done (l : List Item) (tag : Tag) :
    ((l.map fun j => if j.tag = tag then { j with stage := .done } else j).filter fun i => i.stage ≠ .done).find?
      (fun i => i.tag = tag) = none := by
  induction l with
  | nil => rfl
  | cons j l ih =>
    by_cases h : j.tag = tag
    · simpa [h] using ih
    · by_cases h2 : j.stage = .done
      · simpa [h, h2] using ih
      · simpa [h, h2] using ih

/-- After a completion the item under its tag is not in flight. -/
theorem Dev.item_completeOne_same (d : Dev) (tag : Tag) (status : Nat) (result : BitVec 64) :
    (d.completeOne tag status result).item tag = none := by
  by_cases h : d.item tag = none
  · rw [Dev.completeOne_none d _ _ h, h]
  · rw [Dev.item, Dev.inFlight, (Dev.completeOne_items d status result h).1]
    unfold Dev.itemsAfter
    split
    · exact find_map_done _ _
    · rw [List.find?_eq_none]
      intro x hx
      simp only [List.mem_filter, decide_eq_true_eq] at hx ⊢
      exact hx.1.2

/-- An item that is not in flight stays so when another completes. -/
theorem Dev.item_completeOne_none (d : Dev) {tag : Tag} (t : Tag) (status : Nat) (result : BitVec 64)
    (h : d.item tag = none) : (d.completeOne t status result).item tag = none := by
  by_cases ht : d.item t = none
  · rw [Dev.completeOne_none d _ _ ht, h]
  · rw [Dev.item, Dev.inFlight, (Dev.completeOne_items d status result ht).1]
    rw [Dev.item, Dev.inFlight, List.find?_eq_none] at h
    rw [List.find?_eq_none]
    unfold Dev.itemsAfter
    intro x hx
    split at hx
    · simp only [List.mem_filter, List.mem_map, decide_eq_true_eq] at hx
      obtain ⟨⟨j, hj, rfl⟩, hx⟩ := hx
      split at hx
      · exact absurd rfl hx
      · rw [if_neg ‹_›]
        exact h j (List.mem_filter.mpr ⟨hj, by simpa using hx⟩)
    · simp only [List.mem_filter] at hx
      exact h x (List.mem_filter.mpr ⟨hx.1.1, hx.2⟩)

theorem Dev.closes_completeOne (d : Dev) (t : Tag) (status : Nat) (result : BitVec 64) {c : Tag × BitVec 6}
    (h : c ∈ d.hopper.closes) : c ∈ (d.completeOne t status result).hopper.closes := by
  by_cases ht : d.item t = none
  · rw [Dev.completeOne_none d _ _ ht]
    exact h
  · rw [(Dev.completeOne_items d status result ht).2]
    exact List.mem_append_left _ h

/-- Settling drains revives no item and drops no close that is due. -/
theorem Dev.settleDrains_keeps (d : Dev) {tag : Tag} {c : Tag × BitVec 6} (h : d.item tag = none)
    (hc : c ∈ d.hopper.closes) : d.settleDrains.item tag = none ∧ c ∈ d.settleDrains.hopper.closes := by
  unfold Dev.settleDrains
  generalize d.hopper.drains = l
  induction l generalizing d with
  | nil => exact ⟨h, hc⟩
  | cons x l ih =>
    rw [List.foldl_cons]
    split
    · exact ih d h hc
    · exact ih _ (Dev.item_completeOne_none _ _ _ _ h) (Dev.closes_completeOne _ _ _ _ hc)

/-- An item in flight that is completed has ended with the status given. -/
theorem Dev.complete_ended (d : Dev) {tag : Tag} (status : Nat) (result : BitVec 64) (h : d.item tag ≠ none) :
    (d.complete tag status result).ended tag status := by
  refine Dev.settleDrains_keeps _ (Dev.item_completeOne_same d tag status result) ?_
  rw [(Dev.completeOne_items d status result h).2]
  exact List.mem_append_right _ (List.mem_singleton.mpr rfl)

end Sys2Proof.Machine
end

