-- ==== Sys2Proof/Laws/Kotried.lean ====
section
/-!
SUPPORT. What the issue of a Kotried instruction does, once for all instructions.
-/

namespace Sys2Proof.Machine

open Sys2Proof Sys2Proof.R

/-- The device in which furrow `f` has issued and stands as before, its step used up. -/
def Dev.issuedOnce (d : Dev) (f : Furrow) : Dev :=
  ({ d with engine := { d.engine with last := d.engine.last.set (coreOf f) (placeOf f) } } : Dev).modFur f
    fun x => { x with stepping := false }

@[simp] theorem Dev.fur_setFur_same (d : Dev) (f : Furrow) (x : FurrowSt) : (d.setFur f x).fur f = x := by
  simp [Dev.fur, Dev.setFur]

theorem Dev.fur_setFur_ne (d : Dev) {f g : Furrow} (x : FurrowSt) (h : g ≠ f) : (d.setFur f x).fur g = d.fur g := by
  have : f.val ≠ g.val := fun e => h (Fin.ext e.symm)
  simp [Dev.fur, Dev.setFur, Vector.getElem_set_ne _ _ this]

@[simp] theorem Dev.setFur_setFur (d : Dev) (f : Furrow) (x y : FurrowSt) : (d.setFur f x).setFur f y = d.setFur f y := by
  simp [Dev.setFur, Vector.set_set]

/-- When furrow `f` issues, the instruction's effect is that of its body on the furrow as it stands. -/
theorem Dev.issue_eq (d : Dev) (f : Furrow) (i : Instr) (body : FurrowSt → Dev → Dev) (h : d.issues i f) :
    d.issue f i body = body { d.fur f with stepping := false } (d.issuedOnce f) := by
  obtain ⟨h1, h2, h3, h5⟩ := h
  have h4 : (d.fur f).pc.toNat < d.engine.code.length := by
    by_contra h
    rw [Dev.command, Dev.codeWord, List.getElem?_eq_none (not_lt.mp h)] at h5
    cases h5
  have h6 : (d.issuedOnce f).fur f = { d.fur f with stepping := false } := by
    simp only [Dev.issuedOnce, Dev.modFur, Dev.fur_setFur_same]
    rfl
  unfold Dev.issue Dev.issueWord
  simp only [h1, h2, h3, h5, Bool.and_self, Bool.not_true, Bool.false_eq_true, decide_true, ↓reduceIte, not_le.mpr h4]
  rw [← h6]
  rfl

/-- The furrow at the next address with `g` applied, as the claims say it. -/
theorem Dev.retire_issuedOnce (s : State) (f : Furrow) (g : FurrowSt → FurrowSt) (x : FurrowSt)
    (hx : ∀ y, g { y with stepping := false } = { g y with stepping := false }) (h : g (s.dev.fur f) = x) :
    ({ s with dev := (s.dev.issuedOnce f).retire f g } : State) = s.ran f x := by
  subst h
  simp only [Dev.issuedOnce, Dev.retire, Dev.modFur, Dev.fur_setFur_same, Dev.setFur_setFur, State.ran, State.issued]
  simp only [Dev.setFur]
  congr 2
  have hx' := hx (s.dev.fur f)
  simp only [Dev.fur] at hx' ⊢
  rw [hx']

end Sys2Proof.Machine
end

