-- ==== Sys2Proof/Tests/Slice0.lean ====
section
/-!
SUPPORT. Tests: ill-formed commands that the well-formedness checks refuse, results of single operations taken from the spec's
tables and worked examples, and for each statement with hypotheses a concrete state and operands that meet them, clause by
clause (`witness_<statement>`).
-/

/-- A device with these items. -/
def Sys2Proof.Machine.Dev.hold (d : Sys2Proof.Machine.Dev) (l : List Sys2Proof.Machine.Item) : Sys2Proof.Machine.Dev :=
  { d with hopper := { d.hopper with items := l } }

namespace Sys2Proof.Tests

open Sys2Proof Sys2Proof.R Sys2Proof.Machine

set_option Elab.async false

/-! ## States -/

/-- A device that is up: IDLE, its measurement and engine running, HP0 the owner by default. -/
def up : Dev :=
  { Dev.reset.wn CFG_DSTATE 0 with
    boot := { Dev.reset.boot with phase := .up }, routesLive := true,
    engine := { Dev.reset.engine with started := true, code := List.replicate 4 0#32 },
    meas := { Dev.reset.meas with running := true } }

/-- The same with register words written. -/
def regs (l : List (Nat × Nat)) : Dev := l.foldl (fun d x => d.wn x.1 x.2) up

/-- The same with fields written. -/
def flds (l : List (Nat × Fld × Nat)) : Dev := l.foldl (fun d x => d.setFld x.1 x.2.1 x.2.2) up

def hp0 : Acc := .port 0

/-- A READY furrow. -/
def rdy : FurrowSt := { FurrowSt.init with st := .ready }

/-- The device up, with furrow 0 as `x`. -/
def fur0 (x : FurrowSt) : Dev := up.setFur 0 x

/-- The device up, with furrow 0 WAITING for `w`. -/
def wait0 (w : Wait) : Dev := fur0 { rdy with st := .waiting, wait := w }

/-- An accepted item of port 0. -/
def item (code : Byte) (args : Vector Word 6) : Item :=
  { tag := 5, code := code, flags := 0, args := args, cookie := 0, source := 0, stamp := 0, stage := .accepted }
def noArgs : Vector Word 6 := Vector.replicate 6 0

/-- Instruction words (R269): register form, and immediate form. -/
def wR (op d a b sh : Nat) : BitVec 32 := BitVec.ofNat 32 (op * 2 ^ 26 + d * 2 ^ 22 + a * 2 ^ 18 + b * 2 ^ 14 + sh * 2 ^ 9)
def wI (op d a m imm : Nat) : BitVec 32 := BitVec.ofNat 32 (op * 2 ^ 26 + d * 2 ^ 22 + a * 2 ^ 18 + m * 2 ^ 16 + imm)

/-- The device up, with furrow 0 as `x` at word 0 of a CODE of four words that begins with `w`. -/
def coded (x : FurrowSt) (w : BitVec 32) : Dev :=
  { fur0 x with engine := { (fur0 x).engine with code := [w, 0, 0, 0] } }

/-- Each word, as the first of CODE, is issued as its instruction. -/
def spells (l : List (BitVec 32 × Instr)) : Bool := l.all fun p => decide ((coded rdy p.1).issues p.2 0)

/-- What the hopper needs to carry out `it` under tag 5, as one test. -/
def carried (d : Dev) (code : Nat) (it : Item) : Bool :=
  d.isUp && decide (d.item 5 = some it) && decide (it.stage = .accepted) && it.code.toNat == code && !it.bad && !d.fnClosed it

/-! ## Well-formed commands -/

theorem test_wellFormed_address : (Instr.loopConfigWrite hp0 0x2001 0).addressOk = false ∧
    (Instr.bgConfigWrite hp0 0x3400 0).addressOk = false ∧ (Instr.seqProfileWrite hp0 0x13FE 0).addressOk = false ∧
    (Instr.chgConfigWrite hp0 0x33FE 0).addressOk = false ∧ (Instr.msPlanWrite hp0 0x5000 0).addressOk = false ∧
    (Instr.wdgConfigWrite hp0 0x0C00 0).addressOk = false ∧ (Instr.loopConfigWrite hp0 0x2000 0).wellFormed = true := by decide

theorem test_wellFormed_word : (Instr.b 0 0xF 0).wordOk = false ∧ (Instr.trigU 0 (.imm 2048)).wordOk = false ∧
    (Instr.post 0 15 1 2).wordOk = false ∧ (Instr.post 0 14 1 2).wellFormed = true := by decide

theorem test_wellFormed_bytes : (Instr.pkRescan hp0 0x02 0).bytesOk = false ∧ (Instr.pkRescan hp0 0x01 0).wellFormed = true := by decide

theorem test_reset : State.reset.pending = [] ∧ State.reset.dev.fld CFG_DSTATE CFG_DSTATE.BOOT = 1 := by decide

theorem witness_StepRunsFrontCommand :
    ({ dev := up, pending := [.vlBadStart 1, .vlBadStart 2] } : State).pending = .vlBadStart 1 :: [.vlBadStart 2] := rfl

/-- Data memory, NV and the register file list something, and a command waits. -/
def listed : State :=
  { dev := { up with engine := { up.engine with data := [⟨8, 1⟩] }, cfg := { up.cfg with nv := [⟨0, 7⟩, ⟨9, 1⟩] } }, pending := [.vlBadStart 1] }

theorem witness_StepKeepsRegisterFile : listed.regsWf ∧ listed.dev.regs ≠ [] ∧ ∃ t, step listed = .next t :=
  ⟨by unfold State.regsWf; decide +kernel, by decide +kernel, _, rfl⟩

theorem witness_StepKeepsDataMemory : listed.dataWf ∧ listed.dev.engine.data ≠ [] ∧ ∃ t, step listed = .next t :=
  ⟨by unfold State.dataWf; decide +kernel, by decide +kernel, _, rfl⟩

theorem witness_StepKeepsNv : listed.nvWf ∧ listed.dev.cfg.nv ≠ [] ∧ ∃ t, step listed = .next t :=
  ⟨by unfold State.nvWf; decide +kernel, by decide +kernel, _, rfl⟩

/-! ## Values from the spec's tables and examples -/

/-- The check value of R232, over "123456789". -/
theorem test_crc8 : crc8 [0x31, 0x32, 0x33, 0x34, 0x35, 0x36, 0x37, 0x38, 0x39] = 0xF4 := by decide +kernel

/-- R156 ff.: 711 codes over 1.000 mOhm are 27.77 A, and 2,560 codes behind a divider of 12 are 12,000 mV. -/
theorem test_feed_example : divQ ((2759 - 2048 : Int) * 15625) (4 * 1000) = 2777 ∧
    fitU16 (divRound ((2560 : Int) * 3072 * 25) 16384) = 12000 := by decide

/-- MULQ with SH = 16 multiplies two Q16.16 values (R272), halves toward plus infinity. -/
theorem test_mulq : roundTo (98304 * 131072) 16 = 196608 ∧ roundTo 1 1 = 1 ∧ roundTo (-1) 1 = 0 := by decide

/-- ADDS saturates, and ADD of the same operands wraps and sets V (R271 to R273). -/
theorem test_add_overflow :
    (match exec (.add 0 2 0 1) ⟨coded ((rdy.setK 0 0x7FFFFFFF).setK 1 1) (wR 0x02 2 0 1 0), []⟩ with
      | .next t => ((t.dev.fur 0).kr 2, (t.dev.fur 0).v, (t.dev.fur 0).c)
      | _ => (0, false, false)) = (0x80000000, true, false) ∧
    (match exec (.adds 0 2 0 1) ⟨coded ((rdy.setK 0 0x7FFFFFFF).setK 1 1) (wR 0x03 2 0 1 0), []⟩ with
      | .next t => (t.dev.fur 0).kr 2
      | _ => 0) = 0x7FFFFFFF := by decide +kernel

/-- Words that R270 calls illegal: the unassigned opcodes, a field that is not 0, and an operand out of range. -/
theorem test_illegal_words : [0#32, wR 0x15 0 0 0 0, wR 0x17 0 0 0 0, wR 0x23 0 0 0 0, wR 0x02 2 0 1 1, wI 0x30 15 0 0 0,
    wI 0x3C 0 0 2 2048, wR 0x3D 15 1 2 0].all (fun w => (kDecode 0 w).isNone) = true := by decide +kernel

/-- A claim of HP1 opens the election, and when it closes HP1 owns the device (R319). -/
theorem test_election : (match exec (.idClaim 1 0x00010001) ⟨up, []⟩ with
      | .next t => (match exec .electionDecide { t with dev := { t.dev with clock := { t.dev.clock with tb := 10000 } } } with
        | .next u => (u.dev.own.port, u.dev.own.leased, u.dev.own.nonce)
        | _ => (0, false, 0))
      | _ => (0, false, 0)) = (1, true, 1) := by decide +kernel

/-- The boot path up to the oscillator (R334): from reset to t4 with ADSEL 2. -/
theorem test_boot_start : (match exec .bootStart State.reset with
      | .next t => (match exec .hb0Good t with
        | .next u => (match exec (.hb1Good 2 { ckdly := 4, vio := .v18, vinLow := false }) u with
          | .next v => (v.dev.boot.phase, v.dev.portAddr)
          | _ => (.dark, 0))
        | _ => (.dark, 0))
      | _ => (.dark, 0)) = (.startDelay, 0x62) := by decide

/-! ## Witnesses: Kotried -/

theorem witness_KotriedArithmetic : spells
    [(wR 0x02 1 2 3 0, .add 0 1 2 3), (wR 0x03 1 2 3 0, .adds 0 1 2 3), (wR 0x04 1 2 3 0, .sub 0 1 2 3),
     (wR 0x05 1 2 3 0, .subs 0 1 2 3), (wR 0x06 1 2 3 0, .and 0 1 2 3), (wR 0x07 1 2 3 0, .or 0 1 2 3),
     (wR 0x08 1 2 3 0, .xor 0 1 2 3), (wR 0x09 1 2 3 0, .shl 0 1 2 3), (wR 0x0A 1 2 3 0, .shr 0 1 2 3),
     (wR 0x0B 1 2 3 0, .sar 0 1 2 3), (wR 0x0C 0 2 3 0, .cmp 0 2 3), (wR 0x0D 1 2 3 0, .min 0 1 2 3),
     (wR 0x0E 1 2 3 0, .max 0 1 2 3), (wR 0x0F 1 2 3 0, .mul 0 1 2 3), (wR 0x13 1 2 0 0, .abs 0 1 2),
     (wR 0x14 15 15 0 0, .neg 0 15 15)] = true := by decide +kernel

theorem witness_KotriedFixedPoint : spells
    [(wR 0x10 1 2 3 31, .mulq 0 1 2 3 31), (wR 0x11 1 2 3 0, .mac 0 1 2 3 0), (wR 0x12 1 2 3 16, .msu 0 1 2 3 16)] = true := by decide +kernel

theorem witness_KotriedImmediate : spells
    [(wI 0x18 1 0 0 0xFFFF, .movi 0 1 0xFFFF), (wI 0x19 1 0 0 0xFFFF, .movhi 0 1 0xFFFF), (wI 0x1A 1 2 0 0x8000, .addi 0 1 2 0x8000),
     (wI 0x1B 1 2 0 1, .andi 0 1 2 1), (wI 0x1C 1 2 0 1, .ori 0 1 2 1), (wI 0x1D 1 2 0 1, .xori 0 1 2 1),
     (wI 0x1E 0 2 0 1, .cmpi 0 2 1), (wI 0x1F 0 2 0 1, .tsti 0 2 1), (wI 0x20 1 2 0 31, .shli 0 1 2 31),
     (wI 0x21 1 2 0 1, .shri 0 1 2 1), (wI 0x22 1 2 0 0, .sari 0 1 2 0)] = true := by decide +kernel

theorem witness_KotriedDataMemory : spells
    [(wI 0x24 1 0 0 0x9FFF, .ldb 0 1 (.abs 0x9FFF)), (wI 0x25 1 0 0 0x9FFF, .ldbs 0 1 (.abs 0x9FFF)),
     (wI 0x26 1 0 0 0x9FFE, .ldh 0 1 (.abs 0x9FFE)), (wI 0x27 1 0 0 0x9FFE, .ldhs 0 1 (.abs 0x9FFE)),
     (wI 0x28 1 0 0 0x9FFC, .ldw 0 1 (.abs 0x9FFC)), (wI 0x29 1 0 0 0x9FFF, .stb 0 1 (.abs 0x9FFF)),
     (wI 0x2A 1 0 0 0x9FFE, .sth 0 1 (.abs 0x9FFE)), (wI 0x2B 1 2 1 4, .stw 0 1 (.idx 2 4))] = true ∧
    (rdy.dataAddr (.abs 0x9FFF)).toNat + 1 ≤ 0xA000 ∧ (rdy.dataAddr (.abs 0x9FFE)).toNat + 2 ≤ 0xA000 ∧
    (rdy.dataAddr (.abs 0x9FFE)).toNat % 2 = 0 ∧ (rdy.dataAddr (.abs 0x9FFC)).toNat + 4 ≤ 0xA000 ∧
    (rdy.dataAddr (.abs 0x9FFC)).toNat % 4 = 0 ∧ (rdy.dataAddr (.idx 2 4)).toNat % 4 = 0 := by decide +kernel

theorem witness_KotriedBranch : (List.range 15).all (fun c => decide ((coded rdy (wI 0x30 c 0 0 3)).issues (.b 0 (BitVec.ofNat 4 c) 3) 0)) = true ∧
    (3#14).toNat < (fur0 rdy).engine.code.length ∧
    (let w := wI 0x30 0xF 0 0 3
     kOp w = 0x30 ∧ kD w = 0xF ∧ (coded rdy w).meetsIllegal 0 w) := by decide +kernel

theorem witness_KotriedCallsAndActions :
    let x : FurrowSt := { rdy.setK 1 3 with stack := List.replicate 7 3#14 }
    (coded x (wI 0x31 0 0 0 3)).issues (.call 0 3) 0 ∧ (coded x (wI 0x34 0 1 0 0)).issues (.callr 0 1) 0 ∧
      (coded x (wI 0x33 0 1 0 0)).issues (.jmp 0 1) 0 ∧ (coded x (wI 0x32 0 0 0 0)).issues (.ret 0) 0 ∧
      (3#14).toNat < (coded x 0).engine.code.length ∧ x.stack.length < 8 ∧
      (x.kr 1).toNat < (coded x 0).engine.code.length ∧ x.stack = 3#14 :: List.replicate 6 3#14 ∧
      spells [(wI 0x01 0 0 0 0, .nop 0), (wI 0x35 1 0 0 0, .rdtb 0 1), (wI 0x3E 0 0 0 7, .sig 0 7)] = true := by decide +kernel

theorem witness_KotriedWaits :
    let e := wI 0x38 1 0 0 0
    let ta := wI 0x3A 0 1 0 0
    let ws := wI 0x3B 0 1 0 9
    let d := { coded (rdy.setK 1 70) ta with clock := { up.clock with tb := 70 } }
    (coded rdy e).issues (.waitE 0 1 (.imm 0)) 0 ∧ rdy.queue = [] ∧
      (let x := { rdy with queue := [255#9] }
       (coded x e).issues (.waitE 0 1 (.imm 0)) 0 ∧ x.queue = 255#9 :: [] ∧ (255#9).toNat < 256) ∧
      (let x := { rdy with queue := [BitVec.ofNat 9 (256 + 5)] }
       (coded x e).issues (.waitE 0 1 (.imm 0)) 0 ∧ x.queue = BitVec.ofNat 9 (256 + (5 : Tag).val) :: []) ∧
      rdy.waitArg (.imm 0) = 0 ∧ rdy.waitArg (.imm 1) ≠ 0 ∧
      spells [(wI 0x39 0 0 0 0, .waitT 0 (.imm 0)), (wI 0x39 0 0 0 1, .waitT 0 (.imm 1))] = true ∧
      d.issues (.waitTa 0 1) 0 ∧ (2 ^ 32 + d.clock.tb.toNat % 2 ^ 32 - ((d.fur 0).kr 1).toNat) % 2 ^ 32 < 2 ^ 31 ∧
      (coded (rdy.setK 1 70) ta).issues (.waitTa 0 1) 0 ∧
      2 ^ 31 ≤ (2 ^ 32 + up.clock.tb.toNat % 2 ^ 32 - ((d.fur 0).kr 1).toNat) % 2 ^ 32 ∧
      (coded (rdy.setK 1 64) ws).issues (.waitS 0 1 9) 0 ∧ 63 < ((rdy.setK 1 64).kr 1).toNat ∧
      (let y := rdy.setK 1 63
       (coded y ws).issues (.waitS 0 1 9) 0 ∧ (y.kr 1).toNat = (63 : SeqNo).val ∧
         ((coded y ws).setMbit (MS_SEQDONE 0) 63 true).mbit (MS_SEQDONE 0) 63 = true ∧
         ((coded y ws).setMbit (MS_SEQDONE 0) 63 true).issues (.waitS 0 1 9) 0 ∧
         (coded y ws).mbit (MS_SEQDONE 0) 63 = false) := by decide +kernel

/-- The device at tick `t`. -/
def atTick (t : Nat) (d : Dev) : Dev := { d with clock := { d.clock with tb := BitVec.ofNat 64 t } }

theorem witness_KotriedWaitEnds :
    let x : FurrowSt := { rdy with st := .waiting, wait := .event 3 5, waitAt := 10, queue := [255] }
    ((wait0 (.event 3 5)).fur 0).st = .waiting ∧ ((wait0 (.event 3 5)).fur 0).wait = .event 3 5 ∧
      ((wait0 (.event 3 5)).fur 0).queue = [] ∧ ((fur0 x).fur 0).st = .waiting ∧ x.queue = 255#9 :: [] ∧ (255#9).toNat < 256 ∧
      (5 : Nat) ≠ 0 ∧ x.waitAt + 5 ≤ (atTick 15 (fur0 x)).clock.tb.toNat ∧ (atTick 14 (fur0 x)).clock.tb.toNat < x.waitAt + 5 ∧
      (let y : FurrowSt := { x with queue := [BitVec.ofNat 9 (256 + 5), 3] }
       ((fur0 y).fur 0).st = .waiting ∧ y.wait = .event 3 5 ∧ y.queue = BitVec.ofNat 9 (256 + (5 : Tag).val) :: [3]) ∧
      ((wait0 (.ticks 1)).fur 0).wait = .ticks 1 ∧ ((wait0 (.until 7)).fur 0).wait = .until 7 ∧
      ((wait0 (.seq 3 1)).fur 0).wait = .seq 3 1 ∧ ((wait0 (.seq 3 1)).fur 0).waitAt + 1 ≤ (atTick 1 (wait0 (.seq 3 1))).clock.tb.toNat ∧
      ((wait0 (.seq 3 1)).setMbit (MS_SEQDONE 0) 3 true).mbit (MS_SEQDONE 0) 3 = true ∧
      (wait0 (.seq 3 1)).mbit (MS_SEQDONE 0) 3 = false := by decide +kernel

theorem witness_KotriedAccessIssue :
    let x : FurrowSt := { rdy.setK 1 5 with held := [5] }
    spells [(wI 0x2C 2 0 2 0x6040, .ldr 0 2 true (.abs 0x6040)), (wI 0x2C 2 1 1 0x6040, .ldr 0 2 false (.idx 1 0x6040)),
      (wI 0x2D 2 0 0 0x6040, .str 0 2 (.abs 0x6040)), (wI 0x2E 2 1 0 0x6040, .atomSet 0 2 1 0x6040),
      (wI 0x2E 2 1 1 0x6040, .atomClr 0 2 1 0x6040), (wI 0x2E 2 1 2 0x6040, .atomAdd 0 2 1 0x6040),
      (wI 0x2E 2 1 3 0x6040, .atomXch 0 2 1 0x6040), (wI 0x2F 2 1 0 0x6040, .cas 0 2 1 0x6040), (wI 0x36 2 0 0 15, .wdc 0 2 15),
      (wI 0x37 0 1 0 15, .wda 0 1 15), (wI 0x3C 0 0 0 63, .trigS 0 (.imm 63)), (wI 0x3C 0 0 2 2047, .trigU 0 (.imm 2047)),
      (wI 0x3C 0 1 3 0, .trigU 0 (.reg 1))] = true ∧
      (x.regAddr (.abs 0x6040)).toNat % 2 = 0 ∧ (0x6040#16).toNat % 2 = 0 ∧ x.trigArg (.imm 63) < 64 ∧ (2047#16).toNat < 2048 ∧
      (coded x (wR 0x3D 14 1 2 0)).issues (.post 0 14 1 2) 0 ∧ (x.kr 1).toNat = (5 : Tag).val ∧ (5 : Tag) ∈ x.held ∧
      (14 : KReg) ≠ 15 := by decide +kernel

theorem witness_KotriedFaults :
    spells [(wI 0x24 1 0 0 0xA000, .ldb 0 1 (.abs 0xA000)), (wI 0x26 1 0 0 0x9FFF, .ldh 0 1 (.abs 0x9FFF)),
      (wI 0x28 1 0 0 0x9FFD, .ldw 0 1 (.abs 0x9FFD)), (wI 0x2A 1 0 0 0x9FFD, .sth 0 1 (.abs 0x9FFD)),
      (wI 0x2B 1 0 0 0x9FFA, .stw 0 1 (.abs 0x9FFA)), (wI 0x31 0 0 0 4, .call 0 4), (wI 0x30 0 0 0 4, .b 0 0 4), (wI 0x32 0 0 0 0, .ret 0),
      (wI 0x2C 1 0 0 0x6041, .ldr 0 1 false (.abs 0x6041)), (wI 0x2D 1 0 0 0x6041, .str 0 1 (.abs 0x6041)),
      (wI 0x2E 1 2 0 0x6041, .atomSet 0 1 2 0x6041), (wI 0x2F 1 2 0 0x6041, .cas 0 1 2 0x6041), (wI 0x3C 0 0 0 64, .trigS 0 (.imm 64))] = true ∧
      rdy.stack = [] ∧
      (let w := wI 0x3C 0 0 2 2048
       kOp w = 0x3C ∧ kM w = 2 ∧ 2047 < kImm w ∧ (coded rdy w).meetsIllegal 0 w) ∧
      (let w := wR 0x3D 15 1 2 0
       kOp w = 0x3D ∧ kD w = 15 ∧ (coded rdy w).meetsIllegal 0 w) := by decide +kernel

theorem witness_KotriedFaults_operands :
    let x : FurrowSt := { rdy.setK 1 200 with stack := List.replicate 8 0#14 }
    let y : FurrowSt := { rdy.setK 1 3 with stack := [4] }
    0xA000 < (x.dataAddr (.abs 0xA000)).toNat + 1 ∧ 0xA000 < (x.dataAddr (.abs 0x9FFF)).toNat + 2 ∧
      0xA000 < (x.dataAddr (.abs 0x9FFD)).toNat + 4 ∧ (x.dataAddr (.abs 0x9FFD)).toNat + 2 ≤ 0xA000 ∧
      (x.dataAddr (.abs 0x9FFD)).toNat % 2 ≠ 0 ∧ (x.dataAddr (.abs 0x9FFA)).toNat + 4 ≤ 0xA000 ∧
      (x.dataAddr (.abs 0x9FFA)).toNat % 4 ≠ 0 ∧ (coded x 0).engine.code.length ≤ (4#14).toNat ∧
      (3#14).toNat < (coded x 0).engine.code.length ∧ 8 ≤ x.stack.length ∧ (coded x 0).engine.code.length ≤ (x.kr 1).toNat ∧
      (coded x (wI 0x31 0 0 0 3)).issues (.call 0 3) 0 ∧ (coded x (wI 0x34 0 0 0 0)).issues (.callr 0 0) 0 ∧
      (coded x (wI 0x34 0 1 0 0)).issues (.callr 0 1) 0 ∧ (coded x (wI 0x33 0 1 0 0)).issues (.jmp 0 1) 0 ∧
      (x.kr 0).toNat < (coded x 0).engine.code.length ∧ (coded y (wI 0x32 0 0 0 0)).issues (.ret 0) 0 ∧
      y.stack = 4#14 :: [] ∧ (x.regAddr (.abs 0x6041)).toNat % 2 = 1 ∧ 63 < x.trigArg (.imm 64) ∧
      (coded x (wR 0x3D 14 1 2 0)).issues (.post 0 14 1 2) 0 ∧ 127 < (x.kr 1).toNat ∧
      (coded y (wR 0x3D 14 1 2 0)).issues (.post 0 14 1 2) 0 ∧ (y.kr 1).toNat = (3 : Tag).val ∧ (3 : Tag) ∉ y.held := by decide +kernel

theorem witness_KotriedAccessDone :
    (∀ a ∈ ([.load 2 0x6040 true, .store 0x0200 1, .store 0x6040 1, .atom .add 3 (BitVec.ofNat 16 (KE_SHARE 31)) 1,
        .cas 3 (BitVec.ofNat 16 (KE_SHARE 0)) 1, .wdc 3 4, .wda 15 1, .wda 4 1, .trigSeq 56, .trigSeq 55, .trigUrg 2048,
        .post 5 0 0] : List Access),
      (wait0 (.access a)).engineOn = true ∧ ((wait0 (.access a)).fur 0).st = .waiting ∧
        ((wait0 (.access a)).fur 0).wait = .access a ∧ ((wait0 (.access a)).accSt (.furrow 0)).held = []) ∧
      (valueOf (.furrow 0) 0x6040).2 = 2 ∧ furrowMay 0x0200 = false ∧ furrowMay 0x6040 = true ∧ isReg 0x6040 = true ∧
      valueOf (.furrow 0) 0x6040 = (0x6040, 2) ∧
      (({ up with wdg := up.wdg.set 4 { WdgSlot.init with running := true, furrow := 1 } } : Dev).slot 4).running = true ∧
      (({ up with wdg := up.wdg.set 4 { WdgSlot.init with running := true, furrow := 1 } } : Dev).slot 4).furrow ≠ 0 ∧
      (up.slot 4).running = false ∧ (4 : WSlot) ≠ 15 ∧ up.item 5 = none ∧ ((up.hold [item 0x80 noArgs]).item 5).isSome = true := by decide

theorem witness_FurrowEnds : kLegal 0 = false ∧ (coded rdy 0).meetsIllegal 0 0 ∧
    (let d := (coded { rdy with held := [5], queue := [BitVec.ofNat 9 (256 + 6)] } (wI 0x3F 0 0 0 0)).hold
        [{ item 0x80 noArgs with stage := .taken 0 }, { item 0x81 noArgs with tag := 6, stage := .queued 0 }]
     d.issues (.stop 0) 0 ∧ (5 : Tag) ∈ d.itemsHeld 0 ∧ (5 : Tag) ∉ d.itemsQueued 0 ∧ (6 : Tag) ∈ d.itemsQueued 0 ∧
       (6 : Tag) ∉ d.itemsHeld 0 ∧ (5 : Tag) ∉ d.hopper.drains.map (·.tag) ∧ (1 : Furrow) ≠ 0) := by decide +kernel

theorem witness_FurrowRestart : up.mayWrite (.port 0) (KE_FCTL 0) = true ∧ ((fur0 { rdy with st := .stopped }).fur 0).st = .stopped ∧
    ((fur0 { rdy with st := .faulted }).fur 0).st = .faulted ∧ ((fur0 rdy).fur 0).st ≠ .stopped ∧
    ((fur0 rdy).fur 0).st ≠ .faulted ∧
    (let d := ((fur0 { rdy with st := .faulted }).setFlag BG_STATUS BG_STATUS.T4 true).wn BG_DEFICIT 1
     d.mayWrite (.port 0) (KE_FCTL 0) = true ∧ (d.fur 0).st = .faulted ∧
       (d.dropHeld (.port 0)).flag BG_STATUS BG_STATUS.T4 = true ∧ (d.dropHeld (.port 0)).rn BG_DEFICIT ≠ 0) := by decide +kernel

theorem witness_FurrowDebug :
    let d := { (flds [(KE_CTL, KE_CTL.DBGEN, 1)]).wn KE_MADDR 0x9FFC with engine := { up.engine with debugGranted := true } }
    d.mayWrite (.port 0) (KE_FCTL 0) = true ∧ d.mayWrite (.port 0) KE_CTL = true ∧ d.engine.debugGranted = true ∧
      up.engine.debugGranted = false ∧ d.debugOpen = true ∧ up.debugOpen = false ∧ d.rn KE_MCFG % 2 = 0 ∧
      d.rn KE_MADDR + 4 ≤ 0xA000 := by decide +kernel

/-! ## Witnesses: ports, ownership and hopper -/

theorem witness_RegisterWrites : up.portsAnswer = true ∧ up.portMay 1 0x0200 = false ∧ Dev.reset.portsAnswer = false ∧
    furrowMay 0x0200 = false ∧
    (∀ acc ∈ [Acc.port 0, Acc.furrow 15], (0x6040#16).toNat % 2 = 0 ∧ isReg 0x6040 = true ∧ valueOf acc 0x6040 = (0x6040, 2) ∧
      valueOf acc 0x6041 = (0x6040, 2) ∧ (0x6040#16).toNat < 0xFFFF ∧ up.mayWrite acc 0x6040 = true ∧
      up.mayWrite acc 0x6041 = true ∧ (up.accSt acc).held = []) := by decide

theorem witness_PortTransactions : up.portsAnswer = true ∧ up.pecOn 0 = false ∧ (up.port 0).dir = .idle ∧
    up.portMay 0 (KE_SHARE 31) = true ∧ (up.accSt (.port 0)).held = [] ∧ up.isOwner 1 = false ∧ up.pecOn 1 = false ∧
    (up.port 1).dir = .idle ∧
    ((up.modPort 0 fun x => { x with ptr := BitVec.ofNat 16 (KE_SHARE 0) }).port 0).ptr = BitVec.ofNat 16 (KE_SHARE 0) ∧
    (flds [(accKey 0 ID_PCFG, ID_PCFG.PEC, 1)]).pecOn 0 = true ∧ up.portMay 0 0x6040 = true ∧ up.portMay 0 (pageNext 0x6040) = true ∧
    (0 : Byte) ≠ crc8 [BitVec.ofNat 8 (2 * up.portAddr), 0x60, 0x40, 1, 2] := by decide +kernel

def claim (p : BitVec 3) : Claim := { prio := p, lease := 600, nonce := 7 }

theorem witness_Elections : up.portsAnswer = true ∧ (600 < (601#10).toNat) ∧ (0#10).toNat = 0 ∧ 0 < (600#10).toNat ∧
    (600#10).toNat ≤ 600 ∧ up.own.offer = none ∧ up.own.elect = false ∧
    (let d := { up with own := { up.own with elect := true, electEnd := 10000, claims := #v[some (claim 3), some (claim 3), some (claim 2)] } }
     d.own.elect = true ∧ d.tbRuns = true ∧ d.own.leased = false ∧ d.own.electEnd ≤ (atTick 10000 d).now ∧
       (atTick 9999 d).now < d.own.electEnd ∧ d.own.claims[(0 : Port)] = some (claim 3) ∧
       d.own.claims[(1 : Port)] = some (claim 3) ∧ d.own.claims[(2 : Port)] = some (claim 2) ∧
       ((claim 3).prio = (claim 3).prio ∧ (0 : Port) < 1) ∧ (claim 2).prio.toNat < (claim 3).prio.toNat) := by decide +kernel

/-- The owner HP2 holds a lease at priority 4, which stands against HP0's claim, and falls to HP1's. -/
theorem witness_Elections_leased :
    let d (c : Option Claim) : Dev := { up with own := { up.own with elect := true, electEnd := 10000, leased := true, port := 2, prio := 4,
                                                                     changeDue := true, claims := #v[some (claim 3), c, none] } }
    let stands (d : Dev) (q : Port) : Option Nat := match d.own.claims[q], d.own.leased && decide (d.own.port = q) with
      | some c, true => some (max c.prio.toNat d.own.prio.toNat)
      | some c, false => some c.prio.toNat
      | none, true => some d.own.prio.toNat
      | none, false => none
    let l := d none
    let c := d (some (claim 5))
    (atTick 10000 l).own.electEnd ≤ (atTick 10000 l).now ∧ l.tbRuns = true ∧ l.own.claims[(2 : Port)] = none ∧
      (List.finRange 3).map (stands l) = [some 3, none, some 4] ∧ (List.finRange 3).map (stands c) = [some 3, some 5, some 4] ∧
      c.own.claims[(1 : Port)] = some (claim 5) ∧ c.own.port ≠ 1 ∧ l.own.changeDue = true := by decide +kernel

theorem witness_Leases :
    let d := { up with own := { up.own with leased := true, port := 1, nonce := 7, lease := 600, leaseEnd := 60000000 } }
    let o := { d with own := { d.own with offer := some 2, offerEnd := 1000000 } }
    d.portsAnswer = true ∧ d.own.leased = true ∧ d.own.port = 1 ∧ 7#16 = d.own.nonce ∧ up.own.leased = false ∧
      d.own.port ≠ 0 ∧ d.own.port ≠ 2 ∧ 8#16 ≠ d.own.nonce ∧ (∀ q : Port, d.own.claims[q] = none) ∧ d.own.offer = none ∧
      d.own.elect = false ∧ (2#2).toNat < 3 ∧ (2#2).toNat ≠ (1 : Port).val ∧ (1#2).toNat = (1 : Port).val ∧ (3#2).toNat = 3 ∧
      d.tbRuns = true ∧ d.now < d.own.leaseEnd ∧ d.own.leaseEnd ≤ (atTick 60000000 d).now ∧
      ({ d with own := { d.own with elect := true } } : Dev).own.elect = true ∧
      4 * ((atTick 45000001 d).own.leaseEnd - (atTick 45000001 d).now) < 100000 * d.own.lease.toNat ∧
      o.own.offer ≠ none ∧ o.now < o.own.offerEnd ∧ o.own.offerEnd ≤ (atTick 1000000 o).now := by decide +kernel

theorem witness_PortSignals :
    let d := (flds [(accKey 0 ID_PCFG, ID_PCFG.ATTNEN, 1)]).modPort 0 fun x => { x with ownCause := true }
    let e := d.setFlag (HP_STATUS 0) HP_STATUS.ATNHOLD true
    let x := (up.setFlag (HP_STATUS 0) HP_STATUS.XFER true).modPort 0 fun x => { x with dir := .read }
    let w := x.modPort 0 fun x => { x with dir := .write, rx := [0x60, 0x40] }
    d.portsAnswer = true ∧ d.flag (accKey 0 ID_PCFG) ID_PCFG.ATTNEN = true ∧ d.causes 0 ≠ 0 ∧
      d.flag (HP_STATUS 0) HP_STATUS.BUSY = false ∧
      (d.setFlag (HP_STATUS 0) HP_STATUS.BUSY true).flag (HP_STATUS 0) HP_STATUS.BUSY = true ∧
      d.flag (HP_STATUS 0) HP_STATUS.ATNHOLD = false ∧ e.flag (HP_STATUS 0) HP_STATUS.ATNHOLD = true ∧
      e.causes 0 &&& ~~~(e.port 0).missed ≠ 0 ∧ e.flag (accKey 0 ID_PCFG) ID_PCFG.PEC = false ∧ 3 ≤ 3 ∧ 2 ≤ 2 ∧ x.tbRuns = true ∧ e.portsAnswer = true ∧
      Dev.reset.portsAnswer = false ∧
      x.portsAnswer = true ∧ x.flag (HP_STATUS 0) HP_STATUS.XFER = true ∧ (x.port 0).dir = .read ∧ (x.port 0).pec = false ∧
      w.flag (HP_STATUS 0) HP_STATUS.XFER = true ∧ (w.port 0).dir = .write ∧ 2 ≤ (w.port 0).rx.length ∧
      up.flag (HP_STATUS 0) HP_STATUS.XFER = false ∧ (flds [(HP_CFG 0, HP_CFG.TOEN, 1)]).flag (HP_CFG 0) HP_CFG.TOEN = true := by decide +kernel

theorem witness_CounterClears : ∀ a ∈ [LP_CTL 11, VL_CTL 3, BG_CTL, CHG_CTL, GG_CTL, PK_CTL, CLK_CTL, TH_CTL, WDG_CTL, CFG_DSCTL,
    SEQ_CMD, MS_CTL, KE_CTL, HOP_CTL, HP_CTL, REC_CTL, CFG_CTL], up.mayWrite hp0 a = true := by decide

theorem witness_DoorbellAndReaders :
    let d := { up with hopper := { up.hopper with assigned := true } }
    let full := up.hold ((List.finRange 128).map fun t => { item 0 noArgs with tag := t })
    let rec0 : Completion := { tag := 5, status := 0, source := 0, cookie := 0, result := 0, stamp := 0 }
    let r := { (regs [(HOP_CWR, 1)]) with hopper := { up.hopper with frozen := up.hopper.frozen.set 0 (some rec0), ring := [rec0] } }
    d.mayWrite hp0 HOP_SUBCTL = true ∧ d.flag CFG_DSTATE CFG_DSTATE.BOOT = false ∧ d.flag CFG_DSTATE CFG_DSTATE.NEWTPEND = false ∧
      d.hopper.pendingReset = .none ∧ d.hopper.resetTags = [] ∧ d.engineOn = true ∧
      (regs [(CFG_DSTATE, 0xFFFF)]).flag CFG_DSTATE CFG_DSTATE.BOOT = true ∧
      (regs [(CFG_DSTATE, 0xFFFF)]).mayWrite (.furrow 0) HOP_SUBCTL = true ∧
      128 ≤ full.inFlight.length ∧ full.engineOn = true ∧ d.inFlight.length < 128 ∧ d.hopper.assigned = true ∧
      (1 : Tag).val = (d.fld HOP_STATUS HOP_STATUS.LASTTAG + 1) % 128 ∧ d.tagFree 1 = true ∧ d.nvInhibit = false ∧
      (d.setFlag TH_STATUS TH_STATUS.NVINH true).nvInhibit = true ∧ up.portsAnswer = true ∧
      (regs [(HOP_CWR, 1)]).unread 0 ≠ 0 ∧ (regs [(HOP_CWR, 1)]).hopper.frozen[(0 : Fin 4)] = none ∧ r.unread 0 ≠ 0 ∧
      r.hopper.frozen[(0 : Fin 4)] = some rec0 ∧ up.unread 0 = 0 ∧ up.hopper.frozen[(0 : Fin 4)] = none := by decide +kernel

theorem witness_HopperItems :
    let fn := #v[3, 0, 0, 0, 0, 0]
    let one (it : Item) : Dev := up.hold [it]
    carried (one (item 0x00 noArgs)) 0x00 (item 0x00 noArgs) = true ∧
      ((one (item 0x06 noArgs)).isUp = true ∧ (one (item 0x06 noArgs)).item 5 = some (item 0x06 noArgs) ∧ (item 0x06 noArgs).bad = true) ∧
      (let d := (one (item 0x10 noArgs)).setMbit HOP_FNDIS 12 true
       d.isUp = true ∧ d.item 5 = some (item 0x10 noArgs) ∧ (item 0x10 noArgs).bad = false ∧ d.fnClosed (item 0x10 noArgs) = true) ∧
      (let d := (one (item 0x18 fn)).setMbit HOP_FNDIS 3 true
       d.isUp = true ∧ d.item 5 = some (item 0x18 fn) ∧ (item 0x18 fn).bad = false ∧ d.fnClosed (item 0x18 fn) = true) ∧
      (carried (one (item 0x01 fn)) 0x01 (item 0x01 fn) = true ∧ ∀ j ∈ (one (item 0x01 fn)).inFlight, j.tag.val ≠ 3) ∧
      (let d := one (item 0x02 fn)
       carried d 0x02 (item 0x02 fn) = true ∧ d.mbit SEQ_RAILON 3 = false ∧ d.mbit HOP_FNDRAIN 3 = false ∧ d.mbit HOP_FNDIS 3 = false ∧
         d.hopper.drains = [] ∧ ∀ j ∈ d.inFlight, (d.fnOf j).map (·.val) ≠ some 3) ∧
      (let d := (one (item 0x03 fn)).setMbit HOP_FNDIS 3 true
       carried d 0x03 (item 0x03 fn) = true ∧ d.mbit HOP_FNDRAIN 3 = false ∧ d.mbit HOP_FNDIS 3 = true) ∧
      (let x : Drain := { fn := 3, tag := 5, atStart := 0, ended := 0 }
       let y := { item 0x18 fn with tag := 6 }
       let d := { up.hold [item 0x02 fn, y] with hopper := { (up.hold [item 0x02 fn, y]).hopper with drains := [x] } }
       d.isUp = true ∧ x ∈ d.hopper.drains ∧ x.tag = 5 ∧ (∀ z ∈ d.hopper.drains, z.tag = 5 → z = x) ∧ y ∈ d.inFlight ∧
         d.fnOf y = some x.fn ∧ x.tag ≠ y.tag ∧ (d.item 5).isSome = true) ∧
      carried (one (item 0x30 noArgs)) 0x30 (item 0x30 noArgs) = true ∧ carried (one (item 0x31 noArgs)) 0x31 (item 0x31 noArgs) = true ∧
      carried (one (item 0x38 noArgs)) 0x38 (item 0x38 noArgs) = true ∧ carried (one (item 0x39 noArgs)) 0x39 (item 0x39 noArgs) = true ∧
      (one (item 0x39 noArgs)).nvInhibit = false ∧ (one (item 0x39 noArgs)).bof = false ∧ (5 : Tag) ∉ up.recorder.later ∧
      up.recorder.flushing = false ∧
      (let r := { up.recorder with flushing := true, ringDone := false, failed := false }
       let d := { one (item 0x39 noArgs) with recorder := r }
       carried d 0x39 (item 0x39 noArgs) = true ∧ d.recorder.flushing = true ∧ d.recorder.ringDone = false ∧ d.recorder.failed = false) ∧
      carried ((one (item 0x39 noArgs)).setFlag TH_STATUS TH_STATUS.NVINH true) 0x39 (item 0x39 noArgs) = true ∧
      ((one (item 0x39 noArgs)).setFlag TH_STATUS TH_STATUS.NVINH true).nvInhibit = true := by decide +kernel

theorem witness_HopperItems_abort :
    let a := item 0x01 #v[3, 9, 0, 0, 0, 0]
    let other (code : Byte) (st : ItemStage) : Item := { item code #v[3, 0, 0, 0, 0, 0] with tag := 3, cookie := 9, stage := st }
    [other 0x80 .accepted, other 0x18 .accepted, other 0x10 .running, other 0x10 .accepted].all (fun x =>
      let d := (up.hold [x, a]).setFld SEQ_STATUS SEQ_STATUS.STATE drRising
      decide (x ∈ d.inFlight ∧ carried d 0x01 a = true ∧ x.tag.val = a.args[0].toNat ∧ x.cookie = a.args[1] ∧ x.tag ≠ a.tag ∧
        (∀ k ∈ d.inFlight, (k.tag = x.tag → k = x) ∧ (k.tag = a.tag → k = a)) ∧ d.ds = drRising ∧ d.hopper.drains = [])) = true := by
  decide +kernel

/-- An item for a furrow, with code 0x80 mapped to furrow 0, which stands as `x`. -/
def prog : Item := item 0x80 noArgs
def mapped (x : FurrowSt) (l : List Item) : Dev :=
  { (fur0 x).hold l with engine := { (fur0 x).engine with dispatch := [0x80] } }

theorem witness_FurrowItemsAndJournal_post :
    ((up.hold [prog]).isUp = true ∧ (up.hold [prog]).item 5 = some prog ∧ 0x80 ≤ prog.code.toNat ∧ prog.bad = false ∧
      (up.hold [prog]).fnClosed prog = false ∧ (up.hold [prog]).dispatchOf prog.code = none) ∧
    [{ rdy with st := .stopped }, { rdy with st := .disabled }, { rdy with st := .faulted }, rdy,
        { rdy with queue := List.replicate 15 3#9 }, { rdy with queue := List.replicate 16 3#9 }].all (fun x =>
      let d := mapped x [prog]
      d.isUp && decide (d.item 5 = some prog) && !d.fnClosed prog && decide (d.dispatchOf prog.code = some 0) &&
        !d.roomAwaited 5 0) = true := by decide +kernel

theorem witness_FurrowItemsAndJournal :
    let waiting : Item := { prog with stage := .waitRoom 0 }
    let w : Dev := mapped rdy [waiting]
    let v : Dev := mapped rdy [{ waiting with tag := 4 }, prog]
    let c : Dev := { up with hopper := { up.hopper with closes := [(5, 3)], resetTags := [5],
                                                        journal := [{ tag := 5, seq := 0, item := prog, crcOk := true, closed := none }] } }
    (v.item 5 = some prog ∧ v.dispatchOf prog.code = some 0 ∧ v.roomAwaited 5 0 = true) ∧
      (w.inFlight = [waiting] ∧ w.dispatchOf prog.code = some 0 ∧ (w.fur 0).st = .ready ∧ (w.fur 0).queue.length < 16) ∧
      (c.hopper.closes = [(5, 3)] ∧ c.nvInhibit = false ∧ (5 : Tag) ∈ c.hopper.resetTags ∧
        (c.setFlag TH_STATUS TH_STATUS.NVINH true).nvInhibit = true) := by decide +kernel

/-! ## Witnesses: the drill -/

/-- Profile 3 holds rails 12 and 27, and the two go on by time. -/
def drill (st : Nat) : Dev :=
  (((flds [(SEQ_STATUS, SEQ_STATUS.STATE, st), (SEQ_RCFG 12, SEQ_RCFG.PGSRC, 3), (SEQ_RCFG 27, SEQ_RCFG.PGSRC, 3)]).wn32
    (SEQ_PFMASK 3) 0x8001000))

/-- Rail 12 is on and good. -/
def railed (st : Nat) : Dev := ((drill st).setMbit SEQ_RAILON 12 true).setFld (SEQ_RSTATE 12) SEQ_RSTATE.STATE rsGood

theorem witness_DrillCommands : (drill drOff).mayWrite hp0 SEQ_CMD = true ∧
    ((drill drOff).ds = drOff ∧ (drill drOff).profileRefused 3 = none ∧ (drill drOff).inMask 3 27 = true) ∧
    ((railed drUp).ds = drUp ∧ 3 ≠ (railed drUp).profileNow ∧ (railed drUp).railLive 12 = true) ∧
    ((railed drRising).ds = drRising ∧ (railed drRising).railLive 12 = true ∧ (railed drRising).rstate 12 ≠ rsWaiting) ∧
    ((railed drUp).profileBad 1 = false ∧ (railed drUp).inMask 1 12 = false) ∧
    (drill drOff).ds ≠ drUp ∧ (drill drLatched).ds = drLatched ∧
    (SEQ_CMD.CNTCLR.of (5#16).toNat = 0 ∧ 4 < SEQ_CMD.CMD.of (5#16).toNat) ∧
    (0x1400 ≤ (0x1400#16).toNat ∧ (0x1400#16).toNat < 0x1C00 ∧ (railed drUp).mayWrite hp0 0x1400 = true ∧
      (railed drUp).profileBusy ((0x1400 - 0x1400) / 0x100) = true) ∧
    ((drill drOff).mayWrite hp0 (SEQ_PFMASK 7) = true ∧ (drill drOff).profileBusy 7 = false) := by decide +kernel

theorem witness_DrillItems :
    let on := item 0x10 #v[3, 0, 0, 0, 0, 0]
    let sw := item 0x12 #v[1, 0, 0, 0, 0, 0]
    (carried ((drill drOff).hold [on]) 0x10 on = true ∧ ((drill drOff).hold [on]).ds = drOff ∧
        ((drill drOff).hold [on]).profileRefused 3 = none ∧ ((drill drOff).hold [on]).inMask 3 12 = true) ∧
      (carried ((drill drOff).hold [item 0x11 noArgs]) 0x11 (item 0x11 noArgs) = true ∧
        ((drill drOff).hold [item 0x11 noArgs]).ds = drOff) ∧
      (carried ((railed drUp).hold [item 0x11 noArgs]) 0x11 (item 0x11 noArgs) = true ∧
        ((railed drUp).hold [item 0x11 noArgs]).ds = drUp ∧ ((railed drUp).hold [item 0x11 noArgs]).railLive 12 = true) ∧
      (carried ((railed drUp).hold [sw]) 0x12 sw = true ∧ ((railed drUp).hold [sw]).profileBad 1 = false ∧
        ((railed drUp).hold [sw]).railLive 12 = true ∧ ((railed drUp).hold [sw]).inMask 1 12 = false) ∧
      (carried ((drill drLatched).hold [item 0x13 noArgs]) 0x13 (item 0x13 noArgs) = true ∧
        ((drill drLatched).hold [item 0x13 noArgs]).ds = drLatched) ∧
      (carried ((drill drOff).hold [item 0x13 noArgs]) 0x13 (item 0x13 noArgs) = true ∧
        ((drill drOff).hold [item 0x13 noArgs]).ds ≠ drLatched) ∧
      ((drill drOff).hold [on]).loopDisabled (some on) 3 = false ∧ ((railed drUp).hold [sw]).loopDisabled (some sw) 1 = false := by
  decide +kernel

/-- Profile 3 with a loop whose function is disabled. -/
theorem witness_DrillItems_disabled :
    let d : Dev := ((drill drOff).setMbit (SEQ_PFMASK 3) 0 true).setMbit HOP_FNDIS 0 true
    [item 0x10 #v[3, 0, 0, 0, 0, 0], item 0x12 #v[3, 0, 0, 0, 0, 0]].all (fun it =>
      carried (d.hold [it]) it.code.toNat it && (d.hold [it]).loopDisabled (some it) 3) = true := by decide +kernel

theorem witness_DrillSlots :
    let r (st rs : Nat) : Dev := (railed st).setFld (SEQ_RSTATE 12) SEQ_RSTATE.STATE rs
    let sw : Dev := { r drSwitching rsWaiting with drill := { up.drill with phase2 := true } }
    let shed : Dev := ((r drRising rsWaiting).setFld BG_STATUS BG_STATUS.STATE 2).setMbit BG_LLSHED 12 true
    let off (st : Nat) : Dev := { railed st with drill := { (railed st).drill with offDue := 0x1000, gap := [12] } }
    let dead : Dev := { drill drFaulting with drill := { up.drill with gap := [12] } }
    let pg := ((r drRising rsRising).setFld (SEQ_RCFG 12) SEQ_RCFG.PGSRC 0)
    (r drRising rsWaiting).blocksRun = true ∧
      ((r drRising rsWaiting).rstate 12 = rsWaiting ∧ (r drRising rsWaiting).ds = drRising ∧ (r drRising rsWaiting).bgShedding = false) ∧
      (sw.rstate 12 = rsWaiting ∧ sw.ds = drSwitching ∧ sw.drill.phase2 = true ∧ sw.mbit BG_LLSHED 12 = false) ∧
      (shed.rstate 12 = rsWaiting ∧ shed.ds = drRising ∧ shed.bgShedding = true ∧ shed.mbit BG_LLSHED 12 = true) ∧
      ((off drFalling).ds = drFalling ∧ (off drFalling).drill.offDue.getLsbD 12 = true ∧ (off drFalling).railLive 12 = true) ∧
      ((off drFaulting).ds = drFaulting ∧ (off drFaulting).drill.gap = 12 :: [] ∧ (off drFaulting).railLive 12 = true) ∧
      (dead.ds = drFaulting ∧ dead.drill.gap = 12 :: [] ∧ dead.railLive 12 = false) ∧
      (pg.rstate 12 = rsRising ∧ pg.ds = drRising ∧ pg.fld (SEQ_RCFG 12) SEQ_RCFG.PGSRC ≠ 3 ∧ pg.goodCond 12 = false) ∧
      ((r drRising rsRising).rstate 12 = rsRising ∧ (r drRising rsRising).fld (SEQ_RCFG 12) SEQ_RCFG.PGSRC = 3) := by decide +kernel

/-- Rail 12 is GOOD by XPG0 and loses it, with FAILACT 0 and 1, or rises and meets it. -/
theorem witness_DrillSlots_xpg :
    let d (fa src rs : Nat) : Dev := (((railed drUp).setFld (SEQ_RCFG 12) SEQ_RCFG.PGSRC src).setFld (SEQ_RCFG 12) SEQ_RCFG.FAILACT fa).setFld
      (SEQ_RSTATE 12) SEQ_RSTATE.STATE rs
    (12 : Rail).val = 12 + (0 : Fin 16).val ∧
      [0, 2].all (fun src => decide ((d 1 src rsGood).fld (SEQ_RCFG 12) SEQ_RCFG.PGSRC = src ∧ (d 1 src rsGood).rstate 12 = rsGood ∧
        (d 1 src rsGood).flag (SEQ_RCFG 12) SEQ_RCFG.FAILACT = true ∧ (d 1 src rsGood).blocksRun = true ∧
        (d 0 src rsGood).fld (SEQ_RCFG 12) SEQ_RCFG.PGSRC = src ∧ (d 0 src rsGood).rstate 12 = rsGood ∧
        (d 0 src rsGood).flag (SEQ_RCFG 12) SEQ_RCFG.FAILACT = false ∧ (d 0 src rsGood).ds = drUp)) = true ∧
      (d 0 0 rsRising).fld (SEQ_RCFG 12) SEQ_RCFG.PGSRC = 0 ∧ (d 0 0 rsRising).rstate 12 = rsRising := by decide +kernel

theorem witness_DrillSlots_ends :
    let r (st rs : Nat) : Dev := (railed st).setFld (SEQ_RSTATE 12) SEQ_RSTATE.STATE rs
    let falling : Dev := (r drFalling rsFalling).wn (SEQ_FTO 12) 1
    let driven : Dev := { falling with pins := { up.pins with xen := up.pins.xen.set 0 true } }
    let cyc : Dev := { drill drDwell with drill := { up.drill with cycle := some 3 } }
    let defer : Dev := ((drill drDwell).setFlag SEQ_STATUS SEQ_STATUS.DEFER true).setFld SEQ_STATUS SEQ_STATUS.TARGET 3
    let rst : Dev := ((drill drOff).setMbit SEQ_RSTSTAT 11 true).setMbit SEQ_RSTSTAT 3 true
    (driven.rstate 12 = rsFalling ∧ driven.rn (SEQ_FTO 12) ≠ 0 ∧ driven.fallenCond 12 = false) ∧
      (falling.rstate 12 = rsFalling ∧ falling.fallenCond 12 = true ∧ falling.railOn 12 = true ∧ falling.ds = drFalling) ∧
      ((drill drDwell).ds = drDwell ∧ (drill drDwell).loadWaits = false ∧ (drill drDwell).flag SEQ_STATUS SEQ_STATUS.DEFER = false ∧
        (drill drDwell).drill.cycle = none) ∧
      (cyc.ds = drDwell ∧ cyc.loadWaits = false ∧ cyc.flag SEQ_STATUS SEQ_STATUS.DEFER = false ∧ cyc.drill.cycle = some 3 ∧
        cyc.inMask 3 12 = true) ∧
      (defer.ds = drDwell ∧ defer.loadWaits = false ∧ defer.flag SEQ_STATUS SEQ_STATUS.DEFER = true ∧
        defer.inMask defer.targetNow 12 = true) ∧
      (rst.blocksRun = true ∧ rst.mbit SEQ_RSTSTAT (8 + 3) = true ∧ rst.drill.owed.getLsbD 3 = false ∧
        rst.flag (SEQ_RSTCFG 3) SEQ_RSTCFG.FORCE = false ∧ rst.rstHeld 3 = false ∧ rst.mbit SEQ_RSTSTAT 3 = true) := by
  decide +kernel

/-! ## Witnesses: configuration, recorder, events and watchdog -/

theorem witness_ConfigItems :
    let withRole (r : RoleRec) (code : Byte) (args : Vector Word 6) : Dev :=
      { up.hold [item code args] with cfg := { up.cfg with role := r, opener := some 0 } }
    let open_ := #v[24, 0, 0, 0, 0, 0]
    let goes (r : RoleRec) (code : Byte) (args : Vector Word 6) : Bool :=
      let d := withRole r code args
      carried d code.toNat (item code args) && !d.cfg.pendLoad && !d.nvHeld && d.cfg.writes.isEmpty &&
        d.cfg.checks.isEmpty && d.cfg.roleItems.isEmpty && !d.recorder.flushing && !d.flag CFG_DSTATE CFG_DSTATE.FLUSHING &&
        !d.stagingBusy
    let closed := { RoleRec.blank with stage := 2 }
    let prob := { RoleRec.blank with probation := true, prevValid := true }
    goes RoleRec.blank 0x20 open_ = true ∧ goes { RoleRec.blank with stage := 1 } 0x21 noArgs = true ∧ goes closed 0x22 noArgs = true ∧
      goes prob 0x23 noArgs = true ∧ goes prob 0x24 noArgs = true ∧
      RoleRec.blank.stage ≠ 1 ∧ (withRole RoleRec.blank 0x21 noArgs).cfg.opener = some (item 0x21 noArgs).source ∧
      closed.stage = 2 ∧ closed.verStaged.toNat = 0 ∧ closed.probation = false ∧ prob.verActive.toNat = 0 ∧ prob.probation = true ∧
      prob.prevValid = true ∧
      (let it := { item 0x22 noArgs with stage := .running }
       let d := { (up.hold [it]).setFlag TH_STATUS TH_STATUS.NVINH true with cfg := { up.cfg with role := closed, roleItems := [5] } }
       d.isUp = true ∧ d.cfg.roleItems.filterMap d.item = it :: [] ∧ d.nvInhibit = true) := by decide +kernel

/-- Each condition under which a configuration item ends at once: role record, whether a load is due, and the arguments. -/
theorem witness_ConfigItems_refused :
    let d (r : RoleRec) (loads : Bool) (code : Byte) (a0 : Word) : Dev :=
      { up.hold [item code #v[a0, 0, 0, 0, 0, 0]] with cfg := { up.cfg with role := r, pendLoad := loads } }
    let on (r : RoleRec) (loads : Bool) (code : Byte) (a0 : Word) : Bool :=
      carried (d r loads code a0) code.toNat (item code #v[a0, 0, 0, 0, 0, 0])
    let b := RoleRec.blank
    let open_ := { b with stage := 1 }
    let closed := { b with stage := 2 }
    let prob := { b with probation := true }
    on b false 0x20 23 = true ∧ on open_ false 0x20 24 = true ∧ (on prob true 0x20 24 = true ∧ prob.stage ≠ 1) ∧
      (on b false 0x21 0 = true ∧ b.stage ≠ 1) ∧ (on open_ false 0x21 0 = true ∧ (d open_ false 0x21 0).cfg.opener ≠ some 0) ∧
      (on b false 0x22 0 = true ∧ b.stage ≠ 2) ∧ (on closed false 0x22 1 = true ∧ closed.verStaged.toNat ≠ 1) ∧
      (on { closed with probation := true } false 0x22 0 = true ∧ closed.verStaged.toNat = 0) ∧ on closed true 0x22 0 = true ∧
      on prob true 0x23 0 = true ∧ (on prob false 0x23 1 = true ∧ prob.verActive.toNat ≠ 1) ∧
      (on b false 0x23 0 = true ∧ b.verActive.toNat = 0 ∧ b.probation = false) ∧ (on b false 0x24 0 = true ∧ b.prevValid = false) ∧
      on { prob with prevValid := true } true 0x24 0 = true := by decide +kernel

theorem witness_NvBlockWrites :
    let k := accKey 0
    let w : BlockWrite := { set := some 0, addr := 0x7A000, bytes := List.replicate 64 1 }
    let last := regs [(k CFG_WOFS, 0x5FC0)]
    let staged (src : Fin 4) : Dev :=
      { up with cfg := { up.cfg with role := { RoleRec.blank with stage := 1, stgLen := 64 }, opener := some src } }
    let inh := last.setFlag TH_STATUS TH_STATUS.NVINH true
    let brown := last.setFlag CFG_DSTATE CFG_DSTATE.BOF true
    up.mayWrite hp0 CFG_WCTL = true ∧ last.flag (k CFG_WCTL) CFG_WCTL.BUSY = false ∧ last.rn32 (k CFG_WOFS) % 64 = 0 ∧
      last.rn32 (k CFG_WOFS) + 64 ≤ 0x6000 ∧ last.nvHeld = false ∧ last.cfg.writes = [] ∧ last.cfg.waits = [] ∧
      (last.cfg.checks = [] ∧ last.cfg.roleItems = [] ∧ last.recorder.flushing = false ∧ last.recorder.markDue = false ∧
        last.cfg.roleDue = false ∧ last.gauge.recPend = false ∧ last.clock.opDue = false) ∧
      (regs [(k CFG_WOFS, 1)]).rn32 (k CFG_WOFS) % 64 ≠ 0 ∧ 0x6000 < (regs [(k CFG_WOFS, 0x6000)]).rn32 (k CFG_WOFS) + 64 ∧
      ((staged 1).rn32 (k CFG_WOFS) = 0 ∧ 64 ≤ ((staged 1).cfg.role.stgLen.toNat + 63) / 64 * 64 ∧
        (staged 1).cfg.opener ≠ some hp0.source ∧ (staged 0).cfg.opener = some hp0.source ∧ (staged 0).cfg.role.stage = 1) ∧
      (inh.nvInhibit = true ∧ brown.nvInhibit = false ∧ brown.bof = true) ∧
      (flds [(k CFG_WCTL, CFG_WCTL.BUSY, 1)]).flag (k CFG_WCTL) CFG_WCTL.BUSY = true ∧
      (({ last with cfg := { last.cfg with writes := [w] } } : Dev).cfg.writes = [w] ∧ w.set = some 0 ∧ w.addr % 64 = 0 ∧
        w.bytes.length = 64 ∧ last.bof = false) := by decide +kernel

theorem witness_RecorderFlush :
    let r : Rec := { seq := 0, sec := 0, fract := 0, pcycle := 1, clean := false, type := 1, arg := 0, data := [] }
    let d := { up with recorder := { up.recorder with flushing := true, buf := [r] } }
    up.mayWrite hp0 REC_CTL = true ∧ up.recorder.flushing = false ∧ up.blocksRun = true ∧ (regs [(REC_CFG, 1)]).rn REC_CFG ≠ 0 ∧
      d.recorder.flushing = true ∧ d.recorder.ringDone = false ∧ d.recorder.failed = false ∧ d.recorder.again = false ∧
      d.nvHeld = false ∧ d.recorder.buf = [r] ∧ d.recorder.snaps = [] ∧ d.recorder.dropped = none ∧ d.runningItems 0x39 = [] ∧
      d.recorder.buf.length < 380 ∧ d.fld CFG_DSTATE CFG_DSTATE.LCAUSE ≠ 4 ∧ up.recorder.snaps = [] := by decide +kernel

theorem witness_EventRegisters : up.mayWrite hp0 (EVT_STAT 15) = true ∧ up.mayWrite hp0 EVT_CTL = true ∧
    up.mayWrite hp0 (EVT_ROUTE 15) = true ∧ up.mayWrite hp0 EVT_SWSET = true ∧ up.mayWrite (.furrow 15) EVT_SWSET = true := by decide

/-- Slot 15 as `x`, with EN and a period of 1 ms, at 1 ms. -/
def slot15 (x : WdgSlot) : Dev := atTick 1000 { (flds [(WDG_SCFG 15, WDG_SCFG.EN, 1)]).wn (WDG_PER 15) 1 with wdg := up.wdg.set 15 x }

theorem witness_WatchdogSlots :
    let run : WdgSlot := { WdgSlot.init with running := true, chal := 5, windowOpen := true, open16 := 16 }
    let early : WdgSlot := { run with windowOpen := false, start := 1 }
    let late : WdgSlot := { run with warned := true }
    let token (d : Dev) (c : Word) : Word :=
      let b := ((c.toNat ^^^ (d.rn32 WDG_SEED % 65536)) * 0xD7 + d.rn32 WDG_SEED / 65536 + 0x101 * 15) % 65536
      BitVec.ofNat 16 (b * 2 ^ 15 + b / 2 ^ (16 - 15))
    let d := slot15 run
    let e := slot15 early
    let l := slot15 late
    d.mayWrite (.port 0) (WDG_TOKEN 15) = true ∧ (d.slot 15).running = true ∧ d.engineOn = true ∧ d.slotPaused 15 = false ∧
      (d.slot 15).windowOpen = true ∧ (d.slot 15).replaced.map (token d) ≠ some (token d 5) ∧
      (d.slot 15).chal = 5 ∧ d.flag (WDG_SCFG 15) WDG_SCFG.EN = true ∧ (e.slot 15).windowOpen = false ∧
      token d 5 + 1 ≠ token d 5 ∧ (d.slot 15).warned = false ∧ 1000 * max 1 (d.rn (WDG_PER 15)) ≤ d.now - (d.slot 15).start ∧
      e.now - (e.slot 15).start < 1000 * max 1 (e.rn (WDG_PER 15)) ∧ (l.slot 15).warned = true ∧
      (let second : Dev := { l with hopper := { l.hopper with wdgReset := true, pendingReset := .engine 1 } }
       second.hopper.wdgReset = true ∧ (second.slot 15).warned = true ∧ (second.slot 15).running = true) ∧
      l.hopper.wdgReset = false ∧ l.hopper.pendingReset = .none ∧ l.fld WDG_CTL WDG_CTL.ESCN = 0 ∧
      (d.slot 15).open16 * (1000 * max 1 (d.rn (WDG_PER 15))) ≤ 16 * (d.now - (d.slot 15).start) ∧
      16 * (e.now - (e.slot 15).start) < (e.slot 15).open16 * (1000 * max 1 (e.rn (WDG_PER 15))) := by decide +kernel

theorem witness_WatchdogSlots_foreign :
    let d := { up with wdg := up.wdg.set 3 { WdgSlot.init with running := true, furrow := 1 } }
    d.mayWrite (.furrow 2) (WDG_TOKEN 3) = true ∧ (d.slot 3).running = true ∧ d.engineOn = true ∧ (3 : WSlot) ≠ 15 ∧
      Acc.furrow 2 ≠ .furrow (d.slot 3).furrow ∧ (up.slot 15).running = false ∧
      ((slot15 { WdgSlot.init with running := true }).slot 15).running = true ∧ up.mayWrite (.port 0) (WDG_PER 15) = true ∧
      (flds [(WDG_CTL, WDG_CTL.LOCK, 1)]).flag WDG_CTL WDG_CTL.LOCK = true ∧ up.flag WDG_CTL WDG_CTL.LOCK = false := by decide +kernel

/-! ## Witnesses: clocks, start-up and device states -/

theorem witness_EmptyQueuePassesTime : (⟨up, []⟩ : State).pending = [] ∧ up.tbRuns = true ∧ up.clock.switching ≠ some .tb ∧
    Dev.reset.tbRuns = false ∧ (∀ k : Link, up.flag (VL_STATUS k) VL_STATUS.FRAME = false) ∧
    (∀ k : Fin 24, (up.seat k).due = []) ∧ up.clock.rtcSet = [] ∧ up.chg.expiry = false := by decide +kernel

theorem witness_ClockSources :
    let sw (x : Domain) : Dev := { up with clock := { up.clock with switching := some x } }
    let running := flds [(LP_STATUS 0, LP_STATUS.STATE, lsRegulating)]
    up.mayWrite hp0 CLK_DSEL = true ∧ up.mayWrite hp0 CLK_OUTDIV = true ∧ up.mayWrite hp0 CLK_OUT = true ∧
      up.flag CLK_STATUS CLK_STATUS.SWBUSY = false ∧ up.flag CLK_DSEL CLK_DSEL.TBSRC ≠ !up.flag CLK_DSEL CLK_DSEL.TBSRC ∧
      up.flag CLK_DSEL CLK_DSEL.RTCSRC ≠ !up.flag CLK_DSEL CLK_DSEL.RTCSRC ∧ up.pwmFree = true ∧
      up.flag CLK_DSEL CLK_DSEL.PWMSRC ≠ !up.flag CLK_DSEL CLK_DSEL.PWMSRC ∧
      (flds [(CLK_STATUS, CLK_STATUS.SWBUSY, 1)]).flag CLK_STATUS CLK_STATUS.SWBUSY = true ∧ running.pwmFree = false ∧
      running.flag CLK_STATUS CLK_STATUS.SWBUSY = false ∧
      [Domain.pwm, .tb, .rtc].all (fun x => decide ((sw x).clock.switching = some x ∧ (sw x).boot.phase ≠ .newt ∧
        (sw x).clock.rtcSet.isEmpty ∧ (sw x).tbRuns = true)) = true ∧
      up.rd CLK_OUTDIV + 1 ≠ up.rd CLK_OUTDIV ∧ (up.rd CLK_OUT ^^^ 1) &&& 7#16 ≠ up.rd CLK_OUT ∧
      ({ up with clock := { up.clock with outHold := true } } : Dev).clock.outHold = true ∧
      up.boot.phase = .up ∧ up.latched = false ∧ ({ up with boot := { up.boot with phase := .newt } } : Dev).boot.phase = .newt := by
  decide +kernel

theorem witness_TimeKeeping :
    let it := item 0x33 #v[1, 2, 3, 4, 0, 0]
    let d := up.hold [it]
    let busy := { d with clock := { d.clock with switching := some .rtc } }
    let cd (n : Nat) : Dev := { (flds [(RTC_STATUS, RTC_STATUS.CDRUN, 1)]) with clock := { up.clock with cdnSub := n } }
    up.boot.phase = .up ∧ up.nvInhibit = false ∧ up.bof = false ∧
      (up.recorder.flushing = false ∧ up.hopper.closes = [] ∧ up.cfg.roleItems = [] ∧ up.cfg.checks = []) ∧
      (let d := { up with clock := { up.clock with op := 64 * 65536 } }
       d.clock.saved[0] = d.clock.saved[1] ∧ d.clock.saved[1].good = true ∧ d.clock.saved[1].val.op = 0 ∧ 64 * 65536 ≤ d.clock.op ∧
         (d.setFlag TH_STATUS TH_STATUS.NVINH true).nvInhibit = true ∧ up.clock.op < 64 * 65536) ∧ up.rtcRuns = true ∧
      ({ d with clock := { d.clock with rtcRem := 999999 } } : Dev).clock.rtcRem + 65536 ≥ 1000000 ∧ d.clock.rtcSet = [] ∧
      d.chg.expiry = false ∧ (∀ q : Link, d.flag (VL_STATUS q) VL_STATUS.FRAME = false) ∧ (∀ q : Fin 24, (d.seat q).due = []) ∧
      up.mayWrite hp0 RTC_CDN = true ∧ (cd 64).flag RTC_STATUS RTC_STATUS.CDRUN = true ∧ 64 ≤ (cd 64).clock.cdnSub ∧
      (cd 64).rtcRuns = true ∧ (cd 64).boot.phase ≠ .newt ∧ (cd 63).clock.cdnSub < 64 ∧ carried d 0x33 it = true ∧
      d.clock.switching ≠ some .rtc ∧ carried busy 0x33 it = true ∧ busy.clock.switching = some .rtc := by decide +kernel

theorem witness_BootPath :
    let b (ph : BootPhase) (n : Nat) : Dev := { Dev.reset with boot := { Dev.reset.boot with phase := ph, attempts := n } }
    let load := { b .loading 0 with cfg := { Dev.reset.cfg with safe := true }, meas := { Dev.reset.meas with running := true } }
    (b .dark 0).boot.phase = .dark ∧ (b .hb1 0).bof = false ∧
      ((b .hb1 0).setFlag CFG_DSTATE CFG_DSTATE.KILL true).flag CFG_DSTATE CFG_DSTATE.KILL = true ∧
      [BootPhase.hb0, .hb1, .startDelay, .locking, .oscOff, .nvCheck, .loaded].all (fun ph => decide ((b ph 1).boot.phase = ph ∧
        (b ph 1).latched = false ∧ (b ph 1).boot.attempts < 2 ∧ 2 ≤ (b ph 2).boot.attempts ∧ (b ph 2).latched = false)) = true ∧
      (b .hb1 0).flag CFG_DSTATE CFG_DSTATE.KILL = false ∧ (b .hb1 0).boot.vinLow = false ∧ (b .hb1 0).pfiActs = false ∧
      384 ≤ 384 ∧ 5325 ≤ 5325 ∧ 383 < 384 ∧ 5325 < 5326 ∧ (b .nvCheck 0).nvHeld = false ∧
      ((b .nvCheck 0).setFlag TH_STATUS TH_STATUS.NVINH true).nvHeld = true ∧ load.boot.phase = .loading ∧ load.latched = false ∧
      load.meas.running = true ∧ load.cfg.safe = true ∧
      (((b .loaded 0).setFur 3 rdy).fur 3).st ≠ .disabled := by decide +kernel

/-- The device at t10, its ACTIVE image in slot 0 as these 16-bit words at rising offsets. -/
def atLoad (l : List (Nat × Nat)) : Dev :=
  let cell (a v : Nat) : List Host.Cell := if v = 0 then [] else [⟨a, BitVec.ofNat 8 v⟩]
  { Dev.reset with boot := { Dev.reset.boot with phase := .loading }, meas := { Dev.reset.meas with running := true },
                   cfg := { Dev.reset.cfg with nv := l.flatMap fun x => cell x.1 (x.2 % 256) ++ cell (x.1 + 1) (x.2 / 256) } }
def loadImg (d : Dev) : Img := d.img d.cfg.role.active.val

/-- Sections FURROWS, CODE, DISPATCH and DATA. -/
def image4 : Dev := atLoad [(16, 4), (24, 5), (28, 72), (32, 129), (36, 1), (40, 204), (44, 8), (48, 6), (52, 212), (56, 128),
  (60, 2), (64, 340), (68, 4), (72, 0x0101), (204, 7), (212, 0x0303), (340, 0x0605)]
/-- FURROWS and one REGS pair. -/
def imagePair (a : Nat) : Dev := atLoad [(16, 2), (24, 5), (28, 48), (32, 129), (36, 4), (40, 180), (44, 4), (48, 1), (180, a), (182, 99)]
/-- FURROWS and one plan entry. -/
def imagePlan : Dev := atLoad [(16, 2), (24, 5), (28, 48), (32, 129), (36, 3), (40, 180), (44, 14), (48, 1), (180, 2047), (182, 0x8000),
  (184, 3), (186, 77)]

theorem witness_BootPath_image :
    image4.boot.phase = .loading ∧ image4.latched = false ∧ image4.meas.running = true ∧ image4.cfg.safe = false ∧
      (loadImg image4).sects = [⟨5, 72, 129⟩, ⟨1, 204, 8⟩, ⟨6, 212, 128⟩, ⟨2, 340, 4⟩] ∧ (loadImg image4).pairs = [] ∧
      (loadImg (atLoad [(16, 1), (24, 5), (28, 36), (32, 129)])).sects = [⟨5, 36, 129⟩] ∧
      (loadImg (atLoad [(16, 1), (24, 5), (28, 36), (32, 129)])).pairs = [] := by decide +kernel

theorem witness_BootPath_pairs :
    (loadImg (imagePair (WDG_PER 15))).sects = [⟨5, 48, 129⟩, ⟨4, 180, 4⟩] ∧
      (loadImg (imagePair (WDG_PER 15))).pairs = [(WDG_PER (15 : WSlot), 99)] ∧
      (loadImg (imagePair (LP_SLEW 11))).pairs = [(LP_SLEW (11 : Loop), 99)] := by decide +kernel

theorem witness_BootPath_plan :
    let m := loadImg imagePlan
    m.sects = [⟨5, 48, 129⟩, ⟨3, 180, 14⟩] ∧ m.pairs = [] ∧ m.val 180 2 = 2047 ∧
      imagePlan.flag (MS_PECTL 2047) MS_PECTL.VALID = false ∧ imagePlan.seqEnabled (imagePlan.entrySeq 2047) = false ∧
      imagePlan.seqEnabled (MS_PESEQ.SEQ.of (m.val 184 2)) = false := by decide +kernel

theorem witness_Resets :
    let l (c : Nat) : Dev := flds [(CFG_DSTATE, CFG_DSTATE.STATE, dsLatched), (CFG_DSTATE, CFG_DSTATE.LCAUSE, c), (CFG_DSTATE, CFG_DSTATE.KILL, 1)]
    let p (x : PendingReset) : Dev := { up with hopper := { up.hopper with pendingReset := x } }
    (l 3).flag CFG_DSTATE CFG_DSTATE.KILL = true ∧ (l 3).latched = true ∧ (l 3).therm.hot = false ∧ (l 3).boot.phase ≠ .dark ∧
      (let h : Dev := { l 3 with therm := { (l 3).therm with hot := true } }
       h.flag CFG_DSTATE CFG_DSTATE.KILL = true ∧ h.latched = true ∧ h.therm.hot = true) ∧
      ((flds [(CFG_DSTATE, CFG_DSTATE.KILL, 1)]).flag CFG_DSTATE CFG_DSTATE.KILL = true ∧
        (flds [(CFG_DSTATE, CFG_DSTATE.KILL, 1)]).latched = false) ∧
      ({ l 3 with boot := { up.boot with killDue := true } } : Dev).boot.killDue = true ∧
      (l 1).latched = true ∧ (l 1).fld CFG_DSTATE CFG_DSTATE.LCAUSE = 1 ∧ (l 1).therm.hot = false ∧
      (l 1).flag CFG_DSTATE CFG_DSTATE.FLUSHING = false ∧ (l 1).recorder.flushing = false ∧
      ({ up with boot := { up.boot with phase := .newt } } : Dev).boot.phase = .newt ∧
      [PendingReset.engine 3, .railCycle 3].all (fun x => decide ((p x).isUp = true ∧ (p x).hopper.resetTags = [] ∧
        (p x).cfg.pendLoad = false ∧ (p x).cfg.role.probation = false ∧ (p x).cfg.roleItems = [] ∧
        (p x).hopper.pendingReset = x)) = true ∧
      (let d : Dev := { p (.engine 3) with cfg := { up.cfg with safe := true, running := 3 } }
       d.cfg.safe = true) := by decide +kernel

/-- A rail-cycle reset is due in UP with a live rail. -/
theorem witness_Resets_cycle :
    let d : Dev := { railed drUp with hopper := { up.hopper with pendingReset := .railCycle 3 } }
    d.isUp = true ∧ d.hopper.pendingReset = .railCycle 3 ∧ d.grantedAccess = none ∧ d.ds = drUp ∧ d.railLive 12 = true := by
  decide +kernel

theorem witness_DeviceStates :
    let it := item 0x32 noArgs
    let d := up.hold [it]
    let run := (flds [(CFG_DSTATE, CFG_DSTATE.STATE, dsRun)]).hold [it]
    up.boot.phase = .up ∧ up.latched = false ∧ up.flag CFG_DSTATE CFG_DSTATE.KILL = false ∧
      (flds [(CFG_DSTATE, CFG_DSTATE.STATE, dsLatched)]).latched = true ∧ up.boot.killDue = false ∧ carried d 0x32 it = true ∧
      d.rn32 SEQ_RAILON = 0 ∧ d.dstate = dsIdle ∧ d.inFlight = [it] ∧ carried run 0x32 it = true ∧ run.dstate = dsRun ∧ (flds [(CFG_DSTATE, CFG_DSTATE.NEWTPEND, 1)]).dstate = dsIdle ∧ run.dstate ≠ dsIdle ∧
      (flds [(CFG_DSTATE, CFG_DSTATE.NEWTPEND, 1)]).flag CFG_DSTATE CFG_DSTATE.NEWTPEND = true ∧
      (flds [(CFG_DSTATE, CFG_DSTATE.NEWTPEND, 1)]).latched = false ∧ up.bof = false ∧
      (flds [(CFG_DSCFG, CFG_DSCFG.PFIEN, 1)]).flag CFG_DSCFG CFG_DSCFG.PFIEN = true ∧
      (flds [(CFG_DSTATE, CFG_DSTATE.BOF, 1)]).bof = true ∧ (flds [(CFG_DSTATE, CFG_DSTATE.BOF, 1)]).flag CFG_DSTATE CFG_DSTATE.PFI = false ∧
      (flds [(CFG_DSTATE, CFG_DSTATE.FLUSHING, 1)]).flag CFG_DSTATE CFG_DSTATE.FLUSHING = true ∧ up.nvInhibit = false := by decide +kernel

theorem witness_PinsAndTestAccess :
    let d := flds [(VL_STATUS 3, VL_STATUS.STATE, vlUp), (VL_STATUS 3, VL_STATUS.FRAME, 1), (VL_CTL 3, VL_CTL.ATTNEN, 1)]
    let k := d.modLink 3 fun x => { x with disPend := true, bits := 1 }
    let a := k.setFlag (VL_STATUS 3) VL_STATUS.FRAME false
    (up.boot.phase ≠ .newt ∧ up.coreOn = true ∧ up.pins.vio = true ∧ up.jtagFree = true ∧
      (flds [(CHG_STATUS, CHG_STATUS.MODE, cmReady)]).jtagFree = false) ∧
      (k.flag (VL_STATUS 3) VL_STATUS.FRAME = true ∧ (k.link 3).disPend = true) ∧
      (a.blocksRun = true ∧ a.flag (VL_CTL 3) VL_CTL.ATTNEN = true ∧ (a.link 3).bits ≠ 0 ∧ a.vlState 3 ≠ vlDisabled ∧
        a.flag (VL_STATUS 3) VL_STATUS.FRAME = false) := by decide +kernel

/-! ## Witnesses: loops -/

/-- Loop 2 has phases 4 and 5, of ORDER 0 and 1; its state is `st`. -/
def loop (st : Nat) : Dev :=
  flds [(PH_CFG 4, PH_CFG.LOOP, 2), (PH_CFG 5, PH_CFG.LOOP, 2), (PH_CFG 5, PH_CFG.ORDER, 1), (LP_STATUS 2, LP_STATUS.STATE, st)]

/-- The same with phases 4 and 5 in the states given. -/
def phased (st p q : Nat) : Dev :=
  ((loop st).setFld (PH_STATE 4) PH_STATE.STATE p).setFld (PH_STATE 5) PH_STATE.STATE q

theorem witness_LoopRegisterWrites :
    let full := flds ((List.range 8).map fun m => (PH_CFG m, PH_CFG.LOOP, 2))
    up.mayWrite hp0 (PH_CFG 4) = true ∧
      ((∀ k : Loop, (up.phaseLoop 4 = some k ∨ loopOf ((2#16).toNat % 16) = some k) → up.lstate k = lsOff) ∧
        (∀ k : Loop, loopOf ((2#16).toNat % 16) = some k → (up.phasesOf k).length < 8)) ∧
      (loopOf ((2#16).toNat % 16) = some 2 ∧ (loop lsRegulating).lstate 2 ≠ lsOff ∧ full.phaseLoop 9 ≠ some 2 ∧ 8 ≤ (full.phasesOf 2).length) ∧
      [LP_B0 2, LP_SLEW 2, LP_OV 2, LP_PERIOD 2, LP_CTL 2].all (fun a => up.mayWrite hp0 a) = true ∧
      (up.railOn (loopRail 2) = false ∧ up.rstate (loopRail 2) = rsOff ∧ up.lstate 2 = lsOff ∧ up.mayWrite hp0 (LP_CFG 2) = true) ∧
      ((3#16) &&& 0x001F ≠ (loop lsRegulating).rd (LP_CFG 2) &&& 0x001F ∧
        ((loop lsRegulating).rd (LP_CFG 2) ^^^ 0x20) &&& 0x001F = (loop lsRegulating).rd (LP_CFG 2) &&& 0x001F) ∧
      (loop lsRegulating).limitsBad 2 = true ∧
      (loop lsRegulating).fld (LP_PERIOD 2) LP_PERIOD.PERIOD ≠ (0xFFF#32).toNat % 4096 ∧
      (((loop lsRegulating).wn (LP_A1 2) 0).rn (LP_A1 2) = 0 ∨ 0x8000 < ((loop lsRegulating).wn (LP_A1 2) 0).rn (LP_A1 2)) ∧
      (let d := ((loop lsRegulating).wn (LP_A1 2) 0x8000).wn (LP_A2 2) 1
       ¬((d.rn (LP_A1 2) = 0 ∨ 0x8000 < d.rn (LP_A1 2)) ∨ (d.rn (LP_A2 2) = 0 ∨ 0x8000 < d.rn (LP_A2 2)))) ∧
      ((loop lsOvLatched).lstate 2 = lsOvLatched ∧ ((loop lsOvLatched).wn (LP_UV 2) 1).rn (LP_VOUT 2) < ((loop lsOvLatched).wn (LP_UV 2) 1).rn (LP_UV 2)) ∧
      (loop lsOff).lstate 2 ≠ lsOvLatched := by decide +kernel

theorem witness_LoopSetpoints :
    let it := item 0x18 #v[2, 900, 100, 0, 0, 0]
    let d (st own : Nat) : Dev := (((loop st).setFld (LP_CFG 2) LP_CFG.SPSRC own).wn (LP_VMAX 2) 1000).hold [it]
    let settled := ((d lsRegulating 0).setFlag (LP_STATUS 2) LP_STATUS.SETTLED true).modLoop 2 fun x => { x with target := 900 }
    up.mayWrite hp0 (LP_VSET 2) = true ∧ (d lsOff 0).fld (LP_CFG 2) LP_CFG.SPSRC = spsrcOf hp0 ∧
      (d lsOff 1).fld (LP_CFG 2) LP_CFG.SPSRC ≠ spsrcOf hp0 ∧ carried (d lsOff 0) 0x18 it = true ∧ it.arg 0 = (2 : Loop).val ∧
      carried (d lsOff 1) 0x18 it = true ∧ carried (d lsOvLatched 0) 0x18 it = true ∧ (d lsOvLatched 0).lstate 2 = lsOvLatched ∧
      (d lsOff 0).lstate 2 = lsOff ∧ carried settled 0x18 it = true ∧ settled.inFlight = [it] ∧ settled.hopper.drains = [] ∧ settled.lstate 2 ≠ lsOff ∧ settled.lstate 2 ≠ lsOvLatched ∧
      (settled.loop 2).target = it.arg 1 ∧ it.arg 1 ≤ settled.rn (LP_VMAX 2) ∧ settled.rn (LP_VMIN 2) ≤ it.arg 1 ∧
      settled.flag (LP_STATUS 2) LP_STATUS.SETTLED = true ∧ carried (d lsRegulating 0) 0x18 it = true ∧
      ((d lsRegulating 0).loop 2).target ≠ it.arg 1 ∧
      (up.hold [{ it with stage := .running }]).isUp = true ∧ (up.hold [{ it with stage := .running }]).item 5 = some { it with stage := .running } := by decide +kernel

theorem witness_LoopOperation :
    let busy := (loop lsRegulating).modLoop 2 fun x => { x with busy := some (3, x.bank) }
    let offPend (d : Dev) : Dev := d.modLoop 2 fun x => { x with offPend := true }
    let diode := (phased lsRegulating psActive psActive).modLoop 2 fun x => { x with diode := true }
    let shed := ((phased lsRegulating psActive psActive).setFlag (LP_CTL 2) LP_CTL.SHEDEN true).wn (LP_IPHDN 2) 100
    let restore := (((phased lsRegulating psActive psFallow).setFlag (LP_CTL 2) LP_CTL.SHEDEN true).wn (LP_IPHUP 2) 10).wn (LP_IOUT 2) 50
    let share := ((phased lsRegulating psActive psActive).setFlag (PH_CFG 4) PH_CFG.SHAREN true).setFlag (PH_IMONENT 4) PH_IMONENT.VALID true
    let trim := ((loop lsRegulating).setFlag (LP_CTL 2) LP_CTL.TRIMEN true).modLoop 2 fun x => { x with errCnt := 1, senseCnt := 1 }
    (up.blocksRun = true ∧ (loop lsRegulating).lstate 2 ≠ lsOff ∧ (loop lsRegulating).lstate 2 ≠ lsOvLatched) ∧
      ((busy.loop 2).busy = some (3, (busy.loop 2).bank) ∧ ((loop lsOff).loop 2).busy = none) ∧
      (let d := phased lsRegulating psJoining psActive
       d.phaseLoop 4 = some 2 ∧ d.pstate 4 = psJoining ∧ (d.loop 2).offPend = false) ∧
      (let d := phased lsRegulating psActive psLeaving
       d.phaseLoop 5 = some 2 ∧ d.pstate 5 = psLeaving ∧ d.leadPhase 2 ≠ some 5) ∧
      (let d := offPend (phased lsRegulating psActive psActive)
       d.pstate 4 = psActive ∧ d.leadPhase 2 = some 4 ∧ (d.loop 2).offPend = true) ∧
      ((phased lsRegulating psActive psActive).pstate 4 = psActive ∧ ((phased lsRegulating psActive psActive).loop 2).offPend = false) ∧
      (let d := (phased lsRegulating psActive psActive).modLoop 2 fun x => { x with ramped := true }
       d.pstate 4 = psActive ∧ d.leadPhase 2 = some 4 ∧ (d.loop 2).ramped = true ∧ (d.loop 2).offPend = false ∧ d.blocksRun = true) ∧
      (diode.phaseLoop 4 = some 2 ∧ diode.pstate 4 = psActive ∧ diode.diodeNow 2 = true ∧ (loop lsRegulating).diodeNow 2 = false) ∧
      ((loop lsSoftStart).rstate (loopRail 2) ≠ rsGood ∧ (loop lsSoftStart).lstate 2 = lsSoftStart ∧ ((loop lsSoftStart).loop 2).offPend = false ∧
        (loop lsRegulating).lstate 2 = lsRegulating ∧ (loop lsRegulating).rstate (loopRail 2) ≠ rsGood) ∧
      (shed.flag (LP_CTL 2) LP_CTL.SHEDEN = true ∧ shed.lstate 2 = lsRegulating ∧ (shed.loop 2).shedSusp = false ∧
        shed.flag (LP_STATUS 2) LP_STATUS.STEPHOLD = false ∧
        min 8 (max 1 ((shed.setFld (LP_SHED_CFG 2) LP_SHED_CFG.MINPH 0).fld (LP_SHED_CFG 2) LP_SHED_CFG.MINPH)) < (shed.activePhases 2).length ∧
        shed.rs (LP_IOUT 2) < (((shed.activePhases 2).length : Int) - 1) * shed.rs (LP_IPHDN 2) ∧
        shed.highestOrder (shed.activePhases 2) = some 5) ∧
      (restore.flag (LP_CTL 2) LP_CTL.SHEDEN = true ∧ ((restore.activePhases 2).length : Int) * restore.rs (LP_IPHUP 2) < restore.rs (LP_IOUT 2) ∧
        restore.lowestOrder ((restore.phasesOf 2).filter fun j => restore.pstate j = psFallow) = some 5) ∧
      (let d := shed.setFld (LP_SHED_CFG 2) LP_SHED_CFG.MINPH 2
       (d.activePhases 2).length ≤ min 8 (max 1 (d.fld (LP_SHED_CFG 2) LP_SHED_CFG.MINPH))) ∧
      (share.phaseLoop 4 = some 2 ∧ share.pstate 4 = psActive ∧ (share.flag (PH_CFG 4) PH_CFG.SHAREN && share.flag (PH_IMONENT 4) PH_IMONENT.VALID) = true) ∧
      (trim.flag (LP_CTL 2) LP_CTL.TRIMEN = true ∧ trim.lstate 2 = lsRegulating ∧ (trim.loop 2).spoiled = false ∧ 0 < (trim.loop 2).errCnt ∧
        0 < (trim.loop 2).senseCnt ∧ (trim.rs (LP_ECTRIM 2)).natAbs ≤ 512) ∧
      ((trim.modLoop 2 fun x => { x with spoiled := true }).loop 2).spoiled = true := by decide +kernel

theorem witness_LoopProtection :
    let on := (phased lsRegulating psActive psActive).modPhase 4 fun x => { x with drive := .pulse }
    let excess := (loop lsRegulating).wi (LP_OCTHR 2) (-1)
    (up.blocksRun = true ∧ (loop lsRegulating).phasesOf 2 ≠ [] ∧ (loop lsRegulating).flag (LP_STATUS 2) LP_STATUS.CFGERR = false ∧
        (loop lsRegulating).lstate 2 ≠ lsOvLatched) ∧
      (¬(loop lsOvLatched).lstate 2 ≠ lsOvLatched ∧ (loop lsOvLatched).railOn (loopRail 2) = false ∧ (loop lsOvLatched).rstate (loopRail 2) = rsOff) ∧
      (((loop lsRegulating).modLoop 2 fun x => { x with uvArmed := true }).loop 2).uvArmed = true ∧ ((loop lsOff).loop 2).uvArmed = false ∧
      (on.phaseLoop 4 = some 2 ∧ (on.phase 4).drive = .pulse ∧ (on.phase 4).cut = false ∧ (up.phase 4).drive ≠ .pulse) ∧
      (excess.phasesOf 2 ≠ [] ∧ excess.flag (LP_STATUS 2) LP_STATUS.CFGERR = false ∧ excess.rs (LP_OCTHR 2) < excess.rs (LP_IOUT 2)) ∧
      ¬((loop lsOff).rs (LP_OCTHR 2) < (loop lsOff).rs (LP_IOUT 2)) ∧ ((loop lsOff).setFld (LP_OCCFG 2) LP_OCCFG.PERSIST 0).fld (LP_OCCFG 2) LP_OCCFG.PERSIST = 0 := by decide +kernel

/-- A loop device with limits that start loop 2: a maximum of 1 V. -/
def limited (d : Dev) : Dev :=
  [(LP_VMAX 2, 8000), (LP_VMIN 2, 4000), (LP_OV 2, 9000), (LP_UV 2, 3000), (LP_SSSLEW 2, 1)].foldl (fun d x => d.wn x.1 x.2) d

/-- The on-slot and the off-slot of a loop's rail. -/
theorem witness_DrillSlots_loop :
    let on := ((limited (loop lsOff)).setFld SEQ_STATUS SEQ_STATUS.STATE drRising).setFld (SEQ_RSTATE 2) SEQ_RSTATE.STATE rsWaiting
    let off := (((loop lsRegulating).setFld SEQ_STATUS SEQ_STATUS.STATE drFalling).setFld (SEQ_RSTATE 2) SEQ_RSTATE.STATE rsGood).setMbit SEQ_RAILON 2 true
    let d : Dev := { off with drill := { up.drill with offDue := 4 } }
    on.blocksRun = true ∧ on.rstate 2 = rsWaiting ∧ on.ds = drRising ∧ on.bgShedding = false ∧ on.lstate 2 = lsOff ∧ on.phasesOf 2 ≠ [] ∧
      (on.evalCfgErr 2).flag (LP_STATUS 2) LP_STATUS.CFGERR = false ∧
      d.ds = drFalling ∧ d.drill.offDue.getLsbD 2 = true ∧ d.railLive 2 = true ∧ d.lstate 2 ≠ lsOff ∧ d.lstate 2 ≠ lsOvLatched := by
  decide +kernel

/-! ## Witnesses: Velong links -/

/-- Link 1 stands in `st`; loop 2 is its rail 3. -/
def linked (st : Nat) : Dev :=
  (((((loop lsRegulating).setFld (LP_CFG 2) LP_CFG.LINK 1).setFld (LP_CFG 2) LP_CFG.LINKRAIL 3).setFld (LP_CFG 2) LP_CFG.SPSRC 2).setFld
    (VL_STATUS 1) VL_STATUS.STATE st).setFld (VL_CFG 1) VL_CFG.ERRLIM 3

theorem witness_VelongCommands :
    let x : VlFrame := { rail := 3, data := 3, seq := 15, lat := 1, freq := 50, still := false }
    let y : VlFrame := { x with rail := 0, data := 4 }
    let host := (linked vlUp).setFld (LP_CFG 2) LP_CFG.SPSRC 0
    let latch := (linked vlUp).setFld (LP_STATUS 2) LP_STATUS.STATE lsOvLatched
    let stored := (linked vlUp).modLink 1 fun q => { q with stored := some (15, 7) }
    (linked vlUp).listens 1 = true ∧ (linked vlUp).flag (VL_STATUS 1) VL_STATUS.FRAME = false ∧ ((linked vlUp).link 1).stored = none ∧
      x.data.toNat ≤ 3 ∧ 3 < y.data.toNat ∧ (linked vlUp).railLoop 1 y.rail = none ∧ (linked vlUp).railLoop 1 x.rail = some 2 ∧
      (linked vlUp).fld (LP_CFG 2) LP_CFG.SPSRC = 2 ∧ (linked vlUp).lstate 2 ≠ lsOvLatched ∧ host.fld (LP_CFG 2) LP_CFG.SPSRC ≠ 2 ∧
      host.listens 1 = true ∧ host.railLoop 1 x.rail = some 2 ∧ latch.lstate 2 = lsOvLatched ∧ latch.railLoop 1 x.rail = some 2 ∧
      (linked vlUp).flag (VL_CFG 1) VL_CFG.SLEWEN = false ∧
      ((linked vlUp).setFlag (VL_CFG 1) VL_CFG.SLEWEN true).flag (VL_CFG 1) VL_CFG.SLEWEN = true ∧ stored.listens 1 = true ∧
      (stored.link 1).stored = some (x.seq, 7) := by decide +kernel

theorem witness_VelongLinks :
    let near := (linked vlUp).modLink 1 fun q => { q with errs := 2, protoArmed := true }
    let frame := (linked vlUp).setFlag (VL_STATUS 1) VL_STATUS.FRAME true
    let thr := ((linked vlUp).setFld (VL_THRSTAT 1) VL_THRSTAT.REQ 2).wn (VL_THRTO 1) 1
    (linked vlUp).listens 1 = true ∧ (linked vlUp).flag (VL_STATUS 1) VL_STATUS.FRAME = false ∧ frameStart 0x40000000 = true ∧
      frameGood 0x40000002 = false ∧ frameStart 0x40000002 = true ∧ ((linked vlUp).link 1).errs + 1 < (linked vlUp).fld (VL_CFG 1) VL_CFG.ERRLIM ∧
      near.listens 1 = true ∧ (near.link 1).protoArmed = true ∧ near.fld (VL_CFG 1) VL_CFG.ERRLIM ≠ 0 ∧
      near.fld (VL_CFG 1) VL_CFG.ERRLIM ≤ (near.link 1).errs + 1 ∧ near.vlState 1 = vlUp ∧ near.railLoop 1 3 = some 2 ∧
      near.fld (LP_CFG 2) LP_CFG.SPSRC = 2 ∧ near.fld (VL_CFG 1) VL_CFG.LOSSACT = 0 ∧
      (near.setFld (VL_CFG 1) VL_CFG.LOSSACT 2).fld (VL_CFG 1) VL_CFG.LOSSACT = 2 ∧
      (near.setFld (VL_CFG 1) VL_CFG.LOSSACT 1).fld (VL_CFG 1) VL_CFG.LOSSACT = 1 ∧
      near.rn (LP_VMIN 2) ≤ near.rn (VL_SAFEV 1 3) ∧ near.rn (VL_SAFEV 1 3) ≤ near.rn (LP_VMAX 2) ∧
      frame.blocksRun = true ∧ frame.flag (VL_STATUS 1) VL_STATUS.FRAME = true ∧ (frame.link 1).disPend = false ∧
      ((linked vlUp).wn (VL_KATO 1) 1).rn (VL_KATO 1) ≠ 0 ∧ (linked vlWait).vlState 1 ≠ vlUp ∧
      thr.thrAck 1 < thr.thrReq 1 ∧ thr.rn (VL_THRTO 1) ≠ 0 ∧ (thr.link 1).thrRaised = false ∧ up.mayWrite hp0 (VL_CTL 1) = true ∧
      (linked vlDisabled).vlState 1 = vlDisabled ∧ (linked vlDisabled).flag (VL_STATUS 1) VL_STATUS.CFGERR = false ∧
      (linked vlUp).vlState 1 ≠ vlDisabled ∧ frame.vlState 1 ≠ vlDisabled ∧
      (let d := frame.modLink 1 fun q => { q with disPend := true }
       (d.link 1).disPend = true ∧ d.flag (VL_STATUS 1) VL_STATUS.FRAME = true ∧ d.vlState 1 = vlUp) := by decide +kernel

/-! ## Witnesses: the Guard -/

/-- The Guard runs in `st` with channel 2 fitted, and throttles link 1. -/
def guarded (st : Nat) : Dev :=
  let d := flds [(BG_STATUS, BG_STATUS.STATE, st), (BG_CFG, BG_CFG.FITTED, 4), (BG_CTL, BG_CTL.EN, 1), (BG_CTL, BG_CTL.T3EN, 1),
    (BG_CTL, BG_CTL.T4EN, 1), (VL_STATUS 1, VL_STATUS.STATE, vlUp)]
  ({ d with guard := { d.guard with started := true, on := 4 } }.wn BG_T3ORDER 9).wn (BG_RSHUNT 2) 1000

theorem witness_GuardFrames :
    let res : GuardRes := { code := 2759, ovr := false, got := true }
    let x : GuardFrame := { fd := Vector.replicate 4 res, bus := { res with code := 2560 }, cs := 0, vb := 0, vs := 0, lat := 9 }
    let y : GuardFrame := { x with bus := { res with got := false } }
    (guarded bgNormal).blocksRun = true ∧ (guarded bgNormal).guard.started = true ∧ (x.bus.got = true ∧ x.bus.ovr = false) ∧
      (∀ c : Chan, (x.fd[c]).got = true ∧ (x.fd[c]).ovr = false) ∧ (guarded bgNormal).clock.switching ≠ some .tb ∧
      (let d := guarded bgNormal
       let e : Dev := { d with clock := { d.clock with switching := some .tb } }
       e.blocksRun = true ∧ e.guard.started = true ∧ e.clock.switching = some .tb) ∧ (guarded bgNormal).fitted 2 = true ∧
      natBit ((guarded bgNormal).fld BG_CFG BG_CFG.CHDIS) 2 = false ∧ (guarded bgNormal).fitted 0 = false ∧ y.bus.got = false ∧
      (guarded bgNormal).bgState ≠ bgOff := by decide +kernel

/-- Link 1 throttled by the Guard, which requests 2, and link 1 acknowledges `ack`. -/
def raised (ack : Nat) : Dev :=
  ((((guarded bgNormal).setFld (VL_THRSTAT 1) VL_THRSTAT.REQ 2).setFld (VL_THRSTAT 1) VL_THRSTAT.ACK ack).modGuard fun g =>
    { g with raised := [1] }).wn BG_CEIL 100

/-- The Guard in NORMAL; the same 10 W short, with link 1 up or lost; handing over, the stage in BUSREG; rail 12 being shed. -/
def calm : Dev := guarded bgNormal
def short : Dev := calm.wn BG_DEFICIT 100
def spent : Dev := short.setFld (VL_STATUS 1) VL_STATUS.STATE vlLost
def ho : Dev := ((guarded bgHandover).setFld CHG_STATUS CHG_STATUS.MODE cmBusreg).modChg fun x => { x with zeroRun := 3 }
def shedding : Dev :=
  let d : Dev := calm.setMbit SEQ_RAILON 12 true
  { d with drill := { d.drill with shedList := [12] }, pins := { d.pins with xpg := d.pins.xpg.set 0 true } }

theorem witness_GuardDecisions :
    (calm.blocksRun = true ∧ calm.channelOn 2 = true ∧ calm.mayHandover = true ∧ calm.ploss = false ∧ calm.channelOn 0 = false) ∧
      (ho.bgState = bgHandover ∧ ho.busStands = true) ∧ (calm.bgState ≠ bgHandover ∧ (ho.modChg fun x => { x with zeroRun := 2 }).busStands = false) ∧
      (((guarded bgLifeline).setBgFlag BG_STATUS.QUAL true).bgFlag BG_STATUS.QUAL = true ∧
        ((guarded bgLifeline).setBgFlag BG_STATUS.QUAL true).bgState = bgLifeline ∧ (calm.setBgFlag BG_STATUS.QUAL true).bgState ≠ bgLifeline ∧
        (calm.setBgFlag BG_STATUS.QUAL true).bgFlag BG_STATUS.QUAL = true) ∧
      (calm.tiersAct = true ∧ short.tiersAct = true ∧ short.flag BG_CTL BG_CTL.T3EN = true ∧ 0 < short.rn BG_DEFICIT ∧ short.stepSettled = true ∧
        (short.t3Links.find? fun j => !short.linkSpent j) = some 1 ∧ short.bgFlag BG_STATUS.T3 = false) ∧
      calm.rn BG_DEFICIT = 0 := by decide +kernel

theorem witness_GuardDecisions_release :
    ((raised 2).tiersAct = true ∧ (raised 2).bgFlag BG_STATUS.T2 = false ∧ (raised 2).guard.raised = 1 :: [] ∧
        (∀ j ∈ (raised 2).guard.raised, (raised 2).credit j ≠ 0) ∧
        (raised 2).thrw 1 ((raised 2).credit 1) - (raised 2).thrw 1 (min ((raised 2).credit 1) ((raised 2).thrReq 1 - 1)) + (raised 2).rn BG_T3HYS <
          (raised 2).rn BG_CEIL) ∧
      ((1 : Link) ∈ (raised 0).guard.raised ∧ (raised 0).credit 1 = 0 ∧ (raised 0).bgFlag BG_STATUS.T2 = false ∧ (raised 0).tiersAct = true) ∧
      ((raised 2).setBgFlag BG_STATUS.T2 true).bgFlag BG_STATUS.T2 = true ∧
      (spent.tiersAct = true ∧ spent.flag BG_CTL BG_CTL.T4EN = true ∧ 0 < spent.rn BG_DEFICIT ∧ spent.t3Spent = true ∧
        spent.bgFlag BG_STATUS.T4 = false) ∧
      ((short.setBgFlag BG_STATUS.T4 true).tiersAct = true ∧ (short.setBgFlag BG_STATUS.T4 true).bgFlag BG_STATUS.T4 = true ∧
        0 < (short.setBgFlag BG_STATUS.T4 true).rn BG_DEFICIT) ∧
      ((calm.setBgFlag BG_STATUS.T4 true).bgFlag BG_STATUS.T4 = true ∧ (calm.setBgFlag BG_STATUS.T4 true).bgFlag BG_STATUS.MEASFLT = false ∧
        (calm.setBgFlag BG_STATUS.T4 true).rn BG_DEFICIT = 0) ∧
      (calm.bgState ≠ bgOff ∧ 0 < (calm.modGuard fun g => { g with overRun := 1 }).guard.overRun ∧ calm.guard.breached = false) ∧
      (calm.bgFlag BG_STATUS.MEASFLT = false ∧ max 1 (calm.fld BG_MISSLIM BG_MISSLIM.VALUE) ≤ (calm.modGuard fun g => { g with missed := 255 }).guard.missed) ∧
      (shedding.drill.shedList = 12 :: [] ∧ shedding.railOn 12 = true ∧ shedding.rstate 12 ≠ rsShed ∧ shedding.rstate 12 ≠ rsFailed ∧ shedding.fallenCond 12 = false) ∧
      (up.mayWrite hp0 BG_BUDGET = true ∧ up.mayWrite hp0 BG_RESERVE = true) := by decide +kernel

/-! ## Witnesses: measurement -/

/-- Sequence 3 is enabled on trigger `src`, `sel`. -/
def seqOn (q : Nat) (src sel : Nat) : Dev :=
  flds [(MS_SEQTRIG q, MS_SEQTRIG.EN, 1), (MS_SEQTRIG q, MS_SEQTRIG.SRC, src), (MS_SEQTRIG q, MS_SEQTRIG.SEL, sel)]

theorem witness_MeasurementTriggers :
    let div (d : Dev) (q : Nat) : Dev := d.setFld (MS_SEQDIV q) MS_SEQDIV.DIV 1
    let started : Vector (Option TimerSt) 16 := up.meas.timers.set 15 (some { start := 0, last := none })
    let set := ((div (seqOn 3 1 15) 3).setMbit MS_TTCTL 15 true).wn32 (MS_TTPER 15) 0xFFFFFF
    let timed : Dev := { set with meas := { set.meas with timers := started } }
    let edge := (div (seqOn 3 2 4) 3).modPhase 4 fun x => { x with onTime := 1 }
    (timed.measOn = true ∧ timed.seqEnabled 3 = true ∧ (timed.mseq 3).div < timed.fld (MS_SEQDIV 3) MS_SEQDIV.DIV ∧
        timed.mbit MS_TTCTL 15 = true ∧ timed.timerDue 15 = some 0 ∧ timed.fld (MS_SEQTRIG 3) MS_SEQTRIG.SRC = 1 ∧
        timed.fld (MS_SEQTRIG 3) MS_SEQTRIG.SEL = (15 : Fin 16).val ∧ up.mbit MS_TTCTL 15 = false ∧ up.timerDue 15 = none) ∧
      (edge.measOn = true ∧ edge.seqEnabled 3 = true ∧ (edge.mseq 3).div < edge.fld (MS_SEQDIV 3) MS_SEQDIV.DIV ∧ (edge.phase 4).onTime ≠ 0 ∧
        edge.fld (MS_SEQTRIG 3) MS_SEQTRIG.SRC = 2 ∧ edge.fld (MS_SEQTRIG 3) MS_SEQTRIG.SEL = (4 : Phase).val ∧
        edge.fld (MS_SEQTRIG 3) MS_SEQTRIG.EDGE = (0 : Fin 3).val ∧ (up.phase 4).onTime = 0) ∧
      (up.mayWrite hp0 MS_SWTRIG = true ∧ (0x8037#16).getLsbD 15 = true ∧ (0x8037#16).toNat % 64 = (55 : SeqNo).val ∧ (55 : SeqNo).val < 56 ∧
        (0x0037#16).getLsbD 15 = false ∧ 56 ≤ (0x8038#16).toNat % 64) ∧ (60 : SeqNo).val = 57 + (3 : Fin 4).val := by decide +kernel

theorem witness_MeasurementTriggers_alone :
    let behind (d : Dev) (q : SeqNo) : Dev := d.modSeq q fun x => { x with toSample := [64] }
    [(55 : SeqNo), 60].all (fun q =>
      let d := seqOn q 0 0
      let e := d.setFld (MS_SEQDIV q) MS_SEQDIV.DIV 1
      decide (d.measOn = true ∧ d.seqEnabled q.val = true ∧ (e.mseq q).div < e.fld (MS_SEQDIV q) MS_SEQDIV.DIV ∧
        ¬(d.mseq q).div < d.fld (MS_SEQDIV q) MS_SEQDIV.DIV ∧
        (((behind d q).startSeats d.tickStart).mseq q).toSample ≠ [] ∧ ((d.startSeats d.tickStart).mseq q).toSample = [] ∧
        up.seqEnabled q.val = false)) = true := by decide +kernel

/-- A conversion of entry 64 on seat 4 with `left` samples to come, the next one at instant 0. -/
def conv64 (left : Nat) (urgent : Bool) : Conv :=
  { entry := 64, left := left, taken := 0, sum := 0, ovr := false, resamp := false, urgent := urgent, instant := 0, seat := 4,
    seq := 0, run := 0, src := 0, req := 0 }

theorem witness_MeasurementResults :
    let d (left : Nat) : Dev := up.setConv 4 (some (conv64 left false))
    let late := { d 1 with meas := { (d 1).meas with instants := [(64, 100)] } }
    let lim := min ((0#64).toNat + 1) up.tickEnd
    (up.measOn = true ∧ ((d 2).startSeats lim).conv 4 = some (conv64 2 false) ∧ (conv64 2 false).entry = (64 : Entry).val ∧
        (conv64 2 false).instant = (0#64).toNat ∧ (0#64).toNat + 720 ≤ (d 2).tickEnd ∧ 1 < (conv64 2 false).left) ∧
      (((d 1).startSeats lim).conv 4 = some (conv64 1 false) ∧ (conv64 1 false).left ≤ 1 ∧ (d 1).newest 64 (0#64).toNat = true ∧
        late.newest 64 (0#64).toNat = false ∧ (late.startSeats lim).conv 4 = some (conv64 1 false)) ∧
      ((conv64 1 false).entry ≠ (65 : Entry).val ∧ (conv64 1 false).instant ≠ (1#64).toNat ∧ (d 1).tickEnd < (81#64).toNat + 720 ∧
        ((d 1).startSeats (min ((1#64).toNat + 1) up.tickEnd)).conv 4 = some (conv64 1 false)) ∧
      (up.startSeats lim).conv 4 = none ∧ ({ up with meas := Dev.reset.meas } : Dev).measOn = false ∧ up.portsAnswer = true := by
  decide +kernel

theorem witness_MeasurementResults_urgent :
    let asked (d : Dev) : Dev := (d.dropHeld hp0).storeWord (accKey hp0.ownSet MS_URGENT) MS_URGENT (BitVec.ofNat 16 (0x8000 + 64))
    let valid := flds [(MS_PECTL 64, MS_PECTL.VALID, 1), (MS_PECTL 64, MS_PECTL.QUAD, 1), (MS_PECTL 64, MS_PECTL.SEAT, 0)]
    let plain := valid.setConv 4 (some (conv64 1 false))
    let busy := valid.setConv 4 (some (conv64 1 true))
    let full := busy.modSeat 4 fun x => { x with urgents := List.replicate 3 (conv64 1 true) }
    let seats (d : Dev) : Dev := (asked d).startSeats (d.tickStart + 1)
    up.mayWrite hp0 MS_URGENT = true ∧ up.latched = false ∧ (asked up).urgentSeat 64 = none ∧ (asked valid).urgentSeat 64 = some 4 ∧
      ((asked full).urgentSeat 64 = some 4 ∧ 4 ≤ full.urgentHeld 4) ∧ busy.urgentHeld 4 < 4 ∧ valid.meas.running = true ∧
      (asked valid).seatAdc 4 = some 4 ∧ ((seats valid).conv 4 = none ∧ ((seats valid).seat 4).urgents = []) ∧
      ((seats plain).conv 4 = some (conv64 1 false) ∧ ((seats plain).seat 4).urgents = [] ∧ plain.urgentHeld 4 < 4 ∧
        (asked plain).urgentSeat 64 = some 4 ∧ (asked plain).seatAdc 4 = some 4) ∧
      ((seats busy).conv 4 = some (conv64 1 true) ∧ (conv64 1 true).urgent = true) := by decide +kernel

theorem witness_MeasurementPlan :
    let bad := flds [(MS_PECTL 64, MS_PECTL.VALID, 1), (MS_PECTL 64, MS_PECTL.QUAD, 7), (MS_PESEQ 64, MS_PESEQ.SEQ, 3)]
    let held := (flds [(MS_PECTL 64, MS_PECTL.VALID, 1), (MS_PESEQ 64, MS_PESEQ.SEQ, 3), (MS_SEQTRIG 3, MS_SEQTRIG.EN, 1)])
    up.mayWrite hp0 (MS_SEQTRIG 55) = true ∧ up.mayWrite hp0 (MS_SEQTRIG 56) = true ∧ 56 ≤ (56 : SeqNo).val ∧ (55 : SeqNo).val < 56 ∧
      (trigInvalid (0 ||| 0x8000#16) = false ∧ up.seqEntries 55 = []) ∧
      (64 ∈ bad.seqEntries 3 ∧ bad.entryInvalid 64 = true) ∧ trigInvalid (0x6000 ||| 0x8000#16) = true ∧
      (up.mayWrite hp0 0x4800 = true ∧ 0x4800 ≤ (0x4800#16).toNat ∧ (0x4FFE#16).toNat < 0x5000 ∧ up.planEntry hp0 0x4800 < 64 ∧
        64 ≤ up.planEntry hp0 0x4C00) ∧
      (up.planEntry hp0 0x4C00 = 64 ∧ 0x4C00 % 16 / 2 * 2 < 6 ∧ held.flag (MS_PECTL 64) MS_PECTL.VALID = true ∧
        held.seqEnabled (held.entrySeq 64) = true ∧ up.flag (MS_PECTL 64) MS_PECTL.VALID = false) ∧
      up.mayWrite hp0 MS_TTCTL = true ∧
      (∀ ring : Fin 2, up.measOn = true ∧ up.flag MS_STATUS (ringStop ring) = false ∧ (up.bayAdc ring).isSome = true ∧
        up.fld MS_STATUS (ringNext ring) < 11 ∧ (up.seatAdc (Fin.ofNat 24 (ringSeat ring (up.fld MS_STATUS (ringNext ring))))).isSome = true ∧
        up.seatAdc (Fin.ofNat 24 (ringSeat ring (up.fld MS_STATUS (ringNext ring)))) ≠ up.bayAdc ring) ∧
      ({ up with meas := Dev.reset.meas } : Dev).measOn = false ∧
      (∀ l : Adc, (up.startSeats up.tickStart).conv l = none) ∧ ({ up with meas := Dev.reset.meas } : Dev).tbRuns = true ∧
      (8#24) ≠ 0 ∧ (8#24).getLsbD (3 : Adc).val = true := by decide +kernel

/-! ## Witnesses: battery stage, charger, gauge, pack and thermal -/

/-- The stage in mode `m`, the charger in phase `p`, with a usable pack of 10 Ah of chemistry 1. -/
def stage (m p : Nat) : Dev :=
  (flds [(CHG_STATUS, CHG_STATUS.MODE, m), (CHG_STATUS, CHG_STATUS.PHASE, p), (PK_STATUS, PK_STATUS.PRESENT, 1), (PK_STATUS, PK_STATUS.USABLE, 1),
    (CHG_CTL, CHG_CTL.CHGEN, 1), (CHG_CFG, CHG_CFG.PHEN, 1)]).wn CHG_CHEM 1 |>.wn PK_RATEDCAP 1000

theorem witness_ChargerStage :
    let fault (c : Nat) : Dev := (stage cmOff cpFault).wn CHG_FAULT c
    up.blocksRun = true ∧ ((stage cmConnect cpOff).cmode = cmConnect ∧ (stage cmConnect cpOff).packUsable = true ∧
        (stage cmConnect cpOff).cphase ≠ cpFault ∧ (stage cmConnect cpOff).flag CHG_STATUS CHG_STATUS.BATFET = false) ∧
      ((stage cmCharge cpCC).cmode = cmCharge ∧ 8 ≤ ((stage cmCharge cpCC).modChg fun x => { x with idleRun := 8 }).chg.idleRun ∧
        (stage cmCharge cpCC).chg.idleRun < 8 ∧ (stage cmCharge cpCC).chem.isSome = true ∧
        (stage cmCharge cpCC).cphase ≠ cpFault) ∧ (stage cmAssist cpOff).cmode = cmAssist ∧ (stage cmBusreg cpOff).cmode = cmBusreg ∧
      ((stage cmReady cpOff).chg.cut = false ∧ (stage cmReady cpOff).chg.ocRun + 1 < 8 ∧ (stage cmReady cpOff).cphase ≠ cpFault ∧
        (stage cmReady cpOff).blocksRun = true) ∧
      ((stage cmCharge cpCC).chg.cut = false ∧ (stage cmCharge cpCC).chg.ocRun + 1 < 8 ∧ 8 ≤ ((stage cmCharge cpCC).modChg fun x => { x with ocRun := 7 }).chg.ocRun + 1) ∧
      ((stage cmOff cpOff).cmode ≠ cmConnect ∧ (stage cmOff cpOff).cmode ≠ cmAssist ∧ (stage cmOff cpOff).cmode ≠ cmBusreg) ∧
      up.mayWrite hp0 CHG_CTL = true ∧ ((fault cfConfig).cphase = cpFault ∧ (fault cfConfig).rn CHG_FAULT = cfConfig) ∧
      ((fault cfSafety).cphase = cpFault ∧ (fault cfSafety).rn CHG_FAULT ∈ [cfSafety, cfSafetyThermal, cfPreTimeout, cfStageOc, cfConnect] ∧
        (fault cfSafety).phen ≠ 0 ∧ (fault cfSafety).flag CHG_STATUS CHG_STATUS.CFGERR = false ∧
        ((fault cfSafety).chem.map fun c => decide ((fault cfSafety).rn CHG_VBAT ≤ c.ov)) = some true) ∧
      (stage cmOff cpOff).cphase ≠ cpFault ∧ up.mayWrite hp0 CHG_ICHG = true ∧ up.mayWrite hp0 CHG_QRECH = true ∧
      (let newt (ok : Bool) : Dev := { up.setFlag CLK_STATUS CLK_STATUS.REFOK ok with boot := { up.boot with phase := .newt } }
       (newt false).boot.phase = .newt ∧ (newt false).flag CLK_STATUS CLK_STATUS.REFOK = false ∧
         (newt true).flag CLK_STATUS CLK_STATUS.REFOK = true) := by decide +kernel

theorem witness_ChargeCycle :
    let q := stage cmReady cpQualify
    let pre := q.setFlag CHG_STATUS CHG_STATUS.PRE true
    let ch : Chem := (q.chem).get (by decide +kernel)
    let sets (v : Word) (d : Dev) : Dev := d.modChg fun x => { x with sets := { x.sets with vcv := v } }
    (q.blocksRun = true ∧ q.packUsable = true ∧ q.mayCharge = true ∧ q.stageAble = true ∧ q.chem = some ch ∧ q.tempHold = false) ∧
      (q.cphase = cpQualify ∧ q.flag CHG_STATUS CHG_STATUS.PRE = false ∧ (5#16).toNat ≤ 5 ∧ ¬(6#16).toNat ≤ 5) ∧
      (0 < ch.dead ∧ ch.dead < ch.pre ∧ ch.pre < ch.ov ∧ ch.ov < 65536 ∧ (sets 0xFFFF q).vcv < ch.ov ∧ ch.pre < (sets 0xFFFF q).vcv) ∧
      (pre.cphase = cpQualify ∧ pre.flag CHG_STATUS CHG_STATUS.PRE = true) ∧
      (let d := q.modChg fun x => { x with preBegun := true, preUs := 60 * 60 * 1000000 }
       d.chg.preBegun = true ∧ d.tpre * 1000000 ≤ d.chg.preUs ∧ q.chg.preUs < q.tpre * 1000000) ∧
      q.mayWrite hp0 CHG_CTL = true ∧ q.cphase ≠ cpFault := by decide +kernel

theorem witness_ChargeCycle_rests :
    let cc (rest : Bool) : Dev := (stage cmCharge cpCC).modChg fun x => { x with inRest := rest }
    let cv (bad : Bool) (n : Nat) : Dev := (stage cmCharge cpCV).modChg fun x => { x with inRest := true, cycleBad := bad, taperCycles := n, taper := 100000000 }
    let over_ := (cc true).wn32 CHG_TEQ 0xFFFFFF
    let th := over_.setFlag CHG_STATUS CHG_STATUS.THLIM true
    ((cc false).pulsing = true ∧ (cc false).chg.inRest = false ∧ (cc false).mayCharge = true ∧ (cc false).stageAble = true ∧
        (cc false).packUsable = true ∧ (cc false).tempHold = false ∧ (cc false).chem.isSome = true) ∧
      ((cc true).pulsing = true ∧ (cc true).chg.inRest = true ∧ (cc true).chg.assisted = false ∧ (cc true).cphase = cpCC) ∧
      ((cv true 0).pulsing = true ∧ (cv true 0).cphase = cpCV ∧ (cv true 0).chg.cycleBad = true ∧ (cv true 0).tapered = false) ∧
      ((cv false 1).chg.cycleBad = false ∧ (0#16).toInt ≤ (cv false 1).chg.sets.itaper.toNat ∧ 1 ≤ (cv false 1).chg.taperCycles ∧
        10 * (cv false 1).ttaper ≤ (cv false 1).chg.taper + 10 * (cv false 1).chg.pulseLen + (cv false 1).trest ∧
        (cv false 1).vcv ≤ 65535) ∧
      ((cv true 0).chg.expiry = false ∧ (cv true 0).chg.assisted = false ∧
        ((cv true 0).modChg fun x => { x with expiry := true }).chg.expiry = true) ∧
      (let d := atTick 1500000 ((cv true 0).wn32 CHG_TEQ 0xFFFFFF)
       d.pulsing = true ∧ d.safetyDue = true ∧ d.taperMayCome = true) ∧ over_.taperMayCome = false ∧ th.taperMayCome = false ∧
      (cc true).safetyDue = false ∧ (over_.pulsing = true ∧ over_.safetyDue = true ∧ over_.flag CHG_STATUS CHG_STATUS.THLIM = false) ∧
      (th.safetyDue = true ∧ th.flag CHG_STATUS CHG_STATUS.THLIM = true ∧ th.fld CHG_STATUS CHG_STATUS.SUSPCNT < 2 ∧
        2 ≤ (th.setFld CHG_STATUS CHG_STATUS.SUSPCNT 2).fld CHG_STATUS CHG_STATUS.SUSPCNT) := by decide +kernel

theorem witness_ChargeCycle_again :
    let susp := (stage cmReady cpSuspend)
    let drained := ((stage cmReady cpDone).wn32 CHG_QRECH 0).modChg fun x => { x with drawn := 1 }
    let low := (stage cmReady cpDone).modChg fun x => { x with sets := { x.sets with vrech := 1 } }
    (susp.cphase = cpSuspend ∧ susp.stageAble = true ∧ susp.mayCharge = true ∧ susp.chem.isSome = true ∧ susp.thermalCeiling = susp.icc) ∧
      (drained.cphase = cpDone ∧ drained.rn32 CHG_QRECH * 100000 < drained.chg.drawn) ∧
      (low.cphase = cpDone ∧ low.rn CHG_VBAT < low.chg.sets.vrech.toNat ∧ (low.rs CHG_IBAT).natAbs ≤ 5) := by decide +kernel

/-- The gauge runs, with a pack of 10 Ah. -/
def gauged (m : Nat) : Dev := (stage m cpOff).modPack fun x => { x with known := true }

theorem witness_Gauge :
    let inh := (gauged cmOff).setFlag TH_STATUS TH_STATUS.NVINH true
    let quiet (w : Nat) : Dev := (gauged cmOff).modGauge fun g => { g with lastAt := some w, quietAt := some 0 }
    (gauged cmOff).gaugeOn = true ∧ (gauged cmOff).cmode = cmOff ∧ ((gauged cmCharge).cmode ≠ cmOff ∧ (gauged cmCharge).cmode ≠ cmReady) ∧
      ((quiet 800000000).gauge.lastAt = some 800000000 ∧ (quiet 800000000).gauge.quietAt = some 0 ∧ 800000000 ≤ 800000000 - 0 ∧
        799999999 - 0 < 800000000) ∧ (gauged cmOff).gauge.quietAt = none ∧
      ((gauged cmOff).nvInhibit = false ∧ (gauged cmOff).bof = false ∧ (gauged cmOff).hopper.closes = [] ∧
        (gauged cmOff).recorder.flushing = false ∧ (gauged cmOff).cfg.roleItems = [] ∧ (gauged cmOff).cfg.checks = []) ∧
      ((gauged cmOff).modRec fun x => { x with flushing := true }).recorder.flushing = true ∧ inh.nvInhibit = true ∧ inh.gaugeOn = true ∧
      (gauged cmOff).mayWrite hp0 GG_CTL = true ∧ (gauged cmOff).pack.restored = none ∧ (gauged cmOff).gauge.window = false := by
  decide +kernel

theorem witness_Gauge_empty :
    let open_ (g : GaugeSt) : GaugeSt := { g with window := true, taperAt := some 0, lastAt := some 8000000000 }
    let w (trav cand : Nat) : Dev := (((gauged cmOff).modGauge open_).setFld GG_STATUS GG_STATUS.TRAV trav).wn32 GG_QLEARN cand
    let x := w 1 36000000
    (x.gauge.window = true ∧ x.gauge.taperAt = some 0 ∧ x.gauge.lastAt = some 8000000000 ∧ 8000000 * max 1 (x.rn GG_ETIME) ≤ 8000000000 - 0) ∧
      (w 0 0).fld GG_STATUS GG_STATUS.TRAV ≠ 1 ∧ x.fld GG_STATUS GG_STATUS.TRAV = 1 ∧
      (2 * ((w 1 1).rn32 GG_QLEARN - (w 1 1).rs32 GG_QCNT) < (w 1 1).ratedMc) ∧
      (x.ratedMc ≤ 2 * (x.rn32 GG_QLEARN - x.rs32 GG_QCNT : Int) ∧ 5 * (x.rn32 GG_QLEARN - x.rs32 GG_QCNT : Int) ≤ 6 * x.ratedMc ∧
        32768 * ((x.rn32 GG_QLEARN - x.rs32 GG_QCNT : Int) - x.rn32 GG_QLEARN).natAbs ≤ x.rn GG_LSTEP * x.rn32 GG_QLEARN) := by
  decide +kernel

/-- Page 0 of a pack of serial 5 and chemistry 1, and three more pages. -/
def page0 : List Byte := [5, 0, 0, 0, 0, 0, 0, 0, 1, 0, 0xE8, 3, 0, 0, 0]
def pages : List Byte := page0 ++ [crc8 page0] ++ List.replicate 48 0

/-- The tag's line after a transaction `o`, of which `n` attempts have failed, with the device's pages read so far. -/
def tagging (o : TagOp) (n : Nat) (l : List Byte) : Dev :=
  (gauged cmOff).modPack fun x => { x with queue := [o], busy := true, attempts := n, type := 0x31, pages := l }

/-- R230: SYNC is low for three half-bits and high for three; a 1 is low then high, a 0 high then low; what goes out comes back. -/
theorem test_tag_line : tagLine [0x80] = [false, false, false, true, true, true, false, true] ++ (List.replicate 7 [true, false]).flatten ∧
    lineBytes (tagLine [0x31, 0xF4]) = some [0x31, 0xF4] := by decide +kernel

theorem witness_PackAndTag :
    let out := atTick 100000 ((((gauged cmOff).setFlag PK_STATUS PK_STATUS.PRESENT false).setFld PK_STATUS PK_STATUS.NTC 0).modPack fun x => { x with ntcAt := some 0, pages := pages })
    let gone := (atTick 10000 ((gauged cmOff).setFld PK_STATUS PK_STATUS.NTC ntcOpen)).modPack fun x => { x with ntcAt := some 0 }
    (out.gaugeOn = true ∧ out.packPresent = false ∧ out.ntcHeld false 100000 = true ∧ pages.length = 64 ∧
        out.pack.pages.length = 64 ∧ pageGood (pageOf out.pack.pages 0) = true ∧ out.pack.restored = none) ∧
      ((0x31#8 = 0x31 ∧ (chemOf (pageVal (pageOf pages 0) 8 1)).isSome = true ∧ pageVal (pageOf pages 0) 10 2 ≠ 0) ∧
        BitVec.ofNat 64 (pageVal (pageOf pages 0) 0 8) ≠ out.packSerial) ∧
      (gone.packPresent = true ∧ gone.ntcHeld true 10000 = true) := by decide +kernel

theorem witness_PackAndTag_commands :
    let busy := (gauged cmOff).setFlag PK_XCTL PK_XCTL.BUSY true
    (gauged cmOff).gaugeOn = true ∧ (gauged cmOff).packPresent = true ∧ up.mayWrite hp0 PK_CTL = true ∧ up.mayWrite hp0 PK_XCTL = true ∧
      (gauged cmOff).flag PK_XCTL PK_XCTL.BUSY = false ∧ (gauged cmOff).pack.queue = [] ∧ (gauged cmOff).pack.busy = false ∧
      (7 : Fin 16).val < 8 ∧ 8 ≤ (8 : Fin 16).val ∧ busy.flag PK_XCTL PK_XCTL.BUSY = true ∧ busy.gaugeOn = true ∧
      (0x01#8).getLsbD 0 = true ∧ (0x01#8).getLsbD 1 = false ∧ (0x03#8).getLsbD 1 = true := by decide +kernel

theorem witness_PackAndTag_responses :
    let old := tagging (.read 3 true) 0 (pages.take 48)
    ((tagging .ping 0 []).pack.busy = true ∧ (tagging .ping 0 []).pack.queue = [.ping] ∧ (tagging .ping 0 []).packPresent = true ∧
        (tagging .ping 0 []).pack.type = 0x31 ∧ (0x32#8) ≠ 0x31 ∧ (tagging .ping 0 []).gaugeOn = true) ∧
      ((tagging (.read 2 true) 0 []).pack.queue = [.read 2 true] ∧ (2 : Fin 4).val < 3 ∧ (List.replicate 16 (0 : Byte)).length = 16) ∧
      (old.pack.queue = [.read 3 true] ∧ old.packPresent = true ∧ pageGood (pageOf (old.pack.pages ++ List.replicate 16 0) 0) = true) ∧
      (tagging (.boxRead 3) 0 []).pack.queue = [.boxRead 3] ∧ (tagging .ping 1 []).pack.attempts < 2 ∧ (tagging .ping 1 []).pack.good = true ∧
      (let d := (tagging .ping 2 []).setFld PK_CFG PK_CFG.FAILLIM 3
       2 ≤ d.pack.attempts ∧ d.pack.fails + 1 < max 1 (d.fld PK_CFG PK_CFG.FAILLIM)) ∧
      (let d := (tagging .ping 2 []).setFld PK_CFG PK_CFG.FAILLIM 1
       d.packPresent = true ∧ max 1 (d.fld PK_CFG PK_CFG.FAILLIM) ≤ d.pack.fails + 1) := by decide +kernel

theorem witness_ThermalRates :
    let x : ThSensor := { ThSensor.init with sum := 6400, cnt := 10, means := List.replicate 100 0 }
    let d := { regs [(TH_RATE1 14, 1), (TH_RATE10 14, 1)] with therm := { up.therm with sensors := up.therm.sensors.set 14 x } }
    d.meas.running = true ∧ d.latched = false ∧ 0 < x.cnt ∧ x.broken = false ∧ ThSensor.init.cnt = 0 ∧ 0 < d.rs (TH_RATE1 14) ∧
      0 < d.rs (TH_RATE10 14) ∧ (divRound x.sum x.cnt :: x.means)[10]? = some 0 ∧ (divRound x.sum x.cnt :: x.means)[100]? = some 0 ∧
      d.rs (TH_RATE1 14) < divRound x.sum x.cnt - 0 ∧ 10 * d.rs (TH_RATE10 14) < divRound x.sum x.cnt - 0 ∧ up.rs (TH_RATE1 13) = 0 := by
  decide +kernel

end Sys2Proof.Tests
end

section
/-!
Bytes of the register space: what a refused byte leaves (R253, R317), and what the two bytes of a 16-bit register do (R6, R313).
-/

namespace Sys2Proof.Machine

open Sys2Proof Sys2Proof.R

/-! ## The gate of one byte -/

/-- A byte that is let through is its effect. -/
theorem Dev.permit_of_mayWrite (d : Dev) {acc : Acc} {a : Nat} (eff : Dev → Dev) (h : d.mayWrite acc a = true) :
    d.permit acc a eff = eff d := by
  cases acc with
  | port p => simp_all [Dev.permit, Dev.mayWrite]
  | furrow f => simp_all [Dev.permit, Dev.mayWrite]

theorem Dev.permit_port_refused (d : Dev) {p : Port} {a : Nat} (eff : Dev → Dev) (hp : d.portsAnswer = true)
    (ha : d.portMay p a = false) : d.permit (.port p) a eff = d.refuseWrite p := by
  simp [Dev.permit, hp, ha]

theorem Dev.permit_port_silent (d : Dev) (p : Port) (a : Nat) (eff : Dev → Dev) (h : d.portsAnswer = false) :
    d.permit (.port p) a eff = d := by
  simp [Dev.permit, h]

theorem Dev.permit_furrow_refused (d : Dev) (f : Furrow) {a : Nat} (eff : Dev → Dev) (h : furrowMay a = false) :
    d.permit (.furrow f) a eff = d.setFlag KE_STICKY KE_STICKY.WREF true := by
  simp [Dev.permit, h]

theorem exec_registerWrite (acc : Acc) (a : BitVec 16) (b : Byte) (s : State) :
    exec (.registerWrite acc a b) s = s.step1 fun d => d.permit acc a.toNat (·.writeByte acc a.toNat b) := rfl

theorem exec_registerWrite_of_mayWrite {acc : Acc} {a : BitVec 16} (b : Byte) {s : State}
    (h : s.dev.mayWrite acc a.toNat = true) :
    exec (.registerWrite acc a b) s = .next { s with dev := s.dev.writeByte acc a.toNat b } := by
  rw [exec_registerWrite, State.step1, Dev.permit_of_mayWrite _ _ h]

/-! ## A refused byte of a port (R317) -/

theorem evtReg_HP_STICKY : ∀ p : Port, evtReg (HP_STICKY p) = false := by decide
theorem evtReg_HP_REFCNT : ∀ p : Port, evtReg (HP_REFCNT p) = false := by decide
theorem HP_STICKY_ne_HP_REFCNT : ∀ p : Port, HP_STICKY p ≠ HP_REFCNT p := by decide

/-- The registers of port `p` after a refused byte, before WRITE_REFUSED. -/
def Dev.countRefusal (d : Dev) (p : Port) : Dev :=
  (d.setFlag (HP_STICKY p) HP_STICKY.NOTOWN true).bump (HP_REFCNT p)

theorem Dev.refuseWrite_eq (d : Dev) (p : Port) :
    d.refuseWrite p = (d.countRefusal p).when (!d.flag (HP_STICKY p) HP_STICKY.NOTOWN) (·.raisePort p 20) := rfl

/-- A refused byte counts, and changes nothing more but what WRITE_REFUSED may change. -/
theorem Dev.quiet_refuseWrite (d : Dev) (p : Port) : (d.countRefusal p).Quiet (d.refuseWrite p) := by
  rw [Dev.refuseWrite_eq, Dev.when]
  split
  · exact Dev.quiet_raisePort _ p (by decide)
  · exact quiet_closed.refl _

/-- A flag of a register that no event or record writes is as it was. -/
theorem Dev.Quiet.flag_eq {d e : Dev} (h : d.Quiet e) {a : Nat} (f : Fld) (ha : evtReg a = false) (hf : f.lo + f.w ≤ 16) :
    e.flag a f = d.flag a f := by
  simp [Dev.flag, Dev.fld, Dev.rn, hf, h.2 a ha]

theorem Dev.flag_bump_ne (d : Dev) {a b : Nat} (f : Fld) (hf : f.lo + f.w ≤ 16) (h : b ≠ a) :
    (d.bump a).flag b f = d.flag b f := by
  simp [Dev.flag, Dev.fld, Dev.rn, hf, Dev.rd_bump_ne d h]

theorem Dev.flag_refuseWrite (d : Dev) (p : Port) : (d.refuseWrite p).flag (HP_STICKY p) HP_STICKY.NOTOWN = true := by
  rw [(d.quiet_refuseWrite p).flag_eq _ (evtReg_HP_STICKY p) (by decide), Dev.countRefusal,
    Dev.flag_bump_ne _ _ (by decide) (HP_STICKY_ne_HP_REFCNT p)]
  exact Dev.flag_setFlag_same _ _ _ _ (by decide) (by decide)

theorem Dev.rd_refuseWrite_count (d : Dev) (p : Port) :
    (d.refuseWrite p).rd (HP_REFCNT p) = satInc (d.rd (HP_REFCNT p)) := by
  rw [(d.quiet_refuseWrite p).2 _ (evtReg_HP_REFCNT p), Dev.countRefusal, Dev.rd_bump_same,
    Dev.rd_setFlag_ne _ _ _ (by decide) (HP_STICKY_ne_HP_REFCNT p).symm]

/-- WRITE_REFUSED is raised when NOTOWN rises. -/
theorem Dev.evtPending_refuseWrite (d : Dev) (p : Port) (h : d.flag (HP_STICKY p) HP_STICKY.NOTOWN = false) :
    (d.refuseWrite p).evtPending 20 = true := by
  rw [Dev.refuseWrite_eq, h]
  exact Dev.evtPending_raisePort _ p (by decide)

theorem Dev.keepsRegs_refuseWrite (d : Dev) (p : Port) :
    d.keepsRegs (d.refuseWrite p) fun k => k = HP_STICKY p ∨ k = HP_REFCNT p := by
  intro k hk hq
  obtain ⟨hs, hc⟩ := not_or.mp hk
  rw [(d.quiet_refuseWrite p).2 k hq, Dev.countRefusal, Dev.rd_bump_ne _ hc, Dev.rd_setFlag_ne _ _ _ (by decide) hs]

theorem Dev.hush_refuseWrite (d : Dev) (p : Port) : (d.refuseWrite p).hush d = d :=
  Dev.hush_trans (Dev.hush_trans (Dev.hush_setFlag d _ _ _) (Dev.hush_bump _ _)) (d.quiet_refuseWrite p).1

/-! ## Held bytes (R6, R8) -/

@[simp] theorem Dev.accSt_modAcc_same (d : Dev) (acc : Acc) (g : AccSt → AccSt) :
    (d.modAcc acc g).accSt acc = g (d.accSt acc) := by
  simp [Dev.accSt, Dev.modAcc]

@[simp] theorem Dev.modAcc_modAcc (d : Dev) (acc : Acc) (g k : AccSt → AccSt) :
    (d.modAcc acc g).modAcc acc k = d.modAcc acc fun x => k (g x) := by
  simp [Dev.modAcc, Vector.set_set]

@[simp] theorem Dev.mayWrite_modAcc (d : Dev) (acc other : Acc) (g : AccSt → AccSt) (a : Nat) :
    (d.modAcc acc g).mayWrite other a = d.mayWrite other a := by
  cases other <;> rfl

/-- With nothing held there is nothing to discard. -/
theorem Dev.dropHeld_of_held_nil (d : Dev) (acc : Acc) (h : (d.accSt acc).held = []) : d.dropHeld acc = d := by
  have hx : { d.accs[acc.index] with held := [] } = d.accs[acc.index] := by
    rw [← (show d.accs[acc.index].held = [] from h)]
  have hv : d.accs.set acc.index d.accs[acc.index] = d.accs := Vector.set_getElem_self _
  simp only [Dev.dropHeld, Dev.modAcc, hx, hv]

/-! ## The two bytes of a 16-bit register (R6, R313) -/

section SixteenBit

variable {d : Dev} {acc : Acc} {a : Nat}

/-- The low byte is held, and waits for the high byte. -/
theorem Dev.writeByte_low (b : Byte) (hr : isReg a = true) (hv : valueOf acc a = (a, 2)) (hh : (d.accSt acc).held = []) :
    d.writeByte acc a b = d.modAcc acc fun x => { x with held := [(a, b)] } := by
  simp [Dev.writeByte, hr, hv, hh, eraseKey, insertKey]

/-- The high byte, where the low byte is held, makes the write of the whole register. -/
theorem Dev.writeByte_high_of_held (lo hi : Byte) (hr : isReg a = true) (hv : valueOf acc (a + 1) = (a, 2))
    (hh : (d.accSt acc).held = [(a, lo)]) :
    d.writeByte acc (a + 1) hi = ((d.dropHeld acc).regWrite (some acc) a (BitVec.ofNat 32 (valLE [lo, hi]))).2 := by
  simp [Dev.writeByte, hr, hv, hh]

/-- The high byte, where a port holds nothing, sets HALF. -/
theorem Dev.writeByte_high_unheld_port {p : Port} (hi : Byte) (hr : isReg a = true)
    (hv : valueOf (.port p) (a + 1) = (a, 2)) (hh : (d.accSt (.port p)).held = []) :
    d.writeByte (.port p) (a + 1) hi = d.setFlag (HP_STICKY p) HP_STICKY.HALF true := by
  simp [Dev.writeByte, hr, hv, hh, Dev.dropHeld_of_held_nil]

/-- The high byte, where a furrow holds nothing, does nothing. -/
theorem Dev.writeByte_high_unheld_furrow {f : Furrow} (hi : Byte) (hr : isReg a = true)
    (hv : valueOf (.furrow f) (a + 1) = (a, 2)) (hh : (d.accSt (.furrow f)).held = []) :
    d.writeByte (.furrow f) (a + 1) hi = d := by
  simp [Dev.writeByte, hr, hv, hh, Dev.dropHeld_of_held_nil]

end SixteenBit

/-- The low and the high byte of a word spell it. -/
theorem valLE_bytes_of_word (v : Word) : valLE [loByte v, hiByte v] = v.toNat := by
  have := v.isLt
  simp only [valLE, loByte, hiByte, BitVec.toNat_setWidth, BitVec.toNat_ushiftRight, Nat.shiftRight_eq_div_pow]
  omega

theorem toNat_succ_of_lt {a : BitVec 16} (h : a.toNat < 0xFFFF) : (a + 1).toNat = a.toNat + 1 := by
  bv_omega

/-- Writing a flag of one word changes that register alone. -/
theorem Dev.onlyRegs_setFlag (d : Dev) (a : Nat) (f : Fld) (b : Bool) (hf : f.lo + f.w ≤ 16) :
    d.onlyRegs (d.setFlag a f b) (· = a) := by
  refine ⟨fun k hk => Dev.rd_setFlag_ne d f b hf hk, ?_⟩
  simp only [Dev.setFlag, Dev.setFld, hf, ↓reduceIte]
  rfl

/-! ## Register writes -/

/-- A byte that its port may not write is refused and reported (R317). What the port holds stays, by the choice of log entry
146. -/
theorem registerWrite_port_refused {s : State} {p : Port} {a : BitVec 16} (b : Byte) (hp : s.dev.portsAnswer = true)
    (ha : s.dev.portMay p a.toNat = false) :
    Completes (.registerWrite (.port p) a b) s fun e =>
      e.flag (HP_STICKY p) HP_STICKY.NOTOWN = true ∧ e.rd (HP_REFCNT p) = satInc (s.dev.rd (HP_REFCNT p)) ∧
      (s.dev.flag (HP_STICKY p) HP_STICKY.NOTOWN = false → e.evtPending 20 = true) ∧
      s.dev.keepsRegs e (fun k => k = HP_STICKY p ∨ k = HP_REFCNT p) ∧ e.hush s.dev = s.dev := by
  refine completes_step1 _ (exec_registerWrite _ _ _ _) ?_
  rw [Dev.permit_port_refused _ _ hp ha]
  exact ⟨Dev.flag_refuseWrite _ p, Dev.rd_refuseWrite_count _ p, Dev.evtPending_refuseWrite _ p,
    Dev.keepsRegs_refuseWrite _ p, Dev.hush_refuseWrite _ p⟩

theorem registerWrite_port_silent {s : State} {p : Port} (a : BitVec 16) (b : Byte) (hp : s.dev.portsAnswer = false) :
    exec (.registerWrite (.port p) a b) s = .next s := by
  rw [exec_registerWrite, State.step1, Dev.permit_port_silent _ _ _ _ hp]

/-- A byte that a furrow may not write is ignored and sets WREF (R253). What the furrow holds stays, by the choice of log entry
146. -/
theorem registerWrite_furrow_refused {s : State} {f : Furrow} {a : BitVec 16} (b : Byte) (ha : furrowMay a.toNat = false) :
    exec (.registerWrite (.furrow f) a b) s = .next { s with dev := s.dev.setFlag KE_STICKY KE_STICKY.WREF true } := by
  rw [exec_registerWrite, State.step1, Dev.permit_furrow_refused _ _ _ ha]

section BytesInTurn

variable {s : State} {acc : Acc} {a : BitVec 16} (v : Word)

/-- The low byte is held; the high byte then writes the word (R6). -/
theorem registerWrite_low_then_high (hr : isReg a.toNat = true) (hv : valueOf acc a.toNat = (a.toNat, 2))
    (hv1 : valueOf acc (a.toNat + 1) = (a.toNat, 2)) (ha : a.toNat < 0xFFFF) (hm : s.dev.mayWrite acc a.toNat = true)
    (hm1 : s.dev.mayWrite acc (a.toNat + 1) = true) (hh : (s.dev.accSt acc).held = []) :
    Completes (.registerWrite acc a (loByte v)) s fun e =>
      e.regs = s.dev.regs ∧ (e.accSt acc).held = [(a.toNat, loByte v)] ∧ ({ e with accs := s.dev.accs } : Dev) = s.dev ∧
      Completes (.registerWrite acc (a + 1) (hiByte v)) { s with dev := e } fun e2 =>
        e2.regs = ((s.dev.modAcc acc fun x => { x with held := [] }).regWrite (some acc) a.toNat (v.setWidth 32)).2.regs := by
  have hn := toNat_succ_of_lt ha
  have hw : BitVec.ofNat 32 (valLE [loByte v, hiByte v]) = v.setWidth 32 := by
    rw [valLE_bytes_of_word, BitVec.ofNat_toNat]
  refine ⟨_, exec_registerWrite_of_mayWrite _ hm, ?_⟩
  rw [Dev.writeByte_low _ hr hv hh]
  refine ⟨rfl, by simp, rfl, _, exec_registerWrite_of_mayWrite _ (by rw [hn, Dev.mayWrite_modAcc]; exact hm1), ?_⟩
  rw [hn, Dev.writeByte_high_of_held (loByte v) _ hr hv1 (by simp), hw, Dev.dropHeld, Dev.modAcc_modAcc]

/-- A port's high byte with no low byte held sets HALF and does nothing else (R313). -/
theorem registerWrite_high_alone_port {p : Port} (hr : isReg a.toNat = true)
    (hv1 : valueOf (.port p) (a.toNat + 1) = (a.toNat, 2)) (ha : a.toNat < 0xFFFF)
    (hm1 : s.dev.mayWrite (.port p) (a.toNat + 1) = true) (hh : (s.dev.accSt (.port p)).held = []) :
    Completes (.registerWrite (.port p) (a + 1) (hiByte v)) s fun e =>
      e.flag (HP_STICKY p) HP_STICKY.HALF = true ∧ s.dev.onlyRegs e (fun k => k = HP_STICKY p) := by
  have hn := toNat_succ_of_lt ha
  refine ⟨_, exec_registerWrite_of_mayWrite _ (by rw [hn]; exact hm1), ?_⟩
  rw [hn, Dev.writeByte_high_unheld_port _ hr hv1 hh]
  exact ⟨Dev.flag_setFlag_same _ _ _ _ (by decide) (by decide), Dev.onlyRegs_setFlag _ _ _ _ (by decide)⟩

/-- A furrow's high byte with no low byte held does nothing (R6). -/
theorem registerWrite_high_alone_furrow {f : Furrow} (hr : isReg a.toNat = true)
    (hv1 : valueOf (.furrow f) (a.toNat + 1) = (a.toNat, 2)) (ha : a.toNat < 0xFFFF)
    (hm1 : s.dev.mayWrite (.furrow f) (a.toNat + 1) = true) (hh : (s.dev.accSt (.furrow f)).held = []) :
    exec (.registerWrite (.furrow f) (a + 1) (hiByte v)) s = .next s := by
  have hn := toNat_succ_of_lt ha
  rw [exec_registerWrite_of_mayWrite _ (by rw [hn]; exact hm1), hn, Dev.writeByte_high_unheld_furrow _ hr hv1 hh]

end BytesInTurn

/-- Settles O22: a refused byte leaves only its report, and the two bytes of a 16-bit register act together. -/
theorem registerWrites : Obligations.RegisterWrites := by
  unfold Obligations.RegisterWrites
  refine ⟨fun s p f a b => ⟨registerWrite_port_refused b, registerWrite_port_silent a b, registerWrite_furrow_refused b⟩,
    fun s acc a v _ hr hv hv1 ha hm hm1 hh => ⟨?_, ?_, ?_⟩⟩
  · exact registerWrite_low_then_high v hr hv hv1 ha hm hm1 hh
  · rintro p rfl
    exact registerWrite_high_alone_port v hr hv1 ha hm1 hh
  · rintro f rfl
    exact registerWrite_high_alone_furrow v hr hv1 ha hm1 hh

end Sys2Proof.Machine
end

section
/-!
What a Guard frame is seen by: the registers, pins and internal values that `Obligations.GuardFrames` speaks of. `Dev.frameView`
gathers them, and the laws below say which writes, events and records leave them as they are.
-/

namespace Sys2Proof.Machine

open Sys2Proof Sys2Proof.R

/-! ## The view -/

/-- The registers that a Guard frame reads its scales from, and those that show its results (R96, R98, R185). -/
def frameRegs : List Nat :=
  [BG_CFG, BG_VBUSDIV, BG_VBUS, BG_PTOT, BG_PMAX, BG_LAT, BG_MISSCNT, CHG_RSHUNT, CHG_VBATDIV, CHG_IBAT, CHG_VBAT] ++
    (List.finRange 4).flatMap fun c : Chan => [BG_RSHUNT c, BG_I c, BG_P c]

/-- A register that is none of these, and not BG_STATUS, which holds MEASFLT. -/
def frameFree (a : Nat) : Bool := decide (a ∉ frameRegs) && decide (a ≠ BG_STATUS)

/-- What is seen of a Guard frame. -/
structure FrameView where
  words : List Word
  measFlt : Bool
  on : BitVec 4
  codes : Vector (BitVec 12) 5
  ovrs : Vector Bool 5
  missed : Nat
  fdenLow : BitVec 4
  ofs : Vector Int 3

def Dev.frameView (d : Dev) : FrameView :=
  { words := frameRegs.map d.rd, measFlt := d.bgFlag BG_STATUS.MEASFLT, on := d.guard.on, codes := d.guard.codes,
    ovrs := d.guard.ovrs, missed := d.guard.missed, fdenLow := d.pins.fdenLow, ofs := d.chg.ofs }

section Reading

variable {d e : Dev} (h : e.frameView = d.frameView)
include h

theorem Dev.rd_of_frameView {a : Nat} (ha : a ∈ frameRegs) : e.rd a = d.rd a :=
  List.map_inj_left.mp (congrArg FrameView.words h) a ha

theorem Dev.on_of_frameView : e.guard.on = d.guard.on := congrArg FrameView.on h

end Reading

theorem mem_frameRegs_shunt (c : Chan) : BG_RSHUNT c ∈ frameRegs := by revert c; decide
theorem mem_frameRegs_current (c : Chan) : BG_I c ∈ frameRegs := by revert c; decide
theorem mem_frameRegs_power (c : Chan) : BG_P c ∈ frameRegs := by revert c; decide

theorem Dev.fld_of_rd {d e : Dev} {a : Nat} (f : Fld) (hf : f.lo + f.w ≤ 16) (h : e.rd a = d.rd a) :
    e.fld a f = d.fld a f := by
  simp only [Dev.fld, hf, ↓reduceIte, Dev.rn, h]

theorem Dev.bgFlag_of_rd {d e : Dev} (f : Fld) (hf : f.lo + f.w ≤ 16) (h : e.rd BG_STATUS = d.rd BG_STATUS) :
    e.bgFlag f = d.bgFlag f := by
  rw [Dev.bgFlag, Dev.flag, Dev.fld_of_rd f hf h]
  rfl

/-- The view is that of its registers, MEASFLT, the Guard, the pins and the corrections. -/
theorem Dev.frameView_of_rd {d e : Dev} (hw : ∀ a ∈ frameRegs, e.rd a = d.rd a)
    (hm : e.bgFlag BG_STATUS.MEASFLT = d.bgFlag BG_STATUS.MEASFLT) (hg : e.guard = d.guard)
    (hp : e.pins.fdenLow = d.pins.fdenLow) (hc : e.chg.ofs = d.chg.ofs) : e.frameView = d.frameView := by
  simp only [Dev.frameView, List.map_congr_left hw, hm, hg, hp, hc]

/-! ## Updates outside the register file -/

theorem Dev.frameView_congr {d e : Dev} (hr : e.regs = d.regs) (hg : e.guard = d.guard)
    (hp : e.pins.fdenLow = d.pins.fdenLow) (hc : e.chg.ofs = d.chg.ofs) : e.frameView = d.frameView := by
  have hrd (a : Nat) : e.rd a = d.rd a := by simp only [Dev.rd, hr]
  exact Dev.frameView_of_rd (fun a _ => hrd a) (Dev.bgFlag_of_rd _ (by decide) (hrd _)) hg hp hc

@[simp] theorem Dev.frameView_modChg (d : Dev) (g : ChgSt → ChgSt) (h : (g d.chg).ofs = d.chg.ofs) :
    (d.modChg g).frameView = d.frameView := Dev.frameView_congr rfl rfl rfl h

@[simp] theorem Dev.frameView_modGauge (d : Dev) (g : GaugeSt → GaugeSt) : (d.modGauge g).frameView = d.frameView := rfl
@[simp] theorem Dev.frameView_modLoop (d : Dev) (n : Loop) (g : LoopSt → LoopSt) :
    (d.modLoop n g).frameView = d.frameView := rfl
@[simp] theorem Dev.frameView_modLink (d : Dev) (k : Link) (g : LinkSt → LinkSt) :
    (d.modLink k g).frameView = d.frameView := rfl

/-- A change of the Guard that keeps its channels, its results and the count of missed frames. -/
@[simp] theorem Dev.frameView_modGuard (d : Dev) (g : GuardSt → GuardSt)
    (h : (g d.guard).on = d.guard.on ∧ (g d.guard).codes = d.guard.codes ∧ (g d.guard).ovrs = d.guard.ovrs ∧
      (g d.guard).missed = d.guard.missed) : (d.modGuard g).frameView = d.frameView := by
  obtain ⟨hon, hcodes, hovrs, hmissed⟩ := h
  show ({ d.frameView with on := (g d.guard).on, codes := (g d.guard).codes, ovrs := (g d.guard).ovrs,
                           missed := (g d.guard).missed } : FrameView) = _
  rw [hon, hcodes, hovrs, hmissed]
  rfl

/-! ## Writes of registers -/

theorem frameFree_iff {a : Nat} : frameFree a = true ↔ a ∉ frameRegs ∧ a ≠ BG_STATUS := by simp [frameFree]

@[simp] theorem Dev.frameView_wr (d : Dev) (a : Nat) (v : Word) (h : frameFree a = true) :
    (d.wr a v).frameView = d.frameView := by
  obtain ⟨hr, hs⟩ := frameFree_iff.mp h
  exact Dev.frameView_of_rd (fun b hb => Dev.rd_wr_ne d v fun e => hr (e ▸ hb))
    (Dev.bgFlag_of_rd _ (by decide) (Dev.rd_wr_ne d v hs.symm)) rfl rfl rfl

section Writes

variable (d : Dev) (a : Nat) (h : frameFree a = true)
include h

@[simp] theorem Dev.frameView_wn (v : Nat) : (d.wn a v).frameView = d.frameView := Dev.frameView_wr d a _ h
@[simp] theorem Dev.frameView_wi (v : Int) : (d.wi a v).frameView = d.frameView := Dev.frameView_wr d a _ h
@[simp] theorem Dev.frameView_bump : (d.bump a).frameView = d.frameView := Dev.frameView_wr d a _ h
@[simp] theorem Dev.frameView_bumpBy (n : Nat) : (d.bumpBy a n).frameView = d.frameView := Dev.frameView_wr d a _ h
@[simp] theorem Dev.frameView_bumpWrap : (d.bumpWrap a).frameView = d.frameView := Dev.frameView_wr d a _ h

@[simp] theorem Dev.frameView_wn32 (v : Nat) (h2 : frameFree (a + 2) = true) : (d.wn32 a v).frameView = d.frameView :=
  (Dev.frameView_wr _ _ _ h2).trans (Dev.frameView_wr d a _ h)

@[simp] theorem Dev.frameView_setFld (f : Fld) (v : Nat) (hf : f.lo + f.w ≤ 16) :
    (d.setFld a f v).frameView = d.frameView := by
  simp only [Dev.setFld, hf, ↓reduceIte]
  exact Dev.frameView_wn d a h _

@[simp] theorem Dev.frameView_setFlag (f : Fld) (b : Bool) (hf : f.lo + f.w ≤ 16) :
    (d.setFlag a f b).frameView = d.frameView :=
  Dev.frameView_setFld d a h f _ hf

end Writes

@[simp] theorem Dev.frameView_setMbit (d : Dev) (a i : Nat) (b : Bool) (h : frameFree (a + 2 * (i / 16)) = true) :
    (d.setMbit a i b).frameView = d.frameView := Dev.frameView_wr d _ _ h

@[simp] theorem Dev.frameView_zero (d : Dev) (as : List Nat) (h : ∀ a ∈ as, frameFree a = true) :
    (d.zero as).frameView = d.frameView := by
  induction as generalizing d with
  | nil => rfl
  | cons a as ih =>
    exact (ih (d.wr a 0) fun b hb => h b (List.mem_cons_of_mem _ hb)).trans
      (Dev.frameView_wr d a 0 (h a (List.mem_cons_self ..)))

/-! ## Other fields of BG_STATUS -/

/-- A field above or below one that is put reads as before. -/
theorem Fld.of_put_disjoint (f g : Fld) (w v : Nat) (h : g.lo + g.w ≤ f.lo ∨ f.lo + f.w ≤ g.lo) :
    g.of (f.put w v) = g.of w := by
  obtain ⟨lo, n⟩ := f
  obtain ⟨lo', n'⟩ := g
  have hsplit : w = w % 2 ^ lo + 2 ^ lo * (w / 2 ^ lo % 2 ^ n + 2 ^ n * (w / 2 ^ lo / 2 ^ n)) := by
    rw [Nat.mod_add_div, Nat.mod_add_div]
  have hput : Fld.put ⟨lo, n⟩ w v = w % 2 ^ lo + 2 ^ lo * (v % 2 ^ n + 2 ^ n * (w / 2 ^ lo / 2 ^ n)) := by
    have hd : w - w / 2 ^ lo % 2 ^ n * 2 ^ lo = w % 2 ^ lo + 2 ^ lo * (2 ^ n * (w / 2 ^ lo / 2 ^ n)) := by
      conv_lhs => lhs; rw [hsplit]
      rw [Nat.mul_add, Nat.mul_comm (2 ^ lo) (w / 2 ^ lo % 2 ^ n)]
      omega
    simp only [Fld.put, Fld.of, hd]
    ring
  obtain hlow | hhigh := h
  · have hmod : Fld.put ⟨lo, n⟩ w v % 2 ^ lo = w % 2 ^ lo := by
      rw [hput, Nat.add_mul_mod_self_left, Nat.mod_mod]
    have hof (x : Nat) : x / 2 ^ lo' % 2 ^ n' = x % 2 ^ lo % (2 ^ lo' * 2 ^ n') / 2 ^ lo' := by
      rw [Nat.mod_mod_of_dvd _ (by rw [← pow_add]; exact pow_dvd_pow 2 hlow), Nat.mod_mul_right_div_self]
    simp only [Fld.of]
    rw [hof, hof w, hmod]
  · have hdiv : Fld.put ⟨lo, n⟩ w v / 2 ^ lo / 2 ^ n = w / 2 ^ lo / 2 ^ n := by
      rw [hput, Nat.add_mul_div_left _ _ (by positivity), Nat.div_eq_of_lt (Nat.mod_lt _ (by positivity)), Nat.zero_add,
        Nat.add_mul_div_left _ _ (by positivity), Nat.div_eq_of_lt (Nat.mod_lt _ (by positivity)), Nat.zero_add]
    have hof (x : Nat) : x / 2 ^ lo' = x / 2 ^ lo / 2 ^ n / 2 ^ (lo' - (lo + n)) := by
      rw [Nat.div_div_eq_div_mul, Nat.div_div_eq_div_mul, ← pow_add, ← pow_add]
      congr 2
      simp only at hhigh
      omega
    simp only [Fld.of]
    rw [hof, hof w, hdiv]

/-- Fields of one word beside the one that is written read as before. -/
theorem Dev.fld_setFld_disjoint (d : Dev) (a : Nat) (f g : Fld) (v : Nat) (hf : f.lo + f.w ≤ 16) (hg : g.lo + g.w ≤ 16)
    (h : g.lo + g.w ≤ f.lo ∨ f.lo + f.w ≤ g.lo) : (d.setFld a f v).fld a g = d.fld a g := by
  have hlt := Fld.put_lt f (d.rn a) v 16 hf (d.rd a).isLt
  simp only [Dev.setFld, Dev.fld, hf, hg, ↓reduceIte, Dev.rn, Dev.rd_wn_same, BitVec.toNat_ofNat] at hlt ⊢
  rw [Nat.mod_eq_of_lt hlt, Fld.of_put_disjoint f g _ _ h]

/-- A field of BG_STATUS other than MEASFLT. -/
def statusFree (f : Fld) : Bool := decide (f.lo + f.w ≤ 16) && decide (f.lo + f.w ≤ 10 ∨ 11 ≤ f.lo)

@[simp] theorem Dev.frameView_setFld_status (d : Dev) (f : Fld) (v : Nat) (h : statusFree f = true) :
    (d.setFld BG_STATUS f v).frameView = d.frameView := by
  simp only [statusFree, Bool.and_eq_true, decide_eq_true_eq] at h
  obtain ⟨hf, hm⟩ := h
  have hne : ∀ a ∈ frameRegs, a ≠ BG_STATUS := by decide
  refine Dev.frameView_of_rd (fun a ha => Dev.rd_setFld_ne d f v hf (hne a ha)) ?_ (by simp) (by simp) (by simp)
  rw [Dev.bgFlag, Dev.flag, Dev.fld_setFld_disjoint d BG_STATUS f BG_STATUS.MEASFLT v hf (by decide) hm.symm]
  rfl

@[simp] theorem Dev.frameView_setBgFlag (d : Dev) (f : Fld) (b : Bool) (h : statusFree f = true) :
    (d.setBgFlag f b).frameView = d.frameView := Dev.frameView_setFld_status d f _ h

@[simp] theorem Dev.frameView_setBgState (d : Dev) (v : Nat) : (d.setBgState v).frameView = d.frameView :=
  Dev.frameView_setFld_status d _ v (by decide)

@[simp] theorem Dev.frameView_bgSticky (d : Dev) (f : Fld) (hf : f.lo + f.w ≤ 16) : (d.bgSticky f).frameView = d.frameView :=
  Dev.frameView_setFlag d _ (by decide) f true hf

/-! ## Conditional and repeated steps, events and records -/

@[simp] theorem Dev.frameView_when (d : Dev) (b : Bool) (f : Dev → Dev) (h : ∀ e : Dev, (f e).frameView = e.frameView) :
    (d.when b f).frameView = d.frameView := by
  unfold Dev.when
  split
  · exact h d
  · rfl

theorem Dev.frameView_foldl {α : Type} (f : Dev → α → Dev) (l : List α) (d : Dev)
    (h : ∀ (e : Dev) (x : α), (f e x).frameView = e.frameView) : (l.foldl f d).frameView = d.frameView := by
  induction l generalizing d with
  | nil => rfl
  | cons x l ih => exact (ih _).trans (h d x)

theorem frameRegs_quiet : ∀ a ∈ frameRegs, evtReg a = false := by decide

theorem frameFree_of_evtReg {a : Nat} (h : evtReg a = true) : frameFree a = true := by
  refine frameFree_iff.mpr ⟨fun ha => ?_, ?_⟩
  · rw [frameRegs_quiet a ha] at h
    cases h
  · rintro rfl
    revert h
    decide

theorem frameView_closed : RaiseClosed fun d e => e.frameView = d.frameView where
  refl _ := rfl
  trans h1 h2 := h2.trans h1
  recorder _ _ := rfl
  nvCount _ _ _ := rfl
  nvBytes _ _ _ := rfl
  nvWrite _ _ _ := rfl
  queue _ _ _ := rfl
  wr d a v h _ := Dev.frameView_wr d a v (frameFree_of_evtReg h)
  stat d _ h := Dev.frameView_setMbit d _ _ _ (frameFree_of_evtReg (evtReg_stat h))

@[simp] theorem Dev.frameView_raise (d : Dev) {e : Nat} (h : e < 256) : (d.raise e).frameView = d.frameView :=
  frameView_closed.raise d h
theorem Dev.frameView_raiseAll (d : Dev) {es : List Nat} (h : ∀ e ∈ es, e < 256) :
    (d.raiseAll es).frameView = d.frameView :=
  frameView_closed.raiseAll d es h
@[simp] theorem Dev.frameView_record (d : Dev) (type arg : Byte) (data : List Byte) :
    (d.record type arg data).frameView = d.frameView := frameView_closed.record d type arg data

end Sys2Proof.Machine
end

section
/-!
The charger, the drill, the hopper's completions and the links change nothing of what is seen of a Guard frame.
-/

namespace Sys2Proof.Machine

open Sys2Proof Sys2Proof.R

/-! ## Registers of the other blocks -/

@[simp] theorem frameFree_CHG_STATUS : frameFree CHG_STATUS = true := by decide
@[simp] theorem frameFree_CHG_ILIM : frameFree CHG_ILIM = true := by decide
@[simp] theorem frameFree_GG_STATUS : frameFree GG_STATUS = true := by decide
@[simp] theorem frameFree_CFG_DSTATE : frameFree CFG_DSTATE = true := by decide
@[simp] theorem frameFree_SEQ_STATUS : frameFree SEQ_STATUS = true := by decide
@[simp] theorem frameFree_SEQ_RSTATE : ∀ r : Rail, frameFree (SEQ_RSTATE r) = true := by decide
@[simp] theorem frameFree_SEQ_GOOD : ∀ r : Rail, frameFree (SEQ_GOOD + 2 * (r.val / 16)) = true := by decide
@[simp] theorem frameFree_SEQ_SHED : ∀ r : Rail, frameFree (SEQ_SHED + 2 * (r.val / 16)) = true := by decide
@[simp] theorem frameFree_SEQ_FAILED : ∀ r : Rail, frameFree (SEQ_FAILED + 2 * (r.val / 16)) = true := by decide
@[simp] theorem frameFree_SEQ_RAILON : ∀ r : Rail, frameFree (SEQ_RAILON + 2 * (r.val / 16)) = true := by decide
@[simp] theorem frameFree_SEQ_RSTSTAT : ∀ n : RstOut, frameFree (SEQ_RSTSTAT + 2 * (n.val / 16)) = true := by decide
@[simp] theorem frameFree_SEQ_RSTSTAT_owed :
    ∀ n : RstOut, frameFree (SEQ_RSTSTAT + 2 * ((8 + n.val) / 16)) = true := by decide
@[simp] theorem frameFree_LP_STATUS : ∀ n : Loop, frameFree (LP_STATUS n) = true := by decide
@[simp] theorem frameFree_VL_STATUS : ∀ k : Link, frameFree (VL_STATUS k) = true := by decide
@[simp] theorem frameFree_VL_THRSTAT : ∀ k : Link, frameFree (VL_THRSTAT k) = true := by decide
@[simp] theorem frameFree_HOP_FNDRAIN : ∀ n : Fin 32, frameFree (HOP_FNDRAIN + 2 * (n.val / 16)) = true := by decide

/-! ## The charger (R188 to R206) -/

@[simp] theorem Dev.frameView_takeTimes (d : Dev) : d.takeTimes.frameView = d.frameView :=
  Dev.frameView_congr rfl rfl rfl rfl
@[simp] theorem Dev.frameView_stageMid (d : Dev) : d.stageMid.frameView = d.frameView :=
  Dev.frameView_congr rfl rfl rfl rfl
@[simp] theorem Dev.frameView_applyStage (d : Dev) : d.applyStage.frameView = d.frameView :=
  Dev.frameView_congr rfl rfl rfl rfl
@[simp] theorem Dev.frameView_lampSync (d : Dev) : d.lampSync.frameView = d.frameView :=
  Dev.frameView_congr rfl rfl rfl rfl
@[simp] theorem Dev.frameView_highRate (d : Dev) : d.highRate.frameView = d.frameView := by simp [Dev.highRate]

@[simp] theorem ChgSt.ofs_steer (x : ChgSt) (was m : Nat) : (x.steer was m).ofs = x.ofs := by
  unfold ChgSt.steer
  dsimp only
  split
  · rfl
  · split
    · split <;> rfl
    · rfl

@[simp] theorem Dev.frameView_restAnew (d : Dev) : d.restAnew.frameView = d.frameView := by
  unfold Dev.restAnew
  split <;> rfl

@[simp] theorem Dev.frameView_setMode (d : Dev) (m : Nat) : (d.setMode m).frameView = d.frameView := by
  simp [Dev.setMode]

@[simp] theorem Dev.frameView_setPhase (d : Dev) (p : Nat) : (d.setPhase p).frameView = d.frameView := by
  simp [Dev.setPhase]

@[simp] theorem Dev.frameView_startCycle (d : Dev) (keep : Bool) {event : Nat} (h : event < 256) :
    (d.startCycle keep event).frameView = d.frameView := by
  have hz : ∀ a ∈ [CHG_TEQ, CHG_TEQ + 2, CHG_TWALL, CHG_TWALL + 2], frameFree a = true := by decide
  simp [Dev.startCycle, h, Dev.frameView_zero _ _ hz]

@[simp] theorem Dev.frameView_stageDown (d : Dev) : d.stageDown.frameView = d.frameView := by
  simp [Dev.stageDown]

theorem Dev.openEvt_lt (d : Dev) : ∀ e ∈ d.openEvt, e < 256 := by
  unfold Dev.openEvt
  split <;> simp

@[simp] theorem Dev.frameView_stageOff (d : Dev) : d.stageOff.frameView = d.frameView := by
  rw [Dev.stageOff, Dev.frameView_raiseAll _ d.openEvt_lt, Dev.frameView_stageDown]

@[simp] theorem Dev.frameView_setBatfet (d : Dev) (b : Bool) : (d.setBatfet b).frameView = d.frameView := by
  unfold Dev.setBatfet
  split
  · rfl
  · cases b <;> simp

@[simp] theorem Dev.frameView_chgUpdate (d : Dev) : d.chgUpdate.frameView = d.frameView := by
  unfold Dev.chgUpdate
  split
  · rfl
  · simp

@[simp] theorem Dev.frameView_stageAssist (d : Dev) : d.stageAssist.frameView = d.frameView := by
  unfold Dev.stageAssist
  split
  · simp
  · rfl

@[simp] theorem Dev.frameView_stageRelease (d : Dev) : d.stageRelease.frameView = d.frameView := by
  unfold Dev.stageRelease
  split
  · simp
  · rfl

@[simp] theorem Dev.frameView_stageHandover (d : Dev) (possible : Bool) :
    (d.stageHandover possible).frameView = d.frameView := by
  unfold Dev.stageHandover
  split
  · simp
  · split <;> simp

/-! ## Completion of items (R296 to R301) -/

@[simp] theorem Dev.frameView_overrun (d : Dev) (r : Fin 4) : (d.overrun r).frameView = d.frameView := by
  unfold Dev.overrun
  split
  · rw [Dev.frameView_bumpBy _ _ (by decide), Dev.frameView_setFlag _ _ (by decide) _ _ (by decide)]
    exact Dev.frameView_congr rfl rfl rfl rfl
  · rfl

@[simp] theorem Dev.frameView_pushCompletion (d : Dev) (c : Completion) : (d.pushCompletion c).frameView = d.frameView := by
  unfold Dev.pushCompletion
  rw [Dev.frameView_raiseAll, Dev.frameView_overrun, Dev.frameView_overrun, Dev.frameView_overrun, Dev.frameView_overrun,
    Dev.frameView_bumpWrap _ _ (by decide)]
  · exact Dev.frameView_congr rfl rfl rfl rfl
  · intro e he
    simp only [List.mem_cons, List.mem_map] at he
    obtain rfl | ⟨_, _, rfl⟩ := he <;> decide

@[simp] theorem Dev.frameView_completeOne (d : Dev) (tag : Tag) (status : Nat) (result : BitVec 64) :
    (d.completeOne tag status result).frameView = d.frameView := by
  unfold Dev.completeOne
  split
  · rfl
  · rw [Dev.frameView_pushCompletion, Dev.frameView_when _ _ _ fun e => by simp, Dev.syncHop,
      Dev.frameView_setFld _ _ (by decide) _ _ (by decide)]
    exact Dev.frameView_congr rfl rfl rfl rfl

@[simp] theorem Dev.frameView_settleDrains (d : Dev) : d.settleDrains.frameView = d.frameView := by
  refine Dev.frameView_foldl _ _ _ fun e x => ?_
  split
  · rfl
  · rw [Dev.frameView_completeOne, Dev.frameView_setMbit _ _ _ _ (frameFree_HOP_FNDRAIN _)]
    exact Dev.frameView_congr rfl rfl rfl rfl

@[simp] theorem Dev.frameView_complete (d : Dev) (tag : Tag) (status : Nat) (result : BitVec 64) :
    (d.complete tag status result).frameView = d.frameView := by simp [Dev.complete]

/-! ## The drill (R126 to R147) -/

@[simp] theorem Dev.frameView_setOffDue (d : Dev) (r : Rail) (b : Bool) : (d.setOffDue r b).frameView = d.frameView :=
  Dev.frameView_congr rfl rfl rfl rfl
@[simp] theorem Dev.frameView_setLossOnly (d : Dev) (r : Rail) (b : Bool) : (d.setLossOnly r b).frameView = d.frameView :=
  Dev.frameView_congr rfl rfl rfl rfl
@[simp] theorem Dev.frameView_setElapsedRail (d : Dev) (r : Rail) (b : Bool) :
    (d.setElapsedRail r b).frameView = d.frameView := Dev.frameView_congr rfl rfl rfl rfl
@[simp] theorem Dev.frameView_setXen (d : Dev) (r : Rail) (b : Bool) : (d.setXen r b).frameView = d.frameView :=
  Dev.frameView_congr rfl rfl rfl rfl
theorem Dev.frameView_drill (d : Dev) (x : DrillSt) : ({ d with drill := x } : Dev).frameView = d.frameView :=
  Dev.frameView_congr rfl rfl rfl rfl

@[simp] theorem Dev.frameView_abandonNewt (d : Dev) : d.abandonNewt.frameView = d.frameView := by
  unfold Dev.abandonNewt
  split
  · simp
  · rfl

@[simp] theorem Dev.frameView_syncDevice (d : Dev) : d.syncDevice.frameView = d.frameView := by
  unfold Dev.syncDevice
  dsimp only
  split
  · simp
  · split
    · simp
    · rfl

@[simp] theorem Dev.frameView_setRailOn (d : Dev) (r : Rail) (b : Bool) : (d.setRailOn r b).frameView = d.frameView := by
  simp [Dev.setRailOn]

@[simp] theorem Dev.frameView_setRstate (d : Dev) (r : Rail) (st : Nat) : (d.setRstate r st).frameView = d.frameView := by
  simp [Dev.setRstate]

@[simp] theorem Dev.frameView_setDs (d : Dev) (v : Nat) : (d.setDs v).frameView = d.frameView := by
  unfold Dev.setDs
  rw [Dev.frameView_when _ _ _ Dev.frameView_lampSync, Dev.frameView_setFld _ _ (by decide) _ _ (by decide)]
  split
  · exact Dev.frameView_wn32 _ _ (by decide) _ (by decide)
  · rfl

@[simp] theorem Dev.frameView_rstStep (d : Dev) (n : RstOut) : (d.rstStep n).2.frameView = d.frameView := by
  unfold Dev.rstStep
  rw [Dev.frameView_setMbit _ _ _ _ (frameFree_SEQ_RSTSTAT_owed n), Dev.frameView_setMbit _ _ _ _ (frameFree_SEQ_RSTSTAT n)]
  exact Dev.frameView_congr rfl rfl rfl rfl

theorem Dev.rstStep_lt (d : Dev) (n : RstOut) : ∀ e ∈ (d.rstStep n).1, e < 256 := by
  intro e he
  have hn : e ∈ [140 + n.val] := (List.mem_ite_nil_left.mp he).2
  rw [List.mem_singleton.mp hn]
  omega

/-- One reset output follows its rails, after others whose events are gathered. -/
def rstGather (x : List Nat × Dev) (n : RstOut) : List Nat × Dev := (x.1 ++ (x.2.rstStep n).1, (x.2.rstStep n).2)

theorem Dev.rstSync_eq (d : Dev) : d.rstSync = if !d.blocksRun then d else
    ((List.finRange 8).foldl rstGather ([], d)).2.raiseAll ((List.finRange 8).foldl rstGather ([], d)).1 := rfl

theorem frameView_foldl_rstGather (ns : List RstOut) (x : List Nat × Dev) :
    (ns.foldl rstGather x).2.frameView = x.2.frameView := by
  induction ns generalizing x with
  | nil => rfl
  | cons n ns ih => exact (ih _).trans (Dev.frameView_rstStep x.2 n)

theorem foldl_rstGather_lt (ns : List RstOut) (x : List Nat × Dev) (hx : ∀ e ∈ x.1, e < 256) :
    ∀ e ∈ (ns.foldl rstGather x).1, e < 256 := by
  induction ns generalizing x with
  | nil => exact hx
  | cons n ns ih => exact ih _ fun e he => (List.mem_append.mp he).elim (hx e) (Dev.rstStep_lt _ n e)

@[simp] theorem Dev.frameView_rstSync (d : Dev) : d.rstSync.frameView = d.frameView := by
  rw [Dev.rstSync_eq]
  split
  · rfl
  · rw [Dev.frameView_raiseAll _ (foldl_rstGather_lt _ _ (by simp)), frameView_foldl_rstGather]

@[simp] theorem Dev.frameView_preoff (d : Dev) (touched : Rail → Bool) : (d.preoff touched).frameView = d.frameView :=
  (Dev.frameView_rstSync _).trans (Dev.frameView_drill d _)

@[simp] theorem Dev.frameView_preoffEnd (d : Dev) : d.preoffEnd.frameView = d.frameView :=
  (Dev.frameView_rstSync _).trans (Dev.frameView_drill d _)

@[simp] theorem Dev.frameView_endItems (d : Dev) (f : Nat → Option Nat) : (d.endItems f).frameView = d.frameView := by
  unfold Dev.endItems
  dsimp only
  split
  · rfl
  · refine Dev.frameView_foldl _ _ _ fun e t => ?_
    split
    · exact Dev.frameView_complete _ _ _ _
    · rfl

@[simp] theorem Dev.frameView_cutLoop (d : Dev) (n : Loop) : (d.cutLoop n).frameView = d.frameView := by
  unfold Dev.cutLoop
  split
  · rfl
  · simp

@[simp] theorem Dev.frameView_cutRail (d : Dev) (r : Rail) : (d.cutRail r).frameView = d.frameView := by
  unfold Dev.cutRail
  dsimp only
  split <;> simp

@[simp] theorem Dev.frameView_markShed (d : Dev) (r : Rail) : (d.markShed r).frameView = d.frameView := by
  simp [Dev.markShed]

/-- Rails that a condition picks take a state. -/
theorem Dev.frameView_setRstates (d : Dev) (rs : List Rail) (p : Dev → Rail → Prop) [∀ e r, Decidable (p e r)]
    (st : Nat) :
    (rs.foldl (fun d r => if p d r then d.setRstate r st else d) d).frameView = d.frameView := by
  refine Dev.frameView_foldl _ _ _ fun e r => ?_
  split
  · exact Dev.frameView_setRstate e r st
  · rfl

@[simp] theorem Dev.frameView_endDown (d : Dev) : d.endDown.frameView = d.frameView := by
  unfold Dev.endDown
  rw [Dev.frameView_endItems, Dev.frameView_raise _ (by decide), Dev.frameView_drill, Dev.frameView_preoffEnd,
    Dev.frameView_setDs]
  exact Dev.frameView_setRstates d rails (fun d r => d.rstate r = rsShed) rsOff

@[simp] theorem Dev.frameView_endFault (d : Dev) : d.endFault.frameView = d.frameView := by
  unfold Dev.endFault
  rw [Dev.frameView_endItems, Dev.frameView_raise _ (by decide), Dev.frameView_drill, Dev.frameView_preoffEnd,
    Dev.frameView_setDs]

@[simp] theorem Dev.frameView_startDown (d : Dev) : d.startDown.frameView = d.frameView := by
  unfold Dev.startDown
  rw [Dev.frameView_preoff, Dev.frameView_setDs, Dev.frameView_drill]
  exact Dev.frameView_foldl _ _ _ fun e r => Dev.frameView_setOffDue e r true

@[simp] theorem Dev.frameView_checkUp (d : Dev) : d.checkUp.frameView = d.frameView := by
  have hswitched (x : DrillSt) : ((({ d.setDs drUp with drill := x } : Dev).preoffEnd.raise 130).endItems
      (onlyCode 0x12 0)).frameView = d.frameView := by
    rw [Dev.frameView_endItems, Dev.frameView_raise _ (by decide), Dev.frameView_preoffEnd, Dev.frameView_drill,
      Dev.frameView_setDs]
  unfold Dev.checkUp
  dsimp only
  split
  · rfl
  · split
    · simp
    · split
      · split
        · split
          · exact (Dev.frameView_endDown _).trans ((Dev.frameView_startDown _).trans
              ((Dev.frameView_drill _ _).trans (hswitched _)))
          · exact (Dev.frameView_startDown _).trans ((Dev.frameView_drill _ _).trans (hswitched _))
        · exact hswitched _
      · rfl

@[simp] theorem Dev.frameView_startPhase2 (d : Dev) : d.startPhase2.frameView = d.frameView := by
  unfold Dev.startPhase2
  rw [Dev.frameView_checkUp, Dev.frameView_rstSync]
  refine (Dev.frameView_setRstates _ rails (fun e r => (e.inMask d.targetNow r &&
    (e.rstate r = rsOff || e.rstate r = rsShed)) = true) rsWaiting).trans ?_
  rw [Dev.frameView_drill, Dev.frameView_setFld _ _ (by decide) _ _ (by decide)]

@[simp] theorem Dev.frameView_checkDown (d : Dev) : d.checkDown.frameView = d.frameView := by
  unfold Dev.checkDown
  split
  · split <;> simp
  · split
    · split <;> simp
    · split
      · split <;> simp
      · rfl

@[simp] theorem Dev.frameView_railFallen (d : Dev) (r : Rail) : (d.railFallen r).frameView = d.frameView := by
  simp [Dev.railFallen]

@[simp] theorem Dev.frameView_checkFallen (d : Dev) (r : Rail) : (d.checkFallen r).frameView = d.frameView := by
  unfold Dev.checkFallen
  split <;> simp

@[simp] theorem Dev.frameView_shedRail (d : Dev) (r : Rail) : (d.shedRail r).frameView = d.frameView := by
  unfold Dev.shedRail
  split
  · rfl
  · simp

@[simp] theorem Dev.frameView_startShed (d : Dev) : d.startShed.frameView = d.frameView := by
  unfold Dev.startShed
  dsimp only
  split
  · exact Dev.frameView_foldl _ _ _ Dev.frameView_shedRail
  · split
    · rfl
    · rw [Dev.frameView_shedRail, Dev.frameView_drill]

/-! ## Links (R106, R107) -/

@[simp] theorem Dev.frameView_setReq (d : Dev) (k : Link) (v : Nat) : (d.setReq k v).frameView = d.frameView := by
  unfold Dev.setReq
  split
  · rfl
  · simp [Dev.vlSetBits, Dev.syncAttn]

end Sys2Proof.Machine
end

section
/-!
The parts of a Guard frame, and the last of them: what the tiers, a hand-over or the return decide (R99 to R114) leaves what is
seen of the frame as it is.
-/

namespace Sys2Proof.Machine

open Sys2Proof Sys2Proof.R

/-! ## Decisions of a frame keep the view (R99 to R114) -/

@[simp] theorem frameFree_BG_FEEDSTAT : frameFree BG_FEEDSTAT = true := by decide
@[simp] theorem frameFree_BG_CEIL : frameFree BG_CEIL = true := by decide
@[simp] theorem frameFree_BG_DEFICIT : frameFree BG_DEFICIT = true := by decide
@[simp] theorem frameFree_BG_T2CNT : frameFree BG_T2CNT = true := by decide
@[simp] theorem frameFree_BG_HOCNT : frameFree BG_HOCNT = true := by decide
@[simp] theorem frameFree_BG_OVERCNT : frameFree BG_OVERCNT = true := by decide
@[simp] theorem frameFree_BG_TRIM : frameFree BG_TRIM = true := by decide

@[simp] theorem Dev.frameView_setAssist (d : Dev) (a : Int) : (d.setAssist a).frameView = d.frameView := by
  simp [Dev.setAssist]

@[simp] theorem Dev.frameView_setLostN (d : Dev) (cs : List Chan) : (d.setLostN cs).frameView = d.frameView := by
  simp [Dev.setLostN]

@[simp] theorem Dev.frameView_addLostN (d : Dev) (c : Chan) : (d.addLostN c).frameView = d.frameView := by
  have hc : ∀ c : Chan, frameFree (BG_FEEDSTAT + 2 * ((8 + c.val) / 16)) = true := by decide
  exact Dev.frameView_setMbit _ _ _ _ (hc c)

@[simp] theorem Dev.frameView_raiseReq (d : Dev) (k : Link) (v : Nat) : (d.raiseReq k v).frameView = d.frameView := by
  simp [Dev.raiseReq]

@[simp] theorem Dev.frameView_syncNopack (d : Dev) : d.syncNopack.frameView = d.frameView := by
  simp [Dev.syncNopack, statusFree]

@[simp] theorem Dev.frameView_syncReslock (d : Dev) : d.syncReslock.frameView = d.frameView := by
  unfold Dev.syncReslock
  dsimp only
  split
  · simp [statusFree]
  · split
    · simp [statusFree]
    · rfl

@[simp] theorem Dev.frameView_syncQual (d : Dev) : d.syncQual.frameView = d.frameView := by
  simp [Dev.syncQual, statusFree]

@[simp] theorem Dev.frameView_handover (d : Dev) : d.handover.frameView = d.frameView := by
  have hthrottle (e : Dev) (p : Prop) [Decidable p] :
      (if p then e.t3Links.foldl (fun (d : Dev) k => d.raiseReq k 3) e else e).frameView = e.frameView := by
    split
    · exact Dev.frameView_foldl _ _ _ fun d k => Dev.frameView_raiseReq d k 3
    · rfl
  simp [Dev.handover, hthrottle, statusFree]

@[simp] theorem Dev.frameView_enterAssist (d : Dev) (a : Int) : (d.enterAssist a).frameView = d.frameView := by
  simp [Dev.enterAssist, statusFree]

@[simp] theorem Dev.frameView_leaveAssist (d : Dev) : d.leaveAssist.frameView = d.frameView := by
  simp [Dev.leaveAssist, statusFree]

@[simp] theorem Dev.frameView_countOver (d : Dev) (ptot a : Int) : (d.countOver ptot a).frameView = d.frameView := by
  unfold Dev.countOver
  split <;> simp

@[simp] theorem Dev.frameView_updateRoom (d : Dev) (ptot a : Int) : (d.updateRoom ptot a).frameView = d.frameView := by
  simp [Dev.updateRoom]

@[simp] theorem Dev.frameView_tier2 (d : Dev) : d.tier2.frameView = d.frameView := by
  unfold Dev.tier2
  dsimp only
  split
  · split
    · simp
    · split
      · simp
      · split
        · split <;> simp
        · simp
  · split
    · simp
    · rfl

@[simp] theorem Dev.frameView_updateDeficit (d : Dev) : d.updateDeficit.frameView = d.frameView := by
  simp [Dev.updateDeficit]

@[simp] theorem Dev.frameView_tier1 (d : Dev) : d.tier1.frameView = d.frameView := by
  simp [Dev.tier1, statusFree]

@[simp] theorem Dev.frameView_feedReturn (d : Dev) : d.feedReturn.frameView = d.frameView := by
  unfold Dev.feedReturn
  rw [Dev.frameView_raise _ (by decide)]
  split <;> simp

@[simp] theorem Dev.frameView_returnFrame (d : Dev) : d.returnFrame.frameView = d.frameView := by
  unfold Dev.returnFrame
  dsimp only
  split
  · split <;> simp
  · simp

/-! ## The parts of a frame -/

/-- The frame up to its results: the Guard's start, the channels and the FDENn pins (R110, R121). -/
def Dev.frameStart (d : Dev) : Dev :=
  ((d.when (d.bgState = bgOff && !d.bgFlag BG_STATUS.CFGERR) Dev.guardStart).takeChannels).syncFden

/-- What the tiers decide in NORMAL, a hand-over, or a step of the return (R99 to R114). -/
def Dev.frameDecide (d : Dev) (x : GuardFrame) : Dev :=
  if d.frameComplete x && decide (d.rn BG_VBUS < d.rn BG_BUSLOSS) && d.mayHandover then d.handover
  else if d.bgState = bgReturn then (if d.bgFlag BG_STATUS.MEASFLT then d else d.returnFrame)
  else if d.bgState = bgNormal then (if d.bgFlag BG_STATUS.MEASFLT then d else d.tier2.updateDeficit).tier1
  else d

/-- The frame after its telemetry and the count of missed frames. -/
def Dev.frameRest (d : Dev) (x : GuardFrame) (ptot a : Int) : Dev :=
  if d.bgState = bgOff then d
  else (((((d.countOver ptot a).updateRoom ptot a).syncReslock).syncNopack).frameDecide x).syncQual.chgUpdate

/-- The frame up to the count of missed frames. -/
def Dev.frameTaken (d : Dev) (x : GuardFrame) : Dev := (((d.frameStart.storeGuard x).frameTelemetry x).2).countMissed x

theorem Dev.guardFrame_eq (d : Dev) (x : GuardFrame) (hrun : d.blocksRun = true) (hstart : d.guard.started = true)
    (hcalm : d.clock.switching ≠ some .tb) :
    d.guardFrame x = (d.frameTaken x).frameRest x ((d.frameStart.storeGuard x).frameTelemetry x).1.1
      ((d.frameStart.storeGuard x).frameTelemetry x).1.2 := by
  have h : ¬(!(d.blocksRun && d.guard.started) || decide (d.clock.switching = some .tb)) = true := by
    simp [hrun, hstart, hcalm]
  rw [Dev.guardFrame, if_neg h]
  rfl

theorem Dev.guardFrame_of_switching (d : Dev) (x : GuardFrame) (h : d.clock.switching = some .tb) : d.guardFrame x = d := by
  simp [Dev.guardFrame, h]

@[simp] theorem Dev.frameView_frameDecide (d : Dev) (x : GuardFrame) : (d.frameDecide x).frameView = d.frameView := by
  unfold Dev.frameDecide
  split
  · simp
  · split
    · split <;> simp
    · split
      · split <;> simp
      · rfl

@[simp] theorem Dev.frameView_frameRest (d : Dev) (x : GuardFrame) (ptot a : Int) :
    (d.frameRest x ptot a).frameView = d.frameView := by
  unfold Dev.frameRest
  split
  · rfl
  · simp

end Sys2Proof.Machine
end

section
/-!
The start of a Guard frame and its results: the channels and FDENn (R110, R121), and the codes that the frame brings (R96, R98).
-/

namespace Sys2Proof.Machine

open Sys2Proof Sys2Proof.R

/-! ## Channels and the start of a frame (R110, R121) -/

/-- A channel that BG_CFG has fitted and enabled, and all of them as a mask. -/
def Dev.wanted (d : Dev) (c : Chan) : Bool := d.fitted c && !natBit (d.fld BG_CFG BG_CFG.CHDIS) c.val
def Dev.wantedMask (d : Dev) : BitVec 4 := BitVec.ofNat 4 (maskOf ((List.finRange 4).filter d.wanted))

theorem Dev.takeChannels_eq (d : Dev) : d.takeChannels = d.modGuard fun g => { g with on := d.wantedMask } := rfl

theorem getLsbD_maskOf (p : Chan → Bool) (c : Chan) :
    (BitVec.ofNat 4 (maskOf ((List.finRange 4).filter p))).getLsbD c.val = p c := by
  have hlist : List.finRange 4 = [0, 1, 2, 3] := by decide
  have hbits : ∀ b0 b1 b2 b3 : Bool, (BitVec.ofNat 4 (maskOf
      ([0, 1, 2, 3].filter fun i : Chan => #v[b0, b1, b2, b3][i]))).getLsbD c.val = #v[b0, b1, b2, b3][c] := by
    revert c
    decide
  have hp : p = fun i : Chan => #v[p 0, p 1, p 2, p 3][i] := by
    funext i
    fin_cases i <;> rfl
  have h := hbits (p 0) (p 1) (p 2) (p 3)
  rw [← hlist] at h
  conv_rhs => rw [hp]
  conv_lhs => rw [hp]
  exact h

theorem Dev.getLsbD_wantedMask (d : Dev) (c : Chan) : d.wantedMask.getLsbD c.val = d.wanted c := getLsbD_maskOf d.wanted c

theorem Dev.wanted_of_rd {d e : Dev} (h : e.rd BG_CFG = d.rd BG_CFG) : e.wanted = d.wanted := by
  funext c
  rw [Dev.wanted, Dev.fitted, Dev.fld_of_rd _ (by decide) h, Dev.fld_of_rd _ (by decide) h]
  rfl

theorem Dev.wantedMask_of_words {d e : Dev} (h : e.frameView.words = d.frameView.words) : e.wantedMask = d.wantedMask := by
  rw [Dev.wantedMask, Dev.wantedMask, Dev.wanted_of_rd (List.map_inj_left.mp h BG_CFG (by decide))]

theorem Dev.frameView_takeChannels (d : Dev) : d.takeChannels.frameView = { d.frameView with on := d.wantedMask } := rfl

theorem Dev.frameView_syncFden (d : Dev) : d.syncFden.frameView = { d.frameView with fdenLow := ~~~d.guard.on } := rfl

/-- A word without MEASFLT put in BG_STATUS. -/
theorem Dev.frameView_wn_status (d : Dev) (w : Nat) (hw : w < 2 ^ 16 ∧ BG_STATUS.MEASFLT.of w = 0) :
    (d.wn BG_STATUS w).frameView = { d.frameView with measFlt := false } := by
  obtain ⟨hlt, hoff⟩ := hw
  have hne : ∀ a ∈ frameRegs, a ≠ BG_STATUS := by decide
  have hwords : frameRegs.map (d.wn BG_STATUS w).rd = frameRegs.map d.rd :=
    List.map_congr_left fun a ha => Dev.rd_wn_ne d w (hne a ha)
  have hrn : (d.wn BG_STATUS w).rn BG_STATUS = w := by
    rw [Dev.rn, Dev.rd_wn_same, BitVec.toNat_ofNat, Nat.mod_eq_of_lt hlt]
  have hfld : (d.wn BG_STATUS w).fld BG_STATUS BG_STATUS.MEASFLT = 0 := by
    rw [Dev.fld, if_pos (by decide), hrn, hoff]
  simp [Dev.frameView, hwords, Dev.bgFlag, Dev.flag, hfld]

/-- The Guard's start in three parts: the reset of its state, the channels, and NORMAL or a hand-over (R110, R119, R122). -/
def Dev.guardReset (d : Dev) : Dev :=
  ((d.modGuard fun g =>
    { g with started := true, framed := false, room := 0, trim := 0, ceilHeld := false, assist := 0, missed := 0,
             overRun := 0, breached := false }).wn BG_STATUS (if d.bgFlag BG_STATUS.CFGERR then 0x4000 else 0)).zero
    [BG_CEIL, BG_DEFICIT]
def Dev.guardBegin (d : Dev) : Dev :=
  if d.bgFlag BG_STATUS.CFGERR then d
  else
    let d := (d.setBgState bgNormal).syncNopack
    let d := d.lostChannels.foldl Dev.addLostN d
    d.when d.feedLost Dev.handover

theorem Dev.guardStart_eq (d : Dev) : d.guardStart = d.guardReset.takeChannels.guardBegin := rfl

theorem Dev.frameView_guardReset (d : Dev) : d.guardReset.frameView = { d.frameView with measFlt := false, missed := 0 } := by
  unfold Dev.guardReset
  rw [Dev.frameView_zero _ _ (by decide), Dev.frameView_wn_status _ _ (by split <;> decide)]
  rfl

theorem Dev.frameView_guardBegin (d : Dev) : d.guardBegin.frameView = d.frameView := by
  unfold Dev.guardBegin
  split
  · rfl
  · rw [Dev.frameView_when _ _ _ Dev.frameView_handover, Dev.frameView_foldl _ _ _ Dev.frameView_addLostN,
      Dev.frameView_syncNopack, Dev.frameView_setBgState]

/-- The Guard's start clears MEASFLT and the missed frames, and takes the channels. -/
theorem Dev.frameView_guardStart (d : Dev) :
    d.guardStart.frameView = { d.frameView with measFlt := false, on := d.wantedMask, missed := 0 } := by
  have hmask : d.guardReset.wantedMask = d.wantedMask :=
    Dev.wantedMask_of_words (by rw [Dev.frameView_guardReset])
  rw [Dev.guardStart_eq, Dev.frameView_guardBegin, Dev.frameView_takeChannels, hmask, Dev.frameView_guardReset]

/-- Whether the frame starts the Guard (R122). -/
def Dev.startsGuard (d : Dev) : Bool := d.bgState = bgOff && !d.bgFlag BG_STATUS.CFGERR

/-- A frame that starts the Guard begins with MEASFLT clear and no frame missed. -/
def Dev.startView (d : Dev) : FrameView :=
  if d.startsGuard then { d.frameView with measFlt := false, missed := 0 } else d.frameView

/-- At the start of a frame the channels are those of BG_CFG, and FDENn is low for the others. -/
theorem Dev.frameView_frameStart (d : Dev) :
    d.frameStart.frameView = { d.startView with on := d.wantedMask, fdenLow := ~~~d.wantedMask } := by
  have hstarted : ∃ m, (d.when d.startsGuard Dev.guardStart).frameView = { d.startView with on := m } := by
    unfold Dev.when Dev.startView
    split
    · exact ⟨_, d.frameView_guardStart⟩
    · exact ⟨_, rfl⟩
  obtain ⟨m, hm⟩ := hstarted
  have hwords : d.startView.words = d.frameView.words := by
    unfold Dev.startView
    split <;> rfl
  have hmask : (d.when d.startsGuard Dev.guardStart).wantedMask = d.wantedMask :=
    Dev.wantedMask_of_words ((congrArg FrameView.words hm).trans hwords)
  show (((d.when d.startsGuard Dev.guardStart).takeChannels).syncFden).frameView = _
  rw [Dev.frameView_syncFden, Dev.frameView_takeChannels, Dev.takeChannels_eq, hm, hmask]
  rfl

/-! ## Results (R96, R98) -/

/-- The result that entry `i` of the frame brings: a channel's, or the bus's (R96). -/
def frameRes (x : GuardFrame) (i : Fin 5) : GuardRes := if h : i.val < 4 then x.fd[i.val]'h else x.bus

/-- One result of a frame is stored (R96, R168). -/
def Dev.storeEntry (x : GuardFrame) (d : Dev) (i : Fin 5) : Dev :=
  if !(frameRes x i).got then d
  else
    let d := d.modGuard fun g => { g with codes := g.codes.set i (frameRes x i).code, ovrs := g.ovrs.set i (frameRes x i).ovr }
    match d.seatAdc (if i.val < 4 then Fin.ofNat 24 i.val else 7) with
    | some a => d.storeResult i.val a (frameRes x i).code.toNat (frameRes x i).ovr false (800 * d.now)
    | none => d

theorem Dev.storeGuard_eq (d : Dev) (x : GuardFrame) :
    d.storeGuard x = (List.finRange 5).foldl (Dev.storeEntry x)
      (d.when (x.bus.got && (List.finRange 4).all fun (c : Chan) => x.fd[c].got)
        (·.setMbit (MS_SEQDONE 0) 56 true)) := rfl

/-- What the result of entry `i` changes of the view. -/
def FrameView.take (x : GuardFrame) (v : FrameView) (i : Fin 5) : FrameView :=
  if (frameRes x i).got then { v with codes := v.codes.set i (frameRes x i).code, ovrs := v.ovrs.set i (frameRes x i).ovr }
  else v

theorem frameFree_MS_PEPLACE : ∀ i : Fin 5, frameFree (MS_PEPLACE i) = true := by decide
theorem frameFree_MS_RESULT : ∀ i : Fin 5, frameFree (MS_RESULT i) = true := by decide
theorem frameFree_MS_PESTAT : ∀ i : Fin 5, frameFree (MS_PESTAT i) = true := by decide
theorem frameFree_newKey : ∀ i : Fin 5, frameFree (newKey i) = true := by decide
theorem frameFree_MS_LIMSTICKY : ∀ g : Fin 32, frameFree (MS_LIMSTICKY + 2 * (g.val / 16)) = true := by decide

theorem Dev.frameView_placeEntry (d : Dev) (i : Fin 5) (a : Adc) : (d.placeEntry i a).frameView = d.frameView := by
  simp [Dev.placeEntry, frameFree_MS_PEPLACE]

theorem Dev.frameView_entryLimits (d : Dev) (i : Fin 5) (code : Nat) (ovr : Bool) :
    (d.entryLimits i code ovr).frameView = d.frameView := by
  have hgroup (e : Dev) : e.fld (MS_PESEQ i) MS_PESEQ.GROUP < 32 := by
    rw [Dev.fld, if_pos (by decide)]
    exact Fld.of_lt _ _
  have hraise {g : Nat} (hg : g < 32) (e : Dev) :
      ((e.setMbit MS_LIMSTICKY g true).raise (160 + g)).frameView = e.frameView := by
    rw [Dev.frameView_raise _ (by omega), Dev.frameView_setMbit _ _ _ _ (frameFree_MS_LIMSTICKY ⟨g, hg⟩)]
  unfold Dev.entryLimits
  dsimp only
  rw [Dev.frameView_when _ _ _ (hraise (hgroup _)), Dev.frameView_when _ _ _ (hraise (hgroup _))]
  simp [frameFree_MS_PESTAT]

theorem Dev.frameView_storeResult (d : Dev) (i : Fin 5) (a : Adc) (code : Nat) (ovr : Bool) (t : Nat) :
    (d.storeResult i a code ovr false t).frameView = d.frameView := by
  unfold Dev.storeResult
  rw [Dev.frameView_entryLimits, Dev.when, if_neg (by decide), Dev.frameView_wn _ _ (frameFree_newKey i),
    Dev.frameView_wn _ _ (frameFree_MS_RESULT i)]
  exact (Dev.frameView_congr rfl rfl rfl rfl).trans (d.frameView_placeEntry i a)

theorem Dev.frameView_storeEntry (x : GuardFrame) (d : Dev) (i : Fin 5) :
    (d.storeEntry x i).frameView = d.frameView.take x i := by
  unfold Dev.storeEntry FrameView.take
  cases (frameRes x i).got
  · rfl
  · rw [if_neg (by decide), if_pos rfl]
    dsimp only
    split
    · exact Dev.frameView_storeResult _ i _ _ _ _
    · rfl

theorem Dev.frameView_storeGuard (d : Dev) (x : GuardFrame) :
    (d.storeGuard x).frameView = (List.finRange 5).foldl (FrameView.take x) d.frameView := by
  rw [Dev.storeGuard_eq, ← List.foldl_hom Dev.frameView fun e i => (Dev.frameView_storeEntry x e i).symm,
    Dev.frameView_when _ _ _ fun e => Dev.frameView_setMbit e _ _ _ (by decide)]

/-- Of the view, the results of a frame change only the codes and their over-range flags. -/
theorem FrameView.foldl_take (x : GuardFrame) (l : List (Fin 5)) (v : FrameView) :
    l.foldl (FrameView.take x) v =
      { v with codes := (l.foldl (FrameView.take x) v).codes, ovrs := (l.foldl (FrameView.take x) v).ovrs } := by
  induction l generalizing v with
  | nil => rfl
  | cons i l ih =>
    rw [List.foldl_cons, ih]
    unfold FrameView.take
    split <;> rfl

/-- An entry's result in the view is that of the frame. -/
def FrameView.Has (x : GuardFrame) (v : FrameView) (i : Fin 5) : Prop :=
  v.codes[i] = (frameRes x i).code ∧ v.ovrs[i] = (frameRes x i).ovr

theorem FrameView.has_take_same {x : GuardFrame} (v : FrameView) {i : Fin 5} (h : (frameRes x i).got = true) :
    (v.take x i).Has x i := by
  simp [FrameView.take, FrameView.Has, h]

theorem FrameView.has_take {x : GuardFrame} {v : FrameView} {i : Fin 5} (j : Fin 5) (h : v.Has x i) : (v.take x j).Has x i := by
  unfold FrameView.take
  split
  · by_cases hj : j = i
    · subst hj
      simp [FrameView.Has]
    · have hij : j.val ≠ i.val := fun e => hj (Fin.ext e)
      obtain ⟨hcode, hovr⟩ := h
      exact ⟨by simpa [Vector.getElem_set_ne _ _ hij] using hcode, by simpa [Vector.getElem_set_ne _ _ hij] using hovr⟩
  · exact h

/-- What one element of a list establishes, and every element keeps, holds at the end. -/
theorem foldl_of_mem {α β : Type} {P : α → Prop} {f : α → β → α} {l : List β} {b : β} (hb : b ∈ l) (a : α)
    (hset : ∀ a, P (f a b)) (hkeep : ∀ a b', P a → P (f a b')) : P (l.foldl f a) := by
  have hrest (l : List β) (a : α) (ha : P a) : P (l.foldl f a) := by
    induction l generalizing a with
    | nil => exact ha
    | cons b' l ih => exact ih _ (hkeep a b' ha)
  induction l generalizing a with
  | nil => cases hb
  | cons b' l ih =>
    obtain rfl | hb := List.mem_cons.mp hb
    · exact hrest l _ (hset a)
    · exact ih hb _

theorem FrameView.has_foldl_take {x : GuardFrame} (v : FrameView) {i : Fin 5} (h : (frameRes x i).got = true) :
    ((List.finRange 5).foldl (FrameView.take x) v).Has x i :=
  foldl_of_mem (P := fun v => FrameView.Has x v i) (List.mem_finRange i) v (fun v => v.has_take_same h)
    fun _ j hv => FrameView.has_take j hv

end Sys2Proof.Machine
end

section
/-!
The telemetry of a Guard frame (R95, R96, R120, R185): what its registers show, over the codes and scales of the frame, and the
count of missed frames (R98).
-/

namespace Sys2Proof.Machine

open Sys2Proof Sys2Proof.R

/-! ## Scales and codes (R95, R96) -/

/-- The codes of a frame and what scales them are the same in `d` and `e`. -/
structure Dev.SameScales (d e : Dev) : Prop where
  guard : e.guard = d.guard
  div : e.rd BG_VBUSDIV = d.rd BG_VBUSDIV
  shunt : ∀ c : Chan, e.rd (BG_RSHUNT c) = d.rd (BG_RSHUNT c)

namespace Dev.SameScales

theorem refl (d : Dev) : d.SameScales d := ⟨rfl, rfl, fun _ => rfl⟩

theorem symm {d e : Dev} (h : d.SameScales e) : e.SameScales d := ⟨h.guard.symm, h.div.symm, fun c => (h.shunt c).symm⟩

theorem trans {d e g : Dev} (h1 : d.SameScales e) (h2 : e.SameScales g) : d.SameScales g :=
  ⟨h2.guard.trans h1.guard, h2.div.trans h1.div, fun c => (h2.shunt c).trans (h1.shunt c)⟩

variable {d e : Dev} (h : d.SameScales e)
include h

theorem channelOn (c : Chan) : e.channelOn c = d.channelOn c := by rw [Dev.channelOn, Dev.channelOn, h.guard]
theorem channels : e.channels = d.channels := by rw [Dev.channels, Dev.channels, funext h.channelOn]
theorem feedCode (c : Chan) : e.feedCode c = d.feedCode c := by simp only [Dev.feedCode, h.guard]
theorem busCode : e.busCode = d.busCode := by simp only [Dev.busCode, h.guard]
theorem rn_div : e.rn BG_VBUSDIV = d.rn BG_VBUSDIV := congrArg BitVec.toNat h.div
theorem rn_shunt (c : Chan) : e.rn (BG_RSHUNT c) = d.rn (BG_RSHUNT c) := congrArg BitVec.toNat (h.shunt c)
theorem feedPower (c : Chan) : e.feedPower c = d.feedPower c := by
  rw [Dev.feedPower, Dev.feedPower, h.feedCode, h.busCode, h.rn_div, h.rn_shunt]
theorem busMv : e.busMv = d.busMv := by rw [Dev.busMv, Dev.busMv, h.busCode, h.rn_div]

end Dev.SameScales

/-- A write of a register that scales nothing. -/
theorem Dev.sameScales_wr (d : Dev) {a : Nat} (v : Word) (hd : a ≠ BG_VBUSDIV) (hs : ∀ c : Chan, a ≠ BG_RSHUNT c) :
    d.SameScales (d.wr a v) :=
  ⟨rfl, Dev.rd_wr_ne d v hd.symm, fun c => Dev.rd_wr_ne d v (hs c).symm⟩

/-! ## A channel's telemetry (R95, R120) -/

/-- What BG_In and BG_Pn show of a channel: nothing where it is not fitted or is disabled. -/
def Dev.shownI (d : Dev) (c : Chan) : Word :=
  if d.channelOn c then BitVec.ofInt 16 (fitS16 (divQ (d.feedCode c * 15625) (4 * d.rn (BG_RSHUNT c)))) else 0
def Dev.shownP (d : Dev) (c : Chan) : Word :=
  if d.channelOn c then BitVec.ofInt 16 (fitU16 (toPower (d.feedPower c))) else 0

section Shown

variable {d : Dev} {c : Chan}

theorem Dev.shownI_on (h : d.channelOn c = true) :
    d.shownI c = BitVec.ofInt 16 (fitS16 (divQ (d.feedCode c * 15625) (4 * d.rn (BG_RSHUNT c)))) := if_pos h
theorem Dev.shownP_on (h : d.channelOn c = true) : d.shownP c = BitVec.ofInt 16 (fitU16 (toPower (d.feedPower c))) := if_pos h
theorem Dev.shownI_off (h : d.channelOn c = false) : d.shownI c = 0 := if_neg (by simp [h])
theorem Dev.shownP_off (h : d.channelOn c = false) : d.shownP c = 0 := if_neg (by simp [h])

end Shown

theorem Dev.SameScales.shownI {d e : Dev} (h : d.SameScales e) (c : Chan) : e.shownI c = d.shownI c := by
  rw [Dev.shownI, Dev.shownI, h.channelOn, h.feedCode, h.rn_shunt]
theorem Dev.SameScales.shownP {d e : Dev} (h : d.SameScales e) (c : Chan) : e.shownP c = d.shownP c := by
  rw [Dev.shownP, Dev.shownP, h.channelOn, h.feedPower]

theorem BG_I_ne_VBUSDIV : ∀ c : Chan, BG_I c ≠ BG_VBUSDIV := by decide
theorem BG_P_ne_VBUSDIV : ∀ c : Chan, BG_P c ≠ BG_VBUSDIV := by decide
theorem BG_I_ne_RSHUNT : ∀ c c' : Chan, BG_I c ≠ BG_RSHUNT c' := by decide
theorem BG_P_ne_RSHUNT : ∀ c c' : Chan, BG_P c ≠ BG_RSHUNT c' := by decide
theorem BG_I_ne_BG_P : ∀ c c' : Chan, BG_I c ≠ BG_P c' := by decide
theorem BG_I_inj : ∀ c c' : Chan, BG_I c = BG_I c' → c = c' := by decide
theorem BG_P_inj : ∀ c c' : Chan, BG_P c = BG_P c' → c = c' := by decide

/-- The telemetry of one channel. -/
def Dev.showChannel (d : Dev) (c : Chan) : Dev :=
  if d.channelOn c then
    let d := d.wi (BG_I c) (fitS16 (divQ (d.feedCode c * 15625) (4 * d.rn (BG_RSHUNT c))))
    d.wi (BG_P c) (fitU16 (toPower (d.feedPower c)))
  else d.zero [BG_I c, BG_P c]

theorem Dev.showChannel_eq (d : Dev) (c : Chan) : d.showChannel c = (d.wr (BG_I c) (d.shownI c)).wr (BG_P c) (d.shownP c) := by
  unfold Dev.showChannel
  cases hc : d.channelOn c
  · rw [if_neg (by decide), Dev.shownI_off hc, Dev.shownP_off hc]
    rfl
  · have hs (v : Word) := d.sameScales_wr v (BG_I_ne_VBUSDIV c) (BG_I_ne_RSHUNT c)
    rw [if_pos rfl, Dev.shownI_on hc, Dev.shownP_on hc]
    dsimp only [Dev.wi]
    rw [(hs _).feedPower]

theorem Dev.sameScales_showChannel (d : Dev) (c : Chan) : d.SameScales (d.showChannel c) := by
  rw [Dev.showChannel_eq]
  exact (d.sameScales_wr _ (BG_I_ne_VBUSDIV c) (BG_I_ne_RSHUNT c)).trans
    (Dev.sameScales_wr _ _ (BG_P_ne_VBUSDIV c) (BG_P_ne_RSHUNT c))

theorem Dev.rd_showChannel (d : Dev) (c : Chan) (a : Nat) :
    (d.showChannel c).rd a = if a = BG_P c then d.shownP c else if a = BG_I c then d.shownI c else d.rd a := by
  rw [Dev.showChannel_eq, Dev.rd_wr, Dev.rd_wr]

theorem Dev.pins_showChannel (d : Dev) (c : Chan) : (d.showChannel c).pins = d.pins := by rw [Dev.showChannel_eq]; rfl

/-- The telemetry of all channels. -/
def Dev.showChannels (d : Dev) : Dev := (List.finRange 4).foldl Dev.showChannel d

theorem Dev.sameScales_foldl_showChannel (d : Dev) (l : List Chan) : d.SameScales (l.foldl Dev.showChannel d) := by
  induction l generalizing d with
  | nil => exact .refl d
  | cons c l ih => exact (d.sameScales_showChannel c).trans (ih _)

theorem Dev.sameScales_showChannels (d : Dev) : d.SameScales d.showChannels := d.sameScales_foldl_showChannel _

theorem Dev.pins_showChannels (d : Dev) : d.showChannels.pins = d.pins := by
  unfold Dev.showChannels
  induction List.finRange 4 generalizing d with
  | nil => rfl
  | cons c l ih => exact (ih _).trans (d.pins_showChannel c)

/-- Registers that show no channel. -/
theorem Dev.rd_showChannels_ne (d : Dev) {a : Nat} (h : ∀ c : Chan, a ≠ BG_P c ∧ a ≠ BG_I c) :
    d.showChannels.rd a = d.rd a := by
  unfold Dev.showChannels
  induction List.finRange 4 generalizing d with
  | nil => rfl
  | cons c l ih =>
    obtain ⟨hp, hi⟩ := h c
    exact (ih _).trans (by rw [Dev.rd_showChannel, if_neg hp, if_neg hi])

/-- Each channel's registers show it. -/
theorem Dev.rd_showChannels (d : Dev) (c : Chan) :
    d.showChannels.rd (BG_I c) = d.shownI c ∧ d.showChannels.rd (BG_P c) = d.shownP c := by
  refine foldl_of_mem (P := fun e : Dev => d.SameScales e → e.rd (BG_I c) = d.shownI c ∧ e.rd (BG_P c) = d.shownP c)
    (f := Dev.showChannel) (List.mem_finRange c) d (fun e he => ?_) (fun e b hkeep he => ?_) d.sameScales_showChannels
  · replace he := he.trans (e.sameScales_showChannel c).symm
    rw [Dev.rd_showChannel, Dev.rd_showChannel, if_neg (BG_I_ne_BG_P c c), if_pos rfl, if_pos rfl, he.shownI, he.shownP]
    exact ⟨rfl, rfl⟩
  · replace he := he.trans (e.sameScales_showChannel b).symm
    obtain ⟨hI, hP⟩ := hkeep he
    rw [Dev.rd_showChannel, Dev.rd_showChannel, if_neg (BG_I_ne_BG_P c b), if_neg (BG_I_ne_BG_P b c).symm, hI, hP, he.shownI,
      he.shownP]
    refine ⟨ite_eq_right_iff.mpr fun h => ?_, ite_eq_right_iff.mpr fun h => ?_⟩
    · rw [BG_I_inj c b h]
    · rw [BG_P_inj c b h]

/-! ## The whole telemetry (R95, R96, R120, R185) -/

/-- The charger's means (R185). -/
theorem Dev.chgSense_eq (d : Dev) (cs vb vs : Nat) : ∃ g : ChgSt → ChgSt, d.chgSense cs vb vs =
    ((d.wi CHG_IBAT (d.senseVals cs vb vs).1).wi CHG_VBAT (d.senseVals cs vb vs).2.1).modChg g := by
  unfold Dev.chgSense Dev.when
  dsimp only
  split
  · split
    · exact ⟨_, rfl⟩
    · exact ⟨id, rfl⟩
  · exact ⟨id, rfl⟩

/-- The sums and the registers of the whole frame, with the powers of the stage and the allowed draw. -/
def Dev.showFrame (d : Dev) (ptot pstg a : Int) (lat : Word) : Dev :=
  let d := (d.wi BG_VBUS d.busMv).wi BG_PTOT (fitU16 (toPower ptot))
  let d := (d.wi BG_PSTG (fitS16 (toPower pstg))).wi BG_PSYS (fitU16 (toPower (ptot - pstg)))
  let d := (d.wi BG_ALLOW (fitU16 (toPower a))).wr BG_LAT lat
  d.wn BG_PMAX (max (d.rn BG_PMAX) (d.rn BG_PTOT))

/-- The telemetry of a frame up to BIND and its event. -/
def Dev.frameShown (d : Dev) (x : GuardFrame) : Dev :=
  let d := (d.chgSense x.cs.toNat x.vb.toNat x.vs.toNat).showChannels
  let ptot := d.channels.foldl (fun (s : Int) c => s + d.feedPower c) 0
  d.showFrame ptot d.stagePower (d.allow ptot).1 x.lat

theorem Dev.frameView_frameTelemetry (d : Dev) (x : GuardFrame) :
    (d.frameTelemetry x).2.frameView = (d.frameShown x).frameView := by
  have hsticky (e : Dev) : ((e.bgSticky BG_STICKY.CHANLIM).raise 122).frameView = e.frameView := by
    rw [Dev.frameView_raise _ (by decide), Dev.frameView_bgSticky _ _ (by decide)]
  exact (Dev.frameView_when _ _ _ hsticky).trans (Dev.frameView_setFld_status _ _ _ (by decide))

/-- The registers that `showFrame` writes, and no other. -/
def shownReg (a : Nat) : Bool :=
  a = BG_VBUS || a = BG_PTOT || a = BG_PSTG || a = BG_PSYS || a = BG_ALLOW || a = BG_LAT || a = BG_PMAX

theorem Dev.rd_showFrame_ne (d : Dev) (ptot pstg a : Int) (lat : Word) {b : Nat} (h : shownReg b = false) :
    (d.showFrame ptot pstg a lat).rd b = d.rd b := by
  simp only [shownReg, Bool.or_eq_false_iff, decide_eq_false_iff_not] at h
  simp only [Dev.showFrame, Dev.wn, Dev.wi, Dev.rd_wr, h, if_false]

theorem Dev.rd_showFrame_VBUS (d : Dev) (ptot pstg a : Int) (lat : Word) :
    (d.showFrame ptot pstg a lat).rd BG_VBUS = BitVec.ofInt 16 d.busMv := by
  simp [Dev.showFrame, Dev.wn, Dev.wi, Dev.rd_wr]

theorem Dev.rd_showFrame_PTOT (d : Dev) (ptot pstg a : Int) (lat : Word) :
    (d.showFrame ptot pstg a lat).rd BG_PTOT = BitVec.ofInt 16 (fitU16 (toPower ptot)) := by
  simp [Dev.showFrame, Dev.wn, Dev.wi, Dev.rd_wr]

theorem Dev.rd_showFrame_LAT (d : Dev) (ptot pstg a : Int) (lat : Word) : (d.showFrame ptot pstg a lat).rd BG_LAT = lat := by
  simp [Dev.showFrame, Dev.wn, Dev.wi, Dev.rd_wr]

/-- BG_PMAX takes the sum where it is the greater. -/
theorem Dev.rn_wn_PMAX (d : Dev) :
    (d.wn BG_PMAX (max (d.rn BG_PMAX) (d.rn BG_PTOT))).rn BG_PMAX =
      max (d.rn BG_PMAX) (d.rn BG_PTOT) := by
  have hlt : max (d.rn BG_PMAX) (d.rn BG_PTOT) < 2 ^ 16 := max_lt (BitVec.isLt _) (BitVec.isLt _)
  rw [Dev.rn, Dev.rd_wn_same, BitVec.toNat_ofNat, Nat.mod_eq_of_lt hlt]

theorem Dev.rn_showFrame_PMAX (d : Dev) (ptot pstg a : Int) (lat : Word) :
    (d.showFrame ptot pstg a lat).rn BG_PMAX = max (d.rn BG_PMAX) ((d.showFrame ptot pstg a lat).rn BG_PTOT) := by
  refine (Dev.rn_wn_PMAX _).trans ?_
  simp [Dev.showFrame, Dev.wn, Dev.wi, Dev.rn, Dev.rd_wr]

section FrameShown

variable (d : Dev) (x : GuardFrame)

theorem Dev.sameScales_chgSense (cs vb vs : Nat) : d.SameScales (d.chgSense cs vb vs) := by
  obtain ⟨g, hg⟩ := d.chgSense_eq cs vb vs
  rw [hg]
  have hwr : d.SameScales ((d.wi CHG_IBAT (d.senseVals cs vb vs).1).wi CHG_VBAT (d.senseVals cs vb vs).2.1) :=
    (d.sameScales_wr _ (by decide) (by decide)).trans (Dev.sameScales_wr _ _ (by decide) (by decide))
  exact ⟨hwr.guard, hwr.div, hwr.shunt⟩

theorem Dev.rd_chgSense_ne (cs vb vs : Nat) {a : Nat} (hi : a ≠ CHG_IBAT) (hv : a ≠ CHG_VBAT) :
    (d.chgSense cs vb vs).rd a = d.rd a := by
  obtain ⟨g, hg⟩ := d.chgSense_eq cs vb vs
  rw [hg, Dev.rd_modChg, Dev.wi, Dev.rd_wr_ne _ _ hv, Dev.wi, Dev.rd_wr_ne _ _ hi]

theorem Dev.rd_chgSense_IBAT (cs vb vs : Nat) :
    (d.chgSense cs vb vs).rd CHG_IBAT = BitVec.ofInt 16 (d.senseVals cs vb vs).1 := by
  obtain ⟨g, hg⟩ := d.chgSense_eq cs vb vs
  rw [hg, Dev.rd_modChg, Dev.wi, Dev.rd_wr_ne _ _ (by decide), Dev.wi, Dev.rd_wr_same]

theorem Dev.rd_chgSense_VBAT (cs vb vs : Nat) :
    (d.chgSense cs vb vs).rd CHG_VBAT = BitVec.ofInt 16 (d.senseVals cs vb vs).2.1 := by
  obtain ⟨g, hg⟩ := d.chgSense_eq cs vb vs
  rw [hg, Dev.rd_modChg, Dev.wi, Dev.rd_wr_same]

theorem Dev.pins_chgSense (cs vb vs : Nat) : (d.chgSense cs vb vs).pins = d.pins := by
  obtain ⟨g, hg⟩ := d.chgSense_eq cs vb vs
  rw [hg]
  rfl

/-- The scales and codes behind the telemetry are those of the frame. -/
theorem Dev.sameScales_sensed :
    d.SameScales (d.chgSense x.cs.toNat x.vb.toNat x.vs.toNat).showChannels :=
  (d.sameScales_chgSense _ _ _).trans (Dev.sameScales_showChannels _)

theorem Dev.guard_frameShown : (d.frameShown x).guard = d.guard := (d.sameScales_sensed x).guard

theorem Dev.pins_frameShown : (d.frameShown x).pins = d.pins :=
  (Dev.pins_showChannels _).trans (d.pins_chgSense _ _ _)

/-- A register that shows no channel and nothing of the whole frame. -/
theorem Dev.rd_frameShown_sensed {a : Nat} (ha : shownReg a = false) (hc : ∀ c : Chan, a ≠ BG_P c ∧ a ≠ BG_I c) :
    (d.frameShown x).rd a = (d.chgSense x.cs.toNat x.vb.toNat x.vs.toNat).rd a :=
  (Dev.rd_showFrame_ne _ _ _ _ _ ha).trans (Dev.rd_showChannels_ne _ hc)

theorem Dev.rd_frameShown_IBAT :
    (d.frameShown x).rd CHG_IBAT = BitVec.ofInt 16 (d.senseVals x.cs.toNat x.vb.toNat x.vs.toNat).1 := by
  rw [Dev.rd_frameShown_sensed _ _ (by decide) (by decide), Dev.rd_chgSense_IBAT]

theorem Dev.rd_frameShown_VBAT :
    (d.frameShown x).rd CHG_VBAT = BitVec.ofInt 16 (d.senseVals x.cs.toNat x.vb.toNat x.vs.toNat).2.1 := by
  rw [Dev.rd_frameShown_sensed _ _ (by decide) (by decide), Dev.rd_chgSense_VBAT]

theorem Dev.rd_frameShown_MISSCNT : (d.frameShown x).rd BG_MISSCNT = d.rd BG_MISSCNT := by
  rw [Dev.rd_frameShown_sensed _ _ (by decide) (by decide), Dev.rd_chgSense_ne _ _ _ _ (by decide) (by decide)]

theorem Dev.rd_frameShown_LAT : (d.frameShown x).rd BG_LAT = x.lat := Dev.rd_showFrame_LAT _ _ _ _ _

theorem Dev.rd_frameShown_VBUS : (d.frameShown x).rd BG_VBUS = BitVec.ofInt 16 d.busMv :=
  (Dev.rd_showFrame_VBUS _ _ _ _ _).trans (by rw [(d.sameScales_sensed x).busMv])

theorem Dev.rd_frameShown_PTOT :
    (d.frameShown x).rd BG_PTOT = BitVec.ofInt 16 (fitU16 (toPower ((d.channels.map d.feedPower).sum))) := by
  refine (Dev.rd_showFrame_PTOT _ _ _ _ _).trans ?_
  rw [(d.sameScales_sensed x).channels, funext (d.sameScales_sensed x).feedPower, List.sum_eq_foldl, List.foldl_map]

theorem Dev.rn_frameShown_PMAX : (d.frameShown x).rn BG_PMAX = max (d.rn BG_PMAX) ((d.frameShown x).rn BG_PTOT) := by
  refine (Dev.rn_showFrame_PMAX _ _ _ _ _).trans ?_
  have h : (d.chgSense x.cs.toNat x.vb.toNat x.vs.toNat).showChannels.rd BG_PMAX = d.rd BG_PMAX := by
    rw [Dev.rd_showChannels_ne _ (by decide), Dev.rd_chgSense_ne _ _ _ _ (by decide) (by decide)]
  rw [Dev.rn, h]
  rfl

/-- Each channel's registers show its current and its power. -/
theorem Dev.rd_frameShown_channel (c : Chan) :
    (d.frameShown x).rd (BG_I c) = d.shownI c ∧ (d.frameShown x).rd (BG_P c) = d.shownP c := by
  have hfree : ∀ c : Chan, shownReg (BG_I c) = false ∧ shownReg (BG_P c) = false := by decide
  obtain ⟨hI, hP⟩ := hfree c
  have hs := d.sameScales_chgSense x.cs.toNat x.vb.toNat x.vs.toNat
  rw [← hs.shownI, ← hs.shownP]
  obtain ⟨hshownI, hshownP⟩ := Dev.rd_showChannels (d.chgSense x.cs.toNat x.vb.toNat x.vs.toNat) c
  exact ⟨(Dev.rd_showFrame_ne _ _ _ _ _ hI).trans hshownI, (Dev.rd_showFrame_ne _ _ _ _ _ hP).trans hshownP⟩

end FrameShown

/-! ## Missed frames (R98, log entry 109) -/

theorem Dev.frameView_setMeasFlt (d : Dev) (b : Bool) :
    (d.setBgFlag BG_STATUS.MEASFLT b).frameView = { d.frameView with measFlt := b } := by
  have hne : ∀ a ∈ frameRegs, a ≠ BG_STATUS := by decide
  have hwords : frameRegs.map (d.setBgFlag BG_STATUS.MEASFLT b).rd = frameRegs.map d.rd :=
    List.map_congr_left fun a ha => Dev.rd_setFlag_ne d _ b (by decide) (hne a ha)
  have hflag : (d.setBgFlag BG_STATUS.MEASFLT b).bgFlag BG_STATUS.MEASFLT = b :=
    Dev.flag_setFlag_same _ _ _ _ (by decide) (by decide)
  rw [Dev.frameView, hwords, hflag]
  simp [Dev.setBgFlag, Dev.frameView]

/-- A frame that is complete and not flawed ends a measurement fault and the run of missed frames. -/
theorem Dev.frameView_countMissed_good (d : Dev) (x : GuardFrame) (hc : d.frameComplete x = true)
    (hf : d.frameFlawed x = false) :
    (d.countMissed x).frameView = { d.frameView with measFlt := false, missed := 0 } := by
  have hcount : d.countMissed x =
      (d.modGuard fun g => { g with missed := 0, framed := true }).setBgFlag BG_STATUS.MEASFLT false := by
    simp [Dev.countMissed, hf, hc, Dev.when]
  rw [hcount, Dev.frameView_setMeasFlt]
  rfl

/-- A frame without the bus result is counted, and is one more in a row. -/
theorem Dev.countMissed_of_noBus (d : Dev) (x : GuardFrame) (h : x.bus.got = false) :
    d.countMissed x = (d.bump BG_MISSCNT).modGuard fun g => { g with missed := g.missed + 1 } := by
  simp [Dev.countMissed, Dev.frameFlawed, Dev.frameComplete, h, Dev.when]

end Sys2Proof.Machine
end

section
/-!
A whole Guard frame (O51): what is stored, what is shown, and what of it is seen after the tiers have decided.
-/

namespace Sys2Proof.Machine

open Sys2Proof Sys2Proof.R

/-! ## A frame once its results are stored (R96, R98, R121) -/

/-- The device of a frame whose results are stored. -/
def Dev.frameStored (d : Dev) (x : GuardFrame) : Dev := d.frameStart.storeGuard x

section Stored

variable (d : Dev) (x : GuardFrame)

theorem Dev.frameView_frameStored : (d.frameStored x).frameView =
    { d.startView with on := d.wantedMask, fdenLow := ~~~d.wantedMask, codes := (d.frameStored x).guard.codes,
                       ovrs := (d.frameStored x).guard.ovrs } := by
  have hview : (d.frameStored x).frameView = (List.finRange 5).foldl (FrameView.take x) d.frameStart.frameView :=
    Dev.frameView_storeGuard _ x
  have hcodes : ((List.finRange 5).foldl (FrameView.take x) d.frameStart.frameView).codes = (d.frameStored x).guard.codes :=
    (congrArg FrameView.codes hview).symm
  have hovrs : ((List.finRange 5).foldl (FrameView.take x) d.frameStart.frameView).ovrs = (d.frameStored x).guard.ovrs :=
    (congrArg FrameView.ovrs hview).symm
  rw [hview, FrameView.foldl_take, hcodes, hovrs, Dev.frameView_frameStart]

theorem Dev.rd_frameStored {a : Nat} (ha : a ∈ frameRegs) : (d.frameStored x).rd a = d.rd a := by
  have hwords : (d.frameStored x).frameView.words = d.frameView.words := by
    rw [Dev.frameView_frameStored]
    unfold Dev.startView
    split <;> rfl
  exact List.map_inj_left.mp hwords a ha

theorem Dev.rn_frameStored {a : Nat} (ha : a ∈ frameRegs) : (d.frameStored x).rn a = d.rn a :=
  congrArg BitVec.toNat (d.rd_frameStored x ha)

theorem Dev.ofs_frameStored : (d.frameStored x).chg.ofs = d.chg.ofs := by
  refine (congrArg FrameView.ofs (d.frameView_frameStored x)).trans ?_
  unfold Dev.startView
  split <;> rfl

theorem Dev.missed_frameStored : (d.frameStored x).guard.missed = if d.startsGuard then 0 else d.guard.missed := by
  refine (congrArg FrameView.missed (d.frameView_frameStored x)).trans ?_
  unfold Dev.startView
  split <;> rfl

theorem Dev.on_frameStored : (d.frameStored x).guard.on = d.wantedMask := congrArg FrameView.on (d.frameView_frameStored x)
theorem Dev.fdenLow_frameStored : (d.frameStored x).pins.fdenLow = ~~~d.wantedMask :=
  congrArg FrameView.fdenLow (d.frameView_frameStored x)

theorem Dev.channelOn_frameStored (c : Chan) : (d.frameStored x).channelOn c = d.wanted c := by
  rw [Dev.channelOn, Dev.on_frameStored, Dev.getLsbD_wantedMask]

theorem Dev.channels_frameStored : (d.frameStored x).channels = (List.finRange 4).filter d.wanted := by
  rw [Dev.channels, funext (d.channelOn_frameStored x)]

/-- A result that the frame brings is stored as it is. -/
theorem Dev.result_frameStored {i : Fin 5} (h : (frameRes x i).got = true) :
    (d.frameStored x).guard.codes[i] = (frameRes x i).code ∧ (d.frameStored x).guard.ovrs[i] = (frameRes x i).ovr := by
  have hhas := FrameView.has_foldl_take d.frameStart.frameView h
  rw [← Dev.frameView_storeGuard] at hhas
  exact hhas

variable {x}

theorem Dev.busCode_frameStored (hgot : x.bus.got = true) (hovr : x.bus.ovr = false) :
    (d.frameStored x).busCode = x.bus.code.toNat := by
  obtain ⟨hcode, hflag⟩ := d.result_frameStored x (i := 4) hgot
  replace hcode : (d.frameStored x).guard.codes[4] = x.bus.code := hcode
  replace hflag : (d.frameStored x).guard.ovrs[4] = false := hflag.trans hovr
  rw [Dev.busCode, hflag, hcode]
  rfl

theorem Dev.feedCode_frameStored {c : Chan} (hgot : x.fd[c].got = true) (hovr : x.fd[c].ovr = false) :
    (d.frameStored x).feedCode c = x.fd[c].code.toNat - 2048 := by
  have hres : frameRes x ⟨c.val, by omega⟩ = x.fd[c] := dif_pos c.isLt
  obtain ⟨hcode, hflag⟩ := d.result_frameStored x (i := ⟨c.val, by omega⟩) (by rw [hres]; exact hgot)
  rw [hres] at hcode hflag
  rw [Dev.feedCode, hflag, hcode, hovr]
  rfl

end Stored

/-! ## The whole frame -/

/-- Every channel that is fitted and enabled has a result, and so has the bus, none over range. -/
def Dev.FrameGood (d : Dev) (x : GuardFrame) : Prop :=
  (x.bus.got = true ∧ x.bus.ovr = false) ∧ ∀ c : Chan, d.wanted c = true → x.fd[c].got = true ∧ x.fd[c].ovr = false

section Whole

variable {d : Dev} {x : GuardFrame}

theorem Dev.frameView_telemetry :
    ((d.frameStored x).frameTelemetry x).2.frameView = ((d.frameStored x).frameShown x).frameView :=
  Dev.frameView_frameTelemetry _ x

/-- The channels of a frame stand through its telemetry. -/
theorem Dev.channels_telemetry :
    ((d.frameStored x).frameTelemetry x).2.channels = (List.finRange 4).filter d.wanted := by
  have hon : ((d.frameStored x).frameTelemetry x).2.guard.on = d.wantedMask := by
    rw [Dev.on_of_frameView Dev.frameView_telemetry, Dev.guard_frameShown, Dev.on_frameStored]
  refine congrArg (List.filter · (List.finRange 4)) (funext fun c => ?_)
  rw [Dev.channelOn, hon, Dev.getLsbD_wantedMask]

theorem Dev.frameComplete_of_good (h : d.FrameGood x) :
    ((d.frameStored x).frameTelemetry x).2.frameComplete x = true := by
  obtain ⟨⟨hbus, _⟩, hchan⟩ := h
  rw [Dev.frameComplete, Dev.channels_telemetry, hbus, Bool.true_and, List.all_eq_true]
  exact fun c hc => (hchan c (List.mem_filter.mp hc).2).1

theorem Dev.frameFlawed_of_good (h : d.FrameGood x) :
    ((d.frameStored x).frameTelemetry x).2.frameFlawed x = false := by
  have hcomplete := Dev.frameComplete_of_good h
  obtain ⟨⟨_, hbus⟩, hchan⟩ := h
  have hovr : (((d.frameStored x).frameTelemetry x).2.channels.any fun c => x.fd[c].got && x.fd[c].ovr) = false := by
    rw [Dev.channels_telemetry, List.any_eq_false]
    intro c hc
    rw [(hchan c (List.mem_filter.mp hc).2).2, Bool.and_false]
    exact Bool.false_ne_true
  rw [Dev.frameFlawed, hcomplete, hbus, hovr, Bool.and_false]
  rfl

variable (hrun : d.blocksRun = true) (hstart : d.guard.started = true) (hcalm : d.clock.switching ≠ some .tb)
include hrun hstart hcalm

theorem Dev.frameView_guardFrame : (d.guardFrame x).frameView = (d.frameTaken x).frameView := by
  rw [Dev.guardFrame_eq d x hrun hstart hcalm, Dev.frameView_frameRest]

/-- What a good frame leaves is its telemetry, with no measurement fault and no missed frame. -/
theorem Dev.frameView_guardFrame_good (h : d.FrameGood x) : (d.guardFrame x).frameView =
    { ((d.frameStored x).frameShown x).frameView with measFlt := false, missed := 0 } := by
  rw [Dev.frameView_guardFrame hrun hstart hcalm, ← Dev.frameView_telemetry]
  exact Dev.frameView_countMissed_good _ x (Dev.frameComplete_of_good h) (Dev.frameFlawed_of_good h)

theorem Dev.rd_guardFrame_good (h : d.FrameGood x) {a : Nat} (ha : a ∈ frameRegs) :
    (d.guardFrame x).rd a = ((d.frameStored x).frameShown x).rd a := by
  have hwords := congrArg FrameView.words (Dev.frameView_guardFrame_good hrun hstart hcalm h)
  exact List.map_inj_left.mp hwords a ha

theorem Dev.rn_guardFrame_good (h : d.FrameGood x) {a : Nat} (ha : a ∈ frameRegs) :
    (d.guardFrame x).rn a = ((d.frameStored x).frameShown x).rn a :=
  congrArg BitVec.toNat (Dev.rd_guardFrame_good hrun hstart hcalm h ha)

end Whole

/-! ## The obligation -/

section Good

variable {d : Dev} {x : GuardFrame} (hrun : d.blocksRun = true) (hstart : d.guard.started = true)
  (hcalm : d.clock.switching ≠ some .tb) (hgood : d.FrameGood x)

/-- The power of a channel, as its code and the bus code give it (R95). -/
def Dev.codedPower (d : Dev) (x : GuardFrame) (c : Chan) : Int :=
  divQ (x.bus.code.toNat * d.rn BG_VBUSDIV * (x.fd[c].code.toNat - 2048) * 625) (16 * d.rn (BG_RSHUNT c))

include hgood

theorem Dev.feedPower_frameStored {c : Chan} (hc : d.wanted c = true) : (d.frameStored x).feedPower c = d.codedPower x c := by
  obtain ⟨⟨hbus, hbusOvr⟩, hchan⟩ := hgood
  obtain ⟨hgot, hovr⟩ := hchan c hc
  rw [Dev.feedPower, d.busCode_frameStored hbus hbusOvr, d.feedCode_frameStored hgot hovr,
    d.rn_frameStored x (by decide), d.rn_frameStored x (mem_frameRegs_shunt c)]
  rfl

theorem Dev.busMv_frameStored :
    (d.frameStored x).busMv = fitU16 (divRound (x.bus.code.toNat * d.rn BG_VBUSDIV * 25) 16384) := by
  obtain ⟨⟨hbus, hbusOvr⟩, _⟩ := hgood
  rw [Dev.busMv, d.busCode_frameStored hbus hbusOvr, d.rn_frameStored x (by decide)]

include hrun hstart hcalm

theorem Dev.on_guardFrame_good : (d.guardFrame x).guard.on = d.wantedMask := by
  refine (congrArg FrameView.on (Dev.frameView_guardFrame_good hrun hstart hcalm hgood)).trans ?_
  show ((d.frameStored x).frameShown x).guard.on = _
  rw [Dev.guard_frameShown, Dev.on_frameStored]

theorem Dev.fdenLow_guardFrame_good : (d.guardFrame x).pins.fdenLow = ~~~d.wantedMask := by
  refine (congrArg FrameView.fdenLow (Dev.frameView_guardFrame_good hrun hstart hcalm hgood)).trans ?_
  show ((d.frameStored x).frameShown x).pins.fdenLow = _
  rw [Dev.pins_frameShown, Dev.fdenLow_frameStored]

theorem Dev.missed_guardFrame_good : (d.guardFrame x).guard.missed = 0 :=
  congrArg FrameView.missed (Dev.frameView_guardFrame_good hrun hstart hcalm hgood)

theorem Dev.measFlt_guardFrame_good : (d.guardFrame x).bgFlag BG_STATUS.MEASFLT = false :=
  congrArg FrameView.measFlt (Dev.frameView_guardFrame_good hrun hstart hcalm hgood)

theorem Dev.rd_guardFrame_channel (c : Chan) :
    (d.guardFrame x).rd (BG_I c) = (d.frameStored x).shownI c ∧
      (d.guardFrame x).rd (BG_P c) = (d.frameStored x).shownP c := by
  rw [Dev.rd_guardFrame_good hrun hstart hcalm hgood (mem_frameRegs_current c),
    Dev.rd_guardFrame_good hrun hstart hcalm hgood (mem_frameRegs_power c)]
  exact Dev.rd_frameShown_channel _ x c

/-- A fitted, enabled channel shows its current and power (R95, R96). -/
theorem Dev.rd_guardFrame_on {c : Chan} (hc : d.wanted c = true) :
    (d.guardFrame x).rd (BG_I c) =
        BitVec.ofInt 16 (fitS16 (divQ ((x.fd[c].code.toNat - 2048) * 15625) (4 * d.rn (BG_RSHUNT c)))) ∧
      (d.guardFrame x).rd (BG_P c) = BitVec.ofInt 16 (fitU16 (divRound (d.codedPower x c) 65536)) := by
  have hon : (d.frameStored x).channelOn c = true := (d.channelOn_frameStored x c).trans hc
  obtain ⟨hgot, hovr⟩ := hgood.2 c hc
  obtain ⟨hI, hP⟩ := Dev.rd_guardFrame_channel hrun hstart hcalm hgood c
  rw [hI, hP, Dev.shownI_on hon, Dev.shownP_on hon, d.feedCode_frameStored hgot hovr, Dev.feedPower_frameStored hgood hc,
    d.rn_frameStored x (mem_frameRegs_shunt c)]
  exact ⟨rfl, rfl⟩

/-- Any other channel shows 0 (R121). -/
theorem Dev.rd_guardFrame_off {c : Chan} (hc : d.wanted c = false) :
    (d.guardFrame x).rd (BG_I c) = 0 ∧ (d.guardFrame x).rd (BG_P c) = 0 := by
  have hoff : (d.frameStored x).channelOn c = false := (d.channelOn_frameStored x c).trans hc
  obtain ⟨hI, hP⟩ := Dev.rd_guardFrame_channel hrun hstart hcalm hgood c
  rw [hI, hP, Dev.shownI_off hoff, Dev.shownP_off hoff]
  exact ⟨rfl, rfl⟩

/-- The sum is that of the fitted, enabled channels (R95). -/
theorem Dev.rd_guardFrame_PTOT : (d.guardFrame x).rd BG_PTOT =
    BitVec.ofInt 16 (fitU16 (divRound ((((List.finRange 4).filter d.wanted).map (d.codedPower x)).sum) 65536)) := by
  have hmap : ((List.finRange 4).filter d.wanted).map (d.frameStored x).feedPower =
      ((List.finRange 4).filter d.wanted).map (d.codedPower x) :=
    List.map_congr_left fun c hc => Dev.feedPower_frameStored hgood (List.mem_filter.mp hc).2
  rw [Dev.rd_guardFrame_good hrun hstart hcalm hgood (by decide), Dev.rd_frameShown_PTOT, Dev.channels_frameStored, hmap]
  rfl

theorem Dev.rd_guardFrame_VBUS : (d.guardFrame x).rd BG_VBUS =
    BitVec.ofInt 16 (fitU16 (divRound (x.bus.code.toNat * d.rn BG_VBUSDIV * 25) 16384)) := by
  rw [Dev.rd_guardFrame_good hrun hstart hcalm hgood (by decide), Dev.rd_frameShown_VBUS, Dev.busMv_frameStored hgood]

/-- The charger's means (R185). -/
theorem Dev.rd_guardFrame_IBAT : (d.guardFrame x).rd CHG_IBAT = BitVec.ofInt 16
    (fitS16 (divQ ((10 * x.cs.toNat + d.chg.ofs[(0 : Fin 3)] - 20480) * 390625) (1000 * d.rn CHG_RSHUNT))) := by
  rw [Dev.rd_guardFrame_good hrun hstart hcalm hgood (by decide), Dev.rd_frameShown_IBAT, Dev.senseVals, Dev.ofs_frameStored,
    d.rn_frameStored x (by decide)]

theorem Dev.rd_guardFrame_VBAT : (d.guardFrame x).rd CHG_VBAT = BitVec.ofInt 16
    (fitU16 (divRound ((10 * x.vb.toNat + d.chg.ofs[(1 : Fin 3)]) * 25 * d.rn CHG_VBATDIV) 163840)) := by
  rw [Dev.rd_guardFrame_good hrun hstart hcalm hgood (by decide), Dev.rd_frameShown_VBAT, Dev.senseVals, Dev.ofs_frameStored,
    d.rn_frameStored x (a := CHG_VBATDIV) (by decide)]

theorem Dev.rd_guardFrame_LAT : (d.guardFrame x).rd BG_LAT = x.lat := by
  rw [Dev.rd_guardFrame_good hrun hstart hcalm hgood (by decide), Dev.rd_frameShown_LAT]

theorem Dev.rn_guardFrame_PMAX : (d.guardFrame x).rn BG_PMAX = max (d.rn BG_PMAX) ((d.guardFrame x).rn BG_PTOT) := by
  rw [Dev.rn_guardFrame_good hrun hstart hcalm hgood (by decide), Dev.rn_frameShown_PMAX,
    Dev.rn_guardFrame_good hrun hstart hcalm hgood (by decide), d.rn_frameStored x (by decide)]

theorem Dev.rd_guardFrame_MISSCNT : (d.guardFrame x).rd BG_MISSCNT = d.rd BG_MISSCNT := by
  rw [Dev.rd_guardFrame_good hrun hstart hcalm hgood (by decide), Dev.rd_frameShown_MISSCNT, d.rd_frameStored x (by decide)]

end Good

/-- A frame without the bus result is missed (R98, log entry 109). -/
theorem Dev.guardFrame_of_noBus {d : Dev} {x : GuardFrame} (hrun : d.blocksRun = true) (hstart : d.guard.started = true)
    (hcalm : d.clock.switching ≠ some .tb) (hbus : x.bus.got = false) :
    (d.guardFrame x).rd BG_MISSCNT = satInc (d.rd BG_MISSCNT) ∧
      (d.guardFrame x).guard.missed = (if d.startsGuard then 0 else d.guard.missed) + 1 := by
  have hview := Dev.frameView_guardFrame hrun hstart hcalm (x := x)
  have htaken : d.frameTaken x = (((d.frameStored x).frameTelemetry x).2.bump BG_MISSCNT).modGuard
      fun g => { g with missed := g.missed + 1 } := Dev.countMissed_of_noBus _ x hbus
  have htel := Dev.frameView_telemetry (d := d) (x := x)
  constructor
  · rw [Dev.rd_of_frameView hview (by decide), htaken]
    show (((d.frameStored x).frameTelemetry x).2.bump BG_MISSCNT).rd BG_MISSCNT = _
    rw [Dev.rd_bump_same, Dev.rd_of_frameView htel (by decide), Dev.rd_frameShown_MISSCNT, d.rd_frameStored x (by decide)]
  · refine (congrArg FrameView.missed hview).trans ?_
    show (d.frameTaken x).guard.missed = _
    rw [htaken]
    show ((d.frameStored x).frameTelemetry x).2.guard.missed + 1 = _
    refine congrArg (· + 1) ((congrArg FrameView.missed htel).trans ?_)
    show ((d.frameStored x).frameShown x).guard.missed = _
    rw [Dev.guard_frameShown, Dev.missed_frameStored]

/-- Settles O51: a good frame shows its channels, the bus, the sum and the charger's means, whatever the tiers then decide; a
frame without the bus result is counted, and a switch of CKD_TB has none. -/
theorem guardFrames : Obligations.GuardFrames := by
  unfold Obligations.GuardFrames
  intro s x hrun hstart
  refine ⟨fun ⟨hcalm, hgood⟩ => completes_step1 (·.guardFrame x) rfl ?_, fun hswitch => ?_, fun hcalm hbus =>
    completes_step1 (·.guardFrame x) rfl ?_⟩
  · have hfg : s.dev.FrameGood x := hgood
    refine ⟨fun c => ⟨?_, ?_, Dev.rd_guardFrame_on hrun hstart hcalm hfg, Dev.rd_guardFrame_off hrun hstart hcalm hfg⟩,
      Dev.rd_guardFrame_VBUS hrun hstart hcalm hfg, Dev.rd_guardFrame_PTOT hrun hstart hcalm hfg,
      Dev.rd_guardFrame_IBAT hrun hstart hcalm hfg, Dev.rd_guardFrame_VBAT hrun hstart hcalm hfg,
      Dev.rd_guardFrame_LAT hrun hstart hcalm hfg, Dev.rn_guardFrame_PMAX hrun hstart hcalm hfg,
      Dev.rd_guardFrame_MISSCNT hrun hstart hcalm hfg, Dev.missed_guardFrame_good hrun hstart hcalm hfg,
      Dev.measFlt_guardFrame_good hrun hstart hcalm hfg⟩
    · rw [Dev.channelOn, Dev.on_guardFrame_good hrun hstart hcalm hfg]
      exact s.dev.getLsbD_wantedMask c
    · rw [Dev.fdenLow_guardFrame_good hrun hstart hcalm hfg, BitVec.getLsbD_not, Dev.getLsbD_wantedMask]
      simp [Dev.wanted]
  · show s.step1 (·.guardFrame x) = _
    rw [State.step1, Dev.guardFrame_of_switching _ _ hswitch]
  · obtain ⟨hcount, hmissed⟩ := Dev.guardFrame_of_noBus hrun hstart hcalm hbus
    refine ⟨hcount, hmissed.trans ?_⟩
    simp [Dev.startsGuard]

end Sys2Proof.Machine
end

section
/-!
The writes that clear a block's counters (R67, R93, R119 and the register tables of the other blocks).
-/

namespace Sys2Proof.Machine

open Sys2Proof Sys2Proof.R

/-! ## A write that is let through -/

/-- A command whose meaning is an effect behind the gate completes with that effect, where the write is let through. -/
theorem completes_gate {c : Instr} {s : State} {acc : Acc} {a : Nat} {P : Dev → Prop} (eff : Dev → Dev)
    (h : exec c s = s.step1 fun d => d.gate acc a eff) (hm : s.dev.mayWrite acc a = true)
    (hp : P (eff (s.dev.dropHeld acc))) : Completes c s P :=
  completes_step1 _ h (by rw [Dev.gate_of_mayWrite _ _ hm]; exact hp)

/-! ## Registers that alone change -/

theorem Dev.onlyRegs_wr (d : Dev) (a : Nat) (v : Word) : d.onlyRegs (d.wr a v) (· = a) :=
  ⟨fun _ hk => Dev.rd_wr_ne d v hk, rfl⟩

theorem Dev.onlyRegs_setFld (d : Dev) (a : Nat) (f : Fld) (v : Nat) (hf : f.lo + f.w ≤ 16) :
    d.onlyRegs (d.setFld a f v) (· = a) := by
  refine ⟨fun k hk => Dev.rd_setFld_ne d f v hf hk, ?_⟩
  simp only [Dev.setFld, hf, ↓reduceIte]
  rfl

/-- One change of registers after another changes the registers of both. -/
theorem Dev.onlyRegs.trans {d e g : Dev} {K L : Nat → Prop} (h1 : d.onlyRegs e K) (h2 : e.onlyRegs g L) :
    d.onlyRegs g fun a => K a ∨ L a := by
  refine ⟨fun a ha => ?_, ?_⟩
  · rw [not_or] at ha
    exact (h2.1 a ha.2).trans (h1.1 a ha.1)
  · have hg : ({ g with regs := d.regs } : Dev) = { ({ g with regs := e.regs } : Dev) with regs := d.regs } := rfl
    rw [hg, h2.2]
    exact h1.2

theorem Dev.onlyRegs.mono {d e : Dev} {K L : Nat → Prop} (h : d.onlyRegs e K) (hkl : ∀ a, K a → L a) : d.onlyRegs e L :=
  ⟨fun a ha => h.1 a fun hk => ha (hkl a hk), h.2⟩

theorem Dev.onlyRegs_zero (d : Dev) (as : List Nat) : d.onlyRegs (d.zero as) (· ∈ as) := by
  refine ⟨fun a ha => by rw [Dev.rd_zero, if_neg ha], ?_⟩
  induction as generalizing d with
  | nil => rfl
  | cons a as ih =>
    have hz : ({ d.zero (a :: as) with regs := d.regs } : Dev) =
        { ({ (d.wr a 0).zero as with regs := (d.wr a 0).regs } : Dev) with regs := d.regs } := rfl
    rw [hz, ih]
    rfl

theorem Dev.rd_zero_mem (d : Dev) {as : List Nat} {a : Nat} (h : a ∈ as) : (d.zero as).rd a = 0 := by
  rw [Dev.rd_zero, if_pos h]

/-! ## The clears -/

/-- A command that clears the registers `regs` behind the gate leaves them 0 and everything else as it was. -/
theorem completes_clear {c : Instr} {s : State} {acc : Acc} {a : Nat} {regs : List Nat}
    (h : exec c s = s.step1 fun d => d.gate acc a (·.zero regs)) (hm : s.dev.mayWrite acc a = true) :
    Completes c s fun e => (∀ k ∈ regs, e.rd k = 0) ∧ (s.dev.dropHeld acc).onlyRegs e (fun k => k ∈ regs) :=
  completes_gate _ h hm ⟨fun _ hk => Dev.rd_zero_mem _ hk, Dev.onlyRegs_zero _ regs⟩

section Clears

variable {s : State} {acc : Acc}

/-- LP_CTL.CNTCLR names the phases of the loop as they are assigned, which discarding held bytes does not change. -/
theorem lpCntclr_clears (n : Loop) (hm : s.dev.mayWrite acc (LP_CTL n) = true) :
    let regs := [LP_CSKIP_CNT n, LP_STEP_CNT n, LP_REENTER_CNT n, LP_SHED_CNT n] ++
      (s.dev.phasesOf n).map fun m => PH_OCCNT m
    Completes (.lpCntclr acc n) s fun e =>
      (∀ k ∈ regs, e.rd k = 0) ∧ (s.dev.dropHeld acc).onlyRegs e (fun k => k ∈ regs) :=
  completes_gate (·.lpCntclr n) rfl hm ⟨fun _ hk => Dev.rd_zero_mem _ hk, Dev.onlyRegs_zero _ _⟩

/-- WDG_CTL.CNTCLR also ends an escalation. -/
theorem wdgCntclr_clears (hm : s.dev.mayWrite acc WDG_CTL = true) : Completes (.wdgCntclr acc) s fun e =>
    e.rd WDG_WARNCNT = 0 ∧ e.rd WDG_RSTCNT = 0 ∧ e.fld WDG_STATUS WDG_STATUS.ESC = 0 ∧
      (s.dev.dropHeld acc).onlyRegs e (fun k => k = WDG_WARNCNT ∨ k = WDG_RSTCNT ∨ k = WDG_STATUS) := by
  refine completes_gate Dev.wdgCntclr rfl hm ⟨?_, ?_, ?_, ?_⟩
  · rw [Dev.wdgCntclr, Dev.rd_setFld_ne _ _ _ (by decide) (by decide), Dev.rd_zero_mem _ (by simp)]
  · rw [Dev.wdgCntclr, Dev.rd_setFld_ne _ _ _ (by decide) (by decide), Dev.rd_zero_mem _ (by simp)]
  · exact Dev.fld_setFld_same _ _ _ _ (by decide)
  · refine ((Dev.onlyRegs_zero _ _).trans (Dev.onlyRegs_setFld _ _ _ _ (by decide))).mono fun k hk => ?_
    simpa [or_assoc] using hk

/-- CFG_DSCTL.CNTCLR also sets the lowest input voltage back to its top. -/
theorem dsCntclr_clears (hm : s.dev.mayWrite acc CFG_DSCTL = true) : Completes (.cfgDsctlCntclr acc) s fun e =>
    e.rd CFG_ERSTCNT = 0 ∧ e.rd CFG_RCYCCNT = 0 ∧ e.rd CFG_BOCNT = 0 ∧ e.rd CFG_VINMIN = 0xFFFF ∧
      (s.dev.dropHeld acc).onlyRegs e
        (fun k => k = CFG_ERSTCNT ∨ k = CFG_RCYCCNT ∨ k = CFG_BOCNT ∨ k = CFG_VINMIN) := by
  refine completes_gate Dev.dsCntclr rfl hm ⟨?_, ?_, ?_, Dev.rd_wr_same _ _ _, ?_⟩
  · rw [Dev.dsCntclr, Dev.rd_wr_ne _ _ (by decide), Dev.rd_zero_mem _ (by simp)]
  · rw [Dev.dsCntclr, Dev.rd_wr_ne _ _ (by decide), Dev.rd_zero_mem _ (by simp)]
  · rw [Dev.dsCntclr, Dev.rd_wr_ne _ _ (by decide), Dev.rd_zero_mem _ (by simp)]
  · refine ((Dev.onlyRegs_zero _ _).trans (Dev.onlyRegs_wr _ _ _)).mono fun k hk => ?_
    simpa [or_assoc] using hk

end Clears

/-- Settles O27: each command clears its list behind the gate; WDG_CTL and CFG_DSCTL also set one register more. -/
theorem counterClears : Obligations.CounterClears := by
  unfold Obligations.CounterClears
  intro s acc
  refine ⟨lpCntclr_clears, fun k => ?_, ?_, ?_, ?_, ?_, ?_, ?_, ?_, wdgCntclr_clears, dsCntclr_clears,
    ?_, ?_, ?_, ?_, ?_, ?_, ?_⟩ <;> exact completes_clear rfl

end Sys2Proof.Machine
end

section
/-!
What the hopper's completions and the drill can do to a device, said once for every relation that their parts keep: a relation that
is `HopClosed` holds across the completion of an item, and one that is `DrillClosed` across the supervision of a rail.
-/

namespace Sys2Proof.Machine

open Sys2Proof Sys2Proof.R

/-! ## Conditional and repeated steps -/

theorem RaiseClosed.when {R : Dev → Dev → Prop} (h : RaiseClosed R) {d : Dev} {b : Bool} {f : Dev → Dev}
    (hf : b = true → R d (f d)) : R d (d.when b f) := by
  unfold Dev.when
  split
  · exact hf ‹_›
  · exact h.refl d

theorem RaiseClosed.and {R S : Dev → Dev → Prop} (h : RaiseClosed R) (k : RaiseClosed S) :
    RaiseClosed fun d e => R d e ∧ S d e where
  refl d := ⟨h.refl d, k.refl d⟩
  trans h1 h2 := ⟨h.trans h1.1 h2.1, k.trans h1.2 h2.2⟩
  recorder d r := ⟨h.recorder d r, k.recorder d r⟩
  nvCount d n js := ⟨h.nvCount d n js, k.nvCount d n js⟩
  nvBytes d a bs := ⟨h.nvBytes d a bs, k.nvBytes d a bs⟩
  nvWrite d a bs := ⟨h.nvWrite d a bs, k.nvWrite d a bs⟩
  queue d f q := ⟨h.queue d f q, k.queue d f q⟩
  wr d a v h1 h2 := ⟨h.wr d a v h1 h2, k.wr d a v h1 h2⟩
  stat d e he := ⟨h.stat d e he, k.stat d e he⟩

/-! ## Completions (R296 to R301) -/

/-- The registers of the hopper. -/
def hopReg (a : Nat) : Bool := decide (0x400 ≤ a) && decide (a < 0x800)

theorem hopReg_FNDRAIN (fn : Fin 32) : hopReg (HOP_FNDRAIN + 2 * (fn.val / 16)) = true := by revert fn; decide

/-- `R` holds across each part of which the write of a completion record is built. -/
structure PushClosed (R : Dev → Dev → Prop) : Prop extends RaiseClosed R where
  hopWr : ∀ (d : Dev) (a : Nat) (v : Word), hopReg a = true → R d (d.wr a v)
  readers : ∀ (d : Dev) (crd : Vector Word 4) (ovr : Vector Bool 4),
    R d { d with hopper := { d.hopper with crd := crd, ovr := ovr } }
  ring : ∀ (d : Dev) (cs : List Completion), R d { d with hopper := { d.hopper with ring := cs } }

namespace PushClosed

variable {R : Dev → Dev → Prop} (h : PushClosed R)
include h

theorem overrun (d : Dev) (r : Fin 4) : R d (d.overrun r) := by
  unfold Dev.overrun
  split
  · refine h.trans ?_ (h.hopWr _ HOP_OVRCNT _ (by decide))
    exact h.trans (h.readers d _ _) (h.hopWr _ HOP_STICKY _ (by decide))
  · exact h.refl d

theorem pushCompletion (d : Dev) (c : Completion) : R d (d.pushCompletion c) := by
  unfold Dev.pushCompletion
  refine h.trans ?_ (h.raiseAll _ _ fun e he => ?_)
  · refine h.trans (h.trans (h.trans (h.trans ?_ (h.overrun _ 0)) (h.overrun _ 1)) (h.overrun _ 2)) (h.overrun _ 3)
    exact h.trans (h.ring d _) (h.hopWr _ HOP_CWR _ (by decide))
  · simp only [List.mem_cons, List.mem_map] at he
    obtain rfl | ⟨_, _, rfl⟩ := he <;> decide

end PushClosed

/-- `R` holds across each part of which the completion of an item is built. -/
structure HopClosed (R : Dev → Dev → Prop) : Prop extends RaiseClosed R where
  hopWr : ∀ (d : Dev) (a : Nat) (v : Word), hopReg a = true → R d (d.wr a v)
  hopper : ∀ (d : Dev) (x : HopperSt), R d { d with hopper := x }
  unqueue : ∀ (d : Dev) (tag : Tag), R d (d.unqueue tag)

namespace HopClosed

variable {R : Dev → Dev → Prop} (h : HopClosed R)
include h

theorem push : PushClosed R where
  toRaiseClosed := h.toRaiseClosed
  hopWr := h.hopWr
  readers d _ _ := h.hopper d _
  ring d _ := h.hopper d _

theorem completeOne (d : Dev) (tag : Tag) (status : Nat) (result : BitVec 64) : R d (d.completeOne tag status result) := by
  unfold Dev.completeOne
  split
  · exact h.refl d
  · refine h.trans ?_ (h.push.pushCompletion _ _)
    refine h.trans ?_ (h.when fun _ => h.record _ _ _ _)
    exact h.trans (h.trans (h.unqueue d tag) (h.hopper _ _)) (h.hopWr _ HOP_STATUS _ (by decide))

theorem settleDrains (d : Dev) : R d d.settleDrains := by
  refine h.foldl _ _ d fun e x _ => ?_
  split
  · exact h.refl e
  · exact h.trans (h.trans (h.hopper e _) (h.hopWr _ _ _ (hopReg_FNDRAIN x.fn))) (h.completeOne _ _ _ _)

theorem complete (d : Dev) (tag : Tag) (status : Nat) (result : BitVec 64) : R d (d.complete tag status result) :=
  h.trans (h.completeOne d _ _ _) (h.settleDrains _)

theorem endItems (d : Dev) (f : Nat → Option Nat) : R d (d.endItems f) := by
  unfold Dev.endItems
  dsimp only
  split
  · exact h.refl d
  · refine h.foldl _ _ d fun e t _ => ?_
    split
    · exact h.complete _ _ _ _
    · exact h.refl e

theorem endSetv (d : Dev) (n : Loop) (status : Nat) : R d (d.endSetv n status) :=
  h.foldl _ _ d fun _ _ _ => h.complete _ _ _ _

end HopClosed

/-! ## The drill (R125 to R147) -/

/-- The registers that the drill writes: its own, CFG_DSTATE, and those of snapshots. -/
def drillReg (a : Nat) : Bool :=
  (decide (0x1000 ≤ a) && decide (a < 0x1400)) || a = CFG_DSTATE ||
    (decide (REC_SNEWEST ≤ a) && decide (a < REC_SOLDEST + 4)) || a = REC_SDROPCNT

section DrillRegs

variable (r : Rail) (n : RstOut)

theorem drillReg_RSTATE : drillReg (SEQ_RSTATE r) = true := by revert r; decide
theorem drillReg_RFAILCNT : drillReg (SEQ_RFAILCNT r) = true := by revert r; decide
theorem drillReg_RUPTIME : drillReg (SEQ_RUPTIME r) = true := by revert r; decide
theorem drillReg_GOOD : drillReg (SEQ_GOOD + 2 * (r.val / 16)) = true := by revert r; decide
theorem drillReg_SHED : drillReg (SEQ_SHED + 2 * (r.val / 16)) = true := by revert r; decide
theorem drillReg_FAILED : drillReg (SEQ_FAILED + 2 * (r.val / 16)) = true := by revert r; decide
theorem drillReg_RAILON : drillReg (SEQ_RAILON + 2 * (r.val / 16)) = true := by revert r; decide
theorem drillReg_RSTSTAT : drillReg (SEQ_RSTSTAT + 2 * (n.val / 16)) = true := by revert n; decide
theorem drillReg_STRETCHING : drillReg (SEQ_RSTSTAT + 2 * ((8 + n.val) / 16)) = true := by revert n; decide

end DrillRegs

/-- `R` holds across each part of which the drill's answers to a change of a rail are built, but for a cut of a loop. -/
structure DrillClosed (R : Dev → Dev → Prop) : Prop extends HopClosed R where
  drillWr : ∀ (d : Dev) (a : Nat) (v : Word), drillReg a = true → R d (d.wr a v)
  drill : ∀ (d : Dev) (x : DrillSt), R d { d with drill := x }
  pins : ∀ (d : Dev) (x : PinSt), R d { d with pins := x }
  lamps : ∀ (d : Dev) (x : Vector LampSt 2), R d { d with lamps := x }

namespace DrillClosed

variable {R : Dev → Dev → Prop} (h : DrillClosed R)
include h

theorem drillFld (d : Dev) (a : Nat) (f : Fld) (v : Nat) (ha : drillReg a = true) (hf : f.lo + f.w ≤ 16) :
    R d (d.setFld a f v) := by
  simp only [Dev.setFld, hf, ↓reduceIte]
  exact h.drillWr d a _ ha

theorem abandonNewt (d : Dev) : R d d.abandonNewt := by
  unfold Dev.abandonNewt
  split
  · exact h.trans (h.drillFld d _ _ _ (by decide) (by decide)) (h.raise _ (by decide))
  · exact h.refl d

theorem syncDevice (d : Dev) : R d d.syncDevice := by
  unfold Dev.syncDevice
  dsimp only
  split
  · exact h.trans (h.drillFld d _ _ _ (by decide) (by decide)) (h.abandonNewt _)
  · split
    · exact h.drillFld d _ _ _ (by decide) (by decide)
    · exact h.refl d

theorem setRailOn (d : Dev) (r : Rail) (b : Bool) : R d (d.setRailOn r b) :=
  h.trans (h.drillWr d _ _ (drillReg_RAILON r)) (h.syncDevice _)

theorem setRstate (d : Dev) (r : Rail) (st : Nat) : R d (d.setRstate r st) := by
  refine h.trans ?_ (h.drillFld _ SEQ_STATUS SEQ_STATUS.SHED _ (by decide) (by decide))
  refine h.trans ?_ (h.when fun _ => h.drillWr _ _ _ (drillReg_FAILED r))
  exact h.trans (h.trans (h.drillFld d _ _ _ (drillReg_RSTATE r) (by decide)) (h.drillWr _ _ _ (drillReg_GOOD r)))
    (h.drillWr _ _ _ (drillReg_SHED r))

/-- Rails that a condition picks take a state. -/
theorem setRstates (d : Dev) (rs : List Rail) (p : Dev → Rail → Prop) [∀ e r, Decidable (p e r)] (st : Nat) :
    R d (rs.foldl (fun d r => if p d r then d.setRstate r st else d) d) := by
  refine h.foldl _ _ d fun e r _ => ?_
  split
  · exact h.setRstate e r st
  · exact h.refl e

theorem setOffDue (d : Dev) (r : Rail) (b : Bool) : R d (d.setOffDue r b) := h.drill d _
theorem setElapsedRail (d : Dev) (r : Rail) (b : Bool) : R d (d.setElapsedRail r b) := h.drill d _
theorem setLossOnly (d : Dev) (r : Rail) (b : Bool) : R d (d.setLossOnly r b) := h.drill d _

theorem setDs (d : Dev) (v : Nat) : R d (d.setDs v) := by
  refine h.trans (h.trans ?_ (h.drillFld _ SEQ_STATUS SEQ_STATUS.STATE v (by decide) (by decide)))
    (h.when fun _ => h.lamps _ _)
  split
  · exact h.trans (h.drillWr d _ _ (by decide)) (h.drillWr _ _ _ (by decide))
  · exact h.refl d

theorem rstStep (d : Dev) (n : RstOut) : R d (d.rstStep n).2 :=
  h.trans (h.trans (h.drill d _) (h.drillWr _ _ _ (drillReg_RSTSTAT n))) (h.drillWr _ _ _ (drillReg_STRETCHING n))

theorem foldl_rstGather (ns : List RstOut) (x : List Nat × Dev) : R x.2 (ns.foldl rstGather x).2 := by
  induction ns generalizing x with
  | nil => exact h.refl _
  | cons n ns ih => exact h.trans (h.rstStep x.2 n) (ih (rstGather x n))

theorem rstSync (d : Dev) : R d d.rstSync := by
  rw [Dev.rstSync_eq]
  split
  · exact h.refl d
  · exact h.trans (h.foldl_rstGather _ ([], d)) (h.raiseAll _ _ (foldl_rstGather_lt _ _ (by simp)))

theorem preoff (d : Dev) (touched : Rail → Bool) : R d (d.preoff touched) := h.trans (h.drill d _) (h.rstSync _)
theorem preoffEnd (d : Dev) : R d d.preoffEnd := h.trans (h.drill d _) (h.rstSync _)

theorem endDown (d : Dev) : R d d.endDown := by
  unfold Dev.endDown
  refine h.trans ?_ (h.endItems _ _)
  refine h.trans ?_ (h.raise _ (by decide))
  refine h.trans (h.trans (h.trans ?_ (h.setDs _ _)) (h.preoffEnd _)) (h.drill _ _)
  exact h.setRstates d rails (fun d r => d.rstate r = rsShed) rsOff

theorem endFault (d : Dev) : R d d.endFault := by
  unfold Dev.endFault
  refine h.trans ?_ (h.endItems _ _)
  refine h.trans ?_ (h.raise _ (by decide))
  exact h.trans (h.trans (h.setDs d _) (h.preoffEnd _)) (h.drill _ _)

theorem startDown (d : Dev) : R d d.startDown := by
  refine h.trans (h.trans (h.trans ?_ (h.drill _ _)) (h.setDs _ _)) (h.preoff _ _)
  exact h.foldl _ _ d fun e r _ => h.setOffDue e r true

/-- A switch has reached its profile: the drill is UP, and the SWITCH item ends. -/
theorem endSwitch (d : Dev) (x : DrillSt) :
    R d (((({ d.setDs drUp with drill := x } : Dev).preoffEnd).raise 130).endItems (onlyCode 0x12 0)) :=
  h.trans (h.trans (h.trans (h.trans (h.setDs d _) (h.drill _ _)) (h.preoffEnd _)) (h.raise _ (by decide)))
    (h.endItems _ _)

theorem checkUp (d : Dev) : R d d.checkUp := by
  unfold Dev.checkUp
  dsimp only
  split
  · exact h.refl d
  split
  · exact h.trans (h.trans (h.setDs d _) (h.raise _ (by decide))) (h.endItems _ _)
  split
  · have hdown (e : Dev) (x : DrillSt) : R e ({ e with drill := x } : Dev).startDown :=
      h.trans (h.drill e x) (h.startDown _)
    split
    · split
      · exact h.trans (h.trans (h.endSwitch d _) (hdown _ _)) (h.endDown _)
      · exact h.trans (h.endSwitch d _) (hdown _ _)
    · exact h.endSwitch d _
  · exact h.refl d

theorem startPhase2 (d : Dev) : R d d.startPhase2 := by
  unfold Dev.startPhase2
  refine h.trans (h.trans ?_ (h.rstSync _)) (h.checkUp _)
  refine h.trans ?_ (h.setRstates _ rails
    (fun e r => (e.inMask d.targetNow r && (e.rstate r = rsOff || e.rstate r = rsShed)) = true) rsWaiting)
  exact h.trans (h.drillFld d _ _ _ (by decide) (by decide)) (h.drill _ _)

theorem checkDown (d : Dev) : R d d.checkDown := by
  unfold Dev.checkDown
  split
  · split
    · exact h.endDown d
    · exact h.refl d
  split
  · split
    · exact h.endFault d
    · exact h.refl d
  split
  · split
    · exact h.startPhase2 d
    · exact h.refl d
  · exact h.refl d

theorem railFallen (d : Dev) (r : Rail) : R d (d.railFallen r) := by
  refine h.trans ?_ (h.checkDown _)
  refine h.trans ?_ (h.setRailOn _ r false)
  exact h.trans (h.setLossOnly d r false) (h.when fun _ => h.setRstate _ r rsOff)

theorem checkFallen (d : Dev) (r : Rail) : R d (d.checkFallen r) := by
  unfold Dev.checkFallen
  split
  · exact h.railFallen d r
  · exact h.checkDown d

theorem dropWaiting (d : Dev) : R d d.dropWaiting := h.setRstates d rails (fun d r => d.rstate r = rsWaiting) rsOff

theorem noteFailure (d : Dev) (r : Rail) (cause : Nat) : R d (d.noteFailure r cause) := by
  refine h.trans ?_ (h.drill _ _)
  split
  · exact h.refl d
  · exact h.drillWr d _ _ (by decide)

theorem holdSnap (d : Dev) (n : BitVec 32) : R d (d.holdSnap n) := by
  have hnew : R d (({ d with recorder := { d.recorder with anySnap := true } } : Dev).wr32 REC_SNEWEST n) :=
    h.trans (h.recorder d _) (h.trans (h.drillWr _ _ _ (by decide)) (h.drillWr _ _ _ (by decide)))
  have hold (e : Dev) (v : BitVec 32) : R e (e.wr32 REC_SOLDEST v) :=
    h.trans (h.drillWr e _ _ (by decide)) (h.drillWr _ _ _ (by decide))
  unfold Dev.holdSnap
  dsimp only
  split
  · exact h.trans hnew (hold _ _)
  split
  · exact h.trans hnew (hold _ _)
  · exact hnew

theorem takeSnapshot (d : Dev) (cause rail code : Nat) : R d (d.takeSnapshot cause rail code) := by
  unfold Dev.takeSnapshot
  dsimp only
  split
  · refine h.trans ?_ (h.raise _ (by decide))
    refine h.trans ?_ (h.record _ _ _ _)
    exact h.trans (h.drillWr d _ _ (by decide)) (h.setFlag _ _ _ _ (by decide) (by decide) (by decide))
  · refine h.trans ?_ (h.raise _ (by decide))
    refine h.trans ?_ (h.startFlush _)
    refine h.trans ?_ (h.holdSnap _ _)
    exact h.trans (h.record d _ _ _) (h.recorder _ _)

omit h in
theorem loopOf_loopRail : ∀ n : Loop, loopOf (loopRail n).val = some n := by decide

theorem cutRail {n : Loop} (hcut : ∀ d : Dev, R d (d.cutLoop n)) (d : Dev) : R d (d.cutRail (loopRail n)) := by
  unfold Dev.cutRail
  rw [loopOf_loopRail]
  exact h.trans (h.trans (h.setOffDue d _ _) (h.setElapsedRail _ _ _)) (hcut _)

/-- The start of a fault shutdown (R135 steps 1 and 2). -/
theorem faultShutdown (d : Dev) (x : Dev → DrillSt) :
    R d ((({ d.dropWaiting with drill := x d.dropWaiting } : Dev).setFlag SEQ_STICKY SEQ_STICKY.FAULTSD true).setDs drFaulting) :=
  h.trans (h.trans (h.trans (h.dropWaiting d) (h.drill _ _)) (h.drillFld _ _ _ _ (by decide) (by decide))) (h.setDs _ _)

/-- The failure of a loop's rail: beside the drill's own it cuts the loop. -/
theorem railFailure {n : Loop} (hcut : ∀ d : Dev, R d (d.cutLoop n)) (d : Dev) (cause : Nat) :
    R d (d.railFailure (loopRail n) cause) := by
  unfold Dev.railFailure
  refine h.trans ?_ (h.checkFallen _ _)
  refine h.trans ?_ (h.rstSync _)
  refine h.trans ?_ (h.takeSnapshot _ _ _ _)
  refine h.trans ?_ (h.raiseAll _ _ fun e he => ?_)
  rotate_left
  · have hlt : ∀ e ∈ [131, 132], e < 256 := by decide
    split at he
    · exact hlt e he
    · exact hlt e (List.mem_cons.mpr (.inl (List.mem_singleton.mp he)))
  refine h.trans ?_ (h.when fun _ => h.faultShutdown _ fun e =>
    { e.drill with t0 := if e.ds = drUp then e.now else e.drill.t0, firstFail := _, firstAt := e.now,
                   firstRail := (loopRail n).val, gap := e.gapList, offDue := 0, phase2 := false, warned := false })
  refine h.trans ?_ (h.when fun _ => h.drill _ _)
  refine h.trans ?_ (h.cutRail hcut _)
  refine h.trans ?_ (h.drillWr _ _ _ (drillReg_RFAILCNT _))
  refine h.trans ?_ (h.drillWr _ _ _ (by decide))
  refine h.trans ?_ (h.noteFailure _ _ _)
  refine h.trans ?_ (h.setLossOnly _ _ _)
  refine h.trans ?_ (h.drillFld _ _ _ _ (drillReg_RSTATE _) (by decide))
  exact h.trans (h.drillWr d _ _ (by decide)) (h.setRstate _ _ _)

theorem railLoss {n : Loop} (hcut : ∀ d : Dev, R d (d.cutLoop n)) (d : Dev) : R d (d.railLoss (loopRail n)) := by
  have hlost := h.drillFld d SEQ_STICKY SEQ_STICKY.LOST 1 (by decide) (by decide)
  unfold Dev.railLoss
  dsimp only
  split
  · refine h.trans hlost ?_
    refine h.trans ?_ (h.rstSync _)
    refine h.trans ?_ (h.raise _ (by decide))
    exact h.trans (h.trans (h.setRstate _ _ _) (h.drillFld _ _ _ _ (drillReg_RSTATE _) (by decide))) (h.setLossOnly _ _ _)
  · exact h.trans hlost (h.railFailure hcut _ _)

theorem railGood (d : Dev) (r : Rail) : R d (d.railGood r) := by
  refine h.trans (h.trans ?_ (h.rstSync _)) (h.checkUp _)
  exact h.trans (h.setRstate d _ _) (h.drillWr _ _ _ (drillReg_RUPTIME r))

/-- A rail that has not lost its good condition is not cut by its supervision. -/
theorem railPoll_of_good (d : Dev) (r : Rail) (hg : d.rstate r = rsGood → d.goodCond r = true) : R d (d.railPoll r) := by
  unfold Dev.railPoll
  dsimp only
  split
  · exact h.refl d
  split
  · split
    · exact h.railGood d r
    · exact h.refl d
  split
  · rw [if_pos (hg ‹_›)]
    exact h.refl d
  split
  · exact h.railFallen d r
  · exact h.refl d

/-- The supervision of a loop's rail: beside the drill's own it may cut the loop. -/
theorem pollLoop {n : Loop} (hcut : ∀ d : Dev, R d (d.cutLoop n)) (d : Dev) : R d (d.pollLoop n) := by
  by_cases hg : d.rstate (loopRail n) = rsGood → d.goodCond (loopRail n) = true
  · exact h.railPoll_of_good d _ hg
  · obtain ⟨hst, hbad⟩ := Classical.not_imp.mp hg
    have hbad : d.goodCond (loopRail n) = false := by simpa using hbad
    unfold Dev.pollLoop Dev.railPoll
    dsimp only
    rw [hst, hbad]
    split
    · exact h.refl d
    · exact h.railLoss hcut d

theorem ocRail {n : Loop} (hcut : ∀ d : Dev, R d (d.cutLoop n)) (d : Dev) : R d (d.ocRail n) := by
  unfold Dev.ocRail
  dsimp only
  split
  · exact h.railFailure hcut d 4
  · exact h.refl d

end DrillClosed

/-- A rail that is OFF and not on is not touched by its supervision. -/
theorem Dev.railPoll_of_off (d : Dev) (r : Rail) (hon : d.railOn r = false) (hst : d.rstate r = rsOff) : d.railPoll r = d := by
  simp [Dev.railPoll, hon, hst]

end Sys2Proof.Machine
end

section
/-!
What the parts of a loop's operation can do to a device, said once for every relation that their small steps keep, and the relation
by which the proofs about loops say what a step leaves: registers, fields of the loop's LP_STATUS, and events that are pending.
-/

namespace Sys2Proof.Machine

open Sys2Proof Sys2Proof.R

/-! ## The registers of loops and phases -/

/-- The registers of loops and phases. -/
def loopReg (a : Nat) : Bool := decide (0x2000 ≤ a) && decide (a < 0x2900)

theorem loopReg_iff {a : Nat} : loopReg a = true ↔ 0x2000 ≤ a ∧ a < 0x2900 := by simp [loopReg]

theorem loopReg_loop (n : Loop) {b : Nat} (h : 0x2000 ≤ b) (hb : b < 0x2080) : loopReg (b + 0x80 * n.val) = true := by
  have := n.isLt
  simp only [loopReg_iff]
  omega

theorem loopReg_phase (m : Phase) {b : Nat} (h : 0x2600 ≤ b) (hb : b < 0x2620) : loopReg (b + 0x20 * m.val) = true := by
  have := m.isLt
  simp only [loopReg_iff]
  omega

section Elsewhere

variable {a : Nat} (h : loopReg a = true)
include h

theorem evtReg_of_loopReg : evtReg a = false := by
  rw [loopReg_iff] at h
  simp only [evtReg, EVT_STAT, KE_STICKY, KE_EVQOVCNT, REC_STATUS, REC_OLDEST, REC_DROPCNT, Bool.or_eq_false_iff,
    Bool.and_eq_false_iff, decide_eq_false_iff_not]
  omega

theorem statReg_of_loopReg : statReg a = false := by
  rw [loopReg_iff] at h
  simp only [statReg, EVT_STAT, Bool.and_eq_false_iff, decide_eq_false_iff_not]
  omega

theorem hopReg_of_loopReg : hopReg a = false := by
  rw [loopReg_iff] at h
  simp only [hopReg, Bool.and_eq_false_iff, decide_eq_false_iff_not]
  omega

theorem drillReg_of_loopReg : drillReg a = false := by
  rw [loopReg_iff] at h
  simp only [drillReg, CFG_DSTATE, REC_SNEWEST, REC_SOLDEST, REC_SDROPCNT, Bool.or_eq_false_iff, Bool.and_eq_false_iff,
    decide_eq_false_iff_not]
  omega

end Elsewhere

theorem statReg_of_hopReg {a : Nat} (h : hopReg a = true) : statReg a = false := by
  simp only [hopReg, statReg, EVT_STAT, Bool.and_eq_true, Bool.and_eq_false_iff, decide_eq_true_eq,
    decide_eq_false_iff_not] at h ⊢
  omega

theorem statReg_of_drillReg {a : Nat} (h : drillReg a = true) : statReg a = false := by
  simp only [drillReg, statReg, EVT_STAT, CFG_DSTATE, REC_SNEWEST, REC_SOLDEST, REC_SDROPCNT, Bool.or_eq_true,
    Bool.and_eq_true, Bool.and_eq_false_iff, decide_eq_true_eq, decide_eq_false_iff_not] at h ⊢
  omega

theorem statReg_VL_STATUS (k : Link) : statReg (VL_STATUS k) = false := by revert k; decide

/-! ## The operations by their parts -/

/-- A load step is noted (R59). -/
def Dev.noteStep (d : Dev) (n : Loop) : Dev :=
  ((d.bump (LP_STEP_CNT n)).setFlag (LP_STICKY n) LP_STICKY.STEP true).modLoop n fun x => { x with spoiled := true }

theorem Dev.loadStep_eq (d : Dev) (n : Loop) : d.loadStep n =
    if (d.noteStep n).lstate n = lsRegulating then ((d.noteStep n).rejoin n).setFlag (LP_STATUS n) LP_STATUS.STEPHOLD true
    else (d.noteStep n).modLoop n fun x => { x with holdPend := true } := rfl

theorem Dev.rd_noteStep (d : Dev) (n : Loop) {a : Nat} (h1 : a ≠ LP_STEP_CNT n) (h2 : a ≠ LP_STICKY n) :
    (d.noteStep n).rd a = d.rd a := by
  rw [Dev.noteStep, Dev.rd_modLoop, Dev.rd_setFlag_ne _ _ _ (by decide) h2, Dev.rd_bump_ne _ h1]

theorem Dev.rd_phState_noteStep (d : Dev) (n : Loop) (m : Phase) : (d.noteStep n).rd (PH_STATE m) = d.rd (PH_STATE m) :=
  have := n.isLt
  d.rd_noteStep n (by simp only [PH_STATE, LP_STEP_CNT]; omega) (by simp only [PH_STATE, LP_STICKY]; omega)

theorem Dev.regulate_eq (d : Dev) (n : Loop) : d.regulate n =
    ((d.setLstate n lsRegulating).modLoop n fun x => { x with holdPend := false }).when (d.loop n).holdPend
      fun d => d.setFlag (LP_STATUS n) LP_STATUS.STEPHOLD true := rfl

/-- A loop takes a target that differs from its own (R51). -/
def Dev.aim (d : Dev) (n : Loop) (v : Nat) : Dev :=
  (d.modLoop n fun x => { x with
    target := v, dwelled := false, ssRamp := decide (d.lstate n = lsSoftStart) || (x.ssRamp && !x.up) }).setFlag
      (LP_STATUS n) LP_STATUS.SETTLED false

theorem Dev.newTarget_eq (d : Dev) (n : Loop) (v : Nat) : d.newTarget n v =
    if (d.loop n).target = v then d
    else if (d.aim n v).lstate n = lsRegulating ∨ (d.aim n v).lstate n = lsTransition then
      if (d.aim n v).rn (LP_VREF n) = (d.aim n v).refGoal n then (d.aim n v).regulate n
      else (d.aim n v).setLstate n lsTransition
    else d.aim n v := rfl

/-- The goal of the reference, and what one step makes of the reference and its accumulator (R51, R54). -/
def Dev.stepGoal (d : Dev) (n : Loop) : Nat :=
  if d.lstate n = lsSoftStop then min (d.senseLo n) (d.rn (LP_VREF n)) else d.refGoal n
def Dev.refNext (d : Dev) (n : Loop) : Nat × Nat :=
  match d.slewNow n with
  | none => (d.stepGoal n, 0)
  | some s => refMove (d.rn (LP_VREF n)) (d.loop n).refAcc (d.stepGoal n)
      (s * d.fld (LP_PERIOD n) LP_PERIOD.PERIOD * 16 / d.osr n)
def Dev.refMoved (d : Dev) (n : Loop) : Dev :=
  (d.wn (LP_VREF n) (d.refNext n).1).modLoop n fun x =>
    { x with refAcc := (d.refNext n).2, spoiled := x.spoiled || decide ((d.refNext n).1 ≠ d.rn (LP_VREF n)) }

/-- The reference has come to the target. -/
def Dev.refThere (d : Dev) (n : Loop) : Dev :=
  let d := d.modLoop n fun x => { x with ramped := true, ssRamp := false }
  let d := d.when (d.lstate n = lsTransition) (·.regulate n)
  d.when (d.lstate n = lsRegulating && (d.loop n).dwelled) (·.settle n)

theorem Dev.refStep_eq (d : Dev) (n : Loop) : d.refStep n =
    if d.lstate n = lsSoftStart && (d.loop n).ssWait then d
    else if (d.refNext n).1 ≠ d.stepGoal n then d.refMoved n
    else if (d.refMoved n).lstate n = lsSoftStop then (d.refMoved n).goOff n
    else (d.refMoved n).refThere n := by
  unfold Dev.refStep Dev.refMoved Dev.refNext Dev.stepGoal Dev.refThere
  rfl

/-! ## The small steps -/

/-- `R` holds across the small steps of the ends of a loop's operations: ACTPH and the offsets, the loop's current and power,
CFGERR, the bits of the links, and the end of items. -/
structure TailClosed (n : Loop) (R : Dev → Dev → Prop) : Prop extends HopClosed R where
  actph : ∀ (d : Dev) (v : Nat), R d (d.setFld (LP_STATUS n) LP_STATUS.ACTPH v)
  cfgErr : ∀ (d : Dev) (b : Bool), R d (d.setFlag (LP_STATUS n) LP_STATUS.CFGERR b)
  iout : ∀ (d : Dev) (v : Word), R d (d.wr (LP_IOUT n) v)
  pout : ∀ (d : Dev) (v : Word), R d (d.wr (LP_POUT n) v)
  offset : ∀ (d : Dev) (m : Phase) (o : Nat), R d (d.modPhase m fun x => { x with offset := o })
  links : ∀ (d : Dev) (l : Vector LinkSt 4), R d { d with links := l }
  attn : ∀ (d : Dev) (k : Link) (b : Bool), R d (d.setFlag (VL_STATUS k) VL_STATUS.ATTN b)

/-- And across changes of the phases that `J` picks. -/
structure PhaseClosed (n : Loop) (J : Phase → Prop) (R : Dev → Dev → Prop) : Prop extends TailClosed n R where
  phState : ∀ (d : Dev) (m : Phase) (v : Word), J m → R d (d.wr (PH_STATE m) v)
  phTrim : ∀ (d : Dev) (m : Phase) (v : Word), J m → R d (d.wr (PH_TRIM m) v)
  phIout : ∀ (d : Dev) (m : Phase) (v : Word), J m → R d (d.wr (PH_IOUT m) v)
  phase : ∀ (d : Dev) (m : Phase) (g : PhaseSt → PhaseSt), J m → R d (d.modPhase m g)

/-- And across those of a load step. -/
structure StepClosed (n : Loop) (J : Phase → Prop) (R : Dev → Dev → Prop) : Prop extends PhaseClosed n J R where
  stepCnt : ∀ (d : Dev) (v : Word), R d (d.wr (LP_STEP_CNT n) v)
  sticky : ∀ (d : Dev) (v : Word), R d (d.wr (LP_STICKY n) v)
  stepHold : ∀ (d : Dev) (b : Bool), R d (d.setFlag (LP_STATUS n) LP_STATUS.STEPHOLD b)
  spoil : ∀ (d : Dev), R d (d.modLoop n fun x => { x with spoiled := true })
  holdPend : ∀ (d : Dev) (b : Bool), R d (d.modLoop n fun x => { x with holdPend := b })

/-- And across those by which a loop changes its state, its target and its reference. -/
structure WorkClosed (n : Loop) (J : Phase → Prop) (R : Dev → Dev → Prop) : Prop extends StepClosed n J R where
  state : ∀ (d : Dev) (v : Nat), R d (d.setLstate n v)
  pg : ∀ (d : Dev) (b : Bool), R d (d.setFlag (LP_STATUS n) LP_STATUS.PG b)
  settled : ∀ (d : Dev) (b : Bool), R d (d.setFlag (LP_STATUS n) LP_STATUS.SETTLED b)
  loop : ∀ (d : Dev) (g : LoopSt → LoopSt), R d (d.modLoop n g)

/-- And across those of the reference and the compensator. -/
structure DriveClosed (n : Loop) (J : Phase → Prop) (R : Dev → Dev → Prop) : Prop extends WorkClosed n J R where
  vref : ∀ (d : Dev) (v : Word), R d (d.wr (LP_VREF n) v)
  duty : ∀ (d : Dev) (v : Word), R d (d.wr (LP_DUTY n) v)
  skipCnt : ∀ (d : Dev) (v : Word), R d (d.wr (LP_CSKIP_CNT n) v)

/-- `R` holds across the small steps by which a loop takes a target. -/
structure AimClosed (n : Loop) (R : Dev → Dev → Prop) : Prop where
  refl : ∀ d, R d d
  trans : ∀ {d e g}, R d e → R e g → R d g
  loop : ∀ (d : Dev) (g : LoopSt → LoopSt), R d (d.modLoop n g)
  state : ∀ (d : Dev) (v : Nat), R d (d.setLstate n v)
  settled : ∀ (d : Dev) (b : Bool), R d (d.setFlag (LP_STATUS n) LP_STATUS.SETTLED b)
  stepHold : ∀ (d : Dev) (b : Bool), R d (d.setFlag (LP_STATUS n) LP_STATUS.STEPHOLD b)

namespace AimClosed

variable {n : Loop} {R : Dev → Dev → Prop} (h : AimClosed n R)
include h

theorem regulate (d : Dev) : R d (d.regulate n) := by
  have hreg (g : LoopSt → LoopSt) : R d ((d.setLstate n lsRegulating).modLoop n g) := h.trans (h.state d _) (h.loop _ _)
  rw [Dev.regulate_eq, Dev.when]
  split
  · exact h.trans (hreg _) (h.stepHold _ _)
  · exact hreg _

theorem newTarget (d : Dev) (v : Nat) : R d (d.newTarget n v) := by
  have haim : R d (d.aim n v) := h.trans (h.loop d _) (h.settled _ _)
  rw [Dev.newTarget_eq]
  split
  · exact h.refl d
  split
  · split
    · exact h.trans haim (h.regulate _)
    · exact h.trans haim (h.state _ _)
  · exact haim

end AimClosed

namespace TailClosed

variable {n : Loop} {R : Dev → Dev → Prop} (h : TailClosed n R)
include h

theorem spaceOver (d : Dev) (all ms : List Phase) : R d (d.spaceOver n all ms) :=
  h.foldl _ _ d fun e m _ => h.offset e m _

theorem respace (d : Dev) : R d (d.respace n) := h.trans (h.actph d _) (h.spaceOver _ _ _)

theorem sumIout (d : Dev) : R d (d.sumIout n) := h.trans (h.iout d _) (h.pout _ _)

theorem evalCfgErr (d : Dev) : R d (d.evalCfgErr n) := h.cfgErr d _

theorem vlSetBits (d : Dev) (k : Link) (m : Word) : R d (d.vlSetBits k m) := h.trans (h.links d _) (h.attn _ k _)

theorem vlSettle (d : Dev) : R d (d.vlSettle n) := by
  unfold Dev.vlSettle
  split
  · exact h.vlSetBits d _ _
  · exact h.refl d

theorem vlFault (d : Dev) : R d (d.vlFault n) := by
  unfold Dev.vlFault
  split
  · exact h.vlSetBits d _ _
  · exact h.refl d

theorem vlRailOff (d : Dev) : R d (d.vlRailOff n) := by
  unfold Dev.vlRailOff
  split
  · exact h.vlSetBits d _ _
  · exact h.refl d

/-- The rise of SETTLED. -/
theorem settle (hs : ∀ (d : Dev) (b : Bool), R d (d.setFlag (LP_STATUS n) LP_STATUS.SETTLED b)) (d : Dev) : R d (d.settle n) := by
  unfold Dev.settle
  split
  · exact h.refl d
  · exact h.trans (h.trans (hs d _) (h.vlSettle _)) (h.endSetv _ n _)

/-- The end of a loop's way OFF, once its phases are at mid. -/
theorem offTail (d : Dev) : R d (((((d.respace n).sumIout n).evalCfgErr n).vlRailOff n).endSetv n 0x31) :=
  h.trans (h.trans (h.trans (h.trans (h.respace d) (h.sumIout _)) (h.evalCfgErr _)) (h.vlRailOff _)) (h.endSetv _ n _)

end TailClosed

namespace PhaseClosed

variable {n : Loop} {J : Phase → Prop} {R : Dev → Dev → Prop} (h : PhaseClosed n J R)
include h

theorem phFld (d : Dev) {m : Phase} (hm : J m) (f : Fld) (hf : f.lo + f.w ≤ 16) (v : Nat) :
    R d (d.setFld (PH_STATE m) f v) := by
  simp only [Dev.setFld, hf, ↓reduceIte]
  exact h.phState d m _ hm

theorem setPstate (d : Dev) {m : Phase} (hm : J m) (v : Nat) : R d (d.setPstate m v) := h.phFld d hm _ (by decide) v

theorem idlePhase (d : Dev) {m : Phase} (hm : J m) (st : Nat) : R d (d.idlePhase m st) := by
  unfold Dev.idlePhase
  refine h.trans ?_ (h.phase _ m _ hm)
  exact h.trans (h.trans (h.setPstate d hm st) (h.phIout _ m _ hm)) (h.phFld _ hm PH_STATE.OCNOW (by decide) _)

/-- The phases that are FALLOW or LEAVING take JOINING, and only those. -/
theorem rejoin (d : Dev) (hj : ∀ m, d.pstate m = psFallow ∨ d.pstate m = psLeaving → J m) : R d (d.rejoin n) := by
  unfold Dev.rejoin
  refine h.trans (h.trans (h.foldl _ _ d fun e m hm => ?_) (h.spaceOver _ _ _)) (h.sumIout _)
  have hm : J m := hj m (by simpa using (List.mem_filter.mp hm).2)
  exact h.trans (h.trans (h.setPstate e hm _) (h.phTrim _ m _ hm)) (h.phIout _ m _ hm)

end PhaseClosed

namespace StepClosed

variable {n : Loop} {J : Phase → Prop} {R : Dev → Dev → Prop} (h : StepClosed n J R)
include h

theorem stickyFlag (d : Dev) (f : Fld) (hf : f.lo + f.w ≤ 16) (b : Bool) : R d (d.setFlag (LP_STICKY n) f b) := by
  simp only [Dev.setFlag, Dev.setFld, hf, ↓reduceIte]
  exact h.sticky d _

theorem spFault (d : Dev) : R d (d.spFault n) :=
  h.trans (h.stickyFlag d _ (by decide) true) (h.raise _ (by have := n.isLt; omega))

theorem loadStep (d : Dev) (hj : ∀ m, d.pstate m = psFallow ∨ d.pstate m = psLeaving → J m) : R d (d.loadStep n) := by
  have hnote : R d (d.noteStep n) :=
    h.trans (h.trans (h.stepCnt d _) (h.stickyFlag _ LP_STICKY.STEP (by decide) true)) (h.spoil _)
  rw [Dev.loadStep_eq]
  split
  · refine h.trans hnote (h.trans (h.rejoin _ fun m hm => hj m ?_) (h.stepHold _ _))
    rwa [Dev.pstate, Dev.fld_of_rd PH_STATE.STATE (by decide) (d.rd_phState_noteStep n m)] at hm
  · exact h.trans hnote (h.holdPend _ _)

end StepClosed

namespace WorkClosed

variable {n : Loop} {J : Phase → Prop} {R : Dev → Dev → Prop} (h : WorkClosed n J R)
include h

theorem toAimClosed : AimClosed n R where
  refl := h.refl
  trans := h.trans
  loop := h.loop
  state := h.state
  settled := h.settled
  stepHold := h.stepHold

theorem regulate (d : Dev) : R d (d.regulate n) := h.toAimClosed.regulate d

theorem newTarget (d : Dev) (v : Nat) : R d (d.newTarget n v) := h.toAimClosed.newTarget d v

theorem settle (d : Dev) : R d (d.settle n) := h.toTailClosed.settle h.settled d

theorem limitTarget (d : Dev) : R d (d.limitTarget n) := by
  unfold Dev.limitTarget
  dsimp only
  split
  · exact h.refl d
  · exact h.trans (h.trans (h.spFault d) (h.loop _ _)) (h.newTarget _ _)

/-- A loop that stops shows neither PG, nor SETTLED, nor STEPHOLD. -/
theorem stop (d : Dev) (v : Nat) (g : LoopSt → LoopSt) : R d (((((d.setLstate n v).modLoop n g).setFlag (LP_STATUS n) LP_STATUS.PG
    false).setFlag (LP_STATUS n) LP_STATUS.SETTLED false).setFlag (LP_STATUS n) LP_STATUS.STEPHOLD false) :=
  h.trans (h.trans (h.trans (h.trans (h.state d _) (h.loop _ _)) (h.pg _ _)) (h.settled _ _)) (h.stepHold _ _)

theorem goOff (hj : ∀ m, J m) (d : Dev) : R d (d.goOff n) :=
  h.trans (h.trans (h.stop d _ _) (h.foldl _ _ _ fun e m _ => h.idlePhase e (hj m) _)) (h.offTail _)

end WorkClosed

namespace DriveClosed

variable {n : Loop} {J : Phase → Prop} {R : Dev → Dev → Prop} (h : DriveClosed n J R)
include h

theorem giveResult (d : Dev) (e : Int) : R d (d.giveResult n e) := by
  unfold Dev.giveResult
  dsimp only
  split
  · exact h.loop d _
  · exact h.loop d _
  · exact h.trans (h.trans (h.loop d _) (h.skipCnt _ _)) (h.stickyFlag _ _ (by decide) _)

theorem refThere (d : Dev) : R d (d.refThere n) := by
  unfold Dev.refThere
  refine h.trans ?_ (h.when fun _ => h.settle _)
  exact h.trans (h.loop d _) (h.when fun _ => h.regulate _)

theorem refStep (hj : ∀ m, J m) (d : Dev) : R d (d.refStep n) := by
  have hmoved : R d (d.refMoved n) := h.trans (h.vref d _) (h.loop _ _)
  rw [Dev.refStep_eq]
  split
  · exact h.refl d
  split
  · exact hmoved
  split
  · exact h.trans hmoved (h.goOff hj _)
  · exact h.trans hmoved (h.refThere _)

theorem switchOn (hj : ∀ m, J m) (d : Dev) (vout : Nat) : R d (d.switchOn n vout) := by
  unfold Dev.switchOn
  refine h.trans ?_ (h.respace _)
  refine h.trans ?_ (h.foldl _ _ _ fun e m _ => h.trans (h.setPstate e (hj m) _) (h.phase _ m _ (hj m)))
  exact h.trans (h.loop d _) (h.duty _ _)

end DriveClosed

/-! ## What a step leaves -/

/-- From `d` to `e`, of the registers only those of `W` and those of events and records change, beside the fields `F` of the
status of loop `n`; and what is pending stays so. -/
structure Dev.Keeps (n : Loop) (W : Nat → Prop) (F : List Fld) (d e : Dev) : Prop where
  rd : ∀ a, ¬W a → a ≠ LP_STATUS n → evtReg a = false → e.rd a = d.rd a
  fld : ∀ f : Fld, f.lo + f.w ≤ 16 → (∀ g ∈ F, f.lo + f.w ≤ g.lo ∨ g.lo + g.w ≤ f.lo) →
    e.fld (LP_STATUS n) f = d.fld (LP_STATUS n) f
  pending : d.StillPending e

section Keeps

variable {n : Loop} {W : Nat → Prop} {F : List Fld}

theorem Dev.Keeps.of_regs {d e : Dev} (h : e.regs = d.regs) : Dev.Keeps n W F d e where
  rd a _ _ _ := by rw [Dev.rd, Dev.rd, h]
  fld f hf _ := Dev.fld_of_rd f hf (by rw [Dev.rd, Dev.rd, h])
  pending x _ hx := by rwa [Dev.evtPending, Dev.mbit, Dev.rd, h]

theorem Dev.Keeps.trans {d e g : Dev} (h1 : Dev.Keeps n W F d e) (h2 : Dev.Keeps n W F e g) : Dev.Keeps n W F d g where
  rd a ha hs he := (h2.rd a ha hs he).trans (h1.rd a ha hs he)
  fld f hf hd := (h2.fld f hf hd).trans (h1.fld f hf hd)
  pending x hx hp := h2.pending x hx (h1.pending x hx hp)

theorem Dev.Keeps.flag {d e : Dev} (h : Dev.Keeps n W F d e) (f : Fld) (hf : f.lo + f.w ≤ 16)
    (hd : ∀ g ∈ F, f.lo + f.w ≤ g.lo ∨ g.lo + g.w ≤ f.lo) : e.flag (LP_STATUS n) f = d.flag (LP_STATUS n) f := by
  rw [Dev.flag, Dev.flag, h.fld f hf hd]

theorem Dev.stillPending_wr (d : Dev) {a : Nat} (v : Word) (hs : statReg a = false) : d.StillPending (d.wr a v) := by
  intro x hx h
  have : EVT_STAT 0 + 2 * (x / 16) ≠ a := fun e => by rw [← e, statReg_of_lt hx] at hs; cases hs
  simpa [Dev.evtPending, Dev.mbit, Dev.rd_wr_ne d v this] using h

theorem Dev.stillPending_setFld (d : Dev) {a : Nat} (f : Fld) (hf : f.lo + f.w ≤ 16) (v : Nat) (hs : statReg a = false) :
    d.StillPending (d.setFld a f v) := by
  simp only [Dev.setFld, hf, ↓reduceIte]
  exact d.stillPending_wr _ hs

/-- A write of a register that may change. -/
theorem Dev.keeps_wr (d : Dev) {a : Nat} (v : Word) (hw : W a ∨ evtReg a = true) (hs : statReg a = false)
    (hn : a ≠ LP_STATUS n) : Dev.Keeps n W F d (d.wr a v) where
  rd b hb _ he := Dev.rd_wr_ne d v fun h => by
    subst h
    obtain hw | hw := hw
    · exact hb hw
    · rw [he] at hw; cases hw
  fld f hf _ := Dev.fld_of_rd f hf (Dev.rd_wr_ne d v (Ne.symm hn))
  pending := d.stillPending_wr v hs

/-- A write of a field of the status that may change. -/
theorem Dev.keeps_setFld (d : Dev) {f : Fld} (v : Nat) (hw : f ∈ F) (hf : f.lo + f.w ≤ 16) :
    Dev.Keeps n W F d (d.setFld (LP_STATUS n) f v) where
  rd b _ hb _ := Dev.rd_setFld_ne d f v hf hb
  fld g hg hd := Dev.fld_setFld_disjoint d _ f g v hf hg (hd f hw)
  pending := d.stillPending_setFld f hf v (statReg_of_loopReg (loopReg_loop n (by decide) (by decide)))

theorem keeps_raise : RaiseClosed (Dev.Keeps n W F) where
  refl _ := .of_regs rfl
  trans := .trans
  recorder _ _ := .of_regs rfl
  nvCount _ _ _ := .of_regs rfl
  nvBytes _ _ _ := .of_regs rfl
  nvWrite _ _ _ := .of_regs rfl
  queue _ _ _ := .of_regs rfl
  wr d a v he hs := d.keeps_wr v (.inr he) hs fun h => by
    rw [h, evtReg_of_loopReg (loopReg_loop n (by decide) (by decide))] at he; cases he
  stat d e he :=
    have hev : evtReg (EVT_STAT 0 + 2 * (e / 16)) = true := evtReg_stat he
    have hq := d.quiet_wr (if true then d.rd (EVT_STAT 0 + 2 * (e / 16)) ||| (1 : Word) <<< (e % 16) else 0) hev
    { rd := fun a _ _ ha => hq.2 a ha
      fld := fun f hf _ => Dev.fld_of_rd f hf (hq.2 _ (evtReg_of_loopReg (loopReg_loop n (by decide) (by decide))))
      pending := stillPending_closed.stat d e he }

end Keeps

end Sys2Proof.Machine
end

section
/-!
The relations by which the proofs about loops say what a step leaves, as instances of the small steps, and what the supervision of a
rail leaves of its loop.
-/

namespace Sys2Proof.Machine

open Sys2Proof Sys2Proof.R

/-! ## Registers, fields of the status, and events -/

/-- The registers that the small steps write, layer by layer. -/
def tailReg (n : Loop) (a : Nat) : Prop := hopReg a = true ∨ (∃ k : Link, a = VL_STATUS k) ∨ a = LP_IOUT n ∨ a = LP_POUT n
def phaseReg (J : Phase → Prop) (a : Nat) : Prop := ∃ m, J m ∧ (a = PH_STATE m ∨ a = PH_TRIM m ∨ a = PH_IOUT m)
def stepReg (n : Loop) (a : Nat) : Prop := a = LP_STEP_CNT n ∨ a = LP_STICKY n
def driveReg (n : Loop) (a : Nat) : Prop := a = LP_VREF n ∨ a = LP_DUTY n ∨ a = LP_CSKIP_CNT n

section Keeps

variable {n : Loop} {J : Phase → Prop} {W : Nat → Prop} {F : List Fld}

/-- A write of a register of a loop or phase that may change. -/
theorem Dev.keeps_wr_loopReg (d : Dev) {a : Nat} (v : Word) (hw : W a) (hl : loopReg a = true) (hn : a ≠ LP_STATUS n) :
    Dev.Keeps n W F d (d.wr a v) := d.keeps_wr v (.inl hw) (statReg_of_loopReg hl) hn

/-- A write of another register of the loop. -/
theorem Dev.keeps_wr_loop (d : Dev) {b : Nat} (v : Word) (hw : W (b + 0x80 * n.val)) (h : 0x2000 ≤ b) (hb : b < 0x2080)
    (hn : b ≠ 0x2036) : Dev.Keeps n W F d (d.wr (b + 0x80 * n.val) v) :=
  d.keeps_wr_loopReg v hw (loopReg_loop n h hb) (by simp only [LP_STATUS]; omega)

theorem Dev.keeps_wr_phase (d : Dev) (m : Phase) {b : Nat} (v : Word) (hw : W (b + 0x20 * m.val)) (h : 0x2600 ≤ b)
    (hb : b < 0x2620) : Dev.Keeps n W F d (d.wr (b + 0x20 * m.val) v) :=
  d.keeps_wr_loopReg v hw (loopReg_phase m h hb) (by have := n.isLt; simp only [LP_STATUS]; omega)

theorem ne_LP_STATUS_of_hopReg {a : Nat} (h : hopReg a = true) : a ≠ LP_STATUS n := fun e => by
  rw [e, hopReg_of_loopReg (loopReg_loop n (by decide) (by decide))] at h; cases h

theorem keeps_hop (hW : ∀ a, hopReg a = true → W a) : HopClosed (Dev.Keeps n W F) where
  toRaiseClosed := keeps_raise
  hopWr d a v ha := d.keeps_wr v (.inl (hW a ha)) (statReg_of_hopReg ha) (ne_LP_STATUS_of_hopReg ha)
  hopper _ _ := .of_regs rfl
  unqueue _ _ := .of_regs rfl

theorem keeps_drill (hW : ∀ a, hopReg a = true ∨ drillReg a = true → W a) : DrillClosed (Dev.Keeps n W F) where
  toHopClosed := keeps_hop fun a h => hW a (.inl h)
  drillWr d a v ha := d.keeps_wr v (.inl (hW a (.inr ha))) (statReg_of_drillReg ha) fun e => by
    rw [e, drillReg_of_loopReg (loopReg_loop n (by decide) (by decide))] at ha; cases ha
  drill _ _ := .of_regs rfl
  pins _ _ := .of_regs rfl
  lamps _ _ := .of_regs rfl

theorem keeps_tail (hW : ∀ a, tailReg n a → W a) (hF : LP_STATUS.ACTPH ∈ F ∧ LP_STATUS.CFGERR ∈ F) :
    TailClosed n (Dev.Keeps n W F) where
  toHopClosed := keeps_hop fun a h => hW a (.inl h)
  actph d v := d.keeps_setFld v hF.1 (by decide)
  cfgErr d _ := d.keeps_setFld _ hF.2 (by decide)
  iout d v := d.keeps_wr_loop v (hW _ (.inr (.inr (.inl rfl)))) (by decide) (by decide) (by decide)
  pout d v := d.keeps_wr_loop v (hW _ (.inr (.inr (.inr rfl)))) (by decide) (by decide) (by decide)
  offset _ _ _ := .of_regs rfl
  links _ _ := .of_regs rfl
  attn d k _ := d.keeps_wr _ (.inl (hW _ (.inr (.inl ⟨k, rfl⟩)))) (statReg_VL_STATUS k) (by
    have := n.isLt; simp only [LP_STATUS, VL_STATUS]; omega)

theorem keeps_phase (ht : TailClosed n (Dev.Keeps n W F)) (hW : ∀ a, phaseReg J a → W a) :
    PhaseClosed n J (Dev.Keeps n W F) where
  toTailClosed := ht
  phState d m v hm := d.keeps_wr_phase m v (hW _ ⟨m, hm, .inl rfl⟩) (by decide) (by decide)
  phTrim d m v hm := d.keeps_wr_phase m v (hW _ ⟨m, hm, .inr (.inl rfl)⟩) (by decide) (by decide)
  phIout d m v hm := d.keeps_wr_phase m v (hW _ ⟨m, hm, .inr (.inr rfl)⟩) (by decide) (by decide)
  phase _ _ _ _ := .of_regs rfl

theorem keeps_step (hp : PhaseClosed n J (Dev.Keeps n W F)) (hW : ∀ a, stepReg n a → W a) (hF : LP_STATUS.STEPHOLD ∈ F) :
    StepClosed n J (Dev.Keeps n W F) where
  toPhaseClosed := hp
  stepCnt d v := d.keeps_wr_loop v (hW _ (.inl rfl)) (by decide) (by decide) (by decide)
  sticky d v := d.keeps_wr_loop v (hW _ (.inr rfl)) (by decide) (by decide) (by decide)
  stepHold d _ := d.keeps_setFld _ hF (by decide)
  spoil _ := .of_regs rfl
  holdPend _ _ := .of_regs rfl

theorem keeps_work (hs : StepClosed n J (Dev.Keeps n W F))
    (hF : LP_STATUS.STATE ∈ F ∧ LP_STATUS.PG ∈ F ∧ LP_STATUS.SETTLED ∈ F) : WorkClosed n J (Dev.Keeps n W F) where
  toStepClosed := hs
  state d v := d.keeps_setFld v hF.1 (by decide)
  pg d _ := d.keeps_setFld _ hF.2.1 (by decide)
  settled d _ := d.keeps_setFld _ hF.2.2 (by decide)
  loop _ _ := .of_regs rfl

theorem keeps_drive (hw : WorkClosed n J (Dev.Keeps n W F)) (hW : ∀ a, driveReg n a → W a) :
    DriveClosed n J (Dev.Keeps n W F) where
  toWorkClosed := hw
  vref d v := d.keeps_wr_loop v (hW _ (.inl rfl)) (by decide) (by decide) (by decide)
  duty d v := d.keeps_wr_loop v (hW _ (.inr (.inl rfl))) (by decide) (by decide) (by decide)
  skipCnt d v := d.keeps_wr_loop v (hW _ (.inr (.inr rfl))) (by decide) (by decide) (by decide)

theorem Dev.keeps_modLoop (d : Dev) (k : Loop) (g : LoopSt → LoopSt) : Dev.Keeps n W F d (d.modLoop k g) := .of_regs rfl

theorem Dev.keeps_setFlag (d : Dev) {f : Fld} (b : Bool) (hw : f ∈ F) (hf : f.lo + f.w ≤ 16) :
    Dev.Keeps n W F d (d.setFlag (LP_STATUS n) f b) := d.keeps_setFld _ hw hf

theorem Dev.keeps_cutLoop (d : Dev) (hF : LP_STATUS.PG ∈ F ∧ LP_STATUS.SETTLED ∈ F) :
    Dev.Keeps n W F d (d.cutLoop n) := by
  unfold Dev.cutLoop
  split
  · exact .of_regs rfl
  · exact ((d.keeps_modLoop n _).trans (Dev.keeps_setFlag _ _ hF.1 (by decide))).trans
      (Dev.keeps_setFlag _ _ hF.2 (by decide))

end Keeps

/-! ## Loops and phases beside their registers -/

@[simp] theorem Dev.loop_modLoop_same (d : Dev) (n : Loop) (g : LoopSt → LoopSt) : (d.modLoop n g).loop n = g (d.loop n) := by
  simp [Dev.loop, Dev.modLoop]

theorem Dev.loop_modLoop_ne (d : Dev) {n k : Loop} (g : LoopSt → LoopSt) (h : k ≠ n) : (d.modLoop n g).loop k = d.loop k := by
  have : n.val ≠ k.val := fun e => h (Fin.ext e.symm)
  simp [Dev.loop, Dev.modLoop, Vector.getElem_set_ne _ _ this]

@[simp] theorem Dev.phase_modPhase_same (d : Dev) (m : Phase) (g : PhaseSt → PhaseSt) :
    (d.modPhase m g).phase m = g (d.phase m) := by
  simp [Dev.phase, Dev.modPhase]

theorem Dev.phase_modPhase_ne (d : Dev) {m j : Phase} (g : PhaseSt → PhaseSt) (h : j ≠ m) :
    (d.modPhase m g).phase j = d.phase j := by
  have : m.val ≠ j.val := fun e => h (Fin.ext e.symm)
  simp [Dev.phase, Dev.modPhase, Vector.getElem_set_ne _ _ this]

/-- A phase but for its offset. -/
def PhaseSt.sansOffset (x : PhaseSt) : PhaseSt := { x with offset := 0 }

/-- From `d` to `e` no other loop changes, nothing of loop `n` that `g` reads, and of the phases that `J` does not pick only the
offset. -/
structure Dev.Bodies {α : Type} (n : Loop) (J : Phase → Prop) (g : LoopSt → α) (d e : Dev) : Prop where
  others : ∀ k, k ≠ n → e.loop k = d.loop k
  loop : g (e.loop n) = g (d.loop n)
  phase : ∀ m, ¬J m → (e.phase m).sansOffset = (d.phase m).sansOffset

section Bodies

variable {α : Type} {n : Loop} {J : Phase → Prop} {g : LoopSt → α}

theorem Dev.Bodies.of_eq {d e : Dev} (hl : e.loops = d.loops) (hp : e.phases = d.phases) : Dev.Bodies n J g d e where
  others k _ := by rw [Dev.loop, Dev.loop, hl]
  loop := by rw [Dev.loop, Dev.loop, hl]
  phase m _ := by rw [Dev.phase, Dev.phase, hp]

theorem Dev.Bodies.trans {d e f : Dev} (h1 : Dev.Bodies n J g d e) (h2 : Dev.Bodies n J g e f) : Dev.Bodies n J g d f where
  others k hk := (h2.others k hk).trans (h1.others k hk)
  loop := h2.loop.trans h1.loop
  phase m hm := (h2.phase m hm).trans (h1.phase m hm)

theorem Dev.Bodies.drive {d e : Dev} (h : Dev.Bodies n J g d e) {m : Phase} (hm : ¬J m) :
    (e.phase m).drive = (d.phase m).drive :=
  (PhaseSt.mk.inj (h.phase m hm)).1

theorem Dev.bodies_setFld (d : Dev) (a : Nat) (f : Fld) (v : Nat) : Dev.Bodies n J g d (d.setFld a f v) :=
  .of_eq (by simp) (by simp)

theorem Dev.bodies_modLoop (d : Dev) (f : LoopSt → LoopSt) (hg : ∀ x, g (f x) = g x) :
    Dev.Bodies n J g d (d.modLoop n f) where
  others k hk := d.loop_modLoop_ne f hk
  loop := by rw [Dev.loop_modLoop_same, hg]
  phase _ _ := rfl

theorem Dev.bodies_modPhase (d : Dev) (m : Phase) (f : PhaseSt → PhaseSt)
    (hf : J m ∨ ∀ x : PhaseSt, (f x).sansOffset = x.sansOffset) : Dev.Bodies n J g d (d.modPhase m f) where
  others _ _ := rfl
  loop := rfl
  phase j hj := by
    by_cases h : j = m
    · subst h
      rw [Dev.phase_modPhase_same, hf.resolve_left hj]
    · rw [Dev.phase_modPhase_ne _ _ h]

theorem bodies_drill : DrillClosed (Dev.Bodies n J g) where
  refl _ := .of_eq rfl rfl
  trans := .trans
  recorder _ _ := .of_eq rfl rfl
  nvCount _ _ _ := .of_eq rfl rfl
  nvBytes _ _ _ := .of_eq rfl rfl
  nvWrite _ _ _ := .of_eq rfl rfl
  queue _ _ _ := .of_eq rfl rfl
  wr _ _ _ _ _ := .of_eq rfl rfl
  stat _ _ _ := .of_eq rfl rfl
  hopWr _ _ _ _ := .of_eq rfl rfl
  hopper _ _ := .of_eq rfl rfl
  unqueue _ _ := .of_eq rfl rfl
  drillWr _ _ _ _ := .of_eq rfl rfl
  drill _ _ := .of_eq rfl rfl
  pins _ _ := .of_eq rfl rfl
  lamps _ _ := .of_eq rfl rfl

theorem bodies_phase : PhaseClosed n J (Dev.Bodies n J g) where
  toHopClosed := bodies_drill.toHopClosed
  actph d v := d.bodies_setFld _ _ v
  cfgErr d _ := d.bodies_setFld _ _ _
  iout _ _ := .of_eq rfl rfl
  pout _ _ := .of_eq rfl rfl
  offset d m _ := d.bodies_modPhase m _ (.inr fun _ => rfl)
  links _ _ := .of_eq rfl rfl
  attn d _ _ := d.bodies_setFld _ _ _
  phState _ _ _ _ := .of_eq rfl rfl
  phTrim _ _ _ _ := .of_eq rfl rfl
  phIout _ _ _ _ := .of_eq rfl rfl
  phase d m f hm := d.bodies_modPhase m f (.inl hm)

theorem bodies_step (hs : ∀ x : LoopSt, g { x with spoiled := true } = g x)
    (hh : ∀ (x : LoopSt) (b : Bool), g { x with holdPend := b } = g x) : StepClosed n J (Dev.Bodies n J g) where
  toPhaseClosed := bodies_phase
  stepCnt _ _ := .of_eq rfl rfl
  sticky _ _ := .of_eq rfl rfl
  stepHold d _ := d.bodies_setFld _ _ _
  spoil d := d.bodies_modLoop _ hs
  holdPend d b := d.bodies_modLoop _ fun x => hh x b

theorem Dev.bodies_cutLoop (d : Dev) (hg : ∀ x : LoopSt, g { x with uvArmed := false, offPend := true } = g x) :
    Dev.Bodies n J g d (d.cutLoop n) := by
  unfold Dev.cutLoop
  split
  · exact .of_eq rfl rfl
  · exact (d.bodies_modLoop _ hg).trans ((Dev.bodies_setFld _ _ _ _).trans (Dev.bodies_setFld _ _ _ _))

end Bodies

/-! ## What the supervision of a rail leaves of its loop -/

/-- What a relation that the drill's steps keep implies, they keep. -/
theorem DrillClosed.mono {R S : Dev → Dev → Prop} (h : DrillClosed R) (hS : ∀ {d e}, R d e → S d e)
    (ht : ∀ {d e f}, S d e → S e f → S d f) : DrillClosed S where
  refl d := hS (h.refl d)
  trans := ht
  recorder d r := hS (h.recorder d r)
  nvCount d x js := hS (h.nvCount d x js)
  nvBytes d a bs := hS (h.nvBytes d a bs)
  nvWrite d a bs := hS (h.nvWrite d a bs)
  queue d f q := hS (h.queue d f q)
  wr d a v he hs := hS (h.wr d a v he hs)
  stat d e he := hS (h.stat d e he)
  hopWr d a v ha := hS (h.hopWr d a v ha)
  hopper d x := hS (h.hopper d x)
  unqueue d t := hS (h.unqueue d t)
  drillWr d a v ha := hS (h.drillWr d a v ha)
  drill d x := hS (h.drill d x)
  pins d x := hS (h.pins d x)
  lamps d x := hS (h.lamps d x)

/-- The registers beside those of loops and phases. -/
def elseReg (a : Nat) : Prop := loopReg a = false

theorem elseReg_of_drill {a : Nat} (h : hopReg a = true ∨ drillReg a = true) : elseReg a :=
  Bool.eq_false_iff.mpr fun hl => by
    rw [hopReg_of_loopReg hl, drillReg_of_loopReg hl] at h
    simp at h

/-- What the drill leaves of loop `n` as it answers a change of its rail: every register of loops and phases, but PG and SETTLED,
which it may clear; the phases, and what of the loop is no matter of a cut; and what is pending. -/
structure Dev.RailStep (n : Loop) (d e : Dev) : Prop where
  keeps : Dev.Keeps n elseReg [LP_STATUS.PG, LP_STATUS.SETTLED] d e
  bodies : Dev.Bodies n (fun _ => False) (fun x : LoopSt => ({ x with uvArmed := false, offPend := true } : LoopSt)) d e
  pg : d.flag (LP_STATUS n) LP_STATUS.PG = false → e.flag (LP_STATUS n) LP_STATUS.PG = false

theorem railStep_drill (n : Loop) : DrillClosed (Dev.RailStep n) :=
  DrillClosed.mono (R := fun d e => Dev.Keeps n elseReg [] d e ∧
      Dev.Bodies n (fun _ => False) (fun x : LoopSt => ({ x with uvArmed := false, offPend := true } : LoopSt)) d e)
    { toRaiseClosed := (keeps_drill fun _ => elseReg_of_drill).toRaiseClosed.and bodies_drill.toRaiseClosed
      hopWr := fun d a v h => ⟨(keeps_drill fun _ => elseReg_of_drill).hopWr d a v h, .of_eq rfl rfl⟩
      hopper := fun _ _ => ⟨.of_regs rfl, .of_eq rfl rfl⟩
      unqueue := fun _ _ => ⟨.of_regs rfl, .of_eq rfl rfl⟩
      drillWr := fun d a v h => ⟨(keeps_drill fun _ => elseReg_of_drill).drillWr d a v h, .of_eq rfl rfl⟩
      drill := fun _ _ => ⟨.of_regs rfl, .of_eq rfl rfl⟩
      pins := fun _ _ => ⟨.of_regs rfl, .of_eq rfl rfl⟩
      lamps := fun _ _ => ⟨.of_regs rfl, .of_eq rfl rfl⟩ }
    (fun ⟨h1, h2⟩ => { keeps := ⟨h1.rd, fun f hf _ => h1.fld f hf (by simp), h1.pending⟩, bodies := h2,
                       pg := fun h => (h1.flag _ (by decide) (by simp)).trans h })
    fun h1 h2 => ⟨h1.keeps.trans h2.keeps, h1.bodies.trans h2.bodies, fun h => h2.pg (h1.pg h)⟩

theorem Dev.flag_setFlag_disjoint (d : Dev) (a : Nat) (f g : Fld) (b : Bool) (hf : f.lo + f.w ≤ 16) (hg : g.lo + g.w ≤ 16)
    (h : g.lo + g.w ≤ f.lo ∨ f.lo + f.w ≤ g.lo) : (d.setFlag a f b).flag a g = d.flag a g := by
  rw [Dev.flag, Dev.flag, Dev.setFlag, Dev.fld_setFld_disjoint d a f g _ hf hg h]

theorem Dev.railStep_cutLoop (d : Dev) (n : Loop) : Dev.RailStep n d (d.cutLoop n) where
  keeps := d.keeps_cutLoop (by decide)
  bodies := d.bodies_cutLoop fun _ => rfl
  pg h := by
    unfold Dev.cutLoop
    split
    · exact h
    · rw [Dev.flag_setFlag_disjoint _ _ _ _ _ (by decide) (by decide) (by decide),
        Dev.flag_setFlag_same _ _ _ _ (by decide) (by decide)]

theorem Dev.railStep_pollLoop (d : Dev) (n : Loop) : Dev.RailStep n d (d.pollLoop n) :=
  (railStep_drill n).pollLoop (fun d => d.railStep_cutLoop n) d
theorem Dev.railStep_ocRail (d : Dev) (n : Loop) : Dev.RailStep n d (d.ocRail n) :=
  (railStep_drill n).ocRail (fun d => d.railStep_cutLoop n) d
theorem Dev.railStep_ovRail (d : Dev) (n : Loop) : Dev.RailStep n d (d.ovRail n) :=
  (railStep_drill n).railFailure (fun d => d.railStep_cutLoop n) d 3

namespace Dev.RailStep

variable {n : Loop} {d e : Dev} (h : Dev.RailStep n d e)
include h

theorem rd {a : Nat} (ha : loopReg a = true) (hn : a ≠ LP_STATUS n) : e.rd a = d.rd a :=
  h.keeps.rd a (by simp [elseReg, ha]) hn (evtReg_of_loopReg ha)

/-- The phases keep their registers. -/
theorem rd_phase (m : Phase) {b : Nat} (hb : 0x2600 ≤ b) (hb2 : b < 0x2620) : e.rd (b + 0x20 * m.val) = d.rd (b + 0x20 * m.val) :=
  h.rd (loopReg_phase m hb hb2) (by have := n.isLt; simp only [LP_STATUS]; omega)

/-- The loop keeps its registers but the status. -/
theorem rd_loop {b : Nat} (hb : 0x2000 ≤ b) (hb2 : b < 0x2080) (hn : b ≠ 0x2036) :
    e.rd (b + 0x80 * n.val) = d.rd (b + 0x80 * n.val) :=
  h.rd (loopReg_loop n hb hb2) (by simp only [LP_STATUS]; omega)

theorem lstate : e.lstate n = d.lstate n := h.keeps.fld LP_STATUS.STATE (by decide) (by decide)

theorem pstate (m : Phase) : e.pstate m = d.pstate m :=
  Dev.fld_of_rd PH_STATE.STATE (by decide) (h.rd_phase m (by decide) (by decide))

theorem drive (m : Phase) : (e.phase m).drive = (d.phase m).drive := h.bodies.drive not_false

theorem sticky (f : Fld) (hf : f.lo + f.w ≤ 16) : e.flag (LP_STICKY n) f = d.flag (LP_STICKY n) f := by
  rw [Dev.flag, Dev.flag, Dev.fld_of_rd f hf (h.rd_loop (by decide) (by decide) (by decide))]

theorem evt {x : Nat} (hx : x < 256) (hp : d.evtPending x = true) : e.evtPending x = true := h.keeps.pending x hx hp

end Dev.RailStep

end Sys2Proof.Machine
end

section
/-!
The ways of a loop to OFF and to its OV latch (R54, R62), and the protection of a loop.
-/

namespace Sys2Proof.Machine

open Sys2Proof Sys2Proof.R

/-! ## Phases that stop -/

theorem Dev.phasesOf_congr {d e : Dev} (n : Loop) (h : ∀ m : Phase, e.rd (PH_CFG m) = d.rd (PH_CFG m)) :
    e.phasesOf n = d.phasesOf n := by
  have : e.phaseLoop = d.phaseLoop := funext fun m => by
    rw [Dev.phaseLoop, Dev.phaseLoop, Dev.fld_of_rd PH_CFG.LOOP (by decide) (h m)]
  simp only [Dev.phasesOf, this]

theorem PH_STATE_ne {m j : Phase} (h : j ≠ m) : PH_STATE j ≠ PH_STATE m := fun e =>
  h (Fin.ext (by simp only [PH_STATE] at e; omega))

theorem Dev.rd_idlePhase (d : Dev) (m : Phase) (st : Nat) {a : Nat} (hs : a ≠ PH_STATE m) (hi : a ≠ PH_IOUT m) :
    (d.idlePhase m st).rd a = d.rd a := by
  simp only [Dev.idlePhase, Dev.rd_modPhase]
  rw [Dev.rd_setFlag_ne _ _ _ (by decide) hs, Dev.rd_wn_ne _ _ hi, Dev.setPstate, Dev.rd_setFld_ne _ _ _ (by decide) hs]

theorem Dev.pstate_idlePhase (d : Dev) (m : Phase) (st : Nat) : (d.idlePhase m st).pstate m = st % 8 := by
  have hrd : ((d.setPstate m st).wn (PH_IOUT m) 0).rd (PH_STATE m) = (d.setPstate m st).rd (PH_STATE m) :=
    Dev.rd_wn_ne _ _ (by simp only [PH_STATE, PH_IOUT]; omega)
  have hfld : (d.idlePhase m st).pstate m = ((d.setPstate m st).wn (PH_IOUT m) 0).fld (PH_STATE m) PH_STATE.STATE :=
    Dev.fld_setFld_disjoint _ _ _ _ _ (by decide) (by decide) (by decide)
  rw [hfld, Dev.fld_of_rd _ (by decide) hrd]
  exact Dev.fld_setFld_same d _ _ _ (by decide)

theorem Dev.rd_idlePhase_IOUT (d : Dev) (m : Phase) (st : Nat) : (d.idlePhase m st).rd (PH_IOUT m) = 0 := by
  simp only [Dev.idlePhase, Dev.rd_modPhase]
  rw [Dev.rd_setFlag_ne _ _ _ (by decide) (by simp only [PH_STATE, PH_IOUT]; omega), Dev.rd_wn_same]
  rfl

theorem Dev.phases_idlePhase (d : Dev) (m : Phase) (st : Nat) : (d.idlePhase m st).phases =
    (d.modPhase m fun x => { x with drive := .mid, onTime := 0, cutRun := 0 }).phases := by
  simp [Dev.idlePhase, Dev.setPstate]

theorem Dev.phase_congr {d e : Dev} (h : e.phases = d.phases) (m : Phase) : e.phase m = d.phase m := by
  rw [Dev.phase, Dev.phase, h]

/-- A phase has stopped with its outputs at `x`. -/
def Dev.Stopped (x : PwmDrive) (d : Dev) (m : Phase) : Prop := (d.phase m).drive = x ∧ d.pstate m = psOff

/-- A phase goes to mid. -/
def Dev.midPhase (d : Dev) (m : Phase) : Dev := d.idlePhase m psOff
/-- A phase goes low and stays there. -/
def Dev.lowPhase (d : Dev) (m : Phase) : Dev := (d.idlePhase m psOff).modPhase m fun x => { x with drive := .low }

/-- `f` stops the phase that it is given and touches no other. -/
def StopsAt (x : PwmDrive) (f : Dev → Phase → Dev) : Prop :=
  ∀ (d : Dev) (m : Phase), (f d m).Stopped x m ∧
    ∀ j, j ≠ m → (f d m).phase j = d.phase j ∧ (f d m).rd (PH_STATE j) = d.rd (PH_STATE j)

theorem stopsAt_midPhase : StopsAt .mid Dev.midPhase := fun d m => by
  refine ⟨⟨?_, d.pstate_idlePhase m psOff⟩, fun j hj => ⟨?_, ?_⟩⟩
  · rw [Dev.midPhase, Dev.phase_congr (d.phases_idlePhase m psOff), Dev.phase_modPhase_same]
  · rw [Dev.midPhase, Dev.phase_congr (d.phases_idlePhase m psOff), Dev.phase_modPhase_ne _ _ hj]
  · exact d.rd_idlePhase m psOff (PH_STATE_ne hj) (by simp only [PH_STATE, PH_IOUT]; omega)

theorem stopsAt_lowPhase : StopsAt .low Dev.lowPhase := fun d m => by
  obtain ⟨⟨_, hst⟩, hoth⟩ := stopsAt_midPhase d m
  refine ⟨⟨?_, hst⟩, fun j hj => ⟨?_, (hoth j hj).2⟩⟩
  · rw [Dev.lowPhase, Dev.phase_modPhase_same]
  · rw [Dev.lowPhase, Dev.phase_modPhase_ne _ _ hj]
    exact (hoth j hj).1

/-- Phases that are stopped one after the other are all stopped. -/
theorem StopsAt.foldl {x : PwmDrive} {f : Dev → Phase → Dev} (hf : StopsAt x f) (d : Dev) (ms : List Phase) {j : Phase}
    (hj : j ∈ ms) : (ms.foldl f d).Stopped x j :=
  foldl_of_mem (P := fun e => e.Stopped x j) hj d (fun e => (hf e j).1) fun e m he => by
    by_cases h : j = m
    · exact h ▸ (hf e j).1
    · obtain ⟨hph, hrd⟩ := (hf e m).2 j h
      exact ⟨(congrArg PhaseSt.drive hph).trans he.1, (Dev.fld_of_rd _ (by decide) hrd).trans he.2⟩

/-! ## The way to OFF, and the latch -/

/-- The loop stands in state `st` and computes no more: PG, SETTLED and STEPHOLD are clear. -/
def Dev.halt (d : Dev) (n : Loop) (st : Nat) : Dev :=
  ((((d.setLstate n st).modLoop n LoopSt.still).setFlag (LP_STATUS n) LP_STATUS.PG false).setFlag (LP_STATUS n)
    LP_STATUS.SETTLED false).setFlag (LP_STATUS n) LP_STATUS.STEPHOLD false

/-- The loop has halted, and `f` has stopped its phases. -/
def Dev.haltPhases (d : Dev) (n : Loop) (st : Nat) (f : Dev → Phase → Dev) : Dev :=
  ((d.halt n st).phasesOf n).foldl f (d.halt n st)

theorem Dev.goOff_eq (d : Dev) (n : Loop) : d.goOff n =
    (((((d.haltPhases n lsOff Dev.midPhase).respace n).sumIout n).evalCfgErr n).vlRailOff n).endSetv n 0x31 := rfl

/-- The latch, before it is reported. -/
def Dev.latchQuiet (d : Dev) (n : Loop) : Dev :=
  (((d.haltPhases n lsOvLatched Dev.lowPhase).respace n).sumIout n).setFlag (LP_STATUS n) LP_STATUS.CFGERR false

theorem Dev.ovLatch_eq (d : Dev) (n : Loop) : d.ovLatch n =
    ((((d.latchQuiet n).setFlag (LP_STICKY n) LP_STICKY.OV true).raise (48 + 4 * n.val)).vlFault n).endSetv n 0x31 := rfl

theorem Dev.keeps_halt (d : Dev) (n : Loop) (st : Nat) {W : Nat → Prop} :
    Dev.Keeps n W [LP_STATUS.STATE, LP_STATUS.PG, LP_STATUS.SETTLED, LP_STATUS.STEPHOLD] d (d.halt n st) :=
  ((((d.keeps_setFld st (by decide) (by decide)).trans (Dev.keeps_modLoop _ _ _)).trans
    (Dev.keeps_setFlag _ _ (by decide) (by decide))).trans (Dev.keeps_setFlag _ _ (by decide) (by decide))).trans
      (Dev.keeps_setFlag _ _ (by decide) (by decide))

theorem Dev.lstate_halt (d : Dev) (n : Loop) (st : Nat) : (d.halt n st).lstate n = st % 8 := by
  have hrest : Dev.Keeps n (fun _ => False) [LP_STATUS.PG, LP_STATUS.SETTLED, LP_STATUS.STEPHOLD] (d.setLstate n st) (d.halt n st) :=
    (((Dev.keeps_modLoop _ _ _).trans (Dev.keeps_setFlag _ _ (by decide) (by decide))).trans
      (Dev.keeps_setFlag _ _ (by decide) (by decide))).trans (Dev.keeps_setFlag _ _ (by decide) (by decide))
  exact (hrest.fld LP_STATUS.STATE (by decide) (by decide)).trans (Dev.fld_setFld_same d _ _ _ (by decide))

theorem Dev.pg_halt (d : Dev) (n : Loop) (st : Nat) : (d.halt n st).flag (LP_STATUS n) LP_STATUS.PG = false := by
  rw [Dev.halt, Dev.flag_setFlag_disjoint _ _ _ _ _ (by decide) (by decide) (by decide),
    Dev.flag_setFlag_disjoint _ _ _ _ _ (by decide) (by decide) (by decide),
    Dev.flag_setFlag_same _ _ _ _ (by decide) (by decide)]

theorem Dev.phasesOf_halt (d : Dev) (n : Loop) (st : Nat) : (d.halt n st).phasesOf n = d.phasesOf n :=
  Dev.phasesOf_congr n fun m => (d.keeps_halt n st (W := fun _ => False)).rd _ not_false
    (by have := n.isLt; simp only [PH_CFG, LP_STATUS]; omega) (evtReg_of_loopReg (loopReg_phase m (by decide) (by decide)))

/-- Stopping phases writes PH_STATE and PH_IOUT alone. -/
theorem Dev.rd_foldl_midPhase (d : Dev) (ms : List Phase) {a : Nat} (h : ∀ m : Phase, a ≠ PH_STATE m ∧ a ≠ PH_IOUT m) :
    (ms.foldl Dev.midPhase d).rd a = d.rd a := by
  induction ms generalizing d with
  | nil => rfl
  | cons m ms ih => exact (ih _).trans (d.rd_idlePhase m psOff (h m).1 (h m).2)

theorem Dev.rd_foldl_lowPhase (d : Dev) (ms : List Phase) {a : Nat} (h : ∀ m : Phase, a ≠ PH_STATE m ∧ a ≠ PH_IOUT m) :
    (ms.foldl Dev.lowPhase d).rd a = d.rd a := by
  induction ms generalizing d with
  | nil => rfl
  | cons m ms ih => exact (ih _).trans (d.rd_idlePhase m psOff (h m).1 (h m).2)

theorem LP_STATUS_ne_phase (n : Loop) (m : Phase) : LP_STATUS n ≠ PH_STATE m ∧ LP_STATUS n ≠ PH_IOUT m := by
  have := n.isLt
  simp only [LP_STATUS, PH_STATE, PH_IOUT]
  omega

/-- A loop is off or latched with its phases at `x`. -/
structure Dev.Halted (n : Loop) (st : Nat) (x : PwmDrive) (d e : Dev) : Prop where
  lstate : e.lstate n = st
  phases : ∀ j ∈ d.phasesOf n, e.Stopped x j
  pg : e.flag (LP_STATUS n) LP_STATUS.PG = false

theorem Dev.halted_haltPhases (d : Dev) (n : Loop) {st : Nat} (hst : st < 8) {x : PwmDrive} {f : Dev → Phase → Dev}
    (hf : StopsAt x f) (hrd : ∀ (d : Dev) (ms : List Phase), (ms.foldl f d).rd (LP_STATUS n) = d.rd (LP_STATUS n)) :
    Dev.Halted n st x d (d.haltPhases n st f) where
  lstate := (Dev.fld_of_rd LP_STATUS.STATE (by decide) (hrd _ _)).trans ((d.lstate_halt n st).trans (Nat.mod_eq_of_lt hst))
  phases j hj := hf.foldl _ _ (by rwa [d.phasesOf_halt n st])
  pg := by
    rw [Dev.flag, Dev.haltPhases, Dev.fld_of_rd LP_STATUS.PG (by decide) (hrd _ _)]
    exact d.pg_halt n st

/-- The registers that the ends of the ways to OFF and to the latch write. -/
def haltReg (n : Loop) (a : Nat) : Prop := elseReg a ∨ a = LP_IOUT n ∨ a = LP_POUT n

theorem haltReg_of_tailReg {n : Loop} {a : Nat} (h : tailReg n a) : haltReg n a := by
  obtain h | ⟨k, rfl⟩ | h | h := h
  · exact .inl (elseReg_of_drill (.inl h))
  · have := k.isLt
    exact .inl (by simp only [elseReg, loopReg, VL_STATUS, Bool.and_eq_false_iff, decide_eq_false_iff_not]; omega)
  · exact .inr (.inl h)
  · exact .inr (.inr h)

theorem not_haltReg_phase (n : Loop) (m : Phase) {b : Nat} (h : 0x2600 ≤ b) (hb : b < 0x2620) :
    ¬haltReg n (b + 0x20 * m.val) := by
  have := n.isLt
  have hl := loopReg_phase m h hb
  simp only [haltReg, elseReg, hl, LP_IOUT, LP_POUT, Bool.true_eq_false, false_or]
  omega

theorem not_haltReg_LP_STICKY (n : Loop) : ¬haltReg n (LP_STICKY n) := by
  have hl : loopReg (LP_STICKY n) = true := loopReg_loop n (by decide) (by decide)
  simp only [haltReg, elseReg, hl, LP_STICKY, LP_IOUT, LP_POUT, Bool.true_eq_false, false_or]
  omega

theorem keeps_haltTail (n : Loop) : TailClosed n (Dev.Keeps n (haltReg n) [LP_STATUS.ACTPH, LP_STATUS.CFGERR]) :=
  keeps_tail (fun _ => haltReg_of_tailReg) (by decide)

theorem bodies_tail (n : Loop) : TailClosed n (Dev.Bodies n (fun _ => False) fun x => x) := bodies_phase.toTailClosed

/-- Neither the ends of the ways nor the drill move a loop that has halted. -/
theorem Dev.Halted.tail {n : Loop} {st : Nat} {x : PwmDrive} {d e f : Dev} (h : Dev.Halted n st x d e)
    (hk : Dev.Keeps n (haltReg n) [LP_STATUS.ACTPH, LP_STATUS.CFGERR] e f) (hb : Dev.Bodies n (fun _ => False) (fun x => x) e f) :
    Dev.Halted n st x d f where
  lstate := (hk.fld LP_STATUS.STATE (by decide) (by decide)).trans h.lstate
  phases j hj := by
    obtain ⟨hdrv, hst⟩ := h.phases j hj
    refine ⟨(hb.drive not_false).trans hdrv, (Dev.fld_of_rd _ (by decide) (hk.rd _ ?_ ?_ ?_)).trans hst⟩
    · exact not_haltReg_phase n j (by decide) (by decide)
    · exact (LP_STATUS_ne_phase n j).1.symm
    · exact evtReg_of_loopReg (loopReg_phase j (by decide) (by decide))
  pg := (hk.flag LP_STATUS.PG (by decide) (by decide)).trans h.pg

theorem Dev.Halted.rail {n : Loop} {st : Nat} {x : PwmDrive} {d e f : Dev} (h : Dev.Halted n st x d e) (hr : Dev.RailStep n e f) :
    Dev.Halted n st x d f where
  lstate := hr.lstate.trans h.lstate
  phases j hj := ⟨(hr.drive j).trans (h.phases j hj).1, (hr.pstate j).trans (h.phases j hj).2⟩
  pg := hr.pg h.pg

/-- A loop that goes OFF has its phases at mid (R54). -/
theorem Dev.halted_goOff (d : Dev) (n : Loop) : Dev.Halted n lsOff .mid d (d.goOff n) := by
  rw [Dev.goOff_eq]
  refine Dev.Halted.tail (d.halted_haltPhases n (by decide) stopsAt_midPhase fun e ms => ?_)
    ((keeps_haltTail n).offTail _) ((bodies_tail n).offTail _)
  exact e.rd_foldl_midPhase ms (LP_STATUS_ne_phase n)

/-- A loop that latches has its phases low (R62). -/
theorem Dev.halted_latchQuiet (d : Dev) (n : Loop) : Dev.Halted n lsOvLatched .low d (d.latchQuiet n) := by
  have tail {R : Dev → Dev → Prop} (h : TailClosed n R) (e : Dev) :
      R e (((e.respace n).sumIout n).setFlag (LP_STATUS n) LP_STATUS.CFGERR false) :=
    h.trans (h.trans (h.respace e) (h.sumIout _)) (h.cfgErr _ _)
  refine Dev.Halted.tail (d.halted_haltPhases n (by decide) stopsAt_lowPhase fun e ms => ?_)
    (tail (keeps_haltTail n) _) (tail (bodies_tail n) _)
  exact e.rd_foldl_lowPhase ms (LP_STATUS_ne_phase n)

/-- The report of the latch, after its sticky bit. -/
theorem TailClosed.ovReport {n : Loop} {R : Dev → Dev → Prop} (h : TailClosed n R) (d : Dev) :
    R d (((d.raise (48 + 4 * n.val)).vlFault n).endSetv n 0x31) :=
  h.trans (h.trans (h.raise d (by have := n.isLt; omega)) (h.vlFault _)) (h.endSetv _ n _)

/-! ## Reports -/

/-- A protection event of loop `n` has been reported: its sticky bit, and the event. -/
structure Dev.Reported (n : Loop) (f : Fld) (x : Nat) (e : Dev) : Prop where
  sticky : e.flag (LP_STICKY n) f = true
  pending : e.evtPending x = true

theorem Dev.Reported.rail {n : Loop} {f : Fld} (hf : f.lo + f.w ≤ 16) {x : Nat} (hx : x < 256) {d e : Dev}
    (h : Dev.Reported n f x d) (hr : Dev.RailStep n d e) : Dev.Reported n f x e :=
  ⟨(hr.sticky f hf).trans h.sticky, hr.evt hx h.pending⟩

theorem Dev.Reported.keeps {n : Loop} {f : Fld} (hf : f.lo + f.w ≤ 16) {x : Nat} (hx : x < 256) {d e : Dev} {W : Nat → Prop}
    {F : List Fld} (h : Dev.Reported n f x d) (hk : Dev.Keeps n W F d e) (hW : ¬W (LP_STICKY n)) : Dev.Reported n f x e where
  sticky := by
    rw [Dev.flag, Dev.fld_of_rd f hf (hk.rd _ hW (by simp only [LP_STICKY, LP_STATUS]; omega)
      (evtReg_of_loopReg (loopReg_loop n (by decide) (by decide))))]
    exact h.sticky
  pending := hk.pending x hx h.pending

theorem Dev.Reported.tail {n : Loop} {f : Fld} (hf : f.lo + f.w ≤ 16) {x : Nat} (hx : x < 256) {d e : Dev} {F : List Fld}
    (h : Dev.Reported n f x d) (hk : Dev.Keeps n (haltReg n) F d e) : Dev.Reported n f x e :=
  h.keeps hf hx hk (not_haltReg_LP_STICKY n)

/-- A sticky bit that has been set, and the event raised after it. -/
theorem Dev.reported_raise {n : Loop} {f : Fld} (hf : f.lo + f.w ≤ 16) {x : Nat} (hx : x < 256) {d : Dev}
    (h : d.flag (LP_STICKY n) f = true) : Dev.Reported n f x (d.raise x) :=
  ⟨((d.quiet_raise hx).flag_eq f (evtReg_of_loopReg (loopReg_loop n (by decide) (by decide))) hf).trans h,
    d.evtPending_raise hx⟩

theorem Dev.keeps_vlFault (d : Dev) (n : Loop) : Dev.Keeps n (haltReg n) [LP_STATUS.ACTPH, LP_STATUS.CFGERR] d (d.vlFault n) :=
  (keeps_haltTail n).vlFault d

/-- The latch is reported (R62). -/
theorem Dev.reported_ovLatch (d : Dev) (n : Loop) : Dev.Reported n LP_STICKY.OV (48 + 4 * n.val) (d.ovLatch n) := by
  have hx : 48 + 4 * n.val < 256 := by have := n.isLt; omega
  rw [Dev.ovLatch_eq]
  refine Dev.Reported.tail (by decide) hx ?_ (((d.latchQuiet n |>.setFlag (LP_STICKY n) LP_STICKY.OV true).raise
    (48 + 4 * n.val)).keeps_vlFault n |>.trans ((keeps_haltTail n).endSetv _ n _))
  exact Dev.reported_raise (by decide) hx (Dev.flag_setFlag_same _ _ _ _ (by decide) (by decide))

theorem Dev.halted_ovLatch (d : Dev) (n : Loop) : Dev.Halted n lsOvLatched .low d (d.ovLatch n) := by
  have hst : (d.latchQuiet n |>.setFlag (LP_STICKY n) LP_STICKY.OV true).rd (LP_STATUS n) = (d.latchQuiet n).rd (LP_STATUS n) :=
    Dev.rd_setFlag_ne _ _ _ (by decide) (by simp only [LP_STATUS, LP_STICKY]; omega)
  have hsticky : Dev.Halted n lsOvLatched .low d (d.latchQuiet n |>.setFlag (LP_STICKY n) LP_STICKY.OV true) := by
    have h := d.halted_latchQuiet n
    refine ⟨(Dev.fld_of_rd _ (by decide) hst).trans h.lstate, fun j hj => ⟨?_, ?_⟩, ?_⟩
    · rw [Dev.phase_congr (Dev.setFlag_phases ..)]
      exact (h.phases j hj).1
    · refine (Dev.fld_of_rd _ (by decide) (Dev.rd_setFlag_ne _ _ _ (by decide) ?_)).trans (h.phases j hj).2
      have := n.isLt
      simp only [PH_STATE, LP_STICKY]
      omega
    · rw [Dev.flag, Dev.fld_of_rd _ (by decide) hst]
      exact h.pg
  rw [Dev.ovLatch_eq]
  exact hsticky.tail ((keeps_haltTail n).ovReport _) ((bodies_tail n).ovReport _)

/-! ## The commands of protection -/

section Protection

variable {s : State} (n : Loop)

theorem loopOvTrip_latches (ha : s.dev.armed n = true) (hl : s.dev.lstate n ≠ lsOvLatched) :
    Completes (.loopOvTrip n) s fun e => Dev.Halted n lsOvLatched .low s.dev e ∧
      Dev.Reported n LP_STICKY.OV (48 + 4 * n.val) e := by
  have hx : 48 + 4 * n.val < 256 := by have := n.isLt; omega
  refine completes_step1 (fun d => ((d.ovTrip n).when (d.lstate n ≠ lsOvLatched && (d.ovTrip n).lstate n = lsOvLatched)
    (·.ovRail n)).pollLoop n) rfl ?_
  have htrip : s.dev.ovTrip n = s.dev.ovLatch n := by simp [Dev.ovTrip, ha, hl]
  have hwhen : (decide (s.dev.lstate n ≠ lsOvLatched) && decide ((s.dev.ovLatch n).lstate n = lsOvLatched)) = true := by
    simp [hl, (s.dev.halted_ovLatch n).lstate]
  simp only [htrip, hwhen, Dev.when, if_true]
  have hr := (s.dev.ovLatch n).railStep_ovRail n
  have hp := ((s.dev.ovLatch n).ovRail n).railStep_pollLoop n
  exact ⟨((s.dev.halted_ovLatch n).rail hr).rail hp,
    ((s.dev.reported_ovLatch n).rail (by decide) hx hr).rail (by decide) hx hp⟩

/-- A trip of a loop that is not armed, and whose rail is off, changes nothing. -/
theorem loopOvTrip_idle (ha : ¬(s.dev.armed n = true ∧ s.dev.lstate n ≠ lsOvLatched))
    (hon : s.dev.railOn (loopRail n) = false) (hst : s.dev.rstate (loopRail n) = rsOff) :
    Completes (.loopOvTrip n) s fun e => e = s.dev := by
  refine completes_step1 (fun d => ((d.ovTrip n).when (d.lstate n ≠ lsOvLatched && (d.ovTrip n).lstate n = lsOvLatched)
    (·.ovRail n)).pollLoop n) rfl ?_
  have htrip : s.dev.ovTrip n = s.dev := by
    rw [Dev.ovTrip, if_neg]
    simpa using ha
  have hwhen : (decide (s.dev.lstate n ≠ lsOvLatched) && decide (s.dev.lstate n = lsOvLatched)) = false := by
    simp
  simp only [htrip, hwhen, Dev.when]
  exact s.dev.railPoll_of_off _ hon hst

theorem loopUv_reports (hb : s.dev.blocksRun = true) (hu : (s.dev.loop n).uvArmed = true) :
    Completes (.loopUv n) s fun e => Dev.Reported n LP_STICKY.UV (49 + 4 * n.val) e ∧
      e.flag (LP_STATUS n) LP_STATUS.PG = false := by
  have hx : 49 + 4 * n.val < 256 := by have := n.isLt; omega
  refine completes_step1 (fun d => d.onLoop n (·.uvReport n)) rfl ?_
  let d1 := (s.dev.setFlag (LP_STICKY n) LP_STICKY.UV true).setFlag (LP_STATUS n) LP_STATUS.PG false
  have huv : s.dev.uvReport n = (d1.raise (49 + 4 * n.val)).vlFault n := by simp [Dev.uvReport, hb, hu, d1]
  have hsticky : d1.flag (LP_STICKY n) LP_STICKY.UV = true := by
    rw [Dev.flag, Dev.fld_of_rd _ (by decide) (Dev.rd_setFlag_ne _ _ _ (by decide)
      (by simp only [LP_STICKY, LP_STATUS]; omega))]
    exact Dev.flag_setFlag_same _ _ _ _ (by decide) (by decide)
  have hpg : d1.flag (LP_STATUS n) LP_STATUS.PG = false := Dev.flag_setFlag_same _ _ _ _ (by decide) (by decide)
  have htail := (keeps_haltTail n).trans ((keeps_haltTail n).raise d1 hx) ((keeps_haltTail n).vlFault _)
  simp only [Dev.onLoop, huv]
  have hr := Dev.railStep_pollLoop ((d1.raise (49 + 4 * n.val)).vlFault n) n
  exact ⟨((Dev.reported_raise (by decide) hx hsticky).tail (by decide) hx (Dev.keeps_vlFault _ n)).rail (by decide) hx hr,
    hr.pg ((htail.flag _ (by decide) (by decide)).trans hpg)⟩

theorem loopUv_idle (hu : (s.dev.loop n).uvArmed = false) (hon : s.dev.railOn (loopRail n) = false)
    (hst : s.dev.rstate (loopRail n) = rsOff) : Completes (.loopUv n) s fun e => e = s.dev := by
  refine completes_step1 (fun d => d.onLoop n (·.uvReport n)) rfl ?_
  have huv : s.dev.uvReport n = s.dev := by simp [Dev.uvReport, hu]
  simp only [Dev.onLoop, huv]
  exact s.dev.railPoll_of_off _ hon hst

theorem loopOc_reports (h : s.dev.ocStands n = true) :
    Completes (.loopOc n) s (Dev.Reported n LP_STICKY.OC (50 + 4 * n.val)) := by
  have hx : 50 + 4 * n.val < 256 := by have := n.isLt; omega
  refine completes_step1 (fun d => d.when (d.ocStands n) fun d => (d.ocReport n).ocRail n) rfl ?_
  simp only [Dev.ocReport, h, Dev.when, if_true]
  refine Dev.Reported.rail (by decide) hx ?_ (Dev.railStep_ocRail _ n)
  exact (Dev.reported_raise (by decide) hx (Dev.flag_setFlag_same _ _ _ _ (by decide) (by decide))).tail (by decide) hx
    (Dev.keeps_vlFault _ n)

theorem loopOc_none (h : s.dev.ocStands n = false) : exec (.loopOc n) s = .next s := by
  have : exec (.loopOc n) s = s.step1 fun d => d.when (d.ocStands n) fun d => (d.ocReport n).ocRail n := rfl
  rw [this, State.step1, h]
  rfl

theorem phaseOc_cuts {m : Phase} (hm : s.dev.phaseLoop m = some n) (hb : s.dev.blocksRun = true)
    (hd : (s.dev.phase m).drive = .pulse) (hc : (s.dev.phase m).cut = false) : Completes (.phaseOc m) s fun e =>
      e.phases = s.dev.phases.set m { s.dev.phase m with drive := if s.dev.diodeNow n then .mid else .low, cut := true } ∧
      e.flag (PH_STATE m) PH_STATE.OCNOW = true ∧ e.rd (PH_OCCNT m) = satInc (s.dev.rd (PH_OCCNT m)) ∧
      s.dev.onlyRegs { e with phases := s.dev.phases } (fun a => a = PH_STATE m ∨ a = PH_OCCNT m) := by
  have hne : PH_STATE m ≠ PH_OCCNT m := by simp only [PH_STATE, PH_OCCNT]; omega
  refine completes_step1 (·.phaseOc m) rfl ?_
  simp only [Dev.phaseOc, hm, hb, hd, hc, Bool.not_false, Bool.and_true, decide_true, if_true]
  refine ⟨by simp [Dev.bump, Dev.phase], ?_, ?_, fun a ha => ?_, ?_⟩
  · rw [Dev.flag_bump_ne _ _ (by decide) hne]
    exact Dev.flag_setFlag_same _ _ _ _ (by decide) (by decide)
  · rw [Dev.rd_bump_same, Dev.rd_setFlag_ne _ _ _ (by decide) hne.symm]
    rfl
  · obtain ⟨hs, ho⟩ := not_or.mp ha
    exact (Dev.rd_bump_ne _ ho).trans (Dev.rd_setFlag_ne _ _ _ (by decide) hs)
  · simp [Dev.bump, Dev.wr, Dev.setFlag, Dev.setFld, Dev.wn, Dev.modPhase]

theorem phaseOc_none {m : Phase} (hd : (s.dev.phase m).drive ≠ .pulse) : exec (.phaseOc m) s = .next s := by
  have : exec (.phaseOc m) s = s.step1 (·.phaseOc m) := rfl
  have hno : s.dev.phaseOc m = s.dev := by
    unfold Dev.phaseOc
    split
    · rfl
    · simp [hd]
  rw [this, State.step1, hno]

end Protection

/-- The comparators of a loop are armed (R61). -/
theorem Dev.armed_iff (d : Dev) (n : Loop) : d.armed n = true ↔
    d.blocksRun = true ∧ d.phasesOf n ≠ [] ∧ d.flag (LP_STATUS n) LP_STATUS.CFGERR = false := by
  simp [Dev.armed, and_assoc]

theorem Dev.ocStands_iff (d : Dev) (n : Loop) : d.ocStands n = true ↔ d.armed n = true ∧
    (d.rs (LP_OCTHR n) < d.rs (LP_IOUT n) ∨ (d.fld (LP_OCCFG n) LP_OCCFG.PERSIST ≠ 0 ∧
      ∃ j ∈ d.phasesOf n, d.fld (LP_OCCFG n) LP_OCCFG.PERSIST ≤ (d.phase j).cutRun)) := by
  simp [Dev.ocStands]

/-- Settles O48: a trip is the latch with its report and the failure of the rail, and the drill moves neither a halted loop nor a
report. -/
theorem loopProtection : Obligations.LoopProtection := by
  unfold Obligations.LoopProtection
  intro s n m d q idle persist oc watched armed
  have hwatched : watched ↔ d.armed n = true := (d.armed_iff n).symm
  have hoc : watched ∧ oc ↔ d.ocStands n = true := by rw [hwatched, d.ocStands_iff n]
  have honly {e : Dev} (h : e = d) : d.onlyRegs e (fun a => a = SEQ_RSTATE (loopRail n)) := h ▸ ⟨fun _ _ => rfl, rfl⟩
  refine ⟨fun ⟨hw, hl⟩ => ?_, fun ha ⟨hon, hst⟩ => ?_, fun hb hu => ?_, fun hu ⟨hon, hst⟩ => ?_, fun hm hb hd hc => ?_,
    phaseOc_none, fun hw ho => ?_, fun h => ?_⟩
  · exact (loopOvTrip_latches n (hwatched.mp hw) hl).mono fun e ⟨h, hr⟩ => ⟨h.lstate, h.phases, hr.sticky, h.pg, hr.pending⟩
  · exact (loopOvTrip_idle n (fun h => ha ⟨hwatched.mpr h.1, h.2⟩) hon hst).mono fun _ => honly
  · exact (loopUv_reports n hb hu).mono fun e ⟨hr, hpg⟩ => ⟨hr.sticky, hpg, hr.pending⟩
  · exact (loopUv_idle n hu hon hst).mono fun _ => honly
  · exact phaseOc_cuts n hm hb hd hc
  · exact (loopOc_reports n (hoc.mp ⟨hw, ho⟩)).mono fun e hr => ⟨hr.sticky, hr.pending⟩
  · exact loopOc_none n (by rw [hoc] at h; simpa using h)

end Sys2Proof.Machine
end

section
/-!
Writes of loop and phase registers (R28, R42, R49, R50, R63).
-/

namespace Sys2Proof.Machine

open Sys2Proof Sys2Proof.R

/-! ## The words that a write stores -/

/-- A write of address `a` stores the bits of `mask` and clears none. -/
def Stores (a : Nat) (mask : Word) : Prop := (rowAt a).map (fun r => (r.stored, r.w1c)) = some (mask, 0)

theorem Dev.storeWord_of_stores (d : Dev) {a : Nat} {mask : Word} (h : Stores a mask) (key : Nat) (v : Word) :
    d.storeWord key a v = d.wr key ((d.rd key &&& ~~~mask) ||| (v &&& mask)) := by
  unfold Stores at h
  unfold Dev.storeWord
  cases hr : rowAt a with
  | none => rw [hr] at h; cases h
  | some r =>
    rw [hr, Option.map_some, Option.some_inj, Prod.mk.injEq] at h
    have hkeep (x : Word) : x &&& ~~~(v &&& r.w1c) = x := by
      rw [h.2]
      simpa using BitVec.and_allOnes (x := x)
    simp only [hkeep, h.1]

theorem Dev.storeWord_of_stores_all (d : Dev) {a : Nat} (h : Stores a 0xFFFF) (v : Word) : d.storeWord a a v = d.wr a v := by
  rw [d.storeWord_of_stores h a v]
  congr 1
  ext i hi
  interval_cases i <;> simp

theorem stores_LP_CFG (n : Loop) : Stores (LP_CFG n) 0x3FFF := by revert n; unfold Stores; decide
theorem stores_LP_PERIOD (n : Loop) : Stores (LP_PERIOD n) 0xFFF := by revert n; unfold Stores; decide
theorem stores_LP_SLEW (n : Loop) : Stores (LP_SLEW n) 0xFFFF := by revert n; unfold Stores; decide
theorem stores_LP_OV (n : Loop) : Stores (LP_OV n) 0xFFFF := by revert n; unfold Stores; decide
theorem stores_PH_CFG (m : Phase) : Stores (PH_CFG m) 0x1FF := by revert m; unfold Stores; decide

/-! ## What an evaluation leaves, and a rail that is not on -/

theorem Dev.rd_evalCfgErr (d : Dev) (n : Loop) {a : Nat} (h : a ≠ LP_STATUS n) : (d.evalCfgErr n).rd a = d.rd a :=
  Dev.rd_setFlag_ne d _ _ (by decide) h

/-- A rail that is OFF and not on is not touched, whatever registers of loops and phases have changed. -/
theorem Dev.pollLoop_of_idle {d e : Dev} {n : Loop} (h : ∀ a, elseReg a → e.rd a = d.rd a)
    (hon : d.railOn (loopRail n) = false) (hst : d.rstate (loopRail n) = rsOff) : e.pollLoop n = e := by
  have hn := n.isLt
  have hrail : (loopRail n).val = n.val := rfl
  refine e.railPoll_of_off _ ?_ ?_
  · rw [Dev.railOn, Dev.mbit, h, ← hon]
    · rfl
    · simp only [elseReg, loopReg, SEQ_RAILON, hrail, Bool.and_eq_false_iff, decide_eq_false_iff_not]
      omega
  · refine (Dev.fld_of_rd _ (by decide) (h _ ?_)).trans hst
    simp only [elseReg, loopReg, SEQ_RSTATE, hrail, Bool.and_eq_false_iff, decide_eq_false_iff_not]
    omega

theorem ne_of_elseReg {a b : Nat} (h : elseReg a) (hb : loopReg b = true) : a ≠ b := fun e => by
  rw [e, elseReg, hb] at h; cases h

theorem loopReg_LP_STATUS (n : Loop) : loopReg (LP_STATUS n) = true := loopReg_loop n (by decide) (by decide)

/-- The registers beside the status that an evaluation and the supervision leave. -/
theorem Dev.rd_evalCfgErr_poll (d : Dev) (n : Loop) {a : Nat} (ha : loopReg a = true) (hn : a ≠ LP_STATUS n) :
    ((d.evalCfgErr n).pollLoop n).rd a = d.rd a :=
  (((d.evalCfgErr n).railStep_pollLoop n).rd ha hn).trans (d.rd_evalCfgErr n hn)

/-- A write that touched one register of loops leaves everything else but the status, where the rail is not on. -/
theorem Dev.evalCfgErr_poll_idle {d e : Dev} {n : Loop} {K : Nat → Prop} (hl : e.loops = d.loops) (h : ∀ a, ¬K a → e.rd a = d.rd a)
    (hK : ∀ a, K a → loopReg a = true) (hon : d.railOn (loopRail n) = false) (hst : d.rstate (loopRail n) = rsOff) :
    ((e.evalCfgErr n).pollLoop n).loops = d.loops ∧
      d.keepsRegs ((e.evalCfgErr n).pollLoop n) (fun a => K a ∨ a = LP_STATUS n) := by
  have helse (a : Nat) (ha : elseReg a) : (e.evalCfgErr n).rd a = d.rd a :=
    (e.rd_evalCfgErr n (ne_of_elseReg ha (loopReg_LP_STATUS n))).trans
      (h a fun hk => absurd (hK a hk) (by rw [show loopReg a = false from ha]; decide))
  rw [Dev.pollLoop_of_idle helse hon hst]
  refine ⟨(Dev.setFlag_loops ..).trans hl, fun a ha _ => ?_⟩
  obtain ⟨hk, hs⟩ := not_or.mp ha
  exact (e.rd_evalCfgErr n hs).trans (h a hk)

/-! ## Which command writes what -/

theorem loopAt_loop (n : Loop) {off : Nat} (h : off < 0x80) : loopAt (0x2000 + off + 0x80 * n.val) = some (n, off) := by
  have := n.isLt
  have hn : (0x2000 + off + 0x80 * n.val - 0x2000) / 0x80 = n.val := by omega
  have ho : (0x2000 + off + 0x80 * n.val - 0x2000) % 0x80 = off := by omega
  rw [loopAt, if_pos (by omega), hn, ho]
  simp [Fin.ofNat, Nat.mod_eq_of_lt n.isLt]

/-- A write of the loop register at `off`, other than LP_VSET. -/
theorem completes_loopWrite {s : State} {acc : Acc} {v : BitVec 32} {P : Dev → Prop} (n : Loop) (off : Nat) (ho : off < 0x80)
    (h6 : off ≠ 6) (hm : s.dev.mayWrite acc (0x2000 + off + 0x80 * n.val) = true)
    (hp : P (((s.dev.dropHeld acc).writeLoop n off v).2.pollLoop n)) :
    Completes (.loopConfigWrite acc (BitVec.ofNat 16 (0x2000 + off + 0x80 * n.val)) v) s P := by
  have hn := n.isLt
  have ha : (BitVec.ofNat 16 (0x2000 + off + 0x80 * n.val)).toNat = 0x2000 + off + 0x80 * n.val := by
    rw [BitVec.toNat_ofNat, Nat.mod_eq_of_lt (by omega)]
  refine completes_gate (a := 0x2000 + off + 0x80 * n.val) (fun d => d.onLoop n fun d => (d.writeLoop n off v).2) ?_ hm hp
  have : exec (.loopConfigWrite acc (BitVec.ofNat 16 (0x2000 + off + 0x80 * n.val)) v) s =
      execLoopConfigWrite acc (BitVec.ofNat 16 (0x2000 + off + 0x80 * n.val)) v s := rfl
  rw [this, execLoopConfigWrite, ha, loopAt_loop n ho]
  simp only [h6, ↓reduceIte]

section WriteLoop

variable (d : Dev) (n : Loop) (v : BitVec 32)

theorem LP_CTL_add {off b : Nat} (h : b = 0x2000 + off) : LP_CTL n + off = b + 0x80 * n.val := by
  simp only [LP_CTL]; omega

theorem Dev.writeLoop_B0 : (d.writeLoop n 0x44 v).2 = (d.wr32 (LP_B0 n) v).evalCfgErr n := by
  have : LP_CTL n + 0x44 = LP_B0 n := LP_CTL_add n rfl
  simp [Dev.writeLoop, this]

theorem Dev.writeLoop_SLEW : (d.writeLoop n 0x0E v).2 =
    ((d.wr (LP_SLEW n) (v.setWidth 16)).evalShed n).evalCfgErr n := by
  have : LP_CTL n + 0x0E = LP_SLEW n := LP_CTL_add n rfl
  simp [Dev.writeLoop, this, d.storeWord_of_stores_all (stores_LP_SLEW n)]

theorem Dev.writeLoop_OV : (d.writeLoop n 0x16 v).2 =
    ((d.wr (LP_OV n) (v.setWidth 16)).when (decide (d.lstate n ≠ lsOff) && (d.wr (LP_OV n) (v.setWidth 16)).limitsBad n)
      (·.spFault n)).evalCfgErr n := by
  have : LP_CTL n + 0x16 = LP_OV n := LP_CTL_add n rfl
  simp [Dev.writeLoop, this, d.storeWord_of_stores_all (stores_LP_OV n)]

/-- The word that LP_CFG takes, and the one that LP_PERIOD takes. -/
def Dev.cfgWord (w : Word) : Word := (d.rd (LP_CFG n) &&& ~~~0x3FFF#16) ||| (w &&& 0x3FFF#16)
def Dev.periodWord (w : Word) : Word := (d.rd (LP_PERIOD n) &&& ~~~0x0FFF#16) ||| (w &&& 0x0FFF#16)

theorem Dev.writeLoop_CFG_off (h : d.lstate n = lsOff) : (d.writeLoop n 0x02 v).2 =
    (d.wr (LP_CFG n) (d.cfgWord n (v.setWidth 16))).evalCfgErr n := by
  have : LP_CTL n + 0x02 = LP_CFG n := LP_CTL_add n rfl
  simp [Dev.writeLoop, this, d.storeWord_of_stores (stores_LP_CFG n), h, Dev.cfgWord]

/-- Of LP_CFG a running loop keeps ATTEN and OSR (R50). -/
theorem Dev.writeLoop_CFG_run (h : d.lstate n ≠ lsOff) : (d.writeLoop n 0x02 v).2 =
    (d.wr (LP_CFG n) (d.cfgWord n ((v.setWidth 16 &&& 0xFFE0#16) ||| (d.rd (LP_CFG n) &&& 0x001F#16)))).when
      (decide ((d.rd (LP_CFG n) &&& 0x001F#16) ≠ (v.setWidth 16 &&& 0x001F#16)))
      (·.setFlag (LP_STICKY n) LP_STICKY.RUNREF true) := by
  have : LP_CTL n + 0x02 = LP_CFG n := LP_CTL_add n rfl
  simp [Dev.writeLoop, this, d.storeWord_of_stores (stores_LP_CFG n), h, Dev.cfgWord]

theorem Dev.writeLoop_PERIOD_off (h : d.lstate n = lsOff) : (d.writeLoop n 0x04 v).2 =
    (d.wr (LP_PERIOD n) (d.periodWord n (v.setWidth 16))).evalCfgErr n := by
  have : LP_CTL n + 0x04 = LP_PERIOD n := LP_CTL_add n rfl
  simp [Dev.writeLoop, this, d.storeWord_of_stores (stores_LP_PERIOD n), h, Dev.periodWord]

theorem Dev.writeLoop_PERIOD_run (h : d.lstate n ≠ lsOff)
    (hv : (d.rd (LP_PERIOD n) &&& 0x0FFF#16) ≠ ((v.setWidth 16 : Word) &&& 0x0FFF#16)) :
    (d.writeLoop n 0x04 v).2 = d.setFlag (LP_STICKY n) LP_STICKY.RUNREF true := by
  have : LP_CTL n + 0x04 = LP_PERIOD n := LP_CTL_add n rfl
  simp [Dev.writeLoop, this, h, hv]

end WriteLoop

/-! ## Fields of the words written -/

theorem word_and_low (n : Nat) (hn : n ≤ 16) (x : Word) : (x &&& BitVec.ofNat 16 (2 ^ n - 1)).toNat = x.toNat % 2 ^ n := by
  have : 2 ^ n - 1 < 2 ^ 16 := by
    have := Nat.pow_le_pow_right (n := 2) (by decide) hn
    have := Nat.one_le_two_pow (n := n)
    omega
  rw [BitVec.toNat_and, BitVec.toNat_ofNat, Nat.mod_eq_of_lt this, Nat.and_two_pow_sub_one_eq_mod]

theorem Dev.cfgWord_masked (d : Dev) (n : Loop) (w : Word) : d.cfgWord n w &&& 0x3FFF#16 = w &&& 0x3FFF#16 := by
  unfold Dev.cfgWord
  ext i hi
  interval_cases i <;> simp

/-- What a running loop keeps, and what it takes. -/
theorem Dev.cfgWord_run_masked (d : Dev) (n : Loop) (w r : Word) :
    d.cfgWord n ((w &&& 0xFFE0#16) ||| (r &&& 0x001F#16)) &&& 0x3FFF#16 = (w &&& 0x3FE0#16) ||| (r &&& 0x001F#16) := by
  rw [Dev.cfgWord_masked]
  ext i hi
  interval_cases i <;> simp

theorem Dev.periodWord_masked (d : Dev) (n : Loop) (w : Word) : d.periodWord n w &&& 0x0FFF#16 = w &&& 0x0FFF#16 := by
  unfold Dev.periodWord
  ext i hi
  interval_cases i <;> simp

theorem Dev.fld_PERIOD (d : Dev) (n : Loop) : d.fld (LP_PERIOD n) LP_PERIOD.PERIOD = (d.rd (LP_PERIOD n) &&& 0x0FFF#16).toNat := by
  rw [show (0x0FFF#16) = BitVec.ofNat 16 (2 ^ 12 - 1) from rfl, word_and_low 12 (by decide)]
  simp [Dev.fld, Fld.of, Dev.rn]

/-! ## Writes of loop registers -/

/-- Shedding is suspended, or no longer. -/
theorem WorkClosed.evalShed {n : Loop} {J : Phase → Prop} {R : Dev → Dev → Prop} (h : WorkClosed n J R) (hj : ∀ m, J m) (d : Dev) :
    R d (d.evalShed n) := by
  unfold Dev.evalShed
  dsimp only
  split
  · refine h.trans ?_ (h.rejoin _ fun m _ => hj m)
    exact h.trans (h.loop d _) (h.stickyFlag _ _ (by decide) _)
  · exact h.loop d _

/-- The registers that the work of a loop writes, beside the status. -/
def workReg (n : Loop) (a : Nat) : Prop := haltReg n a ∨ phaseReg (fun _ => True) a ∨ stepReg n a

/-- Every field of the status that the work of a loop changes: all but INWIN and TRIMSAT. -/
def workFields : List Fld := [LP_STATUS.ACTPH, LP_STATUS.CFGERR, LP_STATUS.STEPHOLD, LP_STATUS.STATE, LP_STATUS.PG, LP_STATUS.SETTLED]

theorem keeps_workReg (n : Loop) : WorkClosed n (fun _ => True) (Dev.Keeps n (workReg n) workFields) :=
  keeps_work (keeps_step (keeps_phase (keeps_tail (fun _ h => .inl (haltReg_of_tailReg h)) (by decide))
    fun _ h => .inr (.inl h)) (fun _ h => .inr (.inr h)) (by decide)) (by decide)

theorem not_workReg_loop (n : Loop) {b : Nat} (h : 0x2000 ≤ b) (hb : b < 0x2080)
    (hne : b ≠ 0x203C ∧ b ≠ 0x2042 ∧ b ≠ 0x205A ∧ b ≠ 0x2038) : ¬workReg n (b + 0x80 * n.val) := by
  have hl := loopReg_loop n h hb
  have := n.isLt
  rintro ((h | h | h) | ⟨m, -, h | h | h⟩ | h | h)
  · rw [elseReg, hl] at h; cases h
  all_goals simp only [LP_IOUT, LP_POUT, LP_STEP_CNT, LP_STICKY, PH_STATE, PH_TRIM, PH_IOUT] at h; omega

section Writes

variable {s : State} {acc : Acc} {n : Loop} {v : BitVec 32}

theorem loopConfigWrite_B0 (hm : s.dev.mayWrite acc (LP_B0 n) = true) :
    Completes (.loopConfigWrite acc (BitVec.ofNat 16 (LP_B0 n)) v) s fun e => e.rd32 (LP_B0 n) = v ∧
      (s.dev.railOn (loopRail n) = false → s.dev.rstate (loopRail n) = rsOff → e.loops = s.dev.loops ∧
        s.dev.keepsRegs e (fun a => (a = LP_B0 n ∨ a = LP_B0 n + 2) ∨ a = LP_STATUS n)) := by
  refine completes_loopWrite n 0x44 (by decide) (by decide) hm ?_
  rw [Dev.writeLoop_B0]
  have hlo : loopReg (LP_B0 n) = true := loopReg_loop n (by decide) (by decide)
  have hhi : loopReg (LP_B0 n + 2) = true := by
    have := n.isLt
    simp only [loopReg_iff, LP_B0]
    omega
  refine ⟨?_, fun hon hst => ?_⟩
  · rw [Dev.rd32, Dev.rd_evalCfgErr_poll _ _ hlo (by simp only [LP_B0, LP_STATUS]; omega),
      Dev.rd_evalCfgErr_poll _ _ hhi (by simp only [LP_B0, LP_STATUS]; omega)]
    exact Dev.rd32_wr32_same _ _ v
  · refine Dev.evalCfgErr_poll_idle (d := s.dev) (K := fun a => a = LP_B0 n ∨ a = LP_B0 n + 2) rfl (fun a ha => ?_) ?_ hon hst
    · exact Dev.rd_wr32_ne _ v (not_or.mp ha).1 (not_or.mp ha).2
    · rintro a (rfl | rfl)
      · exact hlo
      · exact hhi

theorem loopConfigWrite_SLEW (hm : s.dev.mayWrite acc (LP_SLEW n) = true) :
    Completes (.loopConfigWrite acc (BitVec.ofNat 16 (LP_SLEW n)) v) s fun e => e.rd (LP_SLEW n) = v.setWidth 16 := by
  refine completes_loopWrite n 0x0E (by decide) (by decide) hm ?_
  have hl : loopReg (LP_SLEW n) = true := loopReg_loop n (by decide) (by decide)
  have hs : LP_SLEW n ≠ LP_STATUS n := by simp only [LP_SLEW, LP_STATUS]; omega
  rw [Dev.writeLoop_SLEW, Dev.rd_evalCfgErr_poll _ _ hl hs]
  refine (((keeps_workReg n).evalShed (fun _ => trivial) _).rd _ ?_ hs (evtReg_of_loopReg hl)).trans (Dev.rd_wr_same _ _ _)
  exact not_workReg_loop n (by decide) (by decide) (by decide)

/-- The cases of R49 are judged from registers that a setpoint fault, an evaluation and the supervision leave. -/
theorem Dev.limitsBad_congr {d e : Dev} (h : ∀ b, 0x2000 ≤ b → b < 0x2080 → b ≠ 0x2036 → b ≠ 0x2038 →
    e.rd (b + 0x80 * n.val) = d.rd (b + 0x80 * n.val)) : e.limitsBad n = d.limitsBad n := by
  have hrn (b : Nat) (h1 : 0x2000 ≤ b) (h2 : b < 0x2080) (h3 : b ≠ 0x2036) (h4 : b ≠ 0x2038) :
      e.rn (b + 0x80 * n.val) = d.rn (b + 0x80 * n.val) := congrArg BitVec.toNat (h b h1 h2 h3 h4)
  have hatt : e.atten n = d.atten n := by
    rw [Dev.atten, Dev.atten, Dev.fld_of_rd _ (by decide) (h 0x2002 (by decide) (by decide) (by decide) (by decide))]
  have hov := hrn 0x2016 (by decide) (by decide) (by decide) (by decide)
  have huv := hrn 0x2018 (by decide) (by decide) (by decide) (by decide)
  have hmin := hrn 0x2008 (by decide) (by decide) (by decide) (by decide)
  have hmax := hrn 0x200A (by decide) (by decide) (by decide) (by decide)
  have hss := hrn 0x2010 (by decide) (by decide) (by decide) (by decide)
  simp only [Dev.limitsBad, Dev.senseLo, Dev.senseHi, hatt, LP_OV, LP_UV, LP_VMIN, LP_VMAX, LP_SSSLEW, hov, huv, hmin, hmax, hss]
  rfl

theorem Dev.reported_spFault (d : Dev) (n : Loop) : Dev.Reported n LP_STICKY.SPFAULT (51 + 4 * n.val) (d.spFault n) :=
  Dev.reported_raise (by decide) (by have := n.isLt; omega) (Dev.flag_setFlag_same _ _ _ _ (by decide) (by decide))

theorem Dev.rd_spFault (d : Dev) (n : Loop) {a : Nat} (h : a ≠ LP_STICKY n) (he : evtReg a = false) : (d.spFault n).rd a = d.rd a :=
  ((Dev.quiet_raise _ (by have := n.isLt; omega)).2 a he).trans (Dev.rd_setFlag_ne d _ _ (by decide) h)

theorem Dev.keeps_evalCfgErr (d : Dev) (n : Loop) {W : Nat → Prop} :
    Dev.Keeps n W [LP_STATUS.ACTPH, LP_STATUS.CFGERR] d (d.evalCfgErr n) :=
  d.keeps_setFlag _ (by decide) (by decide)

theorem loopConfigWrite_OV (hm : s.dev.mayWrite acc (LP_OV n) = true) :
    Completes (.loopConfigWrite acc (BitVec.ofNat 16 (LP_OV n)) v) s fun e => e.rd (LP_OV n) = v.setWidth 16 ∧
      (s.dev.lstate n ≠ lsOff → e.limitsBad n = true → Dev.Reported n LP_STICKY.SPFAULT (51 + 4 * n.val) e) := by
  have hx : 51 + 4 * n.val < 256 := by have := n.isLt; omega
  refine completes_loopWrite n 0x16 (by decide) (by decide) hm ?_
  rw [Dev.writeLoop_OV]
  generalize hd1 : (s.dev.dropHeld acc).wr (LP_OV n) (v.setWidth 16) = d1
  generalize hb : (decide ((s.dev.dropHeld acc).lstate n ≠ lsOff) && d1.limitsBad n) = b
  have hrd (b' : Nat) (h1 : 0x2000 ≤ b') (h2 : b' < 0x2080) (h3 : b' ≠ 0x2036) (h4 : b' ≠ 0x2038) :
      (((d1.when b (·.spFault n)).evalCfgErr n).pollLoop n).rd (b' + 0x80 * n.val) = d1.rd (b' + 0x80 * n.val) := by
    rw [Dev.rd_evalCfgErr_poll _ _ (loopReg_loop n h1 h2) (by simp only [LP_STATUS]; omega)]
    unfold Dev.when
    split
    · exact d1.rd_spFault n (by simp only [LP_STICKY]; omega) (evtReg_of_loopReg (loopReg_loop n h1 h2))
    · rfl
  refine ⟨?_, fun hrun hbad => ?_⟩
  · rw [hrd 0x2016 (by decide) (by decide) (by decide) (by decide), ← hd1]
    exact Dev.rd_wr_same _ _ _
  · rw [Dev.limitsBad_congr hrd] at hbad
    have hb' : b = true := by rw [← hb, hbad, Bool.and_true]; exact decide_eq_true hrun
    rw [hb', Dev.when, if_pos rfl]
    exact ((d1.reported_spFault n).tail (by decide) hx (Dev.keeps_evalCfgErr _ n)).rail (by decide) hx (Dev.railStep_pollLoop _ n)

theorem loopConfigWrite_CFG_off (hm : s.dev.mayWrite acc (LP_CFG n) = true) (hoff : s.dev.lstate n = lsOff) :
    Completes (.loopConfigWrite acc (BitVec.ofNat 16 (LP_CFG n)) v) s fun e =>
      e.rd (LP_CFG n) &&& 0x3FFF = v.setWidth 16 &&& 0x3FFF ∧
      (s.dev.railOn (loopRail n) = false → s.dev.rstate (loopRail n) = rsOff → e.loops = s.dev.loops ∧
        s.dev.keepsRegs e (fun a => a = LP_CFG n ∨ a = LP_STATUS n)) := by
  refine completes_loopWrite n 0x02 (by decide) (by decide) hm ?_
  rw [Dev.writeLoop_CFG_off (s.dev.dropHeld acc) n v hoff]
  have hl : loopReg (LP_CFG n) = true := loopReg_loop n (by decide) (by decide)
  refine ⟨?_, Dev.evalCfgErr_poll_idle rfl (fun a ha => Dev.rd_wr_ne _ _ ha) fun a ha => ha ▸ hl⟩
  rw [Dev.rd_evalCfgErr_poll _ _ hl (by simp only [LP_CFG, LP_STATUS]; omega), Dev.rd_wr_same]
  exact Dev.cfgWord_masked _ _ _

@[simp] theorem Dev.rd_dropHeld (d : Dev) (acc : Acc) (a : Nat) : (d.dropHeld acc).rd a = d.rd a := rfl

theorem loopConfigWrite_CFG_run (hm : s.dev.mayWrite acc (LP_CFG n) = true) (hrun : s.dev.lstate n ≠ lsOff) :
    Completes (.loopConfigWrite acc (BitVec.ofNat 16 (LP_CFG n)) v) s fun e =>
      e.rd (LP_CFG n) &&& 0x3FFF = v.setWidth 16 &&& 0x3FE0 ||| s.dev.rd (LP_CFG n) &&& 0x001F ∧
      (v.setWidth 16 &&& 0x001F ≠ s.dev.rd (LP_CFG n) &&& 0x001F → e.flag (LP_STICKY n) LP_STICKY.RUNREF = true) ∧
      (v.setWidth 16 &&& 0x001F = s.dev.rd (LP_CFG n) &&& 0x001F → e.rd (LP_STICKY n) = s.dev.rd (LP_STICKY n)) := by
  refine completes_loopWrite n 0x02 (by decide) (by decide) hm ?_
  rw [Dev.writeLoop_CFG_run (s.dev.dropHeld acc) n v hrun]
  have hl : loopReg (LP_CFG n) = true := loopReg_loop n (by decide) (by decide)
  have hls : loopReg (LP_STICKY n) = true := loopReg_loop n (by decide) (by decide)
  have hcs : LP_CFG n ≠ LP_STICKY n := by simp only [LP_CFG, LP_STICKY]; omega
  have hpoll (e : Dev) := e.railStep_pollLoop n
  refine ⟨?_, fun hne => ?_, fun heq => ?_⟩
  · rw [(hpoll _).rd hl (by simp only [LP_CFG, LP_STATUS]; omega)]
    refine Eq.trans ?_ (Dev.cfgWord_run_masked (s.dev.dropHeld acc) n (v.setWidth 16) (s.dev.rd (LP_CFG n)))
    congr 1
    unfold Dev.when
    split
    · exact (Dev.rd_setFlag_ne _ _ _ (by decide) hcs).trans (Dev.rd_wr_same _ _ _)
    · exact Dev.rd_wr_same _ _ _
  · rw [(hpoll _).sticky _ (by decide), Dev.when, Dev.rd_dropHeld, if_pos (by simpa using Ne.symm hne)]
    exact Dev.flag_setFlag_same _ _ _ _ (by decide) (by decide)
  · rw [(hpoll _).rd hls (by simp only [LP_STICKY, LP_STATUS]; omega), Dev.when, Dev.rd_dropHeld,
      if_neg (by simpa using Eq.symm heq)]
    exact Dev.rd_wr_ne _ _ hcs.symm

theorem loopConfigWrite_PERIOD_off (hm : s.dev.mayWrite acc (LP_PERIOD n) = true) (hoff : s.dev.lstate n = lsOff) :
    Completes (.loopConfigWrite acc (BitVec.ofNat 16 (LP_PERIOD n)) v) s fun e =>
      e.fld (LP_PERIOD n) LP_PERIOD.PERIOD = (v.setWidth 16 : Word).toNat % 4096 := by
  refine completes_loopWrite n 0x04 (by decide) (by decide) hm ?_
  have hl : loopReg (LP_PERIOD n) = true := loopReg_loop n (by decide) (by decide)
  rw [Dev.writeLoop_PERIOD_off (s.dev.dropHeld acc) n v hoff, Dev.fld_PERIOD,
    Dev.rd_evalCfgErr_poll _ _ hl (by simp only [LP_PERIOD, LP_STATUS]; omega), Dev.rd_wr_same, Dev.periodWord_masked]
  exact word_and_low 12 (by decide) _

theorem loopConfigWrite_PERIOD_run (hm : s.dev.mayWrite acc (LP_PERIOD n) = true) (hrun : s.dev.lstate n ≠ lsOff)
    (hne : s.dev.fld (LP_PERIOD n) LP_PERIOD.PERIOD ≠ (v.setWidth 16 : Word).toNat % 4096) :
    Completes (.loopConfigWrite acc (BitVec.ofNat 16 (LP_PERIOD n)) v) s fun e =>
      e.rd (LP_PERIOD n) = s.dev.rd (LP_PERIOD n) ∧ e.flag (LP_STICKY n) LP_STICKY.RUNREF = true := by
  refine completes_loopWrite n 0x04 (by decide) (by decide) hm ?_
  have hl : loopReg (LP_PERIOD n) = true := loopReg_loop n (by decide) (by decide)
  rw [Dev.writeLoop_PERIOD_run (s.dev.dropHeld acc) n v hrun fun h => hne ?_]
  · have hpoll := ((s.dev.dropHeld acc).setFlag (LP_STICKY n) LP_STICKY.RUNREF true).railStep_pollLoop n
    refine ⟨(hpoll.rd hl (by simp only [LP_PERIOD, LP_STATUS]; omega)).trans
      (Dev.rd_setFlag_ne _ _ _ (by decide) (by simp only [LP_PERIOD, LP_STICKY]; omega)), ?_⟩
    rw [hpoll.sticky _ (by decide)]
    exact Dev.flag_setFlag_same _ _ _ _ (by decide) (by decide)
  · rw [Dev.fld_PERIOD, show s.dev.rd (LP_PERIOD n) &&& 0x0FFF#16 = (v.setWidth 16 : Word) &&& 0x0FFF#16 from h]
    exact word_and_low 12 (by decide) _

end Writes

end Sys2Proof.Machine
end

section
/-!
Assignment of phases (R28), BSWAP (R42) and OVCLR (R63), and the writes of loop and phase registers as one statement.
-/

namespace Sys2Proof.Machine

open Sys2Proof Sys2Proof.R

/-! ## Assignment of phases (R28) -/

section PhCfg

variable (d : Dev) (m : Phase) (v : Word)

/-- CFGERR of a loop, if one is named, is evaluated. -/
def Dev.evalOf (d : Dev) : Option Loop → Dev
  | some n => d.evalCfgErr n
  | none => d

/-- A refused assignment sets PHCFGREF of a loop, if one is named. -/
def Dev.refuseOf (d : Dev) : Option Loop → Dev
  | some n => d.setFlag (LP_STICKY n) LP_STICKY.PHCFGREF true
  | none => d

/-- A loop, if one is named, is OFF; and a loop that a phase joins has no place left. -/
def Dev.offOf (d : Dev) : Option Loop → Bool
  | some n => d.lstate n = lsOff
  | none => true
def Dev.fullFor (d : Dev) (old : Option Loop) : Option Loop → Bool
  | some n => old ≠ some n && 8 ≤ (d.phasesOf n).length
  | none => false

/-- The word that PH_CFG takes. -/
def Dev.phCfgWord : Word := (d.rd (PH_CFG m) &&& ~~~0x1FF#16) ||| (v &&& 0x1FF#16)

/-- PH_CFG_WRITE, with the loop that the phase leaves and the one that it joins named. -/
theorem Dev.writePhCfg_eq {old new : Option Loop} (ho : d.phaseLoop m = old) (hn : loopOf (v.toNat % 16) = new) :
    (d.writePhCfg m v).2 =
      if !(d.offOf old && d.offOf new) then (d.refuseOf old).refuseOf new
      else if d.fullFor old new then d.refuseOf new
      else (((d.wr (PH_CFG m) (d.phCfgWord m v)).idlePhase m psOff).evalOf old).evalOf new := by
  subst ho
  unfold Dev.writePhCfg
  rw [hn, d.storeWord_of_stores (stores_PH_CFG m)]
  simp only [apply_ite Prod.snd]
  cases d.phaseLoop m <;> cases new <;> rfl

theorem Dev.offOf_iff (o : Option Loop) : d.offOf o = true ↔ ∀ k, o = some k → d.lstate k = lsOff := by
  cases o with
  | none => simp [Dev.offOf]
  | some k => simp [Dev.offOf]

theorem Dev.fullFor_iff (old new : Option Loop) : d.fullFor old new = true ↔
    ∃ k, new = some k ∧ old ≠ some k ∧ 8 ≤ (d.phasesOf k).length := by
  cases new with
  | none => simp [Dev.fullFor]
  | some k => simp [Dev.fullFor]

theorem Dev.writePhCfg_taken (hidle : ∀ k : Loop, (d.phaseLoop m = some k ∨ loopOf (v.toNat % 16) = some k) → d.lstate k = lsOff)
    (hroom : ∀ k : Loop, loopOf (v.toNat % 16) = some k → d.phaseLoop m ≠ loopOf (v.toNat % 16) → (d.phasesOf k).length < 8) :
    (d.writePhCfg m v).2 = ((((d.wr (PH_CFG m) (d.phCfgWord m v)).idlePhase m psOff).evalOf (d.phaseLoop m)).evalOf
      (loopOf (v.toNat % 16))) := by
  have hold : d.offOf (d.phaseLoop m) = true := (d.offOf_iff _).mpr fun k hk => hidle k (.inl hk)
  have hnew : d.offOf (loopOf (v.toNat % 16)) = true := (d.offOf_iff _).mpr fun k hk => hidle k (.inr hk)
  have hfull : d.fullFor (d.phaseLoop m) (loopOf (v.toNat % 16)) = false := by
    rw [Bool.eq_false_iff, ne_eq, d.fullFor_iff]
    rintro ⟨k, hk, hne, hlen⟩
    exact absurd (hroom k hk (hk ▸ hne)) (not_lt.mpr hlen)
  simp only [d.writePhCfg_eq m v rfl rfl, hold, hnew, hfull, Bool.and_self, Bool.not_true, Bool.false_eq_true, if_false]

/-- Refused because the loop left or joined is not OFF. -/
theorem Dev.writePhCfg_refused_running {k : Loop} (hk : d.phaseLoop m = some k ∨ loopOf (v.toNat % 16) = some k)
    (hrun : d.lstate k ≠ lsOff) :
    (d.writePhCfg m v).2 = (d.refuseOf (d.phaseLoop m)).refuseOf (loopOf (v.toNat % 16)) := by
  have hoff {o : Option Loop} (h : o = some k) : d.offOf o = false := by
    rw [h]
    exact decide_eq_false hrun
  rw [d.writePhCfg_eq m v rfl rfl, if_pos]
  obtain h | h := hk
  · rw [hoff h]
    rfl
  · rw [hoff h, Bool.and_false]
    rfl

/-- Refused because the loop joined has eight phases: it, and where it is not the only reason the loop left, shows it. -/
theorem Dev.writePhCfg_refused_full {k : Loop} (hk : loopOf (v.toNat % 16) = some k) (hne : d.phaseLoop m ≠ some k)
    (hfull : 8 ≤ (d.phasesOf k).length) : (d.writePhCfg m v).2 = d.refuseOf (some k) ∨
      (d.writePhCfg m v).2 = (d.refuseOf (d.phaseLoop m)).refuseOf (some k) := by
  have : d.fullFor (d.phaseLoop m) (some k) = true := (d.fullFor_iff _ _).mpr ⟨k, rfl, hne, hfull⟩
  rw [d.writePhCfg_eq m v rfl hk, this, if_pos rfl]
  split
  · exact .inr rfl
  · exact .inl rfl

theorem Dev.rd_evalOf (o : Option Loop) {a : Nat} (h : ∀ k : Loop, a ≠ LP_STATUS k) : (d.evalOf o).rd a = d.rd a := by
  cases o with
  | none => rfl
  | some k => exact d.rd_evalCfgErr k (h k)

theorem Dev.onlyRegs_refuseOf (o : Option Loop) : d.onlyRegs (d.refuseOf o) (fun a => ∃ j : Loop, a = LP_STICKY j) := by
  cases o with
  | none => exact ⟨fun _ _ => rfl, rfl⟩
  | some k => exact (d.onlyRegs_setFlag _ _ _ (by decide)).mono fun a h => ⟨k, h⟩

theorem LP_STICKY_inj {n k : Loop} (h : LP_STICKY n = LP_STICKY k) : n = k := Fin.ext (by simp only [LP_STICKY] at h; omega)

/-- What one refusal has shown, another leaves. -/
theorem Dev.phcfgref_refuseOf (o : Option Loop) (k : Loop)
    (h : o = some k ∨ d.flag (LP_STICKY k) LP_STICKY.PHCFGREF = true) :
    (d.refuseOf o).flag (LP_STICKY k) LP_STICKY.PHCFGREF = true := by
  cases o with
  | none => exact h.resolve_left (by simp)
  | some j =>
    by_cases hj : j = k
    · subst hj
      exact Dev.flag_setFlag_same _ _ _ _ (by decide) (by decide)
    · have hrd : (d.refuseOf (some j)).rd (LP_STICKY k) = d.rd (LP_STICKY k) :=
        Dev.rd_setFlag_ne _ _ _ (by decide) fun e => hj (LP_STICKY_inj e).symm
      rw [Dev.flag, Dev.fld_of_rd _ (by decide) hrd]
      exact h.resolve_left (by simpa using hj)

theorem loopOf_phCfgWord : loopOf ((d.phCfgWord m v).toNat / 2 ^ 0 % 2 ^ 4) = loopOf (v.toNat % 16) := by
  have hmask : d.phCfgWord m v &&& 0xF#16 = v &&& 0xF#16 := by
    unfold Dev.phCfgWord
    ext i hi
    interval_cases i <;> simp
  have hnat := congrArg BitVec.toNat hmask
  rw [show (0xF#16) = BitVec.ofNat 16 (2 ^ 4 - 1) from rfl, word_and_low 4 (by decide), word_and_low 4 (by decide)] at hnat
  rw [pow_zero, Nat.div_one, hnat]
  rfl

variable {s : State} {acc : Acc}

theorem phCfgWrite_taken (hm : s.dev.mayWrite acc (PH_CFG m) = true)
    (hidle : ∀ k : Loop, (s.dev.phaseLoop m = some k ∨ loopOf (v.toNat % 16) = some k) → s.dev.lstate k = lsOff)
    (hroom : ∀ k : Loop, loopOf (v.toNat % 16) = some k → s.dev.phaseLoop m ≠ loopOf (v.toNat % 16) →
      (s.dev.phasesOf k).length < 8) :
    Completes (.phCfgWrite acc m v) s fun e => e.phaseLoop m = loopOf (v.toNat % 16) ∧ e.pstate m = psOff ∧ e.rd (PH_IOUT m) = 0 ∧
      s.dev.keepsRegs e (fun a => a = PH_CFG m ∨ a = PH_STATE m ∨ a = PH_IOUT m ∨ ∃ k : Loop, a = LP_STATUS k) := by
  refine completes_gate (fun d => (d.writePhCfg m v).2) rfl hm ?_
  rw [Dev.writePhCfg_taken (s.dev.dropHeld acc) m v hidle hroom]
  generalize s.dev.phaseLoop m = old at *
  have hrd {a : Nat} (h : ∀ k : Loop, a ≠ LP_STATUS k) (x : Dev) (o o' : Option Loop) : ((x.evalOf o).evalOf o').rd a = x.rd a :=
    (Dev.rd_evalOf _ o' h).trans (Dev.rd_evalOf _ o h)
  refine ⟨?_, ?_, ?_, fun a ha _ => ?_⟩
  · have hst (k : Loop) : PH_CFG m ≠ LP_STATUS k := by
      have := k.isLt
      simp only [PH_CFG, LP_STATUS]
      omega
    have hps : PH_CFG m ≠ PH_STATE m := by simp only [PH_CFG, PH_STATE]; omega
    have hpi : PH_CFG m ≠ PH_IOUT m := by simp only [PH_CFG, PH_IOUT]; omega
    rw [Dev.phaseLoop, Dev.fld_of_rd _ (by decide) ((hrd hst _ _ _).trans (Dev.rd_idlePhase _ m psOff hps hpi)),
      Dev.fld, if_pos (by decide), Dev.rn, Dev.rd_wr_same]
    exact loopOf_phCfgWord _ m v
  · rw [Dev.pstate, Dev.fld_of_rd _ (by decide) (hrd (fun k => (LP_STATUS_ne_phase k m).1.symm) _ _ _)]
    exact Dev.pstate_idlePhase _ m psOff
  · rw [hrd (fun k => (LP_STATUS_ne_phase k m).2.symm)]
    exact Dev.rd_idlePhase_IOUT _ m psOff
  · simp only [not_or, not_exists] at ha
    obtain ⟨hc, hs, hi, hst⟩ := ha
    rw [hrd hst, Dev.rd_idlePhase _ m psOff hs hi, Dev.rd_wr_ne _ _ hc]
    rfl

theorem phCfgWrite_refused_running (hm : s.dev.mayWrite acc (PH_CFG m) = true) {k : Loop}
    (hk : s.dev.phaseLoop m = some k ∨ loopOf (v.toNat % 16) = some k) (hrun : s.dev.lstate k ≠ lsOff) :
    Completes (.phCfgWrite acc m v) s fun e => e.flag (LP_STICKY k) LP_STICKY.PHCFGREF = true ∧
      (s.dev.dropHeld acc).onlyRegs e (fun a => ∃ j : Loop, a = LP_STICKY j) := by
  refine completes_gate (fun d => (d.writePhCfg m v).2) rfl hm ?_
  rw [Dev.writePhCfg_refused_running (s.dev.dropHeld acc) m v hk hrun]
  refine ⟨Dev.phcfgref_refuseOf _ _ k ?_, ((Dev.onlyRegs_refuseOf _ _).trans (Dev.onlyRegs_refuseOf _ _)).mono fun a h => h.elim id id⟩
  exact hk.symm.imp_right fun h => Dev.phcfgref_refuseOf _ _ k (.inl h)

theorem phCfgWrite_refused_full (hm : s.dev.mayWrite acc (PH_CFG m) = true) {k : Loop} (hk : loopOf (v.toNat % 16) = some k)
    (hne : s.dev.phaseLoop m ≠ some k) (hfull : 8 ≤ (s.dev.phasesOf k).length) :
    Completes (.phCfgWrite acc m v) s fun e => e.flag (LP_STICKY k) LP_STICKY.PHCFGREF = true ∧
      (s.dev.dropHeld acc).onlyRegs e (fun a => ∃ j : Loop, a = LP_STICKY j) := by
  refine completes_gate (fun d => (d.writePhCfg m v).2) rfl hm ?_
  obtain h | h := Dev.writePhCfg_refused_full (s.dev.dropHeld acc) m v hk hne hfull
  · rw [h]
    exact ⟨Dev.phcfgref_refuseOf _ _ k (.inl rfl), Dev.onlyRegs_refuseOf _ _⟩
  · rw [h]
    exact ⟨Dev.phcfgref_refuseOf _ _ k (.inl rfl),
      ((Dev.onlyRegs_refuseOf _ _).trans (Dev.onlyRegs_refuseOf _ _)).mono fun a h => h.elim id id⟩

end PhCfg

/-! ## BSWAP and OVCLR -/

section Control

variable {s : State} {acc : Acc} {n : Loop}

theorem poleBad_iff (a : Word) : poleBad a = true ↔ a.toNat = 0 ∨ 0x8000 < a.toNat := by
  simp [poleBad, ← BitVec.toNat_inj]

theorem lpBswap_swaps (hm : s.dev.mayWrite acc (LP_CTL n) = true)
    (h : ¬(s.dev.lstate n ≠ lsOff ∧ (poleBad (s.dev.rd (LP_A1 n)) = true ∨ poleBad (s.dev.rd (LP_A2 n)) = true))) :
    Completes (.lpBswap acc n) s fun e =>
      e.loop n = { s.dev.loop n with bank := ⟨s.dev.rd32 (LP_B0 n), s.dev.rd32 (LP_B1 n), s.dev.rd32 (LP_B2 n),
        s.dev.rd (LP_A1 n), s.dev.rd (LP_A2 n)⟩ } ∧
      (∀ k, k ≠ n → e.loop k = s.dev.loop k) ∧ s.dev.keepsRegs e (fun a => a = LP_STATUS n) := by
  refine completes_gate (·.bswap n) rfl hm ?_
  have hno : ((s.dev.dropHeld acc).lstate n ≠ lsOff && (poleBad ((s.dev.dropHeld acc).rd (LP_A1 n)) ||
      poleBad ((s.dev.dropHeld acc).rd (LP_A2 n)))) = false := by
    rw [Bool.eq_false_iff, ne_eq, Bool.and_eq_true, decide_eq_true_eq, Bool.or_eq_true]
    exact h
  rw [Dev.bswap, hno, if_neg (by decide)]
  have hloop (k : Loop) (x : Dev) : (x.evalCfgErr n).loop k = x.loop k := by rw [Dev.loop, Dev.evalCfgErr, Dev.setFlag_loops]; rfl
  refine ⟨?_, fun k hk => ?_, fun a ha _ => Dev.rd_evalCfgErr _ n ha⟩
  · rw [hloop, Dev.loop_modLoop_same]
    rfl
  · rw [hloop, Dev.loop_modLoop_ne _ _ hk]
    rfl

theorem lpBswap_refused (hm : s.dev.mayWrite acc (LP_CTL n) = true) (hrun : s.dev.lstate n ≠ lsOff)
    (hbad : poleBad (s.dev.rd (LP_A1 n)) = true ∨ poleBad (s.dev.rd (LP_A2 n)) = true) :
    Completes (.lpBswap acc n) s fun e => e.flag (LP_STICKY n) LP_STICKY.RUNREF = true ∧
      (s.dev.dropHeld acc).onlyRegs e (fun a => a = LP_STICKY n) := by
  refine completes_gate (·.bswap n) rfl hm ?_
  have hyes : ((s.dev.dropHeld acc).lstate n ≠ lsOff && (poleBad ((s.dev.dropHeld acc).rd (LP_A1 n)) ||
      poleBad ((s.dev.dropHeld acc).rd (LP_A2 n)))) = true := by
    simp only [Bool.and_eq_true, decide_eq_true_eq, Bool.or_eq_true]
    exact ⟨hrun, hbad⟩
  rw [Dev.bswap, hyes, if_pos rfl]
  exact ⟨Dev.flag_setFlag_same _ _ _ _ (by decide) (by decide), Dev.onlyRegs_setFlag _ _ _ _ (by decide)⟩

theorem lpOvclr_clears (hm : s.dev.mayWrite acc (LP_CTL n) = true) (hl : s.dev.lstate n = lsOvLatched)
    (hv : s.dev.rn (LP_VOUT n) < s.dev.rn (LP_UV n)) :
    Completes (.lpOvclr acc n) s (Dev.Halted n lsOff .mid s.dev) := by
  refine completes_gate (fun d => d.onLoop n (·.ovclr n)) rfl hm ?_
  have hclr : (s.dev.dropHeld acc).ovclr n = (s.dev.dropHeld acc).goOff n := by
    rw [Dev.ovclr, if_pos]
    simp only [Bool.and_eq_true, decide_eq_true_eq]
    exact ⟨hl, hv⟩
  rw [Dev.onLoop, hclr]
  have h := ((s.dev.dropHeld acc).halted_goOff n).rail (Dev.railStep_pollLoop _ n)
  exact ⟨h.lstate, h.phases, h.pg⟩

theorem lpOvclr_idle (hm : s.dev.mayWrite acc (LP_CTL n) = true)
    (h : s.dev.lstate n ≠ lsOvLatched ∨ s.dev.rn (LP_UV n) ≤ s.dev.rn (LP_VOUT n))
    (hon : s.dev.railOn (loopRail n) = false) (hst : s.dev.rstate (loopRail n) = rsOff) :
    Completes (.lpOvclr acc n) s fun e => e = s.dev.dropHeld acc := by
  refine completes_gate (fun d => d.onLoop n (·.ovclr n)) rfl hm ?_
  have hclr : (s.dev.dropHeld acc).ovclr n = s.dev.dropHeld acc := by
    rw [Dev.ovclr, if_neg]
    simp only [Bool.and_eq_true, decide_eq_true_eq, not_and, not_lt]
    exact fun hl => h.resolve_left fun hn => hn hl
  rw [Dev.onLoop, hclr]
  exact Dev.pollLoop_of_idle (d := s.dev) (fun _ _ => rfl) hon hst

end Control

/-- Settles O45, command by command: each write is its effect on the registers of its loop, and the supervision of the rail that
follows moves none of them but PG and SETTLED. -/
theorem loopRegisterWrites : Obligations.LoopRegisterWrites := by
  unfold Obligations.LoopRegisterWrites
  intro s acc n m v d d0 w old new off idle polled badPole writes
  have hpole : badPole ↔ poleBad (d.rd (LP_A1 n)) = true ∨ poleBad (d.rd (LP_A2 n)) = true := by
    rw [poleBad_iff, poleBad_iff]
    rfl
  have hkeep {e : Dev} {K L : Nat → Prop} (h : d.keepsRegs e K) (hKL : ∀ a, K a → L a) : d.keepsRegs e L :=
    fun a ha he => h a (fun hk => ha (hKL a hk)) he
  refine ⟨fun hm => ⟨phCfgWrite_taken m w hm, fun k hk hrun => phCfgWrite_refused_running m w hm hk hrun,
      fun k hk hne hfull => phCfgWrite_refused_full m w hm hk (fun h => hne (h.trans hk.symm)) hfull⟩,
    fun hm => (loopConfigWrite_B0 hm).mono fun e ⟨hv, hi⟩ => ⟨hv, fun ⟨hon, hst⟩ => ⟨(hi hon hst).1, hkeep (hi hon hst).2 ?_⟩⟩,
    loopConfigWrite_SLEW,
    fun hm => (loopConfigWrite_OV hm).mono fun e ⟨hv, hf⟩ => ⟨hv, fun hrun hbad => ⟨(hf hrun hbad).sticky, (hf hrun hbad).pending⟩⟩,
    fun hoff hm => (loopConfigWrite_CFG_off hm hoff).mono fun e ⟨hv, hi⟩ =>
      ⟨hv, fun ⟨hon, hst⟩ => ⟨(hi hon hst).1, hkeep (hi hon hst).2 ?_⟩⟩,
    fun hrun hm => loopConfigWrite_CFG_run hm hrun, fun hoff hm => loopConfigWrite_PERIOD_off hm hoff,
    fun hrun hne hm => loopConfigWrite_PERIOD_run hm hrun hne, fun hm => ⟨fun h => lpBswap_swaps hm ?_, fun hrun hbad =>
      lpBswap_refused hm hrun (hpole.mp hbad), fun hl hv => ?_, fun h ⟨hon, hst⟩ => ?_⟩⟩
  · rintro a ((h | h) | h)
    · exact .inl h
    · exact .inr (.inl h)
    · exact .inr (.inr (.inl h))
  · rintro a (h | h)
    · exact .inl h
    · exact .inr (.inl h)
  · rintro ⟨hrun, hbad⟩
    exact h.elim (fun hoff => hrun hoff) fun hgood => hgood (hpole.mpr hbad)
  · exact (lpOvclr_clears hm hl hv).mono fun e he => ⟨he.lstate, fun j hj => (he.phases j hj).symm⟩
  · exact (lpOvclr_idle hm h hon hst).mono fun e he => he ▸ ⟨fun _ _ => rfl, rfl⟩

end Sys2Proof.Machine
end

section
/-!
Items that stand while others end (R292, R296, R301).
-/

namespace Sys2Proof.Machine

open Sys2Proof Sys2Proof.R

/-! ## Drains and completions -/

/-- The drains stand as they are when a completion record is written. -/
theorem sameDrains_push : PushClosed fun d e => e.hopper.drains = d.hopper.drains where
  refl _ := rfl
  trans h1 h2 := h2.trans h1
  recorder _ _ := rfl
  nvCount _ _ _ := rfl
  nvBytes _ _ _ := rfl
  nvWrite _ _ _ := rfl
  queue _ _ _ := rfl
  wr _ _ _ _ _ := rfl
  stat _ _ _ := rfl
  hopWr _ _ _ _ := rfl
  readers _ _ _ := rfl
  ring _ _ := rfl

theorem Dev.drains_completeOne (d : Dev) (tag : Tag) (status : Nat) (result : BitVec 64) :
    (d.completeOne tag status result).hopper.drains = d.hopper.drains := by
  unfold Dev.completeOne
  split
  · rfl
  · refine (sameDrains_push.pushCompletion _ _).trans ?_
    refine (sameDrains_push.when fun _ => sameDrains_push.record _ _ _ _).trans ?_
    simp only [Dev.syncHop, Dev.setFld_hopper]
    rfl

/-! ## An item that stands -/

theorem find_filter_tag {l : List Item} {t tag : Tag} (h : t ≠ tag) :
    ((l.filter fun j => j.tag ≠ t).filter fun i => i.stage ≠ .done).find? (fun i => i.tag = tag) =
      (l.filter fun i => i.stage ≠ .done).find? (fun i => i.tag = tag) := by
  induction l with
  | nil => rfl
  | cons j l ih =>
    by_cases hj : j.tag = t
    · have : j.tag ≠ tag := fun e => h (hj.symm.trans e)
      by_cases hs : j.stage = .done <;> simpa [hj, hs, h] using ih
    · by_cases hs : j.stage = .done
      · simpa [hj, hs] using ih
      · by_cases hk : j.tag = tag
        · simp [hk, hs, Ne.symm h]
        · simpa [hj, hs, hk] using ih

theorem find_map_done_ne {l : List Item} {t tag : Tag} (h : t ≠ tag) :
    ((l.map fun j => if j.tag = t then { j with stage := .done } else j).filter fun i => i.stage ≠ .done).find?
      (fun i => i.tag = tag) = (l.filter fun i => i.stage ≠ .done).find? (fun i => i.tag = tag) := by
  induction l with
  | nil => rfl
  | cons j l ih =>
    by_cases hj : j.tag = t
    · by_cases hs : j.stage = .done <;> simpa [hj, hs, h] using ih
    · by_cases hs : j.stage = .done
      · simpa [hj, hs] using ih
      · by_cases hk : j.tag = tag
        · simp [hk, hs, Ne.symm h]
        · simpa [hj, hs, hk] using ih

/-- The completion of one item leaves the item under another tag. -/
theorem Dev.item_completeOne_ne (d : Dev) {t tag : Tag} (h : t ≠ tag) (status : Nat) (result : BitVec 64) :
    (d.completeOne t status result).item tag = d.item tag := by
  by_cases ht : d.item t = none
  · rw [Dev.completeOne_none d _ _ ht]
  · rw [Dev.item, Dev.inFlight, (Dev.completeOne_items d status result ht).1, Dev.itemsAfter]
    split
    · exact find_map_done_ne h
    · exact find_filter_tag h

/-- Item `it` is in flight under `tag`, and no drain waits to end it. -/
structure Dev.Stands (tag : Tag) (it : Item) (d : Dev) : Prop where
  item : d.item tag = some it
  drains : ∀ x ∈ d.hopper.drains, x.tag ≠ tag

namespace Dev.Stands

variable {tag : Tag} {it : Item} {d : Dev}

theorem of_hopper {e : Dev} (h : Dev.Stands tag it d) (he : e.hopper = d.hopper) : Dev.Stands tag it e where
  item := by rw [Dev.item, Dev.inFlight, he]; exact h.item
  drains := by rw [he]; exact h.drains

theorem completeOne (h : Dev.Stands tag it d) {t : Tag} (ht : t ≠ tag) (status : Nat) (result : BitVec 64) :
    Dev.Stands tag it (d.completeOne t status result) where
  item := (d.item_completeOne_ne ht status result).trans h.item
  drains := by rw [Dev.drains_completeOne]; exact h.drains

theorem settleDrains (h : Dev.Stands tag it d) : Dev.Stands tag it d.settleDrains := by
  have hl := h.drains
  unfold Dev.settleDrains
  revert h hl
  generalize d.hopper.drains = l
  intro h hl
  induction l generalizing d with
  | nil => exact h
  | cons x l ih =>
    refine ih ?_ fun y hy => hl y (List.mem_cons_of_mem _ hy)
    dsimp only
    split
    · exact h
    · refine completeOne ?_ (hl x List.mem_cons_self) _ _
      exact (⟨h.item, fun y hy => h.drains y (List.mem_of_mem_filter hy)⟩)

theorem complete (h : Dev.Stands tag it d) {t : Tag} (ht : t ≠ tag) (status : Nat) (result : BitVec 64) :
    Dev.Stands tag it (d.complete t status result) := (h.completeOne ht status result).settleDrains

/-- The end of the LOOP_SETV items in progress leaves one that is none of them. -/
theorem endSetv (h : Dev.Stands tag it d) (n : Loop) (status : Nat) (hr : ∀ i ∈ d.runningItems 0x18, i.tag ≠ tag) :
    Dev.Stands tag it (d.endSetv n status) := by
  unfold Dev.endSetv
  have hl (i : Item) (hi : i ∈ (d.runningItems 0x18).filter fun i => i.arg 0 = n.val) : i.tag ≠ tag :=
    hr i (List.mem_of_mem_filter hi)
  revert hl
  generalize (d.runningItems 0x18).filter (fun i => i.arg 0 = n.val) = l
  intro hl
  clear hr
  induction l generalizing d with
  | nil => exact h
  | cons i l ih =>
    exact ih (h.complete (hl i List.mem_cons_self) _ _) fun j hj => hl j (List.mem_cons_of_mem _ hj)

theorem ended (h : Dev.Stands tag it d) (status : Nat) (result : BitVec 64) : (d.complete tag status result).ended tag status :=
  d.complete_ended status result (by rw [h.item]; simp)

theorem find_map_stage {l : List Item} {st : ItemStage} (hst : st ≠ .done)
    (h : (l.filter fun i => i.stage ≠ .done).find? (fun i => i.tag = tag) = some it) :
    ((l.map fun i => if i.tag = tag ∧ i.stage ≠ .done then { i with stage := st } else i).filter fun i => i.stage ≠ .done).find?
      (fun i => i.tag = tag) = some { it with stage := st } := by
  induction l with
  | nil => cases h
  | cons j l ih =>
    by_cases hs : j.stage = .done
    · rw [List.filter_cons_of_neg (by simpa using hs)] at h
      simpa [hs] using ih h
    · rw [List.filter_cons_of_pos (by simpa using hs)] at h
      by_cases hj : j.tag = tag
      · rw [List.find?_cons_of_pos (by simpa using hj), Option.some_inj] at h
        simp [h ▸ hj, h ▸ hs, h, hst]
      · rw [List.find?_cons_of_neg (by simpa using hj)] at h
        simpa [hj, hs] using ih h

/-- An item whose stage is set to running runs. -/
theorem runs (h : Dev.Stands tag it d) : (d.setStage tag .running).runs tag := by
  have : (d.setStage tag .running).item tag = some { it with stage := .running } := find_map_stage (by decide) h.item
  rw [Dev.runs, this]
  rfl

end Dev.Stands

theorem Dev.tag_of_item {d : Dev} {tag : Tag} {it : Item} (h : d.item tag = some it) : it.tag = tag := by
  simpa using List.find?_some h

/-- What is carried out is the block's answer to the item (R290). -/
theorem Dev.carry_of_carries {d : Dev} {tag : Tag} {code : Nat} {it : Item} (h : d.carries tag code it) (body : Item → Dev → Dev) :
    d.carry tag (· = code) body = body it d := by
  obtain ⟨hup, hitem, hst, hcode, hbad, hopen⟩ := h
  simp [Dev.carry, hitem, hup, hst, hcode, hbad, hopen]

/-- The item that is carried out stands while others end, where it alone has its tag and no drain waits for it. -/
theorem Dev.stands_of_carries {d : Dev} {tag : Tag} {code : Nat} {it : Item} (h : d.carries tag code it)
    (hd : tag ∉ d.hopper.drains.map (·.tag)) : Dev.Stands tag it d :=
  ⟨h.2.1, fun x hx e => hd (List.mem_map.mpr ⟨x, hx, e⟩)⟩

/-- An item that is accepted is none of those in progress. -/
theorem Dev.running_ne_of_carries {d : Dev} {tag : Tag} {code : Nat} {it : Item} (h : d.carries tag code it)
    (hu : ∀ i ∈ d.inFlight, i.tag = tag → i = it) : ∀ i ∈ d.runningItems 0x18, i.tag ≠ tag := by
  obtain ⟨_, _, hst, _⟩ := h
  intro i hi e
  obtain ⟨hf, hr⟩ := List.mem_filter.mp hi
  rw [hu i hf e, hst] at hr
  simp at hr

end Sys2Proof.Machine
end

section
/-!
Setpoints of a loop, and LOOP_SETV (R47, R48, R291, R292).
-/

namespace Sys2Proof.Machine

open Sys2Proof Sys2Proof.R

/-! ## A target that is taken -/

/-- The fields of the status that a target changes. -/
def aimFields : List Fld := [LP_STATUS.STATE, LP_STATUS.SETTLED, LP_STATUS.STEPHOLD]

section Aim

variable {n : Loop}

theorem keeps_aim {W : Nat → Prop} : AimClosed n (Dev.Keeps n W aimFields) where
  refl _ := .of_regs rfl
  trans := .trans
  loop d g := d.keeps_modLoop n g
  state d v := d.keeps_setFld v (by decide) (by decide)
  settled d _ := d.keeps_setFlag _ (by decide) (by decide)
  stepHold d _ := d.keeps_setFlag _ (by decide) (by decide)

theorem others_aim : AimClosed n fun d e => ∀ k, k ≠ n → e.loop k = d.loop k where
  refl _ _ _ := rfl
  trans h1 h2 k hk := (h2 k hk).trans (h1 k hk)
  loop d g k hk := d.loop_modLoop_ne g hk
  state d _ k _ := by rw [Dev.loop, Dev.loop, Dev.setLstate, Dev.setFld_loops]
  settled d _ k _ := by rw [Dev.loop, Dev.loop, Dev.setFlag_loops]
  stepHold d _ k _ := by rw [Dev.loop, Dev.loop, Dev.setFlag_loops]

theorem hopper_aim : AimClosed n fun d e => e.hopper = d.hopper where
  refl _ := rfl
  trans h1 h2 := h2.trans h1
  loop _ _ := rfl
  state _ _ := Dev.setFld_hopper ..
  settled _ _ := Dev.setFlag_hopper ..
  stepHold _ _ := Dev.setFlag_hopper ..

variable (d : Dev) (v : Nat)

theorem Dev.target_regulate : ((d.regulate n).loop n).target = (d.loop n).target := by
  rw [Dev.regulate_eq]
  unfold Dev.when
  split <;> simp [Dev.loop, Dev.setLstate]

theorem Dev.target_aim : ((d.aim n v).loop n).target = v := by simp [Dev.aim, Dev.loop]

theorem Dev.target_newTarget : ((d.newTarget n v).loop n).target = v := by
  rw [Dev.newTarget_eq]
  split
  · assumption
  split
  · split
    · rw [Dev.target_regulate, Dev.target_aim]
    · rw [Dev.loop, Dev.setLstate, Dev.setFld_loops]
      exact d.target_aim v
  · exact d.target_aim v

theorem Dev.lstate_setLstate (d : Dev) (n : Loop) {v : Nat} (hv : v < 8) : (d.setLstate n v).lstate n = v :=
  (Dev.fld_setFld_same d _ _ _ (by decide)).trans (Nat.mod_eq_of_lt hv)

theorem Dev.lstate_regulate : (d.regulate n).lstate n = lsRegulating := by
  have hrest : Dev.Keeps n (fun _ => False) [LP_STATUS.STEPHOLD] (d.setLstate n lsRegulating) (d.regulate n) := by
    rw [Dev.regulate_eq]
    exact (Dev.keeps_modLoop _ _ _).trans (keeps_raise.when fun _ => Dev.keeps_setFlag _ _ (by decide) (by decide))
  exact (hrest.fld LP_STATUS.STATE (by decide) (by decide)).trans (d.lstate_setLstate n (by decide))

theorem Dev.lstate_aim : (d.aim n v).lstate n = d.lstate n :=
  ((d.keeps_modLoop (W := fun _ => False) (F := [LP_STATUS.SETTLED]) n _).trans
    (Dev.keeps_setFlag _ _ (by decide) (by decide))).fld LP_STATUS.STATE (by decide) (by decide)

/-- A target turns no loop OFF, and none on. -/
theorem Dev.lstate_newTarget_off : (d.newTarget n v).lstate n = lsOff ↔ d.lstate n = lsOff := by
  rw [Dev.newTarget_eq, d.lstate_aim v]
  split
  · rfl
  split
  · have hne : d.lstate n ≠ lsOff := by
      rintro h
      simp [h] at *
    split
    · rw [Dev.lstate_regulate]
      simp [hne]
    · rw [Dev.lstate_setLstate _ _ (by decide)]
      simp [hne]
  · rw [d.lstate_aim v]

/-- A target that differs from the loop's clears SETTLED. -/
theorem Dev.settled_newTarget (h : (d.loop n).target ≠ v) :
    (d.newTarget n v).flag (LP_STATUS n) LP_STATUS.SETTLED = false := by
  have haim : (d.aim n v).flag (LP_STATUS n) LP_STATUS.SETTLED = false := Dev.flag_setFlag_same _ _ _ _ (by decide) (by decide)
  have hreg (e : Dev) : Dev.Keeps n (fun _ => False) [LP_STATUS.STATE, LP_STATUS.STEPHOLD] e (e.regulate n) := by
    rw [Dev.regulate_eq]
    exact ((e.keeps_setFld _ (by decide) (by decide)).trans (Dev.keeps_modLoop _ _ _)).trans
      (keeps_raise.when fun _ => Dev.keeps_setFlag _ _ (by decide) (by decide))
  rw [Dev.newTarget_eq, if_neg h]
  split
  · split
    · exact ((hreg _).flag _ (by decide) (by decide)).trans haim
    · exact ((Dev.keeps_setFld (W := fun _ => False) (F := [LP_STATUS.STATE]) _ _ (by decide) (by decide)).flag LP_STATUS.SETTLED
        (by decide) (by decide)).trans haim
  · exact haim

theorem Dev.newTarget_same (h : (d.loop n).target = v) : d.newTarget n v = d := by rw [Dev.newTarget_eq, if_pos h]

end Aim

/-! ## What ends of items, and reports, leave -/

theorem hopper_raise : RaiseClosed fun d e => e.hopper = d.hopper where
  refl _ := rfl
  trans h1 h2 := h2.trans h1
  recorder _ _ := rfl
  nvCount _ _ _ := rfl
  nvBytes _ _ _ := rfl
  nvWrite _ _ _ := rfl
  queue _ _ _ := rfl
  wr _ _ _ _ _ := rfl
  stat _ _ _ := rfl

/-- The end of items changes no loop. -/
theorem loops_hop : HopClosed fun d e => e.loops = d.loops where
  refl _ := rfl
  trans h1 h2 := h2.trans h1
  recorder _ _ := rfl
  nvCount _ _ _ := rfl
  nvBytes _ _ _ := rfl
  nvWrite _ _ _ := rfl
  queue _ _ _ := rfl
  wr _ _ _ _ _ := rfl
  stat _ _ _ := rfl
  hopWr _ _ _ _ := rfl
  hopper _ _ := rfl
  unqueue _ _ := rfl

theorem Dev.loop_congr {d e : Dev} (h : e.loops = d.loops) (k : Loop) : e.loop k = d.loop k := by rw [Dev.loop, Dev.loop, h]

/-- Of the registers, the end of items changes those of the hopper. -/
theorem keeps_items (n : Loop) : HopClosed (Dev.Keeps n (fun a => hopReg a = true) []) := keeps_hop fun _ h => h

theorem Dev.keepsRegs_complete (d : Dev) (tag : Tag) (status : Nat) (result : BitVec 64) :
    d.keepsRegs (d.complete tag status result) (fun a => 0x400 ≤ a ∧ a < 0x800) := fun a ha he => by
  have hhop : ¬hopReg a = true := by simpa [hopReg] using ha
  by_cases h : a = LP_STATUS 0
  · exact ((keeps_items 1).complete d tag status result).rd a hhop (by rw [h]; decide) he
  · exact ((keeps_items 0).complete d tag status result).rd a hhop h he

/-! ## A setpoint that is written -/

/-- The registers that a setpoint changes beside the status. -/
def setReg (n : Loop) (a : Nat) : Prop := a = LP_VSET n ∨ a = LP_STICKY n ∨ hopReg a = true

/-- LP_VSET is written, before the loop takes its target: the items that wait have ended, and a limit that acts is reported. -/
def Dev.setReady (d : Dev) (n : Loop) (v : Nat) : Dev :=
  ((d.endSetv n 0x01).when (decide (d.clampSet n v ≠ v)) (·.spFault n)).wn (LP_VSET n) (d.clampSet n v)

theorem Dev.setTarget_eq (d : Dev) (n : Loop) (v : Nat) :
    d.setTarget n v = (decide (d.clampSet n v ≠ v), (d.setReady n v).newTarget n (d.clampSet n v)) := rfl

section SetTarget

variable (d : Dev) (n : Loop) (v : Nat)

theorem Dev.clampSet_lt {v : Nat} (hv : v < 2 ^ 16) : d.clampSet n v < 2 ^ 16 := by
  unfold Dev.clampSet
  split
  · exact (d.rd (LP_VMIN n)).isLt
  split
  · exact (d.rd (LP_VMAX n)).isLt
  · exact hv

theorem keeps_spFault {W : Nat → Prop} (hW : W (LP_STICKY n)) : Dev.Keeps n W [] d (d.spFault n) :=
  (d.keeps_wr_loop _ hW (by decide) (by decide) (by decide)).trans (keeps_raise.raise _ (by have := n.isLt; omega))

theorem Dev.keeps_setReady : Dev.Keeps n (setReg n) [] d (d.setReady n v) :=
  (((keeps_hop fun _ h => .inr (.inr h)).endSetv d n _).trans (keeps_raise.when fun _ => keeps_spFault _ n (.inr (.inl rfl)))).trans
    (Dev.keeps_wr_loop _ _ (.inl rfl) (by decide) (by decide) (by decide))

theorem Dev.loops_setReady : (d.setReady n v).loops = d.loops := by
  refine ((loops_hop.endSetv d n 0x01).symm.trans ?_).symm
  exact (loops_hop.when fun _ => (loops_hop.raise _ (by have := n.isLt; omega)).trans (Dev.setFlag_loops ..)).symm

theorem Dev.rn_VSET_setReady {v : Nat} (hv : v < 2 ^ 16) : (d.setReady n v).rn (LP_VSET n) = d.clampSet n v := by
  rw [Dev.rn, Dev.setReady, Dev.rd_wn_same, BitVec.toNat_ofNat, Nat.mod_eq_of_lt (d.clampSet_lt n hv)]

/-- What a setpoint `x`, limited to `y`, makes of a device. -/
structure Dev.Takes (n : Loop) (x y : Nat) (d e : Dev) : Prop where
  vset : e.rn (LP_VSET n) = y
  target : (e.loop n).target = y
  clamped : y ≠ x → Dev.Reported n LP_STICKY.SPFAULT (51 + 4 * n.val) e
  others : ∀ k, k ≠ n → e.loop k = d.loop k

theorem Dev.takes_newTarget {v : Nat} (hv : v < 2 ^ 16) :
    Dev.Takes n v (d.clampSet n v) d ((d.setReady n v).newTarget n (d.clampSet n v)) := by
  have hx : 51 + 4 * n.val < 256 := by have := n.isLt; omega
  have hnew : Dev.Keeps n (fun _ => False) aimFields (d.setReady n v) ((d.setReady n v).newTarget n (d.clampSet n v)) :=
    keeps_aim.newTarget _ _
  refine ⟨?_, Dev.target_newTarget _ _, fun hne => ?_, fun k hk => ?_⟩
  · exact (congrArg BitVec.toNat (hnew.rd (LP_VSET n) not_false (by simp only [LP_VSET, LP_STATUS]; omega)
      (evtReg_of_loopReg (loopReg_loop n (by decide) (by decide))))).trans (d.rn_VSET_setReady n hv)
  · refine Dev.Reported.keeps (by decide) hx ?_ hnew not_false
    rw [Dev.setReady, Dev.when, if_pos (decide_eq_true hne)]
    refine ((d.endSetv n 0x01).reported_spFault n).keeps (by decide) hx
      (Dev.keeps_wr_loop (W := (· = LP_VSET n)) (F := []) _ _ rfl (by decide) (by decide) (by decide)) ?_
    simp only [LP_STICKY, LP_VSET]
    omega
  · exact (others_aim.newTarget (d.setReady n v) _ k hk).trans (Dev.loop_congr (d.loops_setReady n v) k)

theorem Dev.Takes.of_regs {n : Loop} {x y : Nat} {d e f : Dev} (h : Dev.Takes n x y d e) (hr : f.regs = e.regs)
    (ht : (f.loop n).target = (e.loop n).target) (ho : ∀ k, k ≠ n → f.loop k = e.loop k) : Dev.Takes n x y d f where
  vset := by rw [← h.vset, Dev.rn, Dev.rn, Dev.rd, Dev.rd, hr]
  target := ht.trans h.target
  clamped hne := (h.clamped hne).keeps (by decide) (by have := n.isLt; omega)
    (Dev.Keeps.of_regs (W := fun _ => False) (F := []) hr) not_false
  others k hk := (ho k hk).trans (h.others k hk)

/-- The end of an item leaves what a setpoint has made. -/
theorem Dev.Takes.complete {n : Loop} {x y : Nat} {d e : Dev} (h : Dev.Takes n x y d e) (tag : Tag) (status : Nat)
    (result : BitVec 64) : Dev.Takes n x y d (e.complete tag status result) := by
  have hx : 51 + 4 * n.val < 256 := by have := n.isLt; omega
  have hk := (keeps_items n).complete e tag status result
  have hl : (e.complete tag status result).loops = e.loops := loops_hop.complete e tag status result
  have hreg {b : Nat} (h1 : 0x2000 ≤ b) (h2 : b < 0x2080) : ¬hopReg (b + 0x80 * n.val) = true := by
    rw [hopReg_of_loopReg (loopReg_loop n h1 h2)]
    decide
  refine ⟨?_, ?_, fun hne => (h.clamped hne).keeps (by decide) hx hk (hreg (by decide) (by decide)), fun k hkn => ?_⟩
  · rw [← h.vset]
    exact congrArg BitVec.toNat (hk.rd _ (hreg (by decide) (by decide)) (by simp only [LP_VSET, LP_STATUS]; omega)
      (evtReg_of_loopReg (loopReg_loop n (by decide) (by decide))))
  · rw [Dev.loop_congr hl, h.target]
  · rw [Dev.loop_congr hl, h.others k hkn]

end SetTarget

/-! ## LP_VSET -/

section Vset

variable {s : State} {acc : Acc} {n : Loop} {v : BitVec 16}

theorem lpVsetWrite_owner (hm : s.dev.mayWrite acc (LP_VSET n) = true) (ho : s.dev.fld (LP_CFG n) LP_CFG.SPSRC = spsrcOf acc) :
    Completes (.lpVsetWrite acc n v) s fun e => Dev.Takes n v.toNat (s.dev.clampSet n v.toNat) s.dev e ∧
      s.dev.keepsRegs e (fun a => a = LP_VSET n ∨ a = LP_STICKY n ∨ a = LP_STATUS n ∨ (0x400 ≤ a ∧ a < 0x800)) := by
  refine completes_gate (·.writeVset n (spsrcOf acc) v.toNat) rfl hm ?_
  have hw : (s.dev.dropHeld acc).writeVset n (spsrcOf acc) v.toNat = ((s.dev.dropHeld acc).setTarget n v.toNat).2 := if_pos ho
  have ht := (s.dev.dropHeld acc).takes_newTarget n v.isLt
  refine ⟨?_, fun a ha he => ?_⟩
  · rw [hw, Dev.setTarget_eq]
    exact ⟨ht.vset, ht.target, ht.clamped, ht.others⟩
  · simp only [not_or] at ha
    obtain ⟨hv, hst, hs, hh⟩ := ha
    have hset : ¬setReg n a := by
      simpa [setReg, hv, hst, hopReg] using hh
    rw [hw, Dev.setTarget_eq]
    have hready := (s.dev.dropHeld acc).keeps_setReady n v.toNat
    have hnew : Dev.Keeps n (setReg n) aimFields _ (((s.dev.dropHeld acc).setReady n v.toNat).newTarget n _) :=
      keeps_aim.newTarget _ ((s.dev.dropHeld acc).clampSet n v.toNat)
    exact (hnew.rd a hset hs he).trans (hready.rd a hset hs he)

theorem lpVsetWrite_other (hm : s.dev.mayWrite acc (LP_VSET n) = true) (ho : s.dev.fld (LP_CFG n) LP_CFG.SPSRC ≠ spsrcOf acc) :
    Completes (.lpVsetWrite acc n v) s fun e => Dev.Reported n LP_STICKY.SPFAULT (51 + 4 * n.val) e ∧
      s.dev.keepsRegs e (fun a => a = LP_STICKY n) ∧ e.hush s.dev = s.dev.dropHeld acc := by
  have hx : 51 + 4 * n.val < 256 := by have := n.isLt; omega
  refine completes_gate (·.writeVset n (spsrcOf acc) v.toNat) rfl hm ?_
  have hw : (s.dev.dropHeld acc).writeVset n (spsrcOf acc) v.toNat = (s.dev.dropHeld acc).spFault n := if_neg ho
  rw [hw]
  refine ⟨Dev.reported_spFault _ n, fun a ha he => Dev.rd_spFault _ n ha he, ?_⟩
  exact Dev.hush_trans (Dev.hush_setFlag (s.dev.dropHeld acc) _ _ _) (Dev.quiet_raise _ hx).1

end Vset

/-! ## LOOP_SETV -/

section Setv

variable {s : State} {n : Loop} {tag : Tag} {it : Item}

theorem Item.arg_lt (it : Item) (i : Fin 6) : it.arg i < 2 ^ 16 := (it.args[i]).isLt

/-- The source that LP_CFG.SPSRC names for an item: the owner host, or furrows. -/
def Item.spsrc (it : Item) : Nat := if it.source = 3 then 1 else 0

theorem completes_setv {P : Dev → Prop} (hc : s.dev.carries tag 0x18 it) (hp : P (s.dev.loopSetv it)) :
    Completes (.loopSetv tag) s P :=
  completes_step1 (fun d => d.carry tag (· = 0x18) fun it d => d.loopSetv it) rfl (by
    rw [Dev.carry_of_carries hc]
    exact hp)

theorem Item.loop_eq (ha : it.arg 0 = n.val) : (Fin.ofNat 12 (it.arg 0) : Loop) = n := by
  rw [ha]
  exact Fin.ext (Nat.mod_eq_of_lt n.isLt)

/-- What the item does where its submitter owns the setpoint and the loop is not latched. -/
theorem Dev.loopSetv_owner (d : Dev) (ha : it.arg 0 = n.val) (ho : d.fld (LP_CFG n) LP_CFG.SPSRC = it.spsrc)
    (hl : d.lstate n ≠ lsOvLatched) : d.loopSetv it =
      let c := d.clampSet n (it.arg 1)
      let e := (d.setReady n (it.arg 1)).newTarget n c
      if e.lstate n = lsOff then e.complete it.tag 0x01 (result2 (e.rn (LP_VSET n)) (e.rn (LP_VOUT n)))
      else if e.flag (LP_STATUS n) LP_STATUS.SETTLED then
        e.complete it.tag (if c ≠ it.arg 1 then 0x01 else 0x00) (result2 (e.rn (LP_VSET n)) (e.rn (LP_VOUT n)))
      else (e.modLoop n fun x => { x with setvClamped := decide (c ≠ it.arg 1) }).setStage it.tag .running := by
  unfold Dev.loopSetv
  simp only [Item.loop_eq ha, Dev.setTarget_eq]
  rw [if_neg]
  · simp
  · simp only [Bool.or_eq_true, decide_eq_true_eq, not_or, ne_eq, not_not]
    exact ⟨ho, hl⟩

theorem loopSetv_refused (hc : s.dev.carries tag 0x18 it) (ha : it.arg 0 = n.val)
    (h : s.dev.fld (LP_CFG n) LP_CFG.SPSRC ≠ it.spsrc ∨ s.dev.lstate n = lsOvLatched) :
    Completes (.loopSetv tag) s fun e => e.ended tag 0x23 ∧ e.rd (LP_VSET n) = s.dev.rd (LP_VSET n) ∧ e.loops = s.dev.loops := by
  refine completes_setv hc ?_
  have hno : s.dev.loopSetv it = s.dev.complete tag 0x23 0 := by
    unfold Dev.loopSetv
    simp only [Item.loop_eq ha, Dev.tag_of_item hc.2.1]
    rw [if_pos]
    simpa [Item.spsrc] using h
  rw [hno]
  refine ⟨s.dev.complete_ended _ _ (by rw [hc.2.1]; simp), ?_, loops_hop.complete s.dev _ _ _⟩
  refine s.dev.keepsRegs_complete _ _ _ _ ?_ (evtReg_of_loopReg (loopReg_loop n (by decide) (by decide)))
  simp only [LP_VSET]
  omega

variable (hc : s.dev.carries tag 0x18 it) (hu : ∀ i ∈ s.dev.inFlight, i.tag = tag → i = it)
  (hd : tag ∉ s.dev.hopper.drains.map (·.tag))
include hc hu hd

theorem Dev.stands_newTarget (v y : Nat) : Dev.Stands tag it ((s.dev.setReady n v).newTarget n y) := by
  have hend := (Dev.stands_of_carries hc hd).endSetv n 0x01 (Dev.running_ne_of_carries hc hu)
  have hready : (s.dev.setReady n v).hopper = (s.dev.endSetv n 0x01).hopper :=
    hopper_raise.when fun _ => (hopper_raise.raise _ (by have := n.isLt; omega)).trans (Dev.setFlag_hopper ..)
  exact hend.of_hopper ((hopper_aim.newTarget _ _).trans hready)

theorem loopSetv_off (ha : it.arg 0 = n.val) (ho : s.dev.fld (LP_CFG n) LP_CFG.SPSRC = it.spsrc) (hl : s.dev.lstate n = lsOff) :
    Completes (.loopSetv tag) s fun e => e.ended tag 0x01 ∧ Dev.Takes n (it.arg 1) (s.dev.clampSet n (it.arg 1)) s.dev e := by
  refine completes_setv hc ?_
  have hoff : ((s.dev.setReady n (it.arg 1)).newTarget n (s.dev.clampSet n (it.arg 1))).lstate n = lsOff :=
    (Dev.lstate_newTarget_off _ _).mpr (((s.dev.keeps_setReady n _).fld _ (by decide) (by simp)).trans hl)
  rw [Dev.loopSetv_owner _ ha ho (by rw [hl]; decide)]
  dsimp only
  rw [if_pos hoff, Dev.tag_of_item hc.2.1]
  exact ⟨(Dev.stands_newTarget hc hu hd _ _).ended _ _, (s.dev.takes_newTarget n (it.arg_lt 1)).complete _ _ _⟩

theorem loopSetv_settled (ha : it.arg 0 = n.val) (ho : s.dev.fld (LP_CFG n) LP_CFG.SPSRC = it.spsrc) (hrun : s.dev.lstate n ≠ lsOff)
    (hl : s.dev.lstate n ≠ lsOvLatched) (ht : (s.dev.loop n).target = s.dev.clampSet n (it.arg 1))
    (hset : s.dev.flag (LP_STATUS n) LP_STATUS.SETTLED = true) :
    Completes (.loopSetv tag) s fun e => e.ended tag (if s.dev.clampSet n (it.arg 1) ≠ it.arg 1 then 0x01 else 0x00) ∧
      Dev.Takes n (it.arg 1) (s.dev.clampSet n (it.arg 1)) s.dev e := by
  refine completes_setv hc ?_
  have hsame : (s.dev.setReady n (it.arg 1)).newTarget n (s.dev.clampSet n (it.arg 1)) = s.dev.setReady n (it.arg 1) :=
    Dev.newTarget_same _ _ (by rw [Dev.loop_congr (s.dev.loops_setReady n _), ht])
  have hk := s.dev.keeps_setReady n (it.arg 1)
  have hrun' : (s.dev.setReady n (it.arg 1)).lstate n ≠ lsOff := by
    rwa [Dev.lstate, hk.fld _ (by decide) (by simp)]
  have hset' : (s.dev.setReady n (it.arg 1)).flag (LP_STATUS n) LP_STATUS.SETTLED = true :=
    (hk.flag _ (by decide) (by simp)).trans hset
  have hstands := Dev.stands_newTarget (n := n) hc hu hd (it.arg 1) (s.dev.clampSet n (it.arg 1))
  have htakes := s.dev.takes_newTarget n (it.arg_lt 1)
  rw [Dev.loopSetv_owner _ ha ho hl]
  dsimp only
  rw [hsame] at hstands htakes ⊢
  rw [if_neg hrun', if_pos hset', Dev.tag_of_item hc.2.1]
  exact ⟨hstands.ended _ _, htakes.complete _ _ _⟩

theorem loopSetv_runs (ha : it.arg 0 = n.val) (ho : s.dev.fld (LP_CFG n) LP_CFG.SPSRC = it.spsrc) (hrun : s.dev.lstate n ≠ lsOff)
    (hl : s.dev.lstate n ≠ lsOvLatched)
    (h : (s.dev.loop n).target ≠ s.dev.clampSet n (it.arg 1) ∨ s.dev.flag (LP_STATUS n) LP_STATUS.SETTLED = false) :
    Completes (.loopSetv tag) s fun e => e.runs tag ∧ Dev.Takes n (it.arg 1) (s.dev.clampSet n (it.arg 1)) s.dev e ∧
      (e.loop n).setvClamped = decide (s.dev.clampSet n (it.arg 1) ≠ it.arg 1) := by
  refine completes_setv hc ?_
  have hk := s.dev.keeps_setReady n (it.arg 1)
  have hrun' : ¬((s.dev.setReady n (it.arg 1)).newTarget n (s.dev.clampSet n (it.arg 1))).lstate n = lsOff := by
    rw [Dev.lstate_newTarget_off, Dev.lstate, hk.fld _ (by decide) (by simp)]
    exact hrun
  have hset : ((s.dev.setReady n (it.arg 1)).newTarget n (s.dev.clampSet n (it.arg 1))).flag (LP_STATUS n) LP_STATUS.SETTLED =
      false := by
    by_cases ht : (s.dev.loop n).target = s.dev.clampSet n (it.arg 1)
    · rw [Dev.newTarget_same _ _ (by rw [Dev.loop_congr (s.dev.loops_setReady n _), ht]), hk.flag _ (by decide) (by simp)]
      exact h.resolve_left (fun hne => hne ht)
    · exact Dev.settled_newTarget _ _ (by rwa [Dev.loop_congr (s.dev.loops_setReady n _)])
  have htakes := s.dev.takes_newTarget n (it.arg_lt 1)
  rw [Dev.loopSetv_owner _ ha ho hl]
  dsimp only
  rw [if_neg hrun', if_neg (by simp [hset]), Dev.tag_of_item hc.2.1]
  have hstands := Dev.stands_newTarget (n := n) hc hu hd (it.arg 1) (s.dev.clampSet n (it.arg 1))
  generalize (s.dev.setReady n (it.arg 1)).newTarget n (s.dev.clampSet n (it.arg 1)) = e at hstands htakes
  have hloop (f : LoopSt → LoopSt) (k : Loop) : ((e.modLoop n f).setStage tag .running).loop k = (e.modLoop n f).loop k := rfl
  refine ⟨Dev.Stands.runs (hstands.of_hopper rfl), htakes.of_regs rfl ?_ fun k hkn => ?_, ?_⟩
  · rw [hloop, Dev.loop_modLoop_same]
  · rw [hloop, Dev.loop_modLoop_ne _ _ hkn]
  · rw [hloop, Dev.loop_modLoop_same]

end Setv

theorem loopSetvTimeout_ends {s : State} {tag : Tag} {it : Item} (hup : s.dev.isUp = true) (hi : s.dev.item tag = some it)
    (hr : it.stage = .running) (hcode : it.code = 0x18) : Completes (.loopSetvTimeout tag) s fun e =>
      e.ended tag 0x30 ∧ e.loops = s.dev.loops ∧ s.dev.keepsRegs e (fun a => 0x400 ≤ a ∧ a < 0x800) := by
  refine completes_step1 (fun d => s.dev.complete tag 0x30 (result2 (d.rn (LP_VSET (it.arg 0))) (d.rn (LP_VOUT (it.arg 0))))) ?_ ?_
  · have : exec (.loopSetvTimeout tag) s = execLoopSetvTimeout tag s := rfl
    rw [this, execLoopSetvTimeout, State.step1, State.step1, hi]
    simp [Dev.when, hup, hr, hcode]
  · exact ⟨s.dev.complete_ended _ _ (by rw [hi]; simp), loops_hop.complete s.dev _ _ _, s.dev.keepsRegs_complete _ _ _⟩

/-- Settles O46: a setpoint that is taken ends the items that waited, reports a limit that acts and becomes the target; the item
that brought it stands through all of this, and is ended or runs on. -/
theorem loopSetpoints : Obligations.LoopSetpoints := by
  unfold Obligations.LoopSetpoints
  intro s acc n v tag it d st lim spFaulted takes owner src x
  have htakes {e : Dev} {y : Nat} (h : Dev.Takes n y (d.clampSet n y) d e) : takes e y :=
    ⟨h.vset, h.target, fun hne => ⟨(h.clamped hne).sticky, (h.clamped hne).pending⟩, h.others⟩
  refine ⟨fun hm ho => (lpVsetWrite_owner hm ho).mono fun e ⟨ht, hk⟩ => ⟨htakes ht, hk⟩,
    fun hm ho => (lpVsetWrite_other hm ho).mono fun e ⟨hr, hk⟩ => ⟨⟨hr.sticky, hr.pending⟩, hk⟩,
    fun hc ha hu hd => ⟨fun h => loopSetv_refused hc ha h, fun ho hl => ?_, fun ho hrun hl ht hset => ?_,
      fun ho hrun hl h => ?_⟩, loopSetvTimeout_ends⟩
  · exact (loopSetv_off hc hu hd ha ho hl).mono fun e ⟨he, ht⟩ => ⟨he, htakes ht⟩
  · exact (loopSetv_settled hc hu hd ha ho hrun hl ht hset).mono fun e ⟨he, ht⟩ => ⟨he, htakes ht⟩
  · exact (loopSetv_runs hc hu hd ha ho hrun hl h).mono fun e ⟨he, ht, hcl⟩ => ⟨he, htakes ht, hcl⟩

end Sys2Proof.Machine
end

section
/-!
The compensator, sharing and the trims of a running loop, and the shedding of its phases (R32, R40, R56 to R58, R64, R65).
-/

namespace Sys2Proof.Machine

open Sys2Proof Sys2Proof.R

/-! ## Rounding and limits -/

theorem clampInt_mem {lo hi : Int} (h : lo ≤ hi) (v : Int) : lo ≤ clampInt lo hi v ∧ clampInt lo hi v ≤ hi := by
  unfold clampInt
  split
  · omega
  split <;> omega

theorem toNat_clampInt_lt (v : Int) : (clampInt 0 65535 v).toNat < 65536 := by
  have := clampInt_mem (lo := 0) (hi := 65535) (by decide) v
  omega

/-- The quotient rounded to nearest lies within half of the divisor. -/
theorem divRound_near (a : Int) {b : Nat} (hb : 0 < b) :
    2 * (b : Int) * divRound a b ≤ 2 * a + b ∧ 2 * a + b < 2 * (b : Int) * divRound a b + 2 * b := by
  rw [divRound, if_neg (by omega)]
  have hpos : (0 : Int) < 2 * b := by omega
  exact ⟨Int.mul_ediv_self_le (by omega), Int.lt_mul_ediv_self_add hpos⟩

/-- It lies above each whole number that the exact quotient reaches, and below each that it does not exceed. -/
theorem le_divRound {a k : Int} {b : Nat} (hb : 0 < b) (h : k * b ≤ a) : k ≤ divRound a b := by
  obtain ⟨_, hlt⟩ := divRound_near a hb
  by_contra hk
  have : (divRound a b + 1) * b ≤ k * b := Int.mul_le_mul_of_nonneg_right (by omega) (by omega)
  nlinarith

theorem divRound_le {a k : Int} {b : Nat} (hb : 0 < b) (h : a ≤ k * b) : divRound a b ≤ k := by
  obtain ⟨hle, _⟩ := divRound_near a hb
  by_contra hk
  have : (k + 1) * b ≤ divRound a b * b := Int.mul_le_mul_of_nonneg_right (by omega) (by omega)
  nlinarith

/-- A number that 16 bits hold is read as it was written. -/
theorem Dev.rs_wi (d : Dev) (a : Nat) {v : Int} (h : -32768 ≤ v ∧ v ≤ 32767) : (d.wi a v).rs a = v := by
  rw [Dev.rs, Dev.wi, Dev.rd_wr_same, BitVec.toInt_ofInt]
  exact Int.bmod_eq_of_le (by omega) (by omega)

theorem Dev.rn_wn (d : Dev) (a : Nat) {v : Nat} (h : v < 65536) : (d.wn a v).rn a = v := by
  rw [Dev.rn, Dev.rd_wn_same, BitVec.toNat_ofNat, Nat.mod_eq_of_lt h]

/-! ## The compensator (R40, R45) -/

section Compensator

variable {s : State} {n : Loop} {lat : BitVec 16}

theorem compensatorRun_computes {e0 : Int} {b : Bank} (hb : (s.dev.loop n).busy = some (e0, b)) :
    Completes (.compensatorRun n lat) s fun e =>
      ((e.loop n).v, (e.loop n).w, (e.loop n).d) = compute b (s.dev.rn (LP_DMAX n)) (s.dev.loop n).v (s.dev.loop n).w
        (s.dev.loop n).d e0 (s.dev.loop n).e1 (s.dev.loop n).e2 ∧
      (e.loop n).e1 = e0 ∧ (e.loop n).e2 = (s.dev.loop n).e1 ∧
      (e.loop n).busy = (s.dev.loop n).waiting.map (fun e' => (e', (s.dev.loop n).bank)) ∧ (e.loop n).waiting = none ∧
      e.rn (LP_DUTY n) = (clampInt 0 65535 (divRound (e.loop n).d 65536)).toNat ∧ e.rd (LP_CMPLAT n) = lat ∧
      (∀ k, k ≠ n → e.loop k = s.dev.loop k) ∧ s.dev.keepsRegs e (fun a => a = LP_DUTY n ∨ a = LP_CMPLAT n) := by
  have hne : LP_DUTY n ≠ LP_CMPLAT n := by simp only [LP_DUTY, LP_CMPLAT]; omega
  refine completes_step1 (·.compRun n lat) rfl ?_
  simp only [Dev.compRun, hb]
  have hloop (x : Dev) (v : Nat) (k : Loop) : ((x.wn (LP_DUTY n) v).wr (LP_CMPLAT n) lat).loop k = x.loop k := rfl
  simp only [hloop, Dev.loop_modLoop_same, true_and]
  refine ⟨?_, Dev.rd_wr_same _ _ _, fun k hk => Dev.loop_modLoop_ne _ _ hk, fun a ha _ => ?_⟩
  · rw [Dev.rn, Dev.rd_wr_ne _ _ hne]
    exact Dev.rn_wn _ _ (toNat_clampInt_lt _)
  · obtain ⟨hd, hl⟩ := not_or.mp ha
    rw [Dev.rd_wr_ne _ _ hl, Dev.rd_wn_ne _ _ hd, Dev.rd_modLoop]

theorem compensatorRun_idle (hb : (s.dev.loop n).busy = none) : exec (.compensatorRun n lat) s = .next s := by
  have h : exec (.compensatorRun n lat) s = s.step1 (·.compRun n lat) := rfl
  rw [h, State.step1]
  simp [Dev.compRun, hb]

end Compensator

/-! ## Diode emulation (R32) -/

section Diode

variable {s : State} {n : Loop} {m : Phase} (hm : s.dev.phaseLoop m = some n)
include hm

theorem diodeEmulationMid_mid (hb : s.dev.blocksRun = true)
    (hp : s.dev.pstate m = psActive ∨ s.dev.pstate m = psLeaving ∨ s.dev.pstate m = psJoining) (hd : s.dev.diodeNow n = true) :
    exec (.diodeEmulationMid m) s = .next { s with dev := s.dev.modPhase m fun y => { y with drive := .mid } } := by
  have h : exec (.diodeEmulationMid m) s = s.step1 (·.diodeMid m) := rfl
  rw [h, State.step1, Dev.diodeMid, hm]
  dsimp only
  rw [if_pos (by simpa [hb, hd, or_assoc] using hp)]

theorem diodeEmulationMid_none (hd : s.dev.diodeNow n = false) : exec (.diodeEmulationMid m) s = .next s := by
  have h : exec (.diodeEmulationMid m) s = s.step1 (·.diodeMid m) := rfl
  rw [h, State.step1, Dev.diodeMid, hm]
  simp [hd]

end Diode

/-! ## Shedding (R57 to R59) -/

theorem Dev.regs_spaceOver (d : Dev) (n : Loop) (all ms : List Phase) : (d.spaceOver n all ms).regs = d.regs := by
  unfold Dev.spaceOver
  dsimp only
  generalize 16 * d.fld (LP_PERIOD n) LP_PERIOD.PERIOD = t
  generalize (d.rankIn all) = rank
  induction ms generalizing d with
  | nil => rfl
  | cons m ms ih => exact ih (d.modPhase m _)

/-- Spacing writes ACTPH alone. -/
theorem Dev.rd_respace (d : Dev) (n : Loop) {a : Nat} (h : a ≠ LP_STATUS n) : (d.respace n).rd a = d.rd a := by
  have hregs : (d.respace n).regs = (d.setFld (LP_STATUS n) LP_STATUS.ACTPH (d.activePhases n).length).regs :=
    Dev.regs_spaceOver _ _ _ _
  rw [Dev.rd, hregs]
  exact Dev.rd_setFld_ne d _ _ (by decide) h

theorem Dev.pstate_setPstate (d : Dev) (m : Phase) {v : Nat} (hv : v < 8) : (d.setPstate m v).pstate m = v :=
  (Dev.fld_setFld_same d _ _ _ (by decide)).trans (Nat.mod_eq_of_lt hv)

section Shed

variable {s : State} {n : Loop} {m : Phase} (hb : s.dev.blocksRun = true) (he : s.dev.flag (LP_CTL n) LP_CTL.SHEDEN = true)
  (hl : s.dev.lstate n = lsRegulating)

include hb he hl in
theorem phaseShed_sheds (hs : (s.dev.loop n).shedSusp = false) (hh : s.dev.flag (LP_STATUS n) LP_STATUS.STEPHOLD = false)
    (hmin : s.dev.minPh n < (s.dev.activePhases n).length)
    (hi : s.dev.rs (LP_IOUT n) < (((s.dev.activePhases n).length : Int) - 1) * s.dev.rs (LP_IPHDN n))
    (hm : s.dev.highestOrder (s.dev.activePhases n) = some m) : Completes (.phaseShed n) s fun e =>
      e.pstate m = psLeaving ∧ e.rd (LP_SHED_CNT n) = satInc (s.dev.rd (LP_SHED_CNT n)) ∧
        s.dev.keepsRegs e (fun a => a = PH_STATE m ∨ a = LP_SHED_CNT n ∨ a = LP_STATUS n) := by
  have hn := n.isLt
  have hsc : LP_SHED_CNT n ≠ PH_STATE m := by simp only [LP_SHED_CNT, PH_STATE]; omega
  have hss : LP_SHED_CNT n ≠ LP_STATUS n := by simp only [LP_SHED_CNT, LP_STATUS]; omega
  refine completes_step1 (·.phaseShed n) rfl ?_
  have hshed : s.dev.phaseShed n = ((s.dev.setPstate m psLeaving).bump (LP_SHED_CNT n)).respace n := by
    unfold Dev.phaseShed
    simp only [hb, he, hl, hs, hh, hmin, hi, hm, decide_true, Bool.and_true, Bool.not_false, if_true]
  rw [hshed]
  refine ⟨?_, ?_, fun a ha _ => ?_⟩
  · refine (Dev.fld_of_rd _ (by decide) ?_).trans (s.dev.pstate_setPstate m (by decide))
    rw [Dev.rd_respace _ _ (LP_STATUS_ne_phase n m).1.symm, Dev.rd_bump_ne _ hsc.symm]
  · rw [Dev.rd_respace _ _ hss, Dev.rd_bump_same, Dev.setPstate, Dev.rd_setFld_ne _ _ _ (by decide) hsc]
  · simp only [not_or] at ha
    obtain ⟨hp, hc, hst⟩ := ha
    rw [Dev.rd_respace _ _ hst, Dev.rd_bump_ne _ hc, Dev.setPstate, Dev.rd_setFld_ne _ _ _ (by decide) hp]

/-- The number of phases that shedding leaves is not passed. -/
theorem phaseShed_floor (hmin : (s.dev.activePhases n).length ≤ s.dev.minPh n) : exec (.phaseShed n) s = .next s := by
  have h : exec (.phaseShed n) s = s.step1 (·.phaseShed n) := rfl
  have hno : s.dev.phaseShed n = s.dev := by
    unfold Dev.phaseShed
    simp only [decide_eq_false (not_lt.mpr hmin), Bool.and_false, Bool.false_and, Bool.false_eq_true, if_false]
  rw [h, State.step1, hno]

include hb he hl in
theorem phaseRestore_joins (hi : ((s.dev.activePhases n).length : Int) * s.dev.rs (LP_IPHUP n) < s.dev.rs (LP_IOUT n))
    (hm : s.dev.lowestOrder ((s.dev.phasesOf n).filter fun j => s.dev.pstate j = psFallow) = some m) :
    Completes (.phaseRestore n) s fun e => e.pstate m = psJoining ∧ e.rd (PH_TRIM m) = 0 ∧
      s.dev.onlyRegs e (fun a => a = PH_STATE m ∨ a = PH_TRIM m) := by
  refine completes_step1 (·.phaseRestore n) rfl ?_
  have hrestore : s.dev.phaseRestore n = (s.dev.setPstate m psJoining).wn (PH_TRIM m) 0 := by
    unfold Dev.phaseRestore
    simp only [hb, he, hl, hi, hm, decide_true, Bool.and_true, if_true]
  rw [hrestore]
  refine ⟨?_, Dev.rd_wn_same _ _ _, (s.dev.onlyRegs_setFld _ _ _ (by decide)).trans (Dev.onlyRegs_wr _ _ _)⟩
  exact (Dev.fld_of_rd _ (by decide) (Dev.rd_wn_ne _ _ (by simp only [PH_STATE, PH_TRIM]; omega))).trans
    (s.dev.pstate_setPstate m (by decide))

end Shed

theorem shedHoldExpiry_ends {s : State} (n : Loop) : Completes (.shedHoldExpiry n) s fun e =>
    e.flag (LP_STATUS n) LP_STATUS.STEPHOLD = false ∧ s.dev.onlyRegs e (fun a => a = LP_STATUS n) :=
  completes_step1 (·.shedHoldExpiry n) rfl
    ⟨Dev.flag_setFlag_same _ _ _ _ (by decide) (by decide), s.dev.onlyRegs_setFlag _ _ _ (by decide)⟩

/-! ## Sharing (R56) -/

/-- A phase takes part in sharing. -/
def Dev.shares (d : Dev) (j : Phase) : Bool := d.flag (PH_CFG j) PH_CFG.SHAREN && d.flag (PH_IMONENT j) PH_IMONENT.VALID

theorem shareTrimUpdate_steps {s : State} {n : Loop} {m : Phase} (hm : s.dev.phaseLoop m = some n) (hb : s.dev.blocksRun = true)
    (hp : s.dev.pstate m = psActive) (hs : s.dev.shares m = true) : Completes (.shareTrimUpdate m) s fun e =>
      let ps := (s.dev.activePhases n).filter s.dev.shares
      let excess := ps.length * s.dev.rs (PH_IOUT m) - (ps.map fun j => s.dev.rs (PH_IOUT j)).sum
      let k : Int := s.dev.fld (LP_SHARE n) LP_SHARE.SHAREK
      let top : Int := 16 * s.dev.fld (LP_SHARE n) LP_SHARE.TRIMMAX
      let band : Int := ps.length * s.dev.rs (LP_SHAREDB n)
      let t := s.dev.rs (PH_TRIM m)
      e.rd (PH_TRIM m) = BitVec.ofInt 16
        (clampInt (-top) top (if band < excess then t - k else if excess < -band then t + k else t)) ∧
        s.dev.onlyRegs e (fun a => a = PH_TRIM m) := by
  refine completes_step1 (·.shareTrim m) rfl ?_
  intro ps excess k top band t
  have hsum : ps.foldl (fun a p => a + s.dev.rs (PH_IOUT p)) 0 = (ps.map fun j => s.dev.rs (PH_IOUT j)).sum := by
    rw [List.sum_eq_foldl, List.foldl_map]
  have htrim : s.dev.shareTrim m = s.dev.wi (PH_TRIM m)
      (clampInt (-top) top (if band < excess then t - k else if excess < -band then t + k else t)) := by
    unfold Dev.shareTrim
    rw [hm]
    dsimp only
    rw [if_neg]
    · rw [show excess = ps.length * s.dev.rs (PH_IOUT m) - ps.foldl (fun a p => a + s.dev.rs (PH_IOUT p)) 0 by rw [hsum]]
      rfl
    · simpa [hb, hp, Dev.shares] using hs
  rw [htrim]
  exact ⟨Dev.rd_wr_same _ _ _, s.dev.onlyRegs_wr _ _⟩

/-! ## The trim of the error converter (R64) -/

/-- What one interval makes of the trim: the measured offset `diff / scale`, rounded, approached by at most 6, within 512. -/
def trimStep (diff : Int) (scale : Nat) (t : Int) : Int := clampInt (-512) 512 (t + clampInt (-6) 6 (divRound diff scale - t))

section TrimStep

variable {diff t : Int} {scale : Nat}

theorem trimStep_mem (diff : Int) (scale : Nat) (t : Int) : -512 ≤ trimStep diff scale t ∧ trimStep diff scale t ≤ 512 :=
  clampInt_mem (by decide) _

theorem trimStep_near (diff : Int) (scale : Nat) (ht : t.natAbs ≤ 512) : (trimStep diff scale t - t).natAbs ≤ 6 := by
  obtain ⟨h1, h2⟩ := clampInt_mem (lo := -6) (hi := 6) (by decide) (divRound diff scale - t)
  unfold trimStep
  generalize clampInt (-6) 6 (divRound diff scale - t) = c at h1 h2
  unfold clampInt
  split
  · omega
  split <;> omega

/-- An offset that is at least one step above moves the trim up, and one below moves it down. -/
theorem trimStep_up (hs : 0 < scale) (h : scale ≤ diff - t * scale) : t < trimStep diff scale t ∨ trimStep diff scale t = 512 := by
  have hr : t + 1 ≤ divRound diff scale := le_divRound hs (by rw [Int.add_mul]; omega)
  unfold trimStep clampInt
  split_ifs <;> omega

theorem trimStep_down (hs : 0 < scale) (h : scale ≤ t * scale - diff) : trimStep diff scale t < t ∨ trimStep diff scale t = -512 := by
  have hr : divRound diff scale ≤ t - 1 := divRound_le hs (by rw [Int.sub_mul]; omega)
  unfold trimStep clampInt
  split_ifs <;> omega

/-- An offset within 6 of the trim is reached to within half a step, unless the trim meets its limit. -/
theorem trimStep_reaches (hs : 0 < scale) (h : (diff - t * scale).natAbs ≤ 6 * scale)
    (ht : (trimStep diff scale t).natAbs < 512) :
    2 * (diff - trimStep diff scale t * scale).natAbs ≤ scale := by
  have hlo : t - 6 ≤ divRound diff scale := le_divRound hs (by rw [Int.sub_mul]; omega)
  have hhi : divRound diff scale ≤ t + 6 := divRound_le hs (by rw [Int.add_mul]; omega)
  have heq : trimStep diff scale t = divRound diff scale := by
    revert ht
    unfold trimStep clampInt
    split_ifs <;> omega
  obtain ⟨h1, h2⟩ := divRound_near diff hs
  rw [heq]
  have hcomm : 2 * (scale : Int) * divRound diff scale = 2 * (divRound diff scale * scale) := by ring
  rw [hcomm] at h1 h2
  omega

end TrimStep

section EcTrim

variable {s : State} {n : Loop}

/-- A new interval begins. -/
def Dev.freshTrim (d : Dev) (n : Loop) : Dev :=
  d.modLoop n fun x => { x with errSum := 0, errCnt := 0, senseSum := 0, senseCnt := 0, spoiled := false }

/-- The measured offset of an interval, and its scale. -/
def Dev.trimDiff (d : Dev) (n : Loop) : Int :=
  128 * ((d.loop n).errCnt : Int) * ((d.loop n).senseSum - (d.loop n).senseCnt * d.rn (LP_VREF n)) +
    64 * (d.loop n).errSum * (d.loop n).senseCnt * (5 * d.atten n)
def Dev.trimScale (d : Dev) (n : Loop) : Nat := (((d.loop n).senseCnt : Int) * (d.loop n).errCnt * (5 * d.atten n)).toNat

theorem Dev.trimScale_pos (d : Dev) (n : Loop) (he : 0 < (d.loop n).errCnt) (hs : 0 < (d.loop n).senseCnt) : 0 < d.trimScale n := by
  have hatt : 0 < d.atten n := Nat.pow_pos (by decide)
  have : 0 < (d.loop n).senseCnt * (d.loop n).errCnt * (5 * d.atten n) := by positivity
  rw [Dev.trimScale]
  exact_mod_cast this

theorem ecTrimUpdate_trims (hb : s.dev.blocksRun = true) (ht : s.dev.flag (LP_CTL n) LP_CTL.TRIMEN = true)
    (hl : s.dev.lstate n = lsRegulating) (hsp : (s.dev.loop n).spoiled = false) (he : 0 < (s.dev.loop n).errCnt)
    (hs : 0 < (s.dev.loop n).senseCnt) : Completes (.ecTrimUpdate n) s fun e =>
      e.rs (LP_ECTRIM n) = trimStep (s.dev.trimDiff n) (s.dev.trimScale n) (s.dev.rs (LP_ECTRIM n)) ∧
      e.flag (LP_STATUS n) LP_STATUS.TRIMSAT = decide ((e.rs (LP_ECTRIM n)).natAbs = 512) ∧ (e.loop n).errCnt = 0 ∧
      (e.loop n).senseCnt = 0 := by
  refine completes_step1 (·.ecTrim n) rfl ?_
  generalize ht2 : trimStep (s.dev.trimDiff n) (s.dev.trimScale n) (s.dev.rs (LP_ECTRIM n)) = t2
  have hmem : -512 ≤ t2 ∧ t2 ≤ 512 := ht2 ▸ trimStep_mem _ _ _
  have htrim : s.dev.ecTrim n = ((((s.dev.wi (LP_ECTRIM n) t2).freshTrim n).setFlag (LP_STATUS n) LP_STATUS.TRIMSAT
      (decide (t2 = 512 ∨ t2 = -512))).when (decide (t2 = 512 ∨ t2 = -512)) (·.record 0x09 1 (bytesLE 1 n.val))) := by
    unfold Dev.ecTrim
    dsimp only
    rw [if_neg]
    · rw [← ht2]
      rfl
    · simp [hb, ht, hl, hsp, he.ne', hs.ne']
  have hq (d : Dev) (b : Bool) : d.Quiet (d.when b (·.record 0x09 1 (bytesLE 1 n.val))) := quiet_closed.when fun _ => d.quiet_record _ _ _
  have hloop (d : Dev) (b : Bool) : (d.when b (·.record 0x09 1 (bytesLE 1 n.val))).loops = d.loops :=
    loops_hop.when fun _ => loops_hop.record d _ _ _
  have hne : LP_ECTRIM n ≠ LP_STATUS n := by simp only [LP_ECTRIM, LP_STATUS]; omega
  have hrs : (s.dev.ecTrim n).rs (LP_ECTRIM n) = t2 := by
    rw [htrim, Dev.rs, (hq _ _).2 _ (evtReg_of_loopReg (loopReg_loop n (by decide) (by decide))),
      Dev.rd_setFlag_ne _ _ _ (by decide) hne]
    exact s.dev.rs_wi _ (by omega)
  have hcnt : (s.dev.ecTrim n).loop n = ((s.dev.wi (LP_ECTRIM n) t2).freshTrim n).loop n := by
    rw [htrim, Dev.loop, hloop, Dev.setFlag_loops]
    rfl
  refine ⟨hrs, ?_, ?_, ?_⟩
  · rw [hrs, htrim, (hq _ _).flag_eq _ (evtReg_of_loopReg (loopReg_loop n (by decide) (by decide))) (by decide),
      Dev.flag_setFlag_same _ _ _ _ (by decide) (by decide), decide_eq_decide]
    omega
  · rw [hcnt, Dev.freshTrim, Dev.loop_modLoop_same]
  · rw [hcnt, Dev.freshTrim, Dev.loop_modLoop_same]

/-- An interval that is skipped only begins anew. -/
theorem ecTrimUpdate_skips (hsp : (s.dev.loop n).spoiled = true) : Completes (.ecTrimUpdate n) s fun e =>
    e.regs = s.dev.regs ∧ (e.loop n).errCnt = 0 ∧ (e.loop n).senseCnt = 0 ∧ (e.loop n).spoiled = false := by
  refine completes_step1 (·.ecTrim n) rfl ?_
  have hfresh : s.dev.ecTrim n = s.dev.freshTrim n := by
    unfold Dev.ecTrim
    dsimp only
    rw [if_pos (by simp [hsp])]
    rfl
  rw [hfresh, Dev.freshTrim, Dev.loop_modLoop_same]
  exact ⟨rfl, rfl, rfl, rfl⟩

end EcTrim

theorem delayLineCal_stores {s : State} (m : Phase) (x : BitVec 16) (hb : s.dev.blocksRun = true) :
    Completes (.delayLineCal m x) s fun e => e.rd (PH_DLCAL m) = x ∧ s.dev.onlyRegs e (fun a => a = PH_DLCAL m) := by
  refine completes_step1 (·.dlCal m x) rfl ?_
  rw [Dev.dlCal, Dev.when, if_pos hb]
  exact ⟨Dev.rd_wr_same _ _ _, s.dev.onlyRegs_wr _ _⟩

end Sys2Proof.Machine
end

section
/-!
Error samples, power-good, and the periods of phases (R29, R31 to R33, R37, R50 to R55, R59).
-/

namespace Sys2Proof.Machine

open Sys2Proof Sys2Proof.R

/-! ## Error samples (R37) -/

/-- The registers that a sample writes beside LP_ERR, LP_VOUT and the status. -/
def runReg (n : Loop) (a : Nat) : Prop := workReg n a ∨ driveReg n a

theorem keeps_runReg (n : Loop) : DriveClosed n (fun _ => True) (Dev.Keeps n (runReg n) workFields) :=
  keeps_drive (keeps_work (keeps_step (keeps_phase (keeps_tail (fun _ h => .inl (.inl (haltReg_of_tailReg h))) (by decide))
    fun _ h => .inl (.inr (.inl h))) (fun _ h => .inl (.inr (.inr h))) (by decide)) (by decide)) fun _ h => .inr h

section Sample

variable (d : Dev) (n : Loop) (vout : Word)

/-- A sample as it is taken: the target comes under its limits, and LP_VOUT is the mean of the last readings. -/
def Dev.sampleTaken : Dev :=
  let d := d.when (d.lstate n ≠ lsSoftStop) (·.limitTarget n)
  let keep := max 1 (800 * d.osr n / max 1 (d.fld (LP_PERIOD n) LP_PERIOD.PERIOD))
  let d := d.modLoop n fun x => { x with recent := (vout :: x.recent).take keep }
  d.setVout n (meanWord (d.loop n).recent)

/-- Its error is shown. -/
def Dev.sampleShown : Dev :=
  let d := d.sampleTaken n vout
  let x := d.errSample n vout.toNat
  (d.wi (LP_ERR n) x.1).setFlag (LP_STATUS n) LP_STATUS.INWIN x.2

/-- What follows from an error `e`, sampled in state `st`: the interval of R64, SETTLED, a load step, the compensator, the
reference, and the first switching. -/
def Dev.sampleActs (d : Dev) (st : Nat) (e : Int) (inw : Bool) : Dev :=
  let v := vout.toNat
  let d := d.modLoop n fun x => { x with errSum := x.errSum + e, errCnt := x.errCnt + 1, spoiled := x.spoiled || !inw }
  let far := d.rn (LP_PGWIN n) < (max v (d.loop n).target) - (min v (d.loop n).target)
  let d := d.when far fun d =>
    (d.modLoop n fun x => { x with dwelled := false }).setFlag (LP_STATUS n) LP_STATUS.SETTLED false
  let d := d.when ((d.loop n).switching && st ≠ lsSoftStop && d.stepErr n ≤ e.natAbs) (·.loadStep n)
  let d := d.when (d.loop n).switching (·.giveResult n e)
  let d := d.refStep n
  d.when ((d.lstate n = lsSoftStart || d.lstate n = lsRegulating || d.lstate n = lsTransition) &&
      !(d.loop n).switching && !(d.loop n).ssWait && decide (v ≤ d.refOut n) && decide (5 * d.atten n ≤ 2 * (d.refOut n - v)))
    (·.switchOn n v)

theorem Dev.ecSample_eq (hb : d.blocksRun = true) (hoff : d.lstate n ≠ lsOff) (hl : d.lstate n ≠ lsOvLatched) :
    ∃ (st : Nat) (e : Int) (inw : Bool), d.ecSample n vout = (d.sampleShown n vout).sampleActs n vout st e inw := by
  refine ⟨(d.when (d.lstate n ≠ lsSoftStop) (·.limitTarget n)).lstate n, ((d.sampleTaken n vout).errSample n vout.toNat).1,
    ((d.sampleTaken n vout).errSample n vout.toNat).2, ?_⟩
  unfold Dev.ecSample
  dsimp only
  rw [if_neg (by simp [hb, hoff, hl])]
  rfl

/-- What follows from a sample leaves LP_ERR and INWIN. -/
theorem Dev.keeps_sampleActs (d : Dev) (st : Nat) (e : Int) (inw : Bool) :
    Dev.Keeps n (runReg n) workFields d (d.sampleActs n vout st e inw) := by
  have h := keeps_runReg n
  have hj (m : Phase) : (fun _ : Phase => True) m := trivial
  unfold Dev.sampleActs
  dsimp only
  refine h.trans ?_ (h.when fun _ => h.switchOn hj _ _)
  refine h.trans ?_ (h.refStep hj _)
  refine h.trans ?_ (h.when fun _ => h.giveResult _ _)
  refine h.trans ?_ (h.when fun _ => h.loadStep _ fun m _ => hj m)
  refine h.trans ?_ (h.when fun _ => h.trans (h.loop _ _) (h.settled _ _))
  exact h.loop d _

theorem Dev.rd_setVout (v : Nat) {a : Nat} (hv : a ≠ LP_VOUT n) (hi : a ≠ LP_IOUT n) (hp : a ≠ LP_POUT n) :
    (d.setVout n v).rd a = d.rd a := by
  rw [Dev.setVout, Dev.sumIout, Dev.wi, Dev.rd_wr_ne _ _ hp, Dev.wi, Dev.rd_wr_ne _ _ hi, Dev.rd_wn_ne _ _ hv]

/-- A sample is judged by the reference and the attenuation as they stand. -/
theorem Dev.rd_sampleTaken {b : Nat} (hb : 0x2000 ≤ b) (hb2 : b < 0x2080)
    (hne : b ≠ 0x203C ∧ b ≠ 0x2042 ∧ b ≠ 0x205A ∧ b ≠ 0x2038) (hv : b ≠ 0x203A) (hs : b ≠ 0x2036) :
    (d.sampleTaken n vout).rd (b + 0x80 * n.val) = d.rd (b + 0x80 * n.val) := by
  rw [Dev.sampleTaken, Dev.rd_setVout _ _ _ (by simp only [LP_VOUT]; omega) (by simp only [LP_IOUT]; omega)
    (by simp only [LP_POUT]; omega), Dev.rd_modLoop]
  have h := keeps_workReg n
  exact (h.when fun _ => h.limitTarget d).rd _ (not_workReg_loop n hb hb2 hne) (by simp only [LP_STATUS]; omega)
    (evtReg_of_loopReg (loopReg_loop n hb hb2))

theorem Dev.errSample_sampleTaken : (d.sampleTaken n vout).errSample n vout.toNat = d.errSample n vout.toNat := by
  have hvref : (d.sampleTaken n vout).rn (LP_VREF n) = d.rn (LP_VREF n) := congrArg BitVec.toNat
    (d.rd_sampleTaken n vout (b := 0x200C) (by decide) (by decide) (by decide) (by decide) (by decide))
  have hatt : (d.sampleTaken n vout).atten n = d.atten n := by
    rw [Dev.atten, Dev.atten, Dev.fld_of_rd LP_CFG.ATTEN (by decide)
      (d.rd_sampleTaken n vout (b := 0x2002) (by decide) (by decide) (by decide) (by decide) (by decide))]
  simp only [Dev.errSample, Dev.refOut, hvref, hatt]
  rfl

theorem Dev.errSample_mem : -256 ≤ (d.errSample n vout.toNat).1 ∧ (d.errSample n vout.toNat).1 ≤ 255 :=
  clampInt_mem (by decide) _

theorem Dev.sampleShown_shows : (d.sampleShown n vout).rs (LP_ERR n) = (d.errSample n vout.toNat).1 ∧
    (d.sampleShown n vout).flag (LP_STATUS n) LP_STATUS.INWIN = (d.errSample n vout.toNat).2 := by
  have hmem := d.errSample_mem n vout
  rw [Dev.sampleShown, d.errSample_sampleTaken n vout]
  refine ⟨?_, Dev.flag_setFlag_same _ _ _ _ (by decide) (by decide)⟩
  rw [Dev.rs, Dev.rd_setFlag_ne _ _ _ (by decide) (by simp only [LP_ERR, LP_STATUS]; omega)]
  exact Dev.rs_wi _ _ (by omega)

end Sample

theorem ecSample_shows {s : State} {n : Loop} {vout : BitVec 16} (hb : s.dev.blocksRun = true) (hoff : s.dev.lstate n ≠ lsOff)
    (hl : s.dev.lstate n ≠ lsOvLatched) : Completes (.ecSample n vout) s fun e =>
      e.rs (LP_ERR n) = (s.dev.errSample n vout.toNat).1 ∧
        e.flag (LP_STATUS n) LP_STATUS.INWIN = (s.dev.errSample n vout.toNat).2 := by
  refine completes_step1 (fun d => d.onLoop n (·.ecSample n vout)) rfl ?_
  obtain ⟨st, e, inw, heq⟩ := s.dev.ecSample_eq n vout hb hoff hl
  obtain ⟨herr, hin⟩ := s.dev.sampleShown_shows n vout
  have hk := (s.dev.sampleShown n vout).keeps_sampleActs n vout st e inw
  have hp := ((s.dev.sampleShown n vout).sampleActs n vout st e inw).railStep_pollLoop n
  have hreg : ¬runReg n (LP_ERR n) := by
    rintro (h | h | h | h)
    · exact not_workReg_loop n (b := 0x2040) (by decide) (by decide) (by decide) h
    all_goals simp only [LP_ERR, LP_VREF, LP_DUTY, LP_CSKIP_CNT] at h; omega
  simp only [Dev.onLoop, heq]
  refine ⟨?_, ?_⟩
  · rw [Dev.rs, hp.rd_loop (b := 0x2040) (by decide) (by decide) (by decide),
      hk.rd (LP_ERR n) hreg (by simp only [LP_ERR, LP_STATUS]; omega) (evtReg_of_loopReg (loopReg_loop n (by decide) (by decide)))]
    exact herr
  · rw [hp.keeps.flag _ (by decide) (by decide), hk.flag _ (by decide) (by decide), hin]

/-! ## Power-good (R51, R52) -/

section Settle

variable (d : Dev) (n : Loop)

/-- SETTLED stands after it has risen. -/
theorem Dev.settled_settle : (d.settle n).flag (LP_STATUS n) LP_STATUS.SETTLED = true := by
  have ht : TailClosed n (Dev.Keeps n (tailReg n) [LP_STATUS.ACTPH, LP_STATUS.CFGERR]) := keeps_tail (fun _ h => h) (by decide)
  unfold Dev.settle
  split
  · assumption
  · rw [(ht.trans (ht.vlSettle _) (ht.endSetv _ n _)).flag _ (by decide) (by decide)]
    exact Dev.flag_setFlag_same _ _ _ _ (by decide) (by decide)

theorem Dev.keeps_settle : Dev.Keeps n (tailReg n) [LP_STATUS.ACTPH, LP_STATUS.CFGERR, LP_STATUS.SETTLED] d (d.settle n) :=
  (keeps_tail (fun _ h => h) (by decide)).settle (fun d _ => d.keeps_setFlag _ (by decide) (by decide)) d

theorem Dev.loop_settle : (d.settle n).loop n = d.loop n :=
  ((bodies_tail n).settle (fun d _ => d.bodies_setFld _ _ _) d).loop

/-- SETTLED rises where `b` says so. -/
theorem Dev.settled_when_settle {b : Bool} (hb : b = true) :
    (d.when b (·.settle n)).flag (LP_STATUS n) LP_STATUS.SETTLED = true := by
  rw [Dev.when, if_pos hb]
  exact d.settled_settle n

theorem Dev.keeps_when_settle (b : Bool) :
    Dev.Keeps n (tailReg n) [LP_STATUS.ACTPH, LP_STATUS.CFGERR, LP_STATUS.SETTLED] d (d.when b (·.settle n)) :=
  keeps_raise.when fun _ => d.keeps_settle n

theorem Dev.loop_when_settle (b : Bool) : (d.when b (·.settle n)).loop n = d.loop n := by
  unfold Dev.when
  split
  · exact d.loop_settle n
  · rfl

/-- The good condition of a loop's rail is its PG. -/
theorem Dev.goodCond_loopRail : d.goodCond (loopRail n) = d.flag (LP_STATUS n) LP_STATUS.PG := by
  unfold Dev.goodCond
  rw [DrillClosed.loopOf_loopRail]

theorem not_tailReg_SEQ_RSTATE : ¬tailReg n (SEQ_RSTATE (loopRail n)) := by revert n; unfold tailReg; decide
theorem SEQ_RSTATE_ne_LP_STATUS : SEQ_RSTATE (loopRail n) ≠ LP_STATUS n := by revert n; decide
theorem evtReg_SEQ_RSTATE : evtReg (SEQ_RSTATE (loopRail n)) = false := by revert n; decide

/-- Supervision of a rail that is good, or not held to be, leaves the loop: its status, and what it is. -/
theorem Dev.pollLoop_good {d : Dev} {n : Loop} (h : d.rstate (loopRail n) = rsGood → d.goodCond (loopRail n) = true) :
    Dev.Keeps n elseReg [] d (d.pollLoop n) ∧ (d.pollLoop n).loop n = d.loop n :=
  ⟨(keeps_drill fun _ => elseReg_of_drill).railPoll_of_good d _ h,
    ((bodies_drill (n := n) (J := fun _ => False) (g := fun x => x)).railPoll_of_good d _ h).loop⟩

end Settle

section Dwell

variable {s : State} {n : Loop} (hb : s.dev.blocksRun = true) (ho : (s.dev.loop n).offPend = false)

/-- The loop has been good for its dwell, before SETTLED is judged: in a soft-start, PG rises and the loop regulates. -/
def Dev.dwelledOnly (d : Dev) (n : Loop) : Dev := d.modLoop n fun x => { x with dwelled := true }
def Dev.pgRises (d : Dev) (n : Loop) : Dev :=
  (((d.dwelledOnly n).modLoop n fun x => { x with up := true, uvArmed := true }).setFlag (LP_STATUS n) LP_STATUS.PG true).regulate n

theorem Dev.dwellExpiry_start {d : Dev} (hb : d.blocksRun = true) (ho : (d.loop n).offPend = false) (hl : d.lstate n = lsSoftStart) :
    d.dwellExpiry n = (d.pgRises n).when (decide ((d.pgRises n).rn (LP_VREF n) = (d.pgRises n).refGoal n)) (·.settle n) := by
  simp only [Dev.dwellExpiry, hb, ho, hl, Dev.when, decide_true, Bool.not_true, Bool.true_or, Bool.false_or, Bool.false_eq_true,
    if_false, if_true]
  rfl

theorem Dev.dwellExpiry_run {d : Dev} (hb : d.blocksRun = true) (ho : (d.loop n).offPend = false)
    (hl : d.lstate n = lsRegulating ∨ d.lstate n = lsTransition) :
    d.dwellExpiry n = (d.dwelledOnly n).when (decide ((d.dwelledOnly n).rn (LP_VREF n) = (d.dwelledOnly n).refGoal n))
      (·.settle n) := by
  obtain hl | hl := hl <;>
  · simp only [Dev.dwellExpiry, hb, ho, hl, Dev.when]
    rfl

/-- The goal of the reference comes from the target and LP_CFG. -/
theorem Dev.refGoal_congr {d e : Dev} (ht : (e.loop n).target = (d.loop n).target) (hc : e.rd (LP_CFG n) = d.rd (LP_CFG n)) :
    e.refGoal n = d.refGoal n := by
  rw [Dev.refGoal, Dev.refGoal, Dev.atten, Dev.atten, ht, Dev.fld_of_rd LP_CFG.ATTEN (by decide) hc]

/-- What stands once PG has risen. -/
theorem Dev.pgRises_stands (d : Dev) (n : Loop) : (d.pgRises n).lstate n = lsRegulating ∧
    (d.pgRises n).flag (LP_STATUS n) LP_STATUS.PG = true ∧ ((d.pgRises n).loop n).up = true ∧
    ((d.pgRises n).loop n).uvArmed = true ∧ ((d.pgRises n).loop n).target = (d.loop n).target ∧
    ∀ a, a ≠ LP_STATUS n → (d.pgRises n).rd a = d.rd a := by
  generalize hx : ((d.dwelledOnly n).modLoop n fun x => { x with up := true, uvArmed := true }).setFlag (LP_STATUS n)
    LP_STATUS.PG true = x
  have hloop : x.loop n = { d.loop n with dwelled := true, up := true, uvArmed := true } := by
    rw [← hx, Dev.loop_congr (Dev.setFlag_loops ..), Dev.loop_modLoop_same, Dev.dwelledOnly, Dev.loop_modLoop_same]
  have hreg : (x.regulate n).loop n = { x.loop n with holdPend := false } := by
    rw [Dev.regulate_eq]
    unfold Dev.when
    split
    · rw [Dev.loop_congr (Dev.setFlag_loops ..), Dev.loop_modLoop_same, Dev.setLstate, Dev.loop_congr (Dev.setFld_loops ..)]
    · rw [Dev.loop_modLoop_same, Dev.setLstate, Dev.loop_congr (Dev.setFld_loops ..)]
  have hkr : Dev.Keeps n (fun _ => False) aimFields x (x.regulate n) := keeps_aim.regulate x
  have hpg : x.flag (LP_STATUS n) LP_STATUS.PG = true := by
    rw [← hx]
    exact Dev.flag_setFlag_same _ _ _ _ (by decide) (by decide)
  have hrd (y : Dev) (a : Nat) (ha : a ≠ LP_STATUS n) : (y.regulate n).rd a = y.rd a := by
    rw [Dev.regulate_eq]
    unfold Dev.when
    split
    · rw [Dev.rd_setFlag_ne _ _ _ (by decide) ha, Dev.rd_modLoop, Dev.setLstate, Dev.rd_setFld_ne _ _ _ (by decide) ha]
    · rw [Dev.rd_modLoop, Dev.setLstate, Dev.rd_setFld_ne _ _ _ (by decide) ha]
  rw [Dev.pgRises, hx]
  refine ⟨x.lstate_regulate, (hkr.flag _ (by decide) (by decide)).trans hpg, ?_, ?_, ?_, fun a ha => ?_⟩
  · rw [hreg, hloop]
  · rw [hreg, hloop]
  · rw [hreg, hloop]
  · rw [hrd x a ha, ← hx, Dev.rd_setFlag_ne _ _ _ (by decide) ha]
    rfl

include hb ho

theorem pgDwellExpiry_start (hl : s.dev.lstate n = lsSoftStart) : Completes (.pgDwellExpiry n) s fun e =>
    e.flag (LP_STATUS n) LP_STATUS.PG = true ∧ e.lstate n = lsRegulating ∧ (e.loop n).up = true ∧ (e.loop n).uvArmed = true ∧
      (s.dev.rn (LP_VREF n) = s.dev.refGoal n → e.flag (LP_STATUS n) LP_STATUS.SETTLED = true) := by
  refine completes_step1 (fun d => d.onLoop n (·.dwellExpiry n)) rfl ?_
  simp only [Dev.onLoop, Dev.dwellExpiry_start hb ho hl]
  obtain ⟨hst, hpg, hup, huv, htgt, hrd⟩ := s.dev.pgRises_stands n
  have hvref : (s.dev.pgRises n).rn (LP_VREF n) = s.dev.rn (LP_VREF n) :=
    congrArg BitVec.toNat (hrd _ (by simp only [LP_VREF, LP_STATUS]; omega))
  have hgoal : (s.dev.pgRises n).refGoal n = s.dev.refGoal n :=
    Dev.refGoal_congr htgt (hrd _ (by simp only [LP_CFG, LP_STATUS]; omega))
  rw [hvref, hgoal]
  generalize hc : decide (s.dev.rn (LP_VREF n) = s.dev.refGoal n) = c
  have hk := (s.dev.pgRises n).keeps_when_settle n c
  have hl' := (s.dev.pgRises n).loop_when_settle n c
  have hpg' := (hk.flag LP_STATUS.PG (by decide) (by decide)).trans hpg
  obtain ⟨hp, hpl⟩ := Dev.pollLoop_good (d := (s.dev.pgRises n).when c (·.settle n)) (n := n)
    fun _ => (Dev.goodCond_loopRail _ n).trans hpg'
  refine ⟨(hp.flag _ (by decide) (by simp)).trans hpg', ?_, ?_, ?_, fun href => ?_⟩
  · exact (hp.fld LP_STATUS.STATE (by decide) (by simp)).trans ((hk.fld LP_STATUS.STATE (by decide) (by decide)).trans hst)
  · rw [hpl, hl', hup]
  · rw [hpl, hl', huv]
  · exact (hp.flag _ (by decide) (by simp)).trans (Dev.settled_when_settle _ n (by rw [← hc]; exact decide_eq_true href))

theorem pgDwellExpiry_run (hg : s.dev.rstate (loopRail n) = rsGood → s.dev.goodCond (loopRail n) = true)
    (hl : s.dev.lstate n = lsRegulating ∨ s.dev.lstate n = lsTransition) : Completes (.pgDwellExpiry n) s fun e =>
      e.lstate n = s.dev.lstate n ∧ (e.loop n).dwelled = true ∧
        (s.dev.rn (LP_VREF n) = s.dev.refGoal n → e.flag (LP_STATUS n) LP_STATUS.SETTLED = true) := by
  refine completes_step1 (fun d => d.onLoop n (·.dwellExpiry n)) rfl ?_
  simp only [Dev.onLoop, Dev.dwellExpiry_run hb ho hl]
  have hloop : (s.dev.dwelledOnly n).loop n = { s.dev.loop n with dwelled := true } := Dev.loop_modLoop_same _ _ _
  have hgoal : (s.dev.dwelledOnly n).refGoal n = s.dev.refGoal n := Dev.refGoal_congr (by rw [hloop]) rfl
  rw [hgoal]
  generalize hc : decide ((s.dev.dwelledOnly n).rn (LP_VREF n) = s.dev.refGoal n) = c
  have hk := (s.dev.dwelledOnly n).keeps_when_settle n c
  have hl' := (s.dev.dwelledOnly n).loop_when_settle n c
  have hpg : ((s.dev.dwelledOnly n).when c (·.settle n)).goodCond (loopRail n) = s.dev.goodCond (loopRail n) := by
    rw [Dev.goodCond_loopRail, Dev.goodCond_loopRail, hk.flag _ (by decide) (by decide)]
    rfl
  have hrs : ((s.dev.dwelledOnly n).when c (·.settle n)).rstate (loopRail n) = s.dev.rstate (loopRail n) :=
    Dev.fld_of_rd _ (by decide) (hk.rd _ (not_tailReg_SEQ_RSTATE n) (SEQ_RSTATE_ne_LP_STATUS n) (evtReg_SEQ_RSTATE n))
  obtain ⟨hp, hpl⟩ := Dev.pollLoop_good (d := (s.dev.dwelledOnly n).when c (·.settle n)) (n := n)
    fun h => hpg.trans (hg (hrs.symm.trans h))
  refine ⟨?_, ?_, fun href => ?_⟩
  · exact (hp.fld LP_STATUS.STATE (by decide) (by simp)).trans (hk.fld LP_STATUS.STATE (by decide) (by decide))
  · rw [hpl, hl', hloop]
  · exact (hp.flag _ (by decide) (by simp)).trans (Dev.settled_when_settle _ n (by rw [← hc]; exact decide_eq_true href))

end Dwell

end Sys2Proof.Machine
end

section
/-!
The periods of phases (R29, R31 to R33, R54, R58, R59), and a running loop as one statement.
-/

namespace Sys2Proof.Machine

open Sys2Proof Sys2Proof.R

/-! ## The start of a loop's period -/

/-- The deferred modes are taken, and LP_IOUT is noted for the slope of R59. -/
def Dev.periodNoted (d : Dev) (n : Loop) : Dev :=
  (d.modLoop n fun x =>
    { x with ssWait := false, vff := d.flag (LP_CFG n) LP_CFG.VFF, offMode := d.flag (LP_CFG n) LP_CFG.OFFMODE,
             diode := if x.ramped then d.flag (LP_CFG n) LP_CFG.LSMODE else x.diode }).modLoop n fun x =>
    { x with iLast := d.rs (LP_IOUT n) }

theorem Dev.loopPeriodStart_off {d : Dev} {n : Loop} (h : (d.loop n).offPend = true) : d.loopPeriodStart n = d.goOff n := by
  rw [Dev.loopPeriodStart, if_pos h]

theorem Dev.loopPeriodStart_on {d : Dev} {n : Loop} (h : (d.loop n).offPend = false) :
    ∃ b : Bool, d.loopPeriodStart n = (d.periodNoted n).when b (·.loadStep n) := by
  rw [Dev.loopPeriodStart, if_neg (by simp [h])]
  exact ⟨_, rfl⟩

/-- The registers that a load step can change while phase `m` is on: none of `m`. -/
def startReg (n : Loop) (m : Phase) (a : Nat) : Prop := haltReg n a ∨ phaseReg (· ≠ m) a ∨ stepReg n a

theorem not_startReg_phase (n : Loop) (m : Phase) {b : Nat} (h : 0x2600 ≤ b) (hb : b < 0x2620) :
    ¬startReg n m (b + 0x20 * m.val) := by
  have hn := n.isLt
  rintro (h' | ⟨j, hj, h' | h' | h'⟩ | h' | h')
  · exact not_haltReg_phase n m h hb h'
  iterate 3
    have hne : j.val ≠ m.val := fun e => hj (Fin.ext e)
    simp only [PH_STATE, PH_TRIM, PH_IOUT] at h'
    omega
  all_goals simp only [LP_STEP_CNT, LP_STICKY] at h'; omega

theorem not_startReg_loop (n : Loop) (m : Phase) {b : Nat} (h : 0x2000 ≤ b) (hb : b < 0x2080)
    (hne : b ≠ 0x203C ∧ b ≠ 0x2042 ∧ b ≠ 0x205A ∧ b ≠ 0x2038) : ¬startReg n m (b + 0x80 * n.val) := by
  rintro (h' | ⟨j, _, h'⟩ | h')
  · exact not_workReg_loop n h hb hne (.inl h')
  · exact not_workReg_loop n h hb hne (.inr (.inl ⟨j, trivial, h'⟩))
  · exact not_workReg_loop n h hb hne (.inr (.inr h'))

/-- Diode emulation as a period start takes it: from LP_CFG at the loop's period start, once the ramp has ended. -/
def Dev.diodeTaken (d : Dev) (n : Loop) (m : Phase) : Bool :=
  if d.leadPhase n = some m ∧ (d.loop n).ramped = true then d.flag (LP_CFG n) LP_CFG.LSMODE else (d.loop n).diode

/-- The period of loop `n` has started where phase `m` leads it, with nothing changed of `m`. -/
structure Dev.PeriodOn (n : Loop) (m : Phase) (d e : Dev) : Prop where
  keeps : Dev.Keeps n (startReg n m) [LP_STATUS.ACTPH, LP_STATUS.CFGERR, LP_STATUS.STEPHOLD] d e
  phase : (e.phase m).sansOffset = (d.phase m).sansOffset
  duty : (e.loop n).duty = (d.loop n).duty
  diode : (e.loop n).diode = d.diodeTaken n m

/-- What comes before a phase's own period. -/
def Dev.periodOf (d : Dev) (n : Loop) (m : Phase) : Dev := d.when (d.leadPhase n = some m) (·.loopPeriodStart n)

theorem Dev.periodOn_periodOf {d : Dev} {n : Loop} {m : Phase} (ho : (d.loop n).offPend = false) (hf : d.pstate m ≠ psFallow)
    (hl : d.pstate m ≠ psLeaving) : Dev.PeriodOn n m d (d.periodOf n m) := by
  by_cases hlead : d.leadPhase n = some m
  · obtain ⟨b, hb⟩ := Dev.loopPeriodStart_on ho
    have hnoted : (d.periodNoted n).loop n = { d.loop n with
        ssWait := false, vff := d.flag (LP_CFG n) LP_CFG.VFF, offMode := d.flag (LP_CFG n) LP_CFG.OFFMODE,
        diode := if (d.loop n).ramped then d.flag (LP_CFG n) LP_CFG.LSMODE else (d.loop n).diode,
        iLast := d.rs (LP_IOUT n) } := by
      rw [Dev.periodNoted, Dev.loop_modLoop_same, Dev.loop_modLoop_same]
    have hj (j : Phase) (h : (d.periodNoted n).pstate j = psFallow ∨ (d.periodNoted n).pstate j = psLeaving) : j ≠ m := by
      rintro rfl
      exact h.elim hf hl
    have hk : StepClosed n (· ≠ m) (Dev.Keeps n (startReg n m) [LP_STATUS.ACTPH, LP_STATUS.CFGERR, LP_STATUS.STEPHOLD]) :=
      keeps_step (keeps_phase (keeps_tail (fun _ h => .inl (haltReg_of_tailReg h)) (by decide)) fun _ h => .inr (.inl h))
        (fun _ h => .inr (.inr h)) (by decide)
    have hbody : StepClosed n (· ≠ m) (Dev.Bodies n (· ≠ m) fun x => (x.duty, x.diode)) := bodies_step (fun _ => rfl) fun _ _ => rfl
    have h1 := hk.when (b := b) (f := (·.loadStep n)) fun _ => hk.loadStep (d.periodNoted n) hj
    have h2 := hbody.when (b := b) (f := (·.loadStep n)) fun _ => hbody.loadStep (d.periodNoted n) hj
    have hloop := Prod.mk.inj h2.loop
    have h0 : Dev.Keeps n (startReg n m) [LP_STATUS.ACTPH, LP_STATUS.CFGERR, LP_STATUS.STEPHOLD] d (d.periodNoted n) := .of_regs rfl
    rw [Dev.periodOf, Dev.when, if_pos (decide_eq_true hlead), hb]
    refine ⟨h0.trans h1, h2.phase m (not_not_intro rfl), hloop.1.trans (by rw [hnoted]), hloop.2.trans ?_⟩
    rw [hnoted, Dev.diodeTaken]
    simp [hlead]
  · rw [Dev.periodOf, Dev.when, if_neg (by simpa using hlead)]
    exact ⟨.of_regs rfl, rfl, rfl, by simp [Dev.diodeTaken, hlead]⟩

namespace Dev.PeriodOn

variable {n : Loop} {m : Phase} {d e : Dev} (h : Dev.PeriodOn n m d e)
include h

theorem rd_phase {b : Nat} (hb : 0x2600 ≤ b) (hb2 : b < 0x2620) : e.rd (b + 0x20 * m.val) = d.rd (b + 0x20 * m.val) :=
  h.keeps.rd _ (not_startReg_phase n m hb hb2) (by have := n.isLt; simp only [LP_STATUS]; omega)
    (evtReg_of_loopReg (loopReg_phase m hb hb2))

theorem rd_loop {b : Nat} (hb : 0x2000 ≤ b) (hb2 : b < 0x2080) (hne : b ≠ 0x203C ∧ b ≠ 0x2042 ∧ b ≠ 0x205A ∧ b ≠ 0x2038)
    (hs : b ≠ 0x2036) : e.rd (b + 0x80 * n.val) = d.rd (b + 0x80 * n.val) :=
  h.keeps.rd _ (not_startReg_loop n m hb hb2 hne) (by simp only [LP_STATUS]; omega) (evtReg_of_loopReg (loopReg_loop n hb hb2))

theorem lstate : e.lstate n = d.lstate n := h.keeps.fld LP_STATUS.STATE (by decide) (by decide)

theorem pstate : e.pstate m = d.pstate m := Dev.fld_of_rd PH_STATE.STATE (by decide) (h.rd_phase (by decide) (by decide))

end Dev.PeriodOn

/-! ## The on-time of a period (R33, R34) -/

section PlaceOn

variable (d : Dev) (n : Loop) (m : Phase)

/-- The on-time with what is carried, in 1/65,536 of an edge step. -/
def Dev.placeTotal : Int :=
  clampInt 0 (d.rn (LP_DMAX n)) ((d.loop n).duty + d.rs (PH_TRIM m)) * (16 * d.fld (LP_PERIOD n) LP_PERIOD.PERIOD) + (d.phase m).rem

/-- An on-time below LP_TONMIN is not placed. -/
def Dev.TooShort (total : Int) : Prop :=
  divRound total 65536 ≤ 0 ∨ divRound total 65536 < 16 * d.fld (LP_TONMIN n) LP_TONMIN.TONMIN

theorem Dev.phase_placeOn_short (h : d.TooShort n (d.placeTotal n m)) : ((d.placeOn n m).phase m).onTime = 0 ∧
    ((d.placeOn n m).phase m).rem = d.placeTotal n m ∧
    ((d.placeOn n m).phase m).drive = if d.diodeNow n then .mid else .low := by
  have hs : (decide (divRound (d.placeTotal n m) 65536 ≤ 0) ||
      decide (divRound (d.placeTotal n m) 65536 < 16 * d.fld (LP_TONMIN n) LP_TONMIN.TONMIN)) = true := by
    simpa [Dev.TooShort] using h
  unfold Dev.placeTotal at hs
  unfold Dev.placeOn Dev.placeTotal
  dsimp only
  rw [Dev.phase_modPhase_same, hs]
  have hdiode : (d.setFlag (PH_STATE m) PH_STATE.OCNOW (d.phase m).cut).diodeNow n = d.diodeNow n := by
    rw [Dev.diodeNow, Dev.diodeNow, Dev.lstate, Dev.loop_congr (Dev.setFlag_loops ..), Dev.fld_of_rd LP_STATUS.STATE (by decide)
      (Dev.rd_setFlag_ne d _ _ (by decide) (LP_STATUS_ne_phase n m).1)]
    rfl
  rw [hdiode]
  exact ⟨rfl, rfl, rfl⟩

theorem Dev.phase_placeOn_pulse (h : ¬d.TooShort n (d.placeTotal n m)) :
    ((d.placeOn n m).phase m).onTime = (divRound (d.placeTotal n m) 65536).toNat ∧
    ((d.placeOn n m).phase m).rem = d.placeTotal n m - divRound (d.placeTotal n m) 65536 * 65536 ∧
    ((d.placeOn n m).phase m).drive = .pulse := by
  have hs : (decide (divRound (d.placeTotal n m) 65536 ≤ 0) ||
      decide (divRound (d.placeTotal n m) 65536 < 16 * d.fld (LP_TONMIN n) LP_TONMIN.TONMIN)) = false := by
    simpa [Dev.TooShort] using h
  unfold Dev.placeTotal at hs
  unfold Dev.placeOn Dev.placeTotal
  dsimp only
  rw [Dev.phase_modPhase_same, hs]
  exact ⟨rfl, rfl, rfl⟩

theorem Dev.rd_placeOn {a : Nat} (h : a ≠ PH_STATE m) : (d.placeOn n m).rd a = d.rd a := by
  rw [Dev.placeOn, Dev.rd_modPhase, Dev.rd_setFlag_ne _ _ _ (by decide) h]

theorem Dev.pstate_placeOn : (d.placeOn n m).pstate m = d.pstate m :=
  Dev.fld_setFld_disjoint _ _ _ _ _ (by decide) (by decide) (by decide)

end PlaceOn

/-! ## The period of a phase -/

/-- What a phase does at its period start, as its state says. -/
def Dev.periodActs (d : Dev) (n : Loop) (m : Phase) : Dev :=
  if d.lstate n = lsOff then d
  else if d.pstate m = psLeaving then ((d.idlePhase m psFallow).respace n).sumIout n
  else if d.pstate m = psJoining then
    ((((((d.setPstate m psActive).wn (PH_TRIM m) 0).modPhase m fun x =>
      { x with rem := 0, cut := x.cut && decide (x.onTime ≠ 0) }).bump (LP_REENTER_CNT n)).respace n).placeOn n m)
  else if d.pstate m = psActive then d.placeOn n m
  else d

section Period

variable {s : State} {n : Loop} {m : Phase} (hm : s.dev.phaseLoop m = some n) (hb : s.dev.blocksRun = true)
  (hoff : s.dev.lstate n ≠ lsOff) (hl : s.dev.lstate n ≠ lsOvLatched)
include hm hb hoff hl

theorem completes_period {P : Dev → Prop} (hp : P (((s.dev.periodOf n m).periodActs n m).pollLoop n)) :
    Completes (.phasePeriodStart m) s P := by
  refine completes_step1 (fun d => d.onPhase m (·.periodStart m)) rfl ?_
  have hstart : s.dev.periodStart m = (s.dev.periodOf n m).periodActs n m := by
    unfold Dev.periodStart
    rw [hm]
    dsimp only
    rw [if_neg (by simp [hb, hoff, hl])]
    rfl
  simp only [Dev.onPhase, hm, Dev.onLoop, hstart]
  exact hp

theorem phasePeriodStart_joins (hj : s.dev.pstate m = psJoining) (ho : (s.dev.loop n).offPend = false) :
    Completes (.phasePeriodStart m) s fun e => e.pstate m = psActive ∧ e.rd (PH_TRIM m) = 0 ∧
      e.rd (LP_REENTER_CNT n) = satInc (s.dev.rd (LP_REENTER_CNT n)) := by
  have hn := n.isLt
  refine completes_period hm hb hoff hl ?_
  have hon := Dev.periodOn_periodOf (d := s.dev) (n := n) (m := m) ho (by rw [hj]; decide) (by rw [hj]; decide)
  generalize s.dev.periodOf n m = e at hon
  have hacts : e.periodActs n m = (((((e.setPstate m psActive).wn (PH_TRIM m) 0).modPhase m fun x =>
      { x with rem := 0, cut := x.cut && decide (x.onTime ≠ 0) }).bump (LP_REENTER_CNT n)).respace n).placeOn n m := by
    unfold Dev.periodActs
    rw [if_neg (by rwa [hon.lstate]), hon.pstate, hj]
    rfl
  have hr := Dev.railStep_pollLoop (e.periodActs n m) n
  rw [hacts] at hr ⊢
  have hst : PH_STATE m ≠ PH_TRIM m := by simp only [PH_STATE, PH_TRIM]; omega
  have hcs : LP_REENTER_CNT n ≠ PH_STATE m := by simp only [LP_REENTER_CNT, PH_STATE]; omega
  have hct : LP_REENTER_CNT n ≠ PH_TRIM m := by simp only [LP_REENTER_CNT, PH_TRIM]; omega
  have htl : PH_TRIM m ≠ LP_STATUS n := by simp only [PH_TRIM, LP_STATUS]; omega
  refine ⟨?_, ?_, ?_⟩
  · rw [hr.pstate, Dev.pstate_placeOn, Dev.pstate, Dev.fld_of_rd _ (by decide) ((Dev.rd_respace _ n
      (LP_STATUS_ne_phase n m).1.symm).trans ((Dev.rd_bump_ne _ hcs.symm).trans ((Dev.rd_modPhase _ _ _ _).trans
      (Dev.rd_wn_ne _ _ hst))))]
    exact e.pstate_setPstate m (by decide)
  · rw [hr.rd_phase m (b := 0x260C) (by decide) (by decide), Dev.rd_placeOn _ _ _ hst.symm, Dev.rd_respace _ _ htl,
      Dev.rd_bump_ne _ hct.symm, Dev.rd_modPhase]
    exact Dev.rd_wn_same _ _ _
  · rw [hr.rd_loop (b := 0x205C) (by decide) (by decide) (by decide), Dev.rd_placeOn _ _ _ hcs,
      Dev.rd_respace _ _ (by simp only [LP_REENTER_CNT, LP_STATUS]; omega : LP_REENTER_CNT n ≠ LP_STATUS n), Dev.rd_bump_same, Dev.rd_modPhase,
      Dev.rd_wn_ne _ _ hct, Dev.setPstate,
      Dev.rd_setFld_ne _ _ _ (by decide) hcs, hon.rd_loop (b := 0x205C) (by decide) (by decide) (by decide) (by decide)]

theorem phasePeriodStart_leaves (hp : s.dev.pstate m = psLeaving) (hlead : s.dev.leadPhase n ≠ some m) :
    Completes (.phasePeriodStart m) s fun e => e.pstate m = psFallow ∧ e.rd (PH_IOUT m) = 0 ∧ (e.phase m).drive = .mid := by
  have hn := n.isLt
  refine completes_period hm hb hoff hl ?_
  have hof : s.dev.periodOf n m = s.dev := by rw [Dev.periodOf, Dev.when, if_neg (by simpa using hlead)]
  have hacts : s.dev.periodActs n m = ((s.dev.idlePhase m psFallow).respace n).sumIout n := by
    rw [Dev.periodActs, if_neg hoff, if_pos hp]
  have hr := Dev.railStep_pollLoop (s.dev.periodActs n m) n
  rw [hof]
  rw [hacts] at hr ⊢
  have hk : Dev.Keeps n (haltReg n) [LP_STATUS.ACTPH, LP_STATUS.CFGERR] (s.dev.idlePhase m psFallow)
      (((s.dev.idlePhase m psFallow).respace n).sumIout n) :=
    (keeps_haltTail n).trans ((keeps_haltTail n).respace _) ((keeps_haltTail n).sumIout _)
  have hbody := (bodies_tail n).trans ((bodies_tail n).respace (s.dev.idlePhase m psFallow)) ((bodies_tail n).sumIout _)
  have hrd {b : Nat} (h1 : 0x2600 ≤ b) (h2 : b < 0x2620) :
      (((s.dev.idlePhase m psFallow).respace n).sumIout n).rd (b + 0x20 * m.val) =
        (s.dev.idlePhase m psFallow).rd (b + 0x20 * m.val) :=
    hk.rd _ (not_haltReg_phase n m h1 h2) (by simp only [LP_STATUS]; omega) (evtReg_of_loopReg (loopReg_phase m h1 h2))
  refine ⟨?_, ?_, ?_⟩
  · rw [hr.pstate, Dev.pstate, Dev.fld_of_rd _ (by decide) (hrd (b := 0x260E) (by decide) (by decide))]
    exact s.dev.pstate_idlePhase m psFallow
  · rw [hr.rd_phase m (b := 0x260A) (by decide) (by decide), hrd (b := 0x260A) (by decide) (by decide)]
    exact s.dev.rd_idlePhase_IOUT m psFallow
  · rw [hr.drive, hbody.drive not_false, Dev.phase_congr (s.dev.phases_idlePhase m psFallow), Dev.phase_modPhase_same]

theorem phasePeriodStart_stops (hlead : s.dev.leadPhase n = some m) (ho : (s.dev.loop n).offPend = true) :
    Completes (.phasePeriodStart m) s (Dev.Halted n lsOff .mid s.dev) := by
  refine completes_period hm hb hoff hl ?_
  have hof : s.dev.periodOf n m = s.dev.goOff n := by
    rw [Dev.periodOf, Dev.when, if_pos (decide_eq_true hlead), Dev.loopPeriodStart_off ho]
  have hh := s.dev.halted_goOff n
  rw [hof, Dev.periodActs, if_pos hh.lstate]
  exact hh.rail (Dev.railStep_pollLoop _ n)

theorem phasePeriodStart_places (hp : s.dev.pstate m = psActive) (ho : (s.dev.loop n).offPend = false) :
    Completes (.phasePeriodStart m) s fun e =>
      (s.dev.TooShort n (s.dev.placeTotal n m) → (e.phase m).onTime = 0 ∧ (e.phase m).rem = s.dev.placeTotal n m ∧
        (e.phase m).drive = if s.dev.diodeTaken n m || s.dev.lstate n = lsSoftStop then .mid else .low) ∧
      (¬s.dev.TooShort n (s.dev.placeTotal n m) → (e.phase m).onTime = (divRound (s.dev.placeTotal n m) 65536).toNat ∧
        (e.phase m).rem = s.dev.placeTotal n m - divRound (s.dev.placeTotal n m) 65536 * 65536 ∧ (e.phase m).drive = .pulse) := by
  refine completes_period hm hb hoff hl ?_
  have hon := Dev.periodOn_periodOf (d := s.dev) (n := n) (m := m) ho (by rw [hp]; decide) (by rw [hp]; decide)
  generalize s.dev.periodOf n m = e at hon
  have hacts : e.periodActs n m = e.placeOn n m := by
    unfold Dev.periodActs
    rw [if_neg (by rwa [hon.lstate]), hon.pstate, hp]
    rfl
  rw [hacts]
  have hphase := (Dev.railStep_pollLoop (e.placeOn n m) n).bodies.phase m not_false
  have honTime : (((e.placeOn n m).pollLoop n).phase m).onTime = ((e.placeOn n m).phase m).onTime :=
    (PhaseSt.mk.inj hphase).2.2.1
  have hrem : (((e.placeOn n m).pollLoop n).phase m).rem = ((e.placeOn n m).phase m).rem := (PhaseSt.mk.inj hphase).2.1
  have hdrive : (((e.placeOn n m).pollLoop n).phase m).drive = ((e.placeOn n m).phase m).drive := (PhaseSt.mk.inj hphase).1
  have hloop {b : Nat} (h1 : 0x2000 ≤ b) (h2 : b < 0x2080) (h3 : b ≠ 0x203C ∧ b ≠ 0x2042 ∧ b ≠ 0x205A ∧ b ≠ 0x2038)
      (h4 : b ≠ 0x2036) := hon.rd_loop h1 h2 h3 h4
  have htotal : e.placeTotal n m = s.dev.placeTotal n m := by
    have hdmax : e.rn (LP_DMAX n) = s.dev.rn (LP_DMAX n) :=
      congrArg BitVec.toNat (hloop (b := 0x2012) (by decide) (by decide) (by decide) (by decide))
    have htrim : e.rs (PH_TRIM m) = s.dev.rs (PH_TRIM m) :=
      congrArg BitVec.toInt (hon.rd_phase (b := 0x260C) (by decide) (by decide))
    have hper : e.fld (LP_PERIOD n) LP_PERIOD.PERIOD = s.dev.fld (LP_PERIOD n) LP_PERIOD.PERIOD :=
      Dev.fld_of_rd _ (by decide) (hloop (b := 0x2004) (by decide) (by decide) (by decide) (by decide))
    rw [Dev.placeTotal, Dev.placeTotal, hdmax, htrim, hper, hon.duty, (PhaseSt.mk.inj hon.phase).2.1]
  have hton : e.fld (LP_TONMIN n) LP_TONMIN.TONMIN = s.dev.fld (LP_TONMIN n) LP_TONMIN.TONMIN :=
    Dev.fld_of_rd _ (by decide) (hloop (b := 0x2014) (by decide) (by decide) (by decide) (by decide))
  have hshort : e.TooShort n (e.placeTotal n m) ↔ s.dev.TooShort n (s.dev.placeTotal n m) := by
    rw [htotal, Dev.TooShort, Dev.TooShort, hton]
  have hdiode : e.diodeNow n = (s.dev.diodeTaken n m || decide (s.dev.lstate n = lsSoftStop)) := by
    rw [Dev.diodeNow, hon.diode, hon.lstate]
  rw [honTime, hrem, hdrive, ← hshort, ← hdiode, ← htotal]
  exact ⟨e.phase_placeOn_short n m, e.phase_placeOn_pulse n m⟩

end Period

/-- The window of R37, both ways. -/
theorem inWindow_eq (att : Nat) (diff : Int) :
    (decide (-(640 * (att : Int)) ≤ diff) && decide (diff ≤ 640 * (att : Int))) = decide (diff.natAbs ≤ 640 * att) := by
  rw [← Bool.decide_and, decide_eq_decide]
  omega

/-- The scale and the offset of an interval, as R64 gives them: over the samples of both kinds. -/
theorem Dev.trimScale_eq (d : Dev) (n : Loop) :
    (d.trimScale n : Int) = (d.loop n).errCnt * (d.loop n).senseCnt * (5 * (d.atten n : Int)) := by
  rw [Dev.trimScale, Int.toNat_of_nonneg (by positivity)]
  ring

theorem Dev.trimDiff_eq (d : Dev) (n : Loop) : d.trimDiff n =
    128 * (((d.loop n).senseSum : Int) * (d.loop n).errCnt - ((d.rn (LP_VREF n) * (d.loop n).errCnt : Nat) : Int) * (d.loop n).senseCnt) +
      64 * (d.loop n).errSum * (d.loop n).senseCnt * (5 * (d.atten n : Int)) := by
  rw [Dev.trimDiff]
  push_cast
  ring

/-- Settles O47, part by part: a sample, a computation, a period, the dwell, shedding and the trims are each their own effect, which
what follows of the same command leaves. -/
theorem loopOperation : Obligations.LoopOperation := by
  unfold Obligations.LoopOperation
  intro s n m x d st q att poll live mine
  refine ⟨fun ⟨hb, hoff, hl⟩ => ?_, fun e0 b hb => ?_, compensatorRun_idle, fun hm ⟨hb, hoff, hl⟩ =>
      ⟨phasePeriodStart_joins hm hb hoff hl, phasePeriodStart_leaves hm hb hoff hl, fun _ hlead ho => ?_, fun hp ho => ?_⟩,
    fun hm hb hp hd => diodeEmulationMid_mid hm hb hp hd, fun hm hd => diodeEmulationMid_none hm hd,
    fun hb ho => ⟨pgDwellExpiry_start hb ho, pgDwellExpiry_run hb ho⟩,
    ⟨fun ⟨hb, he, hl⟩ hs hh hmin hi hm => phaseShed_sheds hb he hl hs hh hmin hi hm,
      fun ⟨hb, he, hl⟩ hi hm => phaseRestore_joins hb he hl hi hm, fun _ hmin => phaseShed_floor hmin⟩,
    shedHoldExpiry_ends n, fun hm hb hp hs => shareTrimUpdate_steps hm hb hp hs,
    fun hb ht hl hsp he hs hECTRIM => ?_, ecTrimUpdate_skips, delayLineCal_stores m x⟩
  · refine (ecSample_shows hb hoff hl).mono fun e ⟨herr, hin⟩ => ⟨herr.trans ?_, hin.trans ?_⟩
    · rfl
    · exact inWindow_eq (d.atten n) ((d.refOut n : Int) - x.toNat)
  · exact (compensatorRun_computes hb).mono fun e ⟨hc, h1, h2, hbusy, hw, hduty, hlat, hoth, hk⟩ => by
      obtain ⟨hv, hwd⟩ := Prod.mk.inj hc
      obtain ⟨hw', hd'⟩ := Prod.mk.inj hwd
      exact ⟨hv, hw', hd', h1, h2, hbusy, hw, hd' ▸ hduty, hlat, hoth, hk⟩
  · exact (phasePeriodStart_stops hm hb hoff hl hlead ho).mono fun e he => ⟨he.lstate, he.phases⟩
  · refine (phasePeriodStart_places hm hb hoff hl hp ho).mono fun e ⟨hshort, hpulse⟩ => ?_
    intro duty total steps diode y
    split
    · exact hshort ‹_›
    · exact hpulse ‹_›
  · refine (ecTrimUpdate_trims hb ht hl hsp he hs).mono fun e ⟨hrs, hsat, herr, hsense⟩ => ?_
    intro t0 t sense wanted lsb scale diff
    have hpos : 0 < d.trimScale n := d.trimScale_pos n he hs
    have hscale : scale = (d.trimScale n : Int) := (d.trimScale_eq n).symm
    have hdiff : diff = d.trimDiff n := (d.trimDiff_eq n).symm
    have htrim : t = trimStep (d.trimDiff n) (d.trimScale n) t0 := hrs
    obtain ⟨hlo, hhi⟩ := trimStep_mem (d.trimDiff n) (d.trimScale n) t0
    rw [hscale, hdiff]
    refine ⟨?_, ?_, fun h => ?_, fun h => ?_, fun h hlim => ?_, hsat, herr, hsense⟩
    · rw [htrim]
      exact trimStep_near _ _ hECTRIM
    · rw [htrim]
      omega
    · rw [htrim]
      exact trimStep_up hpos h
    · rw [htrim]
      exact trimStep_down hpos h
    · rw [htrim] at hlim ⊢
      exact trimStep_reaches hpos h hlim

end Sys2Proof.Machine
end

section
/-!
What the parts of a Velong exchange can touch, and the registers and fields of a link that the small steps of links write (R84 to R93).
-/

namespace Sys2Proof.Machine

open Sys2Proof Sys2Proof.R

/-! ## One step among several -/

/-- Of steps taken in turn, that of `k` finds and leaves what the others, which keep `R`, leave. -/
theorem foldl_at {α : Type} {R : Dev → Dev → Prop} {f : Dev → α → Dev} {l : List α} {k : α} (hl : l.Nodup) (hk : k ∈ l) (d : Dev)
    (refl : ∀ d, R d d) (trans : ∀ {d e g}, R d e → R e g → R d g) (hf : ∀ e j, j ≠ k → R e (f e j)) :
    ∃ e, R d e ∧ R (f e k) (l.foldl f d) := by
  have hrest (l : List α) (hl : k ∉ l) (d : Dev) : R d (l.foldl f d) := by
    induction l generalizing d with
    | nil => exact refl d
    | cons j l ih =>
      obtain ⟨hj, hl⟩ := not_or.mp (mt List.mem_cons.mpr hl)
      exact trans (hf d j (Ne.symm hj)) (ih hl _)
  induction l generalizing d with
  | nil => cases hk
  | cons j l ih =>
    obtain ⟨hjl, hl⟩ := List.nodup_cons.mp hl
    by_cases hj : j = k
    · subst hj
      exact ⟨d, refl d, hrest l hjl _⟩
    · obtain ⟨e, h1, h2⟩ := ih hl ((List.mem_cons.mp hk).resolve_left (Ne.symm hj)) (f d j)
      exact ⟨e, trans (hf d j hj) h1, h2⟩

/-! ## What a step touches -/

/-- From `d` to `e`, of the registers only those of `W` and those of events and records change, of the links only those of `L`;
whether the blocks run stays, and so do the pins; and what is pending stays so. -/
structure Dev.Touches (W : Nat → Prop) (L : Link → Prop) (d e : Dev) : Prop where
  regs : d.keepsRegs e W
  link : ∀ j, ¬L j → e.link j = d.link j
  boot : e.boot = d.boot
  pins : e.pins = d.pins
  pending : d.StillPending e

section Touches

variable {W : Nat → Prop} {L : Link → Prop}

theorem Dev.Touches.of_eq {d e : Dev} (hr : e.regs = d.regs) (hl : ∀ j, ¬L j → e.link j = d.link j) (hb : e.boot = d.boot)
    (hp : e.pins = d.pins) : Dev.Touches W L d e where
  regs a _ _ := by rw [Dev.rd, Dev.rd, hr]
  link := hl
  boot := hb
  pins := hp
  pending x _ hx := by rwa [Dev.evtPending, Dev.mbit, Dev.rd, hr]

theorem Dev.Touches.trans {d e g : Dev} (h1 : Dev.Touches W L d e) (h2 : Dev.Touches W L e g) : Dev.Touches W L d g where
  regs a ha he := (h2.regs a ha he).trans (h1.regs a ha he)
  link j hj := (h2.link j hj).trans (h1.link j hj)
  boot := h2.boot.trans h1.boot
  pins := h2.pins.trans h1.pins
  pending x hx hp := h2.pending x hx (h1.pending x hx hp)

theorem Dev.Touches.mono {d e : Dev} (h : Dev.Touches W L d e) {W' : Nat → Prop} {L' : Link → Prop} (hW : ∀ a, W a → W' a)
    (hL : ∀ j, L j → L' j) : Dev.Touches W' L' d e :=
  { h with regs := fun a ha he => h.regs a (fun hw => ha (hW a hw)) he, link := fun j hj => h.link j fun hl => hj (hL j hl) }

theorem Dev.touches_wr (d : Dev) {a : Nat} (v : Word) (hw : W a ∨ evtReg a = true) (hs : statReg a = false) :
    Dev.Touches W L d (d.wr a v) where
  regs b hb he := Dev.rd_wr_ne d v fun h => by
    subst h
    obtain hw | hw := hw
    · exact hb hw
    · rw [he] at hw; cases hw
  link _ _ := rfl
  boot := rfl
  pins := rfl
  pending := d.stillPending_wr v hs

theorem Dev.touches_setFld (d : Dev) {a : Nat} {f : Fld} (v : Nat) (hf : f.lo + f.w ≤ 16) (hw : W a) (hs : statReg a = false) :
    Dev.Touches W L d (d.setFld a f v) := by
  simp only [Dev.setFld, hf, ↓reduceIte]
  exact d.touches_wr _ (.inl hw) hs

theorem Dev.touches_modLoop (d : Dev) (n : Loop) (g : LoopSt → LoopSt) : Dev.Touches W L d (d.modLoop n g) :=
  .of_eq rfl (fun _ _ => rfl) rfl rfl

theorem touches_raise : RaiseClosed (Dev.Touches W L) where
  refl _ := .of_eq rfl (fun _ _ => rfl) rfl rfl
  trans := .trans
  recorder _ _ := .of_eq rfl (fun _ _ => rfl) rfl rfl
  nvCount _ _ _ := .of_eq rfl (fun _ _ => rfl) rfl rfl
  nvBytes _ _ _ := .of_eq rfl (fun _ _ => rfl) rfl rfl
  nvWrite _ _ _ := .of_eq rfl (fun _ _ => rfl) rfl rfl
  queue _ _ _ := .of_eq rfl (fun _ _ => rfl) rfl rfl
  wr d _ v he hs := d.touches_wr v (.inr he) hs
  stat d e he := { regs := fun a _ ha => (d.quiet_wr _ (evtReg_stat he)).2 a ha, link := fun _ _ => rfl, boot := rfl,
                   pins := rfl, pending := stillPending_closed.stat d e he }

theorem touches_hop (hW : ∀ a, hopReg a = true → W a) : HopClosed (Dev.Touches W L) where
  toRaiseClosed := touches_raise
  hopWr d a v ha := d.touches_wr v (.inl (hW a ha)) (statReg_of_hopReg ha)
  hopper _ _ := .of_eq rfl (fun _ _ => rfl) rfl rfl
  unqueue _ _ := .of_eq rfl (fun _ _ => rfl) rfl rfl

theorem statReg_LP_STATUS (n : Loop) : statReg (LP_STATUS n) = false := by revert n; decide

theorem touches_aim {n : Loop} (hW : W (LP_STATUS n)) : AimClosed n (Dev.Touches W L) where
  refl _ := .of_eq rfl (fun _ _ => rfl) rfl rfl
  trans := .trans
  loop d g := d.touches_modLoop n g
  state d v := d.touches_setFld v (by decide) hW (statReg_LP_STATUS n)
  settled d _ := d.touches_setFld _ (by decide) hW (statReg_LP_STATUS n)
  stepHold d _ := d.touches_setFld _ (by decide) hW (statReg_LP_STATUS n)

end Touches

namespace Dev.Touches

variable {W : Nat → Prop} {L : Link → Prop} {d e : Dev} (h : Dev.Touches W L d e)
include h

theorem rd {a : Nat} (ha : ¬W a) (he : evtReg a = false) : e.rd a = d.rd a := h.regs a ha he

theorem fld {a : Nat} (ha : ¬W a) (he : evtReg a = false) (f : Fld) (hf : f.lo + f.w ≤ 16) : e.fld a f = d.fld a f :=
  Dev.fld_of_rd f hf (h.rd ha he)

theorem flag {a : Nat} (ha : ¬W a) (he : evtReg a = false) (f : Fld) (hf : f.lo + f.w ≤ 16) : e.flag a f = d.flag a f := by
  rw [Dev.flag, Dev.flag, h.fld ha he f hf]

theorem blocksRun (ha : ¬W CFG_DSTATE) : e.blocksRun = d.blocksRun := by
  rw [Dev.blocksRun, Dev.blocksRun, Dev.latched, Dev.latched, Dev.dstate, Dev.dstate, h.boot, h.fld ha (by decide) _ (by decide)]

end Dev.Touches

/-! ## The registers of links -/

section LinkRegs

variable (k : Link) {b : Nat} (h : 0x2C00 ≤ b) (h2 : b < 0x2C40)
include h h2

theorem evtReg_link : evtReg (b + 0x40 * k.val) = false := by
  simp only [evtReg, EVT_STAT, KE_STICKY, KE_EVQOVCNT, REC_STATUS, REC_OLDEST, REC_DROPCNT, Bool.or_eq_false_iff,
    Bool.and_eq_false_iff, decide_eq_false_iff_not]
  omega

theorem statReg_link : statReg (b + 0x40 * k.val) = false := by
  simp only [statReg, EVT_STAT, Bool.and_eq_false_iff, decide_eq_false_iff_not]
  omega

end LinkRegs

theorem Dev.rd32_congr {d e : Dev} {a : Nat} (h : e.rd a = d.rd a) (h2 : e.rd (a + 2) = d.rd (a + 2)) : e.rd32 a = d.rd32 a := by
  rw [Dev.rd32, Dev.rd32, h, h2]

/-- The registers of loops, phases and the hopper. -/
def loopSide (a : Nat) : Prop := loopReg a = true ∨ hopReg a = true

theorem not_loopSide_link (k : Link) {b : Nat} (h : 0x2C00 ≤ b) : ¬loopSide (b + 0x40 * k.val) := by
  simp only [loopSide, loopReg, hopReg, Bool.and_eq_true, decide_eq_true_eq]
  omega

/-! ## Fields of a link's status -/

theorem Dev.fld_setFld_other (d : Dev) {a b : Nat} (f g : Fld) (v : Nat) (hf : f.lo + f.w ≤ 16) (hg : g.lo + g.w ≤ 16)
    (h : g.lo + g.w ≤ f.lo ∨ f.lo + f.w ≤ g.lo) : (d.setFld a f v).fld b g = d.fld b g := by
  by_cases hab : b = a
  · rw [hab, Dev.fld_setFld_disjoint d a f g v hf hg h]
  · exact Dev.fld_of_rd g hg (Dev.rd_setFld_ne d f v hf hab)

section Status

variable (d : Dev) (k : Link)

@[simp] theorem Dev.link_modLink_same (g : LinkSt → LinkSt) : (d.modLink k g).link k = g (d.link k) := by
  simp [Dev.link, Dev.modLink]

theorem Dev.link_modLink_ne {j : Link} (g : LinkSt → LinkSt) (h : j ≠ k) : (d.modLink k g).link j = d.link j := by
  have : k.val ≠ j.val := fun e => h (Fin.ext e.symm)
  simp [Dev.link, Dev.modLink, Vector.getElem_set_ne _ _ this]

theorem Dev.link_of_links {d e : Dev} (h : e.links = d.links) (j : Link) : e.link j = d.link j := by rw [Dev.link, Dev.link, h]

theorem Dev.vlState_setVlState {v : Nat} (hv : v < 4) : (d.setVlState k v).vlState k = v :=
  (Dev.fld_setFld_same d _ _ _ (by decide)).trans (Nat.mod_eq_of_lt hv)

/-- Attention is a field of its own. -/
theorem Dev.fld_syncAttn (a : Nat) (f : Fld) (hf : f.lo + f.w ≤ 16) (h : f.lo + f.w ≤ 5 ∨ 6 ≤ f.lo) :
    (d.syncAttn k).fld a f = d.fld a f :=
  Dev.fld_setFld_other d _ _ _ (by decide) hf h

theorem Dev.rd_syncAttn {a : Nat} (h : a ≠ VL_STATUS k) : (d.syncAttn k).rd a = d.rd a := Dev.rd_setFlag_ne d _ _ (by decide) h

@[simp] theorem Dev.links_syncAttn : (d.syncAttn k).links = d.links := Dev.setFlag_links ..

end Status

end Sys2Proof.Machine
end

section
/-!
What a link does on loss, and when it is disabled (R87 to R89).
-/

namespace Sys2Proof.Machine

open Sys2Proof Sys2Proof.R

/-! ## The mapping of rails (R81) -/

theorem Dev.railLoop_congr {d e : Dev} (hc : ∀ n : Loop, e.fld (LP_CFG n) LP_CFG.LINK = d.fld (LP_CFG n) LP_CFG.LINK ∧
      e.fld (LP_CFG n) LP_CFG.LINKRAIL = d.fld (LP_CFG n) LP_CFG.LINKRAIL)
    (hp : ∀ m : Phase, e.rd (PH_CFG m) = d.rd (PH_CFG m)) (k : Link) (r : Fin 4) : e.railLoop k r = d.railLoop k r := by
  have : (fun n => e.claims n k r) = fun n => d.claims n k r := funext fun n => by
    rw [Dev.claims, Dev.claims, (hc n).1, (hc n).2, Dev.phasesOf_congr n hp]
  rw [Dev.railLoop, Dev.railLoop, this]

/-- A loop is mapped to one rail of a link at most. -/
theorem Dev.rail_of_railLoop {d : Dev} {k : Link} {r : Fin 4} {n : Loop} (h : d.railLoop k r = some n) :
    d.fld (LP_CFG n) LP_CFG.LINKRAIL = r.val := by
  have := List.find?_some h
  simp only [Dev.claims, Bool.and_eq_true, decide_eq_true_eq] at this
  exact this.1.2

theorem loopReg_LP_CFG (n : Loop) : loopReg (LP_CFG n) = true := loopReg_loop n (by decide) (by decide)

/-- A step that touches no loop leaves the mapping. -/
theorem Dev.Touches.railLoop {W : Nat → Prop} {L : Link → Prop} {d e : Dev} (h : Dev.Touches W L d e)
    (hW : ∀ a, loopReg a = true → ¬W a) (k : Link) (r : Fin 4) : e.railLoop k r = d.railLoop k r := by
  have hl {a : Nat} (ha : loopReg a = true) : e.rd a = d.rd a := h.rd (hW a ha) (evtReg_of_loopReg ha)
  exact Dev.railLoop_congr (fun n => ⟨Dev.fld_of_rd _ (by decide) (hl (loopReg_LP_CFG n)),
    Dev.fld_of_rd _ (by decide) (hl (loopReg_LP_CFG n))⟩) (fun m => hl (loopReg_phase m (by decide) (by decide))) k r

/-! ## LOSSACT on one rail (R89) -/

/-- The registers of loop `n` that a loss of its link writes. -/
def lossReg (n : Loop) (a : Nat) : Prop := a = LP_CFG n ∨ a = LP_STATUS n ∨ setReg n a

section LossAct

variable (d : Dev) (k : Link) (r : Fin 4)

theorem Dev.rd_setTarget (n : Loop) (v : Nat) {a : Nat} (h : ¬setReg n a) (hs : a ≠ LP_STATUS n) (he : evtReg a = false) :
    (d.setTarget n v).2.rd a = d.rd a :=
  ((keeps_aim.newTarget _ _ : Dev.Keeps n (setReg n) aimFields _ _).rd a h hs he).trans ((d.keeps_setReady n v).rd a h hs he)

theorem Dev.touches_setTarget {L : Link → Prop} (n : Loop) (v : Nat) : Dev.Touches loopSide L d (d.setTarget n v).2 := by
  have hl {b : Nat} (h : 0x2000 ≤ b) (hb : b < 0x2080) : loopSide (b + 0x80 * n.val) := .inl (loopReg_loop n h hb)
  have hst {b : Nat} (h : 0x2000 ≤ b) (hb : b < 0x2080) : statReg (b + 0x80 * n.val) = false :=
    statReg_of_loopReg (loopReg_loop n h hb)
  have hfault (e : Dev) : Dev.Touches loopSide L e (e.spFault n) :=
    (e.touches_setFld _ (by decide) (hl (by decide) (by decide)) (hst (by decide) (by decide))).trans
      (touches_raise.raise _ (by have := n.isLt; omega))
  rw [Dev.setTarget_eq]
  refine .trans (.trans (.trans ?_ (touches_raise.when fun _ => hfault _))
    (Dev.touches_wr _ _ (.inl (hl (by decide) (by decide))) (hst (by decide) (by decide)))) ((touches_aim (hl (by decide) (by decide))).newTarget _ _)
  exact (touches_hop fun _ h => .inr h).endSetv d n 1

/-- What LOSSACT does to the mapped loop `n`, where its setpoint is the link's. -/
def Dev.lossOn (d : Dev) (k : Link) (r : Fin 4) (n : Loop) : Dev :=
  match d.fld (VL_CFG k) VL_CFG.LOSSACT with
  | 1 => (d.setTarget n (d.rn (VL_SAFEV k r))).2
  | 2 => (d.setFld (LP_CFG n) LP_CFG.SPSRC 1).evalCfgErr n
  | _ => d

theorem Dev.lossAct_of_mine {n : Loop} (h : d.railLoop k r = some n) (ho : d.fld (LP_CFG n) LP_CFG.SPSRC = 2) :
    d.lossAct k r = d.lossOn k r n := by
  unfold Dev.lossAct
  rw [h]
  dsimp only
  rw [if_neg (by simpa using ho)]
  rfl

theorem Dev.lossAct_of_not_mine (h : ∀ n, d.railLoop k r = some n → d.fld (LP_CFG n) LP_CFG.SPSRC ≠ 2) : d.lossAct k r = d := by
  unfold Dev.lossAct
  split
  · rfl
  · rw [if_pos (h _ ‹_›)]

/-- LOSSACT acts on the mapped loop, where its setpoint is the link's, or does nothing. -/
theorem Dev.lossAct_cases : (∃ n, d.railLoop k r = some n ∧ d.lossAct k r = d.lossOn k r n) ∨ d.lossAct k r = d := by
  by_cases h : ∃ n, d.railLoop k r = some n ∧ d.fld (LP_CFG n) LP_CFG.SPSRC = 2
  · obtain ⟨n, hn, ho⟩ := h
    exact .inl ⟨n, hn, d.lossAct_of_mine k r hn ho⟩
  · exact .inr (d.lossAct_of_not_mine k r fun n hn ho => h ⟨n, hn, ho⟩)

theorem Dev.touches_lossOn {L : Link → Prop} (n : Loop) : Dev.Touches loopSide L d (d.lossOn k r n) := by
  have hl (a : Nat) (h : loopReg a = true) : loopSide a ∧ statReg a = false := ⟨.inl h, statReg_of_loopReg h⟩
  unfold Dev.lossOn
  split
  · exact d.touches_setTarget n _
  · exact (d.touches_setFld (f := LP_CFG.SPSRC) _ (by decide) (hl _ (loopReg_LP_CFG n)).1 (hl _ (loopReg_LP_CFG n)).2).trans
      (Dev.touches_setFld _ (f := LP_STATUS.CFGERR) _ (by decide) (hl _ (loopReg_LP_STATUS n)).1 (hl _ (loopReg_LP_STATUS n)).2)
  · exact touches_raise.refl d

theorem Dev.touches_lossAct {L : Link → Prop} : Dev.Touches loopSide L d (d.lossAct k r) := by
  obtain ⟨n, _, h⟩ | h := d.lossAct_cases k r
  · rw [h]
    exact d.touches_lossOn k r n
  · rw [h]
    exact touches_raise.refl d

theorem Dev.rd_lossOn (n : Loop) {a : Nat} (h : ¬lossReg n a) (he : evtReg a = false) : (d.lossOn k r n).rd a = d.rd a := by
  simp only [lossReg, not_or] at h
  obtain ⟨hc, hs, hset⟩ := h
  unfold Dev.lossOn
  split
  · exact d.rd_setTarget n _ hset hs he
  · rw [Dev.rd_evalCfgErr _ n hs, Dev.rd_setFld_ne _ _ _ (by decide) hc]
  · rfl

theorem Dev.rd_lossAct {a : Nat} (h : ∀ n, d.railLoop k r = some n → ¬lossReg n a) (he : evtReg a = false) :
    (d.lossAct k r).rd a = d.rd a := by
  obtain ⟨n, hn, hl⟩ | hl := d.lossAct_cases k r
  · rw [hl, d.rd_lossOn k r n (h n hn) he]
  · rw [hl]

/-- Of LP_CFG a loss writes SPSRC alone. -/
theorem Dev.fld_LP_CFG_lossAct (n : Loop) (f : Fld) (hf : f.lo + f.w ≤ 16)
    (h : f.lo + f.w ≤ LP_CFG.SPSRC.lo ∨ LP_CFG.SPSRC.lo + LP_CFG.SPSRC.w ≤ f.lo) :
    (d.lossAct k r).fld (LP_CFG n) f = d.fld (LP_CFG n) f := by
  have hne (j : Loop) : LP_CFG n ≠ LP_STATUS j := by simp only [LP_CFG, LP_STATUS]; omega
  have hset (j : Loop) : ¬setReg j (LP_CFG n) := by
    simp only [setReg, LP_CFG, LP_VSET, LP_STICKY, hopReg, Bool.and_eq_true, decide_eq_true_eq]
    omega
  obtain ⟨j, _, hl⟩ | hl := d.lossAct_cases k r
  · rw [hl]
    unfold Dev.lossOn
    split
    · exact Dev.fld_of_rd f hf (d.rd_setTarget j _ (hset j) (hne j) (evtReg_of_loopReg (loopReg_LP_CFG n)))
    · exact (Dev.fld_of_rd f hf (Dev.rd_evalCfgErr _ j (hne j))).trans (d.fld_setFld_other _ f _ (by decide) hf h)
    · rfl
  · rw [hl]

theorem Dev.railLoop_lossAct (j : Link) (i : Fin 4) : (d.lossAct k r).railLoop j i = d.railLoop j i :=
  Dev.railLoop_congr (fun n => ⟨d.fld_LP_CFG_lossAct k r n _ (by decide) (by decide), d.fld_LP_CFG_lossAct k r n _ (by decide) (by decide)⟩)
    (fun m => d.rd_lossAct k r (fun n _ => by
      simp only [lossReg, setReg, PH_CFG, LP_CFG, LP_STATUS, LP_VSET, LP_STICKY, hopReg, Bool.and_eq_true, decide_eq_true_eq]
      omega) (evtReg_of_loopReg (loopReg_phase m (by decide) (by decide)))) j i

end LossAct

/-! ## What a loss makes of the loops of a link -/

/-- What the loss of link `k` in `d` has made of the loop `n` of its rail `r`, whose setpoint is the link's. -/
structure Dev.LossDone (k : Link) (r : Fin 4) (n : Loop) (d e : Dev) : Prop where
  program : d.fld (VL_CFG k) VL_CFG.LOSSACT = 2 → e.fld (LP_CFG n) LP_CFG.SPSRC = 1
  hold : d.fld (VL_CFG k) VL_CFG.LOSSACT = 0 → e.rd (LP_VSET n) = d.rd (LP_VSET n) ∧ e.fld (LP_CFG n) LP_CFG.SPSRC = 2
  safe : d.fld (VL_CFG k) VL_CFG.LOSSACT = 1 → d.rn (LP_VMIN n) ≤ d.rn (VL_SAFEV k r) →
    d.rn (VL_SAFEV k r) ≤ d.rn (LP_VMAX n) → e.rd (LP_VSET n) = d.rd (VL_SAFEV k r)

/-- The settings that a loss of link `k` reads of loop `n` and of itself. -/
def lossSetting (k : Link) (n : Loop) (a : Nat) : Prop :=
  a = LP_VSET n ∨ a = LP_CFG n ∨ a = LP_VMIN n ∨ a = LP_VMAX n ∨ a = VL_CFG k ∨ ∃ r : Fin 4, a = VL_SAFEV k r

namespace Dev.LossDone

variable {k : Link} {r : Fin 4} {n : Loop} {d e f : Dev}

theorem of_start (hd : ∀ a, lossSetting k n a → d.rd a = f.rd a) (h : Dev.LossDone k r n d e) : Dev.LossDone k r n f e := by
  have hact : d.fld (VL_CFG k) VL_CFG.LOSSACT = f.fld (VL_CFG k) VL_CFG.LOSSACT :=
    Dev.fld_of_rd _ (by decide) (hd _ (by simp [lossSetting]))
  obtain ⟨hp, hh, hs⟩ := h
  simp only [hact, hd _ (show lossSetting k n (LP_VSET n) by simp [lossSetting]), Dev.rn,
    hd _ (show lossSetting k n (LP_VMIN n) by simp [lossSetting]), hd _ (show lossSetting k n (LP_VMAX n) by simp [lossSetting]),
    hd _ (show lossSetting k n (VL_SAFEV k r) from .inr (.inr (.inr (.inr (.inr ⟨r, rfl⟩)))))] at hp hh hs
  exact ⟨hp, hh, hs⟩

theorem of_end (hv : f.rd (LP_VSET n) = e.rd (LP_VSET n)) (hc : f.rd (LP_CFG n) = e.rd (LP_CFG n)) (h : Dev.LossDone k r n d e) :
    Dev.LossDone k r n d f where
  program ha := (Dev.fld_of_rd _ (by decide) hc).trans (h.program ha)
  hold ha := ⟨hv.trans (h.hold ha).1, (Dev.fld_of_rd _ (by decide) hc).trans (h.hold ha).2⟩
  safe ha h1 h2 := hv.trans (h.safe ha h1 h2)

end Dev.LossDone

theorem Dev.rd_VSET_setTarget (d : Dev) (n : Loop) (v : Word) (h1 : d.rn (LP_VMIN n) ≤ v.toNat) (h2 : v.toNat ≤ d.rn (LP_VMAX n)) :
    (d.setTarget n v.toNat).2.rd (LP_VSET n) = v := by
  have hc : d.clampSet n v.toNat = v.toNat := by rw [Dev.clampSet, if_neg (by omega), if_neg (by omega)]
  have hv := (d.takes_newTarget n v.isLt).vset
  rw [hc] at hv
  rw [Dev.setTarget_eq, hc]
  exact BitVec.eq_of_toNat_eq hv

/-- On the loop that it acts on, LOSSACT does what R89 says. -/
theorem Dev.lossDone_lossAct (d : Dev) (k : Link) (r : Fin 4) (n : Loop) (h : d.railLoop k r = some n)
    (ho : d.fld (LP_CFG n) LP_CFG.SPSRC = 2) : Dev.LossDone k r n d (d.lossAct k r) := by
  rw [d.lossAct_of_mine k r h ho]
  refine ⟨fun ha => ?_, fun ha => ?_, fun ha h1 h2 => ?_⟩
  · rw [Dev.lossOn, ha]
    refine (Dev.fld_of_rd _ (by decide) (Dev.rd_evalCfgErr _ n ?_)).trans (Dev.fld_setFld_same d _ _ _ (by decide))
    simp only [LP_CFG, LP_STATUS]
    omega
  · rw [Dev.lossOn, ha]
    exact ⟨rfl, ho⟩
  · rw [Dev.lossOn, ha]
    exact d.rd_VSET_setTarget n _ h1 h2

theorem not_lossReg_of_setting {k : Link} {n j : Loop} {a : Nat} (hj : j ≠ n) (ha : lossSetting k n a) : ¬lossReg j a := by
  have hjn : j.val ≠ n.val := fun e => hj (Fin.ext e)
  have hk := k.isLt
  have hnl := n.isLt
  have hjl := j.isLt
  obtain rfl | rfl | rfl | rfl | rfl | ⟨r, rfl⟩ := ha <;>
    simp only [lossReg, setReg, LP_CFG, LP_STATUS, LP_VSET, LP_STICKY, LP_VMIN, LP_VMAX, VL_CFG, VL_SAFEV, hopReg,
      Bool.and_eq_true, decide_eq_true_eq] <;> omega

theorem evtReg_of_setting {k : Link} {n : Loop} {a : Nat} (ha : lossSetting k n a) : evtReg a = false := by
  have hloop {b : Nat} (h : 0x2000 ≤ b) (hb : b < 0x2080) : evtReg (b + 0x80 * n.val) = false :=
    evtReg_of_loopReg (loopReg_loop n h hb)
  obtain rfl | rfl | rfl | rfl | rfl | ⟨r, rfl⟩ := ha
  · exact hloop (by decide) (by decide)
  · exact hloop (by decide) (by decide)
  · exact hloop (by decide) (by decide)
  · exact hloop (by decide) (by decide)
  · exact evtReg_link k (by decide) (by decide)
  · rw [VL_SAFEV, Nat.add_right_comm]
    exact evtReg_link k (by omega) (by omega)

section Rails

variable {k : Link} {r : Fin 4} {n : Loop}

/-- LOSSACT on one rail leaves the loop of another. -/
theorem Dev.rd_lossAct_other (d : Dev) {i : Fin 4} (h : d.railLoop k r = some n) (hi : i ≠ r) {a : Nat} (ha : lossSetting k n a) :
    (d.lossAct k i).rd a = d.rd a := by
  refine d.rd_lossAct k i (fun j hj => not_lossReg_of_setting (fun hjn => hi ?_) ha) (evtReg_of_setting ha)
  rw [hjn] at hj
  exact Fin.ext ((Dev.rail_of_railLoop hj).symm.trans (Dev.rail_of_railLoop h))

/-- LOSSACT acts rail by rail, on each loop for its own. -/
theorem Dev.lossDone_foldl (l : List (Fin 4)) (hl : l.Nodup) (hr : r ∈ l) (d : Dev) (h : d.railLoop k r = some n)
    (ho : d.fld (LP_CFG n) LP_CFG.SPSRC = 2) : Dev.LossDone k r n d (l.foldl (·.lossAct k ·) d) := by
  obtain ⟨e, ⟨hmap, hbefore⟩, hafter⟩ := foldl_at (R := fun d e => e.railLoop k r = d.railLoop k r ∧
      (d.railLoop k r = some n → ∀ a, lossSetting k n a → e.rd a = d.rd a)) (f := fun d i => d.lossAct k i) hl hr d
    (fun _ => ⟨rfl, fun _ _ _ => rfl⟩)
    (fun h1 h2 => ⟨h2.1.trans h1.1, fun h a ha => (h2.2 (h1.1.trans h) a ha).trans (h1.2 h a ha)⟩)
    (fun e i hi => ⟨e.railLoop_lossAct k i k r, fun h a ha => e.rd_lossAct_other h hi ha⟩)
  have hrest {a : Nat} := hafter.2 ((e.railLoop_lossAct k r k r).trans (hmap.trans h)) a
  refine .of_start (hbefore h) (.of_end (hrest (.inl rfl)) (hrest (.inr (.inl rfl)))
    (e.lossDone_lossAct k r n (hmap.trans h) ?_))
  rw [Dev.fld_of_rd _ (by decide) (hbefore h _ (.inr (.inl rfl))), ho]

end Rails

/-! ## The small steps of a link -/

section Steps

variable {k : Link} {W : Nat → Prop} {L : Link → Prop} (d : Dev)

/-- A write of a field of a register of the link. -/
theorem Dev.touches_linkFld {b : Nat} (f : Fld) (v : Nat) (hf : f.lo + f.w ≤ 16) (hW : W (b + 0x40 * k.val)) (h : 0x2C00 ≤ b)
    (h2 : b < 0x2C40) : Dev.Touches W L d (d.setFld (b + 0x40 * k.val) f v) :=
  d.touches_setFld v hf hW (statReg_link k h h2)

theorem Dev.touches_status (f : Fld) (v : Nat) (hf : f.lo + f.w ≤ 16) (hW : W (VL_STATUS k)) :
    Dev.Touches W L d (d.setFld (VL_STATUS k) f v) := d.touches_linkFld f v hf hW (by decide) (by decide)

theorem Dev.touches_syncAttn (hW : W (VL_STATUS k)) : Dev.Touches W L d (d.syncAttn k) :=
  d.touches_status VL_STATUS.ATTN _ (by decide) hW

theorem Dev.touches_setAck (v : Nat) (hW : W (VL_THRSTAT k)) : Dev.Touches W L d (d.setAck k v) :=
  (d.touches_linkFld VL_THRSTAT.ACK v (by decide) hW (by decide) (by decide)).trans
    (Dev.touches_linkFld _ VL_THRSTAT.PEND _ (by decide) hW (by decide) (by decide))

theorem Dev.touches_modLink (g : LinkSt → LinkSt) (hL : L k) : Dev.Touches W L d (d.modLink k g) :=
  .of_eq rfl (fun _ hj => d.link_modLink_ne k g fun h => hj (h ▸ hL)) rfl rfl

theorem Dev.thrAck_setAck {v : Nat} (hv : v < 4) : (d.setAck k v).thrAck k = v := by
  refine (Dev.fld_setFld_other _ _ _ _ (by decide) (by decide) (by decide)).trans ?_
  exact (Dev.fld_setFld_same d _ _ _ (by decide)).trans (Nat.mod_eq_of_lt hv)

@[simp] theorem Dev.links_setAck (v : Nat) : (d.setAck k v).links = d.links := by simp [Dev.setAck]

end Steps

/-! ## Loss, and the disabling of a link -/

/-- The registers that the loss of link `k` may write. -/
def lossSide (k : Link) (a : Nat) : Prop := a = VL_STATUS k ∨ a = VL_STICKY k ∨ a = VL_THRSTAT k ∨ loopSide a

/-- Another register of a link is none of them. -/
theorem not_lossSide_link (k j : Link) {b : Nat} (h : 0x2C00 ≤ b) (h2 : b < 0x2C40) (hb : j ≠ k ∨ b ∉ [0x2C16, 0x2C1A, 0x2C18]) :
    ¬lossSide k (b + 0x40 * j.val) := by
  have hside := not_loopSide_link j h
  replace hb := hb.imp_left Fin.val_ne_of_ne
  simp only [List.mem_cons, List.not_mem_nil, or_false] at hb
  simp only [lossSide, VL_STATUS, VL_STICKY, VL_THRSTAT, not_or]
  refine ⟨?_, ?_, ?_, hside⟩ <;> omega

section Loss

variable (d : Dev) (k : Link)

/-- The link's own part of a loss: ACK and the history are cleared. -/
def Dev.lossReset (d : Dev) (k : Link) : Dev := (d.setAck k 0).modLink k fun x => { x with stored := none }

theorem Dev.lossActions_eq : d.lossActions k = (List.finRange 4).foldl (·.lossAct k ·) (d.lossReset k) := rfl

theorem Dev.touches_lossReset {W : Nat → Prop} (hW : W (VL_THRSTAT k)) : Dev.Touches W (· = k) d (d.lossReset k) :=
  (d.touches_setAck 0 hW).trans (Dev.touches_modLink _ _ rfl)

/-- The rails' part of a loss touches no link. -/
theorem Dev.touches_lossRails : Dev.Touches loopSide (fun _ => False) (d.lossReset k) (d.lossActions k) := by
  rw [Dev.lossActions_eq]
  exact touches_raise.foldl _ _ _ fun e i _ => e.touches_lossAct k i

theorem Dev.touches_lossActions : Dev.Touches (fun a => a = VL_THRSTAT k ∨ loopSide a) (· = k) d (d.lossActions k) :=
  (d.touches_lossReset k (.inl rfl)).trans ((d.touches_lossRails k).mono (fun _ h => .inr h) fun _ h => h.elim)

theorem Dev.link_lossActions : (d.lossActions k).link k = { d.link k with stored := none } := by
  rw [(d.touches_lossRails k).link k not_false, Dev.lossReset, Dev.link_modLink_same, Dev.link_of_links (d.links_setAck 0)]

theorem Dev.thrAck_lossActions : (d.lossActions k).thrAck k = 0 :=
  ((d.touches_lossRails k).fld (not_loopSide_link k (by decide)) (evtReg_link k (by decide) (by decide)) _ (by decide)).trans
    (d.thrAck_setAck (by decide))

/-- A loss leaves the status of its link. -/
theorem Dev.rd_status_lossActions : (d.lossActions k).rd (VL_STATUS k) = d.rd (VL_STATUS k) := by
  refine (d.touches_lossActions k).rd ?_ (evtReg_link k (by decide) (by decide))
  rintro (h | h)
  · simp only [VL_STATUS, VL_THRSTAT] at h
    omega
  · exact not_loopSide_link k (by decide) h

theorem Dev.lossDone_lossActions {r : Fin 4} {n : Loop} (h : d.railLoop k r = some n) (ho : d.fld (LP_CFG n) LP_CFG.SPSRC = 2) :
    Dev.LossDone k r n d (d.lossActions k) := by
  have hrs := d.touches_lossReset k (W := (· = VL_THRSTAT k)) rfl
  have hset {a : Nat} (ha : lossSetting k n a) : (d.lossReset k).rd a = d.rd a := by
    refine hrs.rd ?_ (evtReg_of_setting ha)
    obtain rfl | rfl | rfl | rfl | rfl | ⟨i, rfl⟩ := ha <;>
      simp only [LP_CFG, LP_VSET, LP_VMIN, LP_VMAX, VL_CFG, VL_SAFEV, VL_THRSTAT] <;> omega
  refine .of_start (fun a => hset) (Dev.lossDone_foldl _ (List.nodup_finRange 4) (List.mem_finRange r) _ ?_ ?_)
  · refine (hrs.railLoop (fun a ha hk => ?_) k r).trans h
    subst hk
    exact not_loopSide_link k (b := 0x2C18) (by decide) (.inl ha)
  · rw [Dev.fld_of_rd _ (by decide) (hset (.inr (.inl rfl))), ho]

/-! ## A link that is disabled (R87, R89) -/

/-- The link stands DISABLED, and its loops have been told if it was UP. -/
def Dev.linkDropped (d : Dev) (k : Link) : Dev :=
  ((d.setVlState k vlDisabled).modLink k fun x => { x with disPend := false }).when (d.vlState k = vlUp) (·.lossActions k)

theorem Dev.disableLink_eq : d.disableLink k = ((d.linkDropped k).setAck k 0).syncAttn k := rfl

theorem Dev.linkDropped_cases : d.linkDropped k = (d.setVlState k vlDisabled).modLink k (fun x => { x with disPend := false }) ∧
      d.vlState k ≠ vlUp ∨
    d.linkDropped k = ((d.setVlState k vlDisabled).modLink k fun x => { x with disPend := false }).lossActions k := by
  unfold Dev.linkDropped Dev.when
  by_cases h : d.vlState k = vlUp <;> simp [h]

theorem Dev.rd_status_linkDropped : (d.linkDropped k).rd (VL_STATUS k) = (d.setVlState k vlDisabled).rd (VL_STATUS k) := by
  obtain ⟨h, _⟩ | h := d.linkDropped_cases k
  · rw [h, Dev.rd_modLink]
  · rw [h, Dev.rd_status_lossActions, Dev.rd_modLink]

theorem Dev.link_linkDropped : ((d.linkDropped k).link k).disPend = false ∧
    (d.vlState k = vlUp → ((d.linkDropped k).link k).stored = none) := by
  obtain ⟨h, hup⟩ | h := d.linkDropped_cases k
  · rw [h, Dev.link_modLink_same]
    exact ⟨rfl, fun h => absurd h hup⟩
  · rw [h, Dev.link_lossActions, Dev.link_modLink_same]
    exact ⟨rfl, fun _ => rfl⟩

theorem Dev.touches_linkDropped : Dev.Touches (lossSide k) (· = k) d (d.linkDropped k) := by
  have hset := (d.touches_status VL_STATUS.STATE vlDisabled (by decide) (W := lossSide k) (.inl rfl)).trans
    (Dev.touches_modLink (L := (· = k)) _ (fun x => { x with disPend := false }) rfl)
  obtain ⟨h, _⟩ | h := d.linkDropped_cases k
  · rw [h]
    exact hset
  · rw [h]
    exact hset.trans ((Dev.touches_lossActions _ k).mono (fun a ha => ha.elim (fun h => .inr (.inr (.inl h))) fun h =>
      .inr (.inr (.inr h))) fun _ h => h)

/-- What the disabling of link `k` makes of a device. -/
structure Dev.LinkOff (k : Link) (d e : Dev) : Prop where
  state : e.vlState k = vlDisabled
  ack : e.thrAck k = 0
  pend : (e.link k).disPend = false
  stored : d.vlState k = vlUp → (e.link k).stored = none
  frame : e.flag (VL_STATUS k) VL_STATUS.FRAME = d.flag (VL_STATUS k) VL_STATUS.FRAME
  touches : Dev.Touches (lossSide k) (· = k) d e

theorem Dev.linkOff_disableLink : Dev.LinkOff k d (d.disableLink k) := by
  have hne : VL_STATUS k ≠ VL_THRSTAT k := by simp only [VL_STATUS, VL_THRSTAT]; omega
  have hack (e : Dev) : (e.setAck k 0).rd (VL_STATUS k) = e.rd (VL_STATUS k) :=
    (e.touches_setAck (W := (· = VL_THRSTAT k)) (L := fun _ => False) 0 rfl).rd hne (evtReg_link k (by decide) (by decide))
  have hfld (f : Fld) (hf : f.lo + f.w ≤ 16) (ha : f.lo + f.w ≤ 5 ∨ 6 ≤ f.lo) :
      (d.disableLink k).fld (VL_STATUS k) f = (d.setVlState k vlDisabled).fld (VL_STATUS k) f := by
    rw [Dev.disableLink_eq, Dev.fld_syncAttn _ _ _ _ hf ha, Dev.fld_of_rd f hf (hack _),
      Dev.fld_of_rd f hf (d.rd_status_linkDropped k)]
  have hlink : (d.disableLink k).link k = (d.linkDropped k).link k :=
    Dev.link_of_links ((Dev.links_syncAttn ..).trans (Dev.links_setAck ..)) k
  refine ⟨(hfld _ (by decide) (by decide)).trans (d.vlState_setVlState k (by decide)), ?_, ?_, ?_, ?_, ?_⟩
  · exact (Dev.fld_syncAttn _ _ _ _ (by decide) (by decide)).trans (Dev.thrAck_setAck _ (by decide))
  · rw [hlink]
    exact (d.link_linkDropped k).1
  · rw [hlink]
    exact (d.link_linkDropped k).2
  · rw [Dev.flag, Dev.flag, hfld _ (by decide) (by decide), Dev.setVlState,
      Dev.fld_setFld_other _ _ _ _ (by decide) (by decide) (by decide)]
  · exact ((d.touches_linkDropped k).trans (Dev.touches_setAck _ 0 (.inr (.inr (.inl rfl))))).trans
      (Dev.touches_syncAttn _ (.inl rfl))

/-! ## The end of a frame (R73, R84, R87) -/

/-- The frame is over, and the disable that waits for it is still to come. -/
def Dev.frameOver (d : Dev) (k : Link) : Dev := (d.setFlag (VL_STATUS k) VL_STATUS.FRAME false).syncAttn k

theorem Dev.endFrame_of_idle (h : d.flag (VL_STATUS k) VL_STATUS.FRAME = false) : d.endFrame k = d := by
  simp [Dev.endFrame, h]

theorem Dev.endFrame_of_busy (h : d.flag (VL_STATUS k) VL_STATUS.FRAME = true) :
    d.endFrame k = (d.frameOver k).when (d.link k).disPend (·.disableLink k) := by
  have : ((d.frameOver k).link k) = d.link k := Dev.link_of_links (by simp [Dev.frameOver]) k
  rw [← this]
  simp [Dev.endFrame, h, Dev.frameOver]

theorem Dev.frame_frameOver : (d.frameOver k).flag (VL_STATUS k) VL_STATUS.FRAME = false := by
  rw [Dev.flag, Dev.frameOver, Dev.fld_syncAttn _ _ _ _ (by decide) (by decide)]
  exact Dev.flag_setFlag_same d _ _ _ (by decide) (by decide)

theorem Dev.vlState_frameOver : (d.frameOver k).vlState k = d.vlState k :=
  (Dev.fld_syncAttn _ _ _ _ (by decide) (by decide)).trans (Dev.fld_setFld_other _ _ _ _ (by decide) (by decide) (by decide))

theorem Dev.touches_frameOver {W : Nat → Prop} {L : Link → Prop} (hW : W (VL_STATUS k)) : Dev.Touches W L d (d.frameOver k) :=
  (d.touches_status VL_STATUS.FRAME _ (by decide) hW).trans (Dev.touches_syncAttn _ hW)

/-- The end of a frame touches its own link and the loops. -/
theorem Dev.touches_endFrame : Dev.Touches (lossSide k) (· = k) d (d.endFrame k) := by
  by_cases h : d.flag (VL_STATUS k) VL_STATUS.FRAME = true
  · rw [d.endFrame_of_busy k h]
    exact (d.touches_frameOver k (.inl rfl)).trans (touches_raise.when fun _ => (Dev.linkOff_disableLink _ k).touches)
  · rw [d.endFrame_of_idle k (Bool.eq_false_iff.mpr h)]
    exact touches_raise.refl d

theorem Dev.frame_endFrame : (d.endFrame k).flag (VL_STATUS k) VL_STATUS.FRAME = false := by
  by_cases h : d.flag (VL_STATUS k) VL_STATUS.FRAME = true
  · rw [d.endFrame_of_busy k h, Dev.when]
    split
    · exact (Dev.linkOff_disableLink _ k).frame.trans (d.frame_frameOver k)
    · exact d.frame_frameOver k
  · rw [d.endFrame_of_idle k (Bool.eq_false_iff.mpr h)]
    exact Bool.eq_false_iff.mpr h

/-- The disable that waits for the frame acts at its end. -/
theorem Dev.linkOff_endFrame (h : d.flag (VL_STATUS k) VL_STATUS.FRAME = true) (hp : (d.link k).disPend = true) :
    Dev.LinkOff k (d.frameOver k) (d.endFrame k) := by
  rw [d.endFrame_of_busy k h, hp]
  exact Dev.linkOff_disableLink _ k

end Loss

end Sys2Proof.Machine
end

section
/-!
VIO and the test access port (R84, R87, R438, R450, R451).
-/

namespace Sys2Proof.Machine

open Sys2Proof Sys2Proof.R

/-! ## Links without VIO (R69, R87, R451) -/

/-- One link goes quiet. -/
def Dev.linkQuiet (d : Dev) (k : Link) : Dev := (d.endFrame k).setFlag (VL_STATUS k) VL_STATUS.ATTN false

theorem Dev.linksQuiet_eq (d : Dev) : d.linksQuiet = (List.finRange 4).foldl Dev.linkQuiet d := rfl

section LinksQuiet

variable (d : Dev) (k : Link)

theorem Dev.touches_linkQuiet : Dev.Touches (lossSide k) (· = k) d (d.linkQuiet k) :=
  (d.touches_endFrame k).trans (Dev.touches_status _ VL_STATUS.ATTN _ (by decide) (.inl rfl))

theorem Dev.pins_linksQuiet : d.linksQuiet.pins = d.pins := by
  rw [Dev.linksQuiet_eq]
  exact ((touches_raise (W := fun _ => True) (L := fun _ => True)).foldl _ _ d fun e j _ =>
    (e.touches_linkQuiet j).mono (fun _ _ => trivial) fun _ _ => trivial).pins

/-- From `d` to `e` the status of link `k`, and what its registers do not show, stay. -/
def Dev.SparesLink (k : Link) (d e : Dev) : Prop := e.rd (VL_STATUS k) = d.rd (VL_STATUS k) ∧ e.link k = d.link k

theorem Dev.sparesLink_linkQuiet {j : Link} (h : j ≠ k) : Dev.SparesLink k d (d.linkQuiet j) :=
  ⟨(d.touches_linkQuiet j).rd (not_lossSide_link j k (by decide) (by decide) (.inl (Ne.symm h))) (evtReg_link k (by decide) (by decide)),
    (d.touches_linkQuiet j).link k (Ne.symm h)⟩

/-- A quiet link shows neither a frame nor attention, and the disable that waited for the frame has acted. -/
structure Dev.Hushed (k : Link) (d e : Dev) : Prop where
  frame : e.flag (VL_STATUS k) VL_STATUS.FRAME = false
  attn : e.flag (VL_STATUS k) VL_STATUS.ATTN = false
  state : d.flag (VL_STATUS k) VL_STATUS.FRAME = true → (d.link k).disPend = true → e.vlState k = vlDisabled

theorem Dev.Hushed.congr {k : Link} {d e d' e' : Dev} (h : Dev.Hushed k d e) (hd : Dev.SparesLink k d' d)
    (he : e'.rd (VL_STATUS k) = e.rd (VL_STATUS k)) : Dev.Hushed k d' e' := by
  have hflag (f : Fld) (hf : f.lo + f.w ≤ 16) : e'.flag (VL_STATUS k) f = e.flag (VL_STATUS k) f := by
    rw [Dev.flag, Dev.flag, Dev.fld_of_rd f hf he]
  refine ⟨(hflag _ (by decide)).trans h.frame, (hflag _ (by decide)).trans h.attn, fun hb hp => ?_⟩
  refine (Dev.fld_of_rd _ (by decide) he).trans (h.state ?_ (hd.2 ▸ hp))
  rw [Dev.flag, Dev.fld_of_rd _ (by decide) hd.1]
  exact hb

theorem Dev.hushed_linkQuiet : Dev.Hushed k d (d.linkQuiet k) := by
  have hattn (f : Fld) (hf : f.lo + f.w ≤ 16) (h : f.lo + f.w ≤ 5 ∨ 6 ≤ f.lo) :
      (d.linkQuiet k).fld (VL_STATUS k) f = (d.endFrame k).fld (VL_STATUS k) f :=
    Dev.fld_setFld_other _ _ _ _ (by decide) hf h
  refine ⟨?_, Dev.flag_setFlag_same _ _ _ _ (by decide) (by decide), fun hb hp => ?_⟩
  · rw [Dev.flag, hattn _ (by decide) (by decide)]
    exact d.frame_endFrame k
  · exact (hattn _ (by decide) (by decide)).trans (d.linkOff_endFrame k hb hp).state

theorem Dev.hushed_linksQuiet : Dev.Hushed k d d.linksQuiet := by
  obtain ⟨e, hbefore, hafter⟩ := foldl_at (R := Dev.SparesLink k) (f := Dev.linkQuiet) (List.nodup_finRange 4)
    (List.mem_finRange k) d (fun _ => ⟨rfl, rfl⟩) (fun h1 h2 => ⟨h2.1.trans h1.1, h2.2.trans h1.2⟩)
    fun e j hj => e.sparesLink_linkQuiet k hj
  exact (e.hushed_linkQuiet k).congr hbefore hafter.1

end LinksQuiet

/-! ## Ports without VIO (R451) -/

/-- One port goes quiet. -/
def Dev.portQuiet (d : Dev) (p : Port) : Dev := (d.holdSda p false).setFlag (HP_STATUS p) HP_STATUS.XFER false

/-- What the ports hold of their transactions is given up. -/
def Dev.portsIdle (d : Dev) : Dev := { d with ports := d.ports.map PortSt.quiet }

theorem Dev.portsQuiet_eq (d : Dev) : d.portsQuiet = (List.finRange 3).foldl Dev.portQuiet d.portsIdle := rfl

theorem Dev.onlyRegs_portQuiet (d : Dev) (p : Port) : d.onlyRegs (d.portQuiet p) (· = HP_STATUS p) :=
  (((d.onlyRegs_setFlag (HP_STATUS p) HP_STATUS.ATNHOLD false (by decide)).trans
    (Dev.onlyRegs_setFlag _ (HP_STATUS p) HP_STATUS.BUSY false (by decide))).trans
      (Dev.onlyRegs_setFlag _ (HP_STATUS p) HP_STATUS.XFER false (by decide))).mono fun _ h => h.elim (·.elim id id) id

theorem Dev.onlyRegs_foldl {α : Type} {f : Dev → α → Dev} {K : Nat → Prop} (hf : ∀ e x, Dev.onlyRegs e (f e x) K) (l : List α)
    (d : Dev) : d.onlyRegs (l.foldl f d) K := by
  induction l generalizing d with
  | nil => exact ⟨fun _ _ => rfl, rfl⟩
  | cons x l ih => exact ((hf d x).trans (ih _)).mono fun _ h => h.elim id id

theorem Dev.onlyRegs.pins {d e : Dev} {K : Nat → Prop} (h : d.onlyRegs e K) : e.pins = d.pins := by
  have := congrArg Dev.pins h.2
  exact this

/-- The ports write their own status alone. -/
theorem Dev.onlyRegs_portsQuiet (d : Dev) :
    d.portsIdle.onlyRegs d.portsQuiet (fun a => ∃ p : Port, a = HP_STATUS p) :=
  Dev.onlyRegs_foldl (fun e p => (e.onlyRegs_portQuiet p).mono fun _ h => ⟨p, h⟩) _ _

theorem Dev.pins_portsQuiet (d : Dev) : d.portsQuiet.pins = d.pins := d.onlyRegs_portsQuiet.pins

theorem Dev.rd_status_portsQuiet (d : Dev) (k : Link) : d.portsQuiet.rd (VL_STATUS k) = d.rd (VL_STATUS k) :=
  d.onlyRegs_portsQuiet.1 _ fun ⟨p, h⟩ => by
    simp only [VL_STATUS, HP_STATUS] at h
    omega

theorem HP_STATUS_inj : ∀ {p q : Port}, HP_STATUS p = HP_STATUS q → p = q := by decide

/-- A quiet port holds no attention and has no transaction. -/
theorem Dev.flags_portQuiet (d : Dev) (p : Port) : (d.portQuiet p).flag (HP_STATUS p) HP_STATUS.ATNHOLD = false ∧
    (d.portQuiet p).flag (HP_STATUS p) HP_STATUS.XFER = false := by
  refine ⟨?_, Dev.flag_setFlag_same _ _ _ _ (by decide) (by decide)⟩
  rw [Dev.portQuiet, Dev.flag_setFlag_disjoint _ _ _ _ _ (by decide) (by decide) (by decide), Dev.holdSda,
    Dev.flag_setFlag_disjoint _ _ _ _ _ (by decide) (by decide) (by decide),
    Dev.flag_setFlag_same _ _ _ _ (by decide) (by decide)]

theorem Dev.flags_portsQuiet (d : Dev) (p : Port) : d.portsQuiet.flag (HP_STATUS p) HP_STATUS.ATNHOLD = false ∧
    d.portsQuiet.flag (HP_STATUS p) HP_STATUS.XFER = false := by
  rw [Dev.portsQuiet_eq]
  refine foldl_of_mem (P := fun e : Dev => e.flag (HP_STATUS p) HP_STATUS.ATNHOLD = false ∧
    e.flag (HP_STATUS p) HP_STATUS.XFER = false) (List.mem_finRange p) _ (fun e => e.flags_portQuiet p) fun e q he => ?_
  by_cases h : p = q
  · exact h ▸ e.flags_portQuiet p
  · have hrd := (e.onlyRegs_portQuiet q).1 (HP_STATUS p) fun hpq => h (HP_STATUS_inj hpq)
    rwa [Dev.flag, Dev.flag, Dev.fld_of_rd _ (by decide) hrd, Dev.fld_of_rd _ (by decide) hrd]

/-! ## VIO (R84, R451) -/

/-- VIO is out of range, or back. -/
def Dev.setVio (d : Dev) (b : Bool) : Dev := { d with pins := { d.pins with vio := b } }

theorem Dev.vioChange_low (d : Dev) :
    d.vioChange true = (d.setVio false).when (decide (d.boot.phase ≠ .newt)) fun d => d.linksQuiet.portsQuiet := rfl

theorem Dev.pins_vioChange_low (d : Dev) : (d.vioChange true).pins = { d.pins with vio := false } := by
  rw [Dev.vioChange_low, Dev.when]
  split
  · rw [Dev.pins_portsQuiet, Dev.pins_linksQuiet]
    rfl
  · rfl

theorem vioFault_quiets (s : State) (k : Link) : Completes (.vioFault true) s fun e => e.pins.vio = false ∧ e.portsAnswer = false ∧
    (s.dev.boot.phase ≠ .newt → Dev.Hushed k s.dev e ∧
      ∀ p : Port, e.flag (HP_STATUS p) HP_STATUS.ATNHOLD = false ∧ e.flag (HP_STATUS p) HP_STATUS.XFER = false) := by
  refine completes_step1 (·.vioChange true) rfl ?_
  have hvio : (s.dev.vioChange true).pins.vio = false := by rw [Dev.pins_vioChange_low]
  refine ⟨hvio, by rw [Dev.portsAnswer, hvio, Bool.and_false], fun hp => ?_⟩
  rw [Dev.vioChange_low, Dev.when, if_pos (decide_eq_true hp)]
  exact ⟨((s.dev.setVio false).hushed_linksQuiet k).congr ⟨rfl, rfl⟩ (Dev.rd_status_portsQuiet _ k), Dev.flags_portsQuiet _⟩

theorem Dev.vioChange_back (d : Dev) : d.vioChange false = (List.finRange 4).foldl Dev.syncAttn (d.setVio true) := rfl

/-- Attention stands on a link that runs, with a bit to report and no frame under way (R84). -/
theorem Dev.attn_syncAttn (d : Dev) (k : Link) : (d.syncAttn k).flag (VL_STATUS k) VL_STATUS.ATTN =
    (d.flag (VL_CTL k) VL_CTL.ATTNEN && (d.link k).bits ≠ 0 && !d.flag (VL_STATUS k) VL_STATUS.FRAME &&
      d.vlState k ≠ vlDisabled && d.blocksRun && d.pins.vio) :=
  Dev.flag_setFlag_same _ _ _ _ (by decide) (by decide)

theorem Dev.onlyRegs_vioChange_back (d : Dev) : (d.setVio true).onlyRegs (d.vioChange false) (fun a => ∃ j : Link, a = VL_STATUS j) := by
  rw [Dev.vioChange_back]
  exact Dev.onlyRegs_foldl (fun e j => (e.onlyRegs_setFlag _ _ _ (by decide)).mono fun _ h => ⟨j, h⟩) _ _

/-- Registers apart, nothing is changed by the return of VIO but VIO. -/
theorem Dev.onlyRegs.of_setVio {d e : Dev} {b : Bool} {K : Nat → Prop} (h : (d.setVio b).onlyRegs e K) :
    e.pins = { d.pins with vio := b } ∧ d.onlyRegs { e with pins := d.pins } K := by
  have hrest : ({ ({ e with regs := (d.setVio b).regs } : Dev) with pins := d.pins } : Dev) = { d.setVio b with pins := d.pins } := by
    rw [h.2]
  exact ⟨h.pins, h.1, hrest⟩

theorem Dev.attn_vioChange_back (d : Dev) (k : Link) (hb : d.blocksRun = true) (hen : d.flag (VL_CTL k) VL_CTL.ATTNEN = true)
    (hbits : (d.link k).bits ≠ 0) (hst : d.vlState k ≠ vlDisabled) (hf : d.flag (VL_STATUS k) VL_STATUS.FRAME = false) :
    (d.vioChange false).flag (VL_STATUS k) VL_STATUS.ATTN = true := by
  obtain ⟨e, hbefore, hafter⟩ := foldl_at (R := Dev.Touches (fun a => ∃ j : Link, j ≠ k ∧ a = VL_STATUS j) fun _ => False)
    (List.nodup_finRange 4) (List.mem_finRange k) (d.setVio true) touches_raise.refl touches_raise.trans
    fun e j hj => e.touches_syncAttn ⟨j, hj, rfl⟩
  have hstatus : ¬∃ j : Link, j ≠ k ∧ VL_STATUS k = VL_STATUS j := by
    rintro ⟨j, hj, h⟩
    have := Fin.val_ne_of_ne hj
    simp only [VL_STATUS] at h
    omega
  have hctl : ¬∃ j : Link, j ≠ k ∧ VL_CTL k = VL_STATUS j := by
    rintro ⟨j, -, h⟩
    simp only [VL_STATUS, VL_CTL] at h
    omega
  have hev : evtReg (VL_STATUS k) = false := evtReg_link k (by decide) (by decide)
  have hrun : e.blocksRun = d.blocksRun := hbefore.blocksRun (by
    rintro ⟨j, -, h⟩
    simp only [VL_STATUS, CFG_DSTATE] at h
    omega)
  have hframe : e.flag (VL_STATUS k) VL_STATUS.FRAME = d.flag (VL_STATUS k) VL_STATUS.FRAME := hbefore.flag hstatus hev _ (by decide)
  have hstate : e.vlState k = d.vlState k := hbefore.fld hstatus hev _ (by decide)
  have hatt : e.flag (VL_CTL k) VL_CTL.ATTNEN = d.flag (VL_CTL k) VL_CTL.ATTNEN :=
    hbefore.flag hctl (evtReg_link k (by decide) (by decide)) _ (by decide)
  have hlink : e.link k = d.link k := hbefore.link k not_false
  have hvio : e.pins.vio = true := by rw [hbefore.pins, Dev.setVio]
  rw [Dev.vioChange_back, hafter.flag hstatus hev _ (by decide), Dev.attn_syncAttn, hatt, hlink, hrun, hvio, hframe, hstate]
  simpa [hen, hb, hf, hst] using hbits

theorem vioFault_back (s : State) (k : Link) : Completes (.vioFault false) s fun e => e.pins = { s.dev.pins with vio := true } ∧
    s.dev.onlyRegs { e with pins := s.dev.pins } (fun a => ∃ j : Link, a = VL_STATUS j) ∧
    (s.dev.blocksRun = true → s.dev.flag (VL_CTL k) VL_CTL.ATTNEN = true → (s.dev.link k).bits ≠ 0 →
      s.dev.vlState k ≠ vlDisabled → s.dev.flag (VL_STATUS k) VL_STATUS.FRAME = false →
      e.flag (VL_STATUS k) VL_STATUS.ATTN = true) :=
  completes_step1 (·.vioChange false) rfl
    ⟨s.dev.onlyRegs_vioChange_back.of_setVio.1, s.dev.onlyRegs_vioChange_back.of_setVio.2, s.dev.attn_vioChange_back k⟩

/-! ## The test access port (R450) -/

/-- The instruction under which a code acts: of those that take the pins, one that is not accepted is BYPASS. -/
def Dev.jtagTakes (d : Dev) (c : BitVec 4) : JtagInstr :=
  if (JtagInstr.ofCode c = .extest ∨ JtagInstr.ofCode c = .highz ∨ JtagInstr.ofCode c = .clamp) ∧ !d.jtagFree then .bypass
  else JtagInstr.ofCode c

/-- Instruction `i` is loaded, which changes the test port alone, and the count of free values. -/
def Dev.Loads (d : Dev) (i : JtagInstr) (e : Dev) : Prop :=
  e.jtag.ir = i ∧ ({ e with jtag := d.jtag, freeCount := d.freeCount } : Dev) = d

theorem Dev.loads_jtagLoad (d : Dev) (i : JtagInstr) : d.Loads i (d.jtagLoad i) := by
  cases i <;> exact ⟨rfl, rfl⟩

theorem Dev.jtagUpdate_on {d : Dev} (h : d.jtagOn = true) (c : BitVec 4) : d.jtagUpdate c = d.jtagLoad (d.jtagTakes c) := by
  simp [Dev.jtagUpdate, Dev.jtagTakes, h]

section Jtag

variable {s : State} (hon : s.dev.jtagOn = true)
include hon

/-- A command that updates the instruction with code `c` loads the one under which the code acts. -/
theorem completes_update {c : Instr} {code : BitVec 4} (h : exec c s = s.step1 (·.jtagUpdate code)) {i : JtagInstr}
    (hi : s.dev.jtagTakes code = i) : Completes c s (s.dev.Loads i) :=
  completes_step1 _ h (by rw [Dev.jtagUpdate_on hon, hi]; exact s.dev.loads_jtagLoad i)

theorem jtagTapReset_loads : Completes .jtagTapReset s (s.dev.Loads .idcode) :=
  completes_step1 (fun d => d.when d.jtagOn (·.jtagLoad .idcode)) rfl (by
    rw [Dev.when, if_pos hon]
    exact s.dev.loads_jtagLoad _)

theorem jtagIdcode_dr : Completes .jtagIdcode s fun e => e.jtag.dr = 0x12412E6B :=
  completes_step1 (·.jtagUpdate 0x1) rfl (by rw [Dev.jtagUpdate_on hon]; rfl)

/-- Where a rail is on, or the stage runs, no instruction takes the pins. -/
theorem jtag_refuses (hf : s.dev.jtagFree = false) : Completes .jtagExtest s (s.dev.Loads .bypass) ∧
    Completes .jtagHighz s (s.dev.Loads .bypass) ∧ Completes .jtagClamp s (s.dev.Loads .bypass) :=
  ⟨completes_update hon rfl (by simp [Dev.jtagTakes, JtagInstr.ofCode, hf]),
    completes_update hon rfl (by simp [Dev.jtagTakes, JtagInstr.ofCode, hf]),
    completes_update hon rfl (by simp [Dev.jtagTakes, JtagInstr.ofCode, hf])⟩

theorem jtag_accepts (hf : s.dev.jtagFree = true) : Completes .jtagExtest s (s.dev.Loads .extest) ∧
    Completes .jtagHighz s (s.dev.Loads .highz) ∧ Completes .jtagClamp s (s.dev.Loads .clamp) :=
  ⟨completes_update hon rfl (by simp [Dev.jtagTakes, JtagInstr.ofCode, hf]),
    completes_update hon rfl (by simp [Dev.jtagTakes, JtagInstr.ofCode, hf]),
    completes_update hon rfl (by simp [Dev.jtagTakes, JtagInstr.ofCode, hf])⟩

end Jtag

/-- Settles O44: without VIO the links end their frames and the ports their transactions; with VIO back each link's attention is
judged again; and the test port loads the instruction under which a code acts. -/
theorem pinsAndTestAccess : Obligations.PinsAndTestAccess := by
  unfold Obligations.PinsAndTestAccess
  intro s k d loads
  refine ⟨?_, vioFault_back s k, fun hvio hcore => ?_⟩
  · exact (vioFault_quiets s k).mono fun e ⟨hv, ha, hq⟩ =>
      ⟨hv, ha, fun hp => ⟨(hq hp).1.frame, (hq hp).1.attn, (hq hp).1.state, (hq hp).2⟩⟩
  · have hon : s.dev.jtagOn = true := by
      rw [Dev.jtagOn, Dev.padsOn, hvio, hcore]
      rfl
    exact ⟨jtagTapReset_loads hon, completes_update hon rfl rfl, completes_update hon rfl rfl, completes_update hon rfl rfl,
      jtag_accepts hon, jtag_refuses hon, jtagIdcode_dr hon⟩

end Sys2Proof.Machine
end

section
/-!
A good command frame, from its arrival to the answer (R73 to R80, R88).
-/

namespace Sys2Proof.Machine

open Sys2Proof Sys2Proof.R

/-! ## The frame comes in -/

/-- The registers that the arrival of a frame writes, and those that the answer writes. -/
def frameReg (k : Link) (a : Nat) : Prop :=
  a = VL_STATUS k ∨ a = VL_LASTCMD k ∨ a = VL_LASTCMD k + 2 ∨ a = VL_CKFREQ k ∨ a = VL_CMDCNT k
def answerReg (k : Link) (a : Nat) : Prop := a = VL_STATUS k ∨ a = VL_LASTRSP k ∨ a = VL_LASTRSP k + 2 ∨ a = VL_ACKLAT k

theorem not_frameReg_of_loopSide {k : Link} {a : Nat} (h : loopSide a) : ¬frameReg k a := by
  simp only [loopSide, loopReg, hopReg, Bool.and_eq_true, decide_eq_true_eq] at h
  simp only [frameReg, VL_STATUS, VL_LASTCMD, VL_CKFREQ, VL_CMDCNT]
  omega

theorem not_answerReg_of_loopSide {k : Link} {a : Nat} (h : loopSide a) : ¬answerReg k a := by
  simp only [loopSide, loopReg, hopReg, Bool.and_eq_true, decide_eq_true_eq] at h
  simp only [answerReg, VL_STATUS, VL_LASTRSP, VL_ACKLAT]
  omega

section FrameIn

variable (d : Dev) (k : Link) (f : BitVec 32) (freq : Word)

/-- A good frame is shown and counted. -/
def Dev.counted (d : Dev) (k : Link) (f : BitVec 32) (freq : Word) : Dev :=
  (((d.wr32 (VL_LASTCMD k) f).wr (VL_CKFREQ k) freq).bumpWrap (VL_CMDCNT k)).modLink k
    fun y => { y with errs := 0, protoArmed := true }

/-- The link is UP. -/
def Dev.comeUp (d : Dev) (k : Link) : Dev :=
  d.when (d.vlState k ≠ vlUp) fun d => (d.setVlState k vlUp).raise (97 + 4 * k.val)

/-- The device at which a good frame has come in. -/
def Dev.frameIn (d : Dev) (k : Link) (f : BitVec 32) (freq : Word) : Dev := (d.counted k f freq).comeUp k

/-- What the arrival of a good frame makes of a device. -/
structure Dev.FrameIn (k : Link) (f : BitVec 32) (freq : Word) (d e : Dev) : Prop where
  state : e.vlState k = vlUp
  event : d.vlState k ≠ vlUp → e.evtPending (97 + 4 * k.val) = true
  link : e.link k = { d.link k with errs := 0, protoArmed := true }
  lastCmd : e.rd32 (VL_LASTCMD k) = f
  count : e.rd (VL_CMDCNT k) = d.rd (VL_CMDCNT k) + 1
  freq : e.rd (VL_CKFREQ k) = freq
  frame : e.flag (VL_STATUS k) VL_STATUS.FRAME = d.flag (VL_STATUS k) VL_STATUS.FRAME
  loops : e.loops = d.loops
  touches : Dev.Touches (frameReg k) (· = k) d e

theorem Dev.touches_counted : Dev.Touches (fun a => frameReg k a ∧ a ≠ VL_STATUS k) (· = k) d (d.counted k f freq) := by
  have hst {b : Nat} (h : 0x2C00 ≤ b) (h2 : b < 0x2C40) : statReg (b + 0x40 * k.val) = false := statReg_link k h h2
  have hne {b : Nat} (hb : b ≠ 0x2C16) : b + 0x40 * k.val ≠ VL_STATUS k := by
    simp only [VL_STATUS]
    omega
  refine .trans (.trans (.trans (.trans (d.touches_wr _ (.inl ⟨.inr (.inl rfl), hne (by decide)⟩) (hst (by decide) (by decide)))
    (Dev.touches_wr _ _ (.inl ⟨.inr (.inr (.inl rfl)), ?_⟩) ?_))
    (Dev.touches_wr _ _ (.inl ⟨.inr (.inr (.inr (.inl rfl))), hne (by decide)⟩) (hst (by decide) (by decide))))
    (Dev.touches_wr _ _ (.inl ⟨.inr (.inr (.inr (.inr rfl))), hne (by decide)⟩) (hst (by decide) (by decide))))
    (Dev.touches_modLink _ _ rfl)
  · simp only [VL_STATUS, VL_LASTCMD]
    omega
  · rw [VL_LASTCMD, Nat.add_right_comm]
    exact hst (by decide) (by decide)

theorem Dev.loops_counted : (d.counted k f freq).loops = d.loops := by
  rw [Dev.counted, Dev.modLink_loops, Dev.bumpWrap_loops, Dev.wr_loops, Dev.wr32_loops]

theorem Dev.link_counted : (d.counted k f freq).link k = { d.link k with errs := 0, protoArmed := true } := by
  rw [Dev.counted, Dev.link_modLink_same, Dev.link, Dev.bumpWrap_links, Dev.wr_links, Dev.wr32_links, Dev.link]

theorem Dev.rd_counted_other {a : Nat} (h : a ≠ VL_CMDCNT k) :
    (d.counted k f freq).rd a = ((d.wr32 (VL_LASTCMD k) f).wr (VL_CKFREQ k) freq).rd a := by
  rw [Dev.counted, Dev.rd_modLink, Dev.bumpWrap, Dev.rd_wr_ne _ _ h]

theorem Dev.lastCmd_counted : (d.counted k f freq).rd32 (VL_LASTCMD k) = f := by
  rw [Dev.rd32_congr (d.rd_counted_other k f freq (by simp)) (d.rd_counted_other k f freq (by simp only [VL_LASTCMD, VL_CMDCNT]; omega)),
    Dev.rd32_wr_ne _ _ (by simp) (by simp only [VL_LASTCMD, VL_CKFREQ]; omega), Dev.rd32_wr32_same]

theorem Dev.freq_counted : (d.counted k f freq).rd (VL_CKFREQ k) = freq := by
  rw [d.rd_counted_other k f freq (by simp), Dev.rd_wr_same]

theorem Dev.count_counted : (d.counted k f freq).rd (VL_CMDCNT k) = d.rd (VL_CMDCNT k) + 1 := by
  rw [Dev.counted, Dev.rd_modLink, Dev.bumpWrap, Dev.rd_wr_same, Dev.rd_wr_ne _ _ (by simp),
    Dev.rd_wr32_ne _ _ (by simp) (by simp only [VL_LASTCMD, VL_CMDCNT]; omega)]

/-- Coming up touches the status alone. -/
theorem Dev.touches_comeUp {W : Nat → Prop} {L : Link → Prop} (hW : W (VL_STATUS k)) : Dev.Touches W L d (d.comeUp k) :=
  touches_raise.when fun _ => (d.touches_status VL_STATUS.STATE _ (by decide) hW).trans
    (touches_raise.raise _ (by have := k.isLt; omega))

theorem Dev.loops_comeUp : (d.comeUp k).loops = d.loops :=
  loops_hop.when fun _ => (loops_hop.raise _ (by have := k.isLt; omega)).trans (Dev.setFld_loops ..)

theorem Dev.evtPending_comeUp (h : d.vlState k ≠ vlUp) : (d.comeUp k).evtPending (97 + 4 * k.val) = true := by
  rw [Dev.comeUp, Dev.when, if_pos (by simpa using h)]
  exact Dev.evtPending_raise _ (by have := k.isLt; omega)

/-- The status after coming up is that before, with STATE at UP. -/
theorem Dev.status_comeUp : (d.comeUp k).vlState k = vlUp ∧
    (d.comeUp k).flag (VL_STATUS k) VL_STATUS.FRAME = d.flag (VL_STATUS k) VL_STATUS.FRAME := by
  by_cases h : d.vlState k = vlUp
  · rw [Dev.comeUp, Dev.when, if_neg (by simpa using h)]
    exact ⟨h, rfl⟩
  · rw [Dev.comeUp, Dev.when, if_pos (by simpa using h)]
    have hrd := ((d.setVlState k vlUp).quiet_raise (e := 97 + 4 * k.val) (by have := k.isLt; omega)).2 (VL_STATUS k)
      (evtReg_link k (by decide) (by decide))
    refine ⟨(Dev.fld_of_rd _ (by decide) hrd).trans (d.vlState_setVlState k (by decide)), ?_⟩
    rw [Dev.flag, Dev.flag, Dev.fld_of_rd _ (by decide) hrd, Dev.setVlState,
      Dev.fld_setFld_other _ _ _ _ (by decide) (by decide) (by decide)]

theorem Dev.frameIn_spec : Dev.FrameIn k f freq d (d.frameIn k f freq) := by
  rw [Dev.frameIn]
  have hc := d.touches_counted k f freq
  have hup := (d.counted k f freq).touches_comeUp k (W := (· = VL_STATUS k)) (L := fun _ => False) rfl
  have hev {b : Nat} (h : 0x2C00 ≤ b) (h2 : b < 0x2C40) : evtReg (b + 0x40 * k.val) = false := evtReg_link k h h2
  have hne {b : Nat} (hb : b ≠ 0x2C16) : ¬b + 0x40 * k.val = VL_STATUS k := by
    simp only [VL_STATUS]
    omega
  have hstatus (g : Fld) (hg : g.lo + g.w ≤ 16) : (d.counted k f freq).fld (VL_STATUS k) g = d.fld (VL_STATUS k) g :=
    hc.fld (fun h => h.2 rfl) (hev (by decide) (by decide)) g hg
  have hkeep {b : Nat} (h : 0x2C00 ≤ b) (h2 : b < 0x2C40) (hb : b ≠ 0x2C16) :
      ((d.counted k f freq).comeUp k).rd (b + 0x40 * k.val) = (d.counted k f freq).rd (b + 0x40 * k.val) :=
    hup.rd (hne hb) (hev h h2)
  obtain ⟨hstate, hframe⟩ := (d.counted k f freq).status_comeUp k
  have hhigh : ((d.counted k f freq).comeUp k).rd (VL_LASTCMD k + 2) = (d.counted k f freq).rd (VL_LASTCMD k + 2) := by
    rw [VL_LASTCMD, Nat.add_right_comm]
    exact hkeep (by decide) (by decide) (by decide)
  refine ⟨hstate, fun h => Dev.evtPending_comeUp _ k ?_, ?_, ?_, ?_, ?_, ?_, ?_, ?_⟩
  · rwa [Dev.vlState, hstatus _ (by decide)]
  · rw [hup.link k not_false, Dev.link_counted]
  · rw [Dev.rd32_congr (hkeep (by decide) (by decide) (by decide)) hhigh, Dev.lastCmd_counted]
  · rw [hkeep (by decide) (by decide) (by decide), Dev.count_counted]
  · rw [hkeep (by decide) (by decide) (by decide), Dev.freq_counted]
  · rw [hframe, Dev.flag, Dev.flag, hstatus _ (by decide)]
  · rw [Dev.loops_comeUp, Dev.loops_counted]
  · exact (hc.mono (fun _ h => h.1) fun _ h => h).trans (hup.mono (fun _ h => .inl h) fun _ h => h.elim)

end FrameIn

/-! ## The answer goes out -/

section Respond

variable (d : Dev) (k : Link) (rsp : BitVec 32) (lat : Word) (still : Bool)

/-- What an answer makes of a device: the frame and its latency are shown, and VL_STATUS says whether it still runs. -/
structure Dev.Responded (k : Link) (rsp : BitVec 32) (lat : Word) (still : Bool) (d e : Dev) : Prop where
  rsp : e.rd32 (VL_LASTRSP k) = rsp
  lat : e.rd (VL_ACKLAT k) = lat
  frame : e.flag (VL_STATUS k) VL_STATUS.FRAME = still
  state : e.vlState k = d.vlState k
  loops : e.loops = d.loops
  touches : Dev.Touches (answerReg k) (fun _ => False) d e

theorem Dev.respond_eq : d.respond k rsp lat still =
    ((((d.wr32 (VL_LASTRSP k) rsp).wr (VL_ACKLAT k) lat).setFlag (VL_STATUS k) VL_STATUS.FRAME still).syncAttn k) := rfl

theorem Dev.responded : Dev.Responded k rsp lat still d (d.respond k rsp lat still) := by
  have hst {b : Nat} (h : 0x2C00 ≤ b) (h2 : b < 0x2C40) : statReg (b + 0x40 * k.val) = false := statReg_link k h h2
  have hhigh : VL_LASTRSP k + 2 = 0x2C2A + 0x40 * k.val := by
    simp only [VL_LASTRSP]
    omega
  have hrd {a : Nat} (h : a ≠ VL_STATUS k) :
      (d.respond k rsp lat still).rd a = ((d.wr32 (VL_LASTRSP k) rsp).wr (VL_ACKLAT k) lat).rd a := by
    rw [Dev.respond_eq, Dev.rd_syncAttn _ _ h, Dev.rd_setFlag_ne _ _ _ (by decide) h]
  refine ⟨?_, ?_, ?_, ?_, ?_, ?_⟩
  · rw [Dev.rd32_congr (hrd (by simp)) (hrd (by simp only [VL_LASTRSP, VL_STATUS]; omega)),
      Dev.rd32_wr_ne _ _ (by simp) (by simp only [VL_LASTRSP, VL_ACKLAT]; omega), Dev.rd32_wr32_same]
  · rw [hrd (by simp), Dev.rd_wr_same]
  · rw [Dev.respond_eq, Dev.flag, Dev.fld_syncAttn _ _ _ _ (by decide) (by decide)]
    exact Dev.flag_setFlag_same _ _ _ _ (by decide) (by decide)
  · rw [Dev.respond_eq, Dev.vlState, Dev.fld_syncAttn _ _ _ _ (by decide) (by decide), Dev.setFlag,
      Dev.fld_setFld_other _ _ _ _ (by decide) (by decide) (by decide)]
    refine Dev.fld_of_rd _ (by decide) ?_
    rw [Dev.rd_wr_ne _ _ (by simp), Dev.rd_wr32_ne _ _ (by simp) (by simp only [VL_LASTRSP, VL_STATUS]; omega)]
  · rw [Dev.respond_eq, Dev.syncAttn, Dev.setFlag_loops, Dev.setFlag_loops, Dev.wr_loops, Dev.wr32_loops]
  · rw [Dev.respond_eq]
    refine .trans (.trans (.trans (.trans (d.touches_wr _ (.inl (.inr (.inl rfl))) (hst (by decide) (by decide)))
      (Dev.touches_wr _ _ (.inl (.inr (.inr (.inl rfl)))) ?_))
      (Dev.touches_wr _ _ (.inl (.inr (.inr (.inr rfl)))) (hst (by decide) (by decide))))
      (Dev.touches_status _ VL_STATUS.FRAME _ (by decide) (.inl rfl))) (Dev.touches_syncAttn _ (.inl rfl))
    rw [hhigh]
    exact hst (by decide) (by decide)

/-- STATUS of an ACK is read from the link's bits, the mapping, SETTLED and the level requested. -/
theorem Dev.ackStatus_congr {d e : Dev} {k : Link} (hb : (e.link k).bits = (d.link k).bits) (hr : ∀ r, e.railLoop k r = d.railLoop k r)
    (hs : ∀ n : Loop, e.rd (LP_STATUS n) = d.rd (LP_STATUS n)) (ht : e.thrReq k = d.thrReq k) (r : Fin 4) :
    e.ackStatus k r = d.ackStatus k r := by
  unfold Dev.ackStatus
  rw [hb, hr, ht]
  cases d.railLoop k r with
  | none => rfl
  | some n =>
    have hn : e.flag (LP_STATUS n) LP_STATUS.SETTLED = d.flag (LP_STATUS n) LP_STATUS.SETTLED := by
      rw [Dev.flag, Dev.flag, Dev.fld_of_rd _ (by decide) (hs n)]
    simp only [hn]

end Respond

/-! ## The exchange -/

/-- The registers that a command, or its replay, may write. -/
def commandReg (k : Link) (a : Nat) : Prop :=
  (∃ j : Link, a = VL_STATUS j) ∨ a = VL_DUPCNT k ∨ a = VL_STICKY k ∨ a = VL_THRSTAT k ∨ loopSide a

/-- What every command leaves of the exchange that carries it. -/
structure Dev.Executed (k : Link) (d e : Dev) : Prop where
  state : e.vlState k = d.vlState k
  errs : (e.link k).errs = (d.link k).errs
  touches : Dev.Touches (commandReg k) (fun _ => True) d e

section Exchange

variable (k : Link) (cmd : Nat) (x : VlFrame)

/-- The command frame, as the link shows it. -/
def commandFrame (cmd : Nat) (x : VlFrame) : BitVec 32 := vlFrame (cmd * 4 + x.rail.val) x.data x.seq

/-- What a good frame whose SEQ `cmd` and `x` give leaves, whatever its answer. -/
structure Dev.Taken (k : Link) (cmd : Nat) (x : VlFrame) (d e : Dev) : Prop where
  state : e.vlState k = vlUp
  event : d.vlState k ≠ vlUp → e.evtPending (97 + 4 * k.val) = true
  errs : (e.link k).errs = 0
  lastCmd : e.rd32 (VL_LASTCMD k) = commandFrame cmd x
  count : e.rd (VL_CMDCNT k) = d.rd (VL_CMDCNT k) + 1
  freq : e.rd (VL_CKFREQ k) = x.freq
  lat : e.rd (VL_ACKLAT k) = x.lat
  frame : e.flag (VL_STATUS k) VL_STATUS.FRAME = x.still
  stored : cmd ≠ 9 → (e.link k).stored = some (x.seq, e.rd32 (VL_LASTRSP k))

/-- A frame that came in, then a command, then an answer. -/
theorem Dev.Taken.of_parts {d c e g : Dev} {rsp : BitVec 32} (hin : Dev.FrameIn k (commandFrame cmd x) x.freq d c)
    (hex : Dev.Executed k c e) (hout : Dev.Responded k rsp x.lat x.still e g)
    (hs : cmd ≠ 9 → (e.link k).stored = some (x.seq, rsp)) : Dev.Taken k cmd x d g := by
  have hkeep {b : Nat} (h : 0x2C00 ≤ b) (h2 : b < 0x2C40) (hb : b ∉ [0x2C16, 0x2C20, 0x2C1A, 0x2C18, 0x2C28, 0x2C2A, 0x2C2C]) :
      g.rd (b + 0x40 * k.val) = c.rd (b + 0x40 * k.val) := by
    simp only [List.mem_cons, List.not_mem_nil, or_false, not_or] at hb
    have hans : ¬answerReg k (b + 0x40 * k.val) := by
      simp only [answerReg, VL_STATUS, VL_LASTRSP, VL_ACKLAT]
      omega
    have hcmd : ¬commandReg k (b + 0x40 * k.val) := by
      rintro (⟨j, h⟩ | h | h | h | h)
      · simp only [VL_STATUS] at h
        omega
      · simp only [VL_DUPCNT] at h
        omega
      · simp only [VL_STICKY] at h
        omega
      · simp only [VL_THRSTAT] at h
        omega
      · exact not_loopSide_link k (by assumption) h
    exact (hout.touches.rd hans (evtReg_link k h h2)).trans (hex.touches.rd hcmd (evtReg_link k h h2))
  have hhigh : VL_LASTCMD k + 2 = 0x2C26 + 0x40 * k.val := by
    simp only [VL_LASTCMD]
    omega
  refine ⟨hout.state.trans (hex.state.trans hin.state), fun h => ?_, ?_, ?_, ?_, ?_, hout.lat, hout.frame, fun h => ?_⟩
  · have hlt : 97 + 4 * k.val < 256 := by omega
    exact hout.touches.pending _ hlt (hex.touches.pending _ hlt (hin.event h))
  · rw [hout.touches.link k not_false, hex.errs, hin.link]
  · rw [← hin.lastCmd]
    refine Dev.rd32_congr (hkeep (by decide) (by decide) (by decide)) ?_
    rw [hhigh]
    exact hkeep (by decide) (by decide) (by decide)
  · rw [hkeep (by decide) (by decide) (by decide), hin.count]
  · rw [hkeep (by decide) (by decide) (by decide), hin.freq]
  · rw [hout.touches.link k not_false, hs h, hout.rsp]

variable {d : Dev} {k cmd x}

/-- The response that the store gives to a SEQ (R80). -/
def LinkSt.replay (y : LinkSt) (seq : BitVec 4) : Option (BitVec 32) :=
  match y.stored with
  | some (s, rsp) => if s = seq then some rsp else none
  | none => none

theorem LinkSt.replay_stored {y : LinkSt} {seq : BitVec 4} {rsp : BitVec 32} (h : y.stored = some (seq, rsp)) :
    y.replay seq = some rsp := by
  simp [LinkSt.replay, h]

theorem LinkSt.replay_fresh {y : LinkSt} {seq : BitVec 4} (h : ∀ rsp, y.stored ≠ some (seq, rsp)) : y.replay seq = none := by
  unfold LinkSt.replay
  split
  · rename_i s rsp hs
    refine if_neg fun e => h rsp ?_
    rw [hs, e]
  · rfl

/-- An answer as it is sent: an ACK shows STATUS after the command. -/
def VAnswer.sent (a : VAnswer) (status : Nat) : VAnswer := if a.ack = 0 then { a with status := status } else a

/-- The response that is sent to a new command. -/
def Dev.response (d : Dev) (k : Link) (x : VlFrame) (a : VAnswer) : BitVec 32 := (a.sent (d.ackStatus k x.rail)).frame x.seq

/-- The response is stored for replay, but for that of RESYNC (R80). -/
def Dev.storeRsp (d : Dev) (k : Link) (cmd : Nat) (seq : BitVec 4) (rsp : BitVec 32) : Dev :=
  d.modLink k fun y => { y with stored := if cmd = 9 then none else some (seq, rsp) }

/-- A SEQ that is stored is replayed. -/
def Dev.replayed (d : Dev) (k : Link) : Dev := (d.setFlag (VL_STICKY k) VL_STICKY.DUP true).bump (VL_DUPCNT k)

variable (hl : d.listens k = true) (hf : d.flag (VL_STATUS k) VL_STATUS.FRAME = false)
include hl hf

theorem Dev.exchange_eq : d.exchange k cmd x =
    let c := d.frameIn k (commandFrame cmd x) x.freq
    match (c.link k).replay x.seq with
    | some rsp => (c.replayed k).respond k rsp x.lat x.still
    | none =>
      let p := c.vlExecute k cmd x.rail x.data
      (p.2.storeRsp k cmd x.seq (p.2.response k x p.1)).respond k (p.2.response k x p.1) x.lat x.still := by
  unfold Dev.exchange
  rw [d.endFrame_of_idle k hf]
  exact if_neg (by simp [hl])

theorem Dev.exchange_stored {rsp : BitVec 32} (hs : (d.link k).stored = some (x.seq, rsp)) : d.exchange k cmd x =
    ((d.frameIn k (commandFrame cmd x) x.freq).replayed k).respond k rsp x.lat x.still := by
  rw [Dev.exchange_eq hl hf]
  dsimp only
  rw [LinkSt.replay_stored (by rw [(d.frameIn_spec k _ _).link]; exact hs)]

theorem Dev.exchange_fresh (hs : ∀ rsp, (d.link k).stored ≠ some (x.seq, rsp)) {a : VAnswer} {e : Dev}
    (h : (d.frameIn k (commandFrame cmd x) x.freq).vlExecute k cmd x.rail x.data = (a, e)) :
    d.exchange k cmd x = (e.storeRsp k cmd x.seq (e.response k x a)).respond k (e.response k x a) x.lat x.still := by
  rw [Dev.exchange_eq hl hf]
  dsimp only
  rw [LinkSt.replay_fresh (by rw [(d.frameIn_spec k _ _).link]; exact hs), h]

omit hl hf

/-- What an answer `a` leaves of the device `e` at which its command has been executed. -/
structure Dev.Sent (k : Link) (cmd : Nat) (x : VlFrame) (a : VAnswer) (e g : Dev) : Prop where
  rsp : g.rd32 (VL_LASTRSP k) = (a.sent (g.ackStatus k x.rail)).frame x.seq
  loops : g.loops = e.loops
  rd : ∀ b, loopReg b = true → g.rd b = e.rd b
  thrAck : g.thrAck k = e.thrAck k
  bits : (g.link k).bits = (e.link k).bits
  stored : cmd = 9 → (g.link k).stored = none

theorem Dev.sent_of_responded {e g : Dev} {a : VAnswer}
    (h : Dev.Responded k (e.response k x a) x.lat x.still (e.storeRsp k cmd x.seq (e.response k x a)) g) :
    Dev.Sent k cmd x a e g := by
  have hstored (rsp : BitVec 32) : (e.storeRsp k cmd x.seq rsp).link k =
      { e.link k with stored := if cmd = 9 then none else some (x.seq, rsp) } := Dev.link_modLink_same _ _ _
  have hrd (b : Nat) (hb : ¬answerReg k b) (hq : evtReg b = false) : g.rd b = e.rd b := h.touches.rd hb hq
  have hloop (b : Nat) (hb : loopReg b = true) : g.rd b = e.rd b :=
    hrd b (not_answerReg_of_loopSide (.inl hb)) (evtReg_of_loopReg hb)
  have hthr : g.rd (VL_THRSTAT k) = e.rd (VL_THRSTAT k) := hrd _ (by
    simp only [answerReg, VL_STATUS, VL_LASTRSP, VL_ACKLAT, VL_THRSTAT]
    omega) (evtReg_link k (by decide) (by decide))
  have hbits : (g.link k).bits = (e.link k).bits := by rw [h.touches.link k not_false, hstored]
  have hack : g.ackStatus k x.rail = e.ackStatus k x.rail :=
    Dev.ackStatus_congr hbits (fun r => h.touches.railLoop (fun b hb => not_answerReg_of_loopSide (.inl hb)) k r)
      (fun n => hloop _ (loopReg_LP_STATUS n)) (Dev.fld_of_rd _ (by decide) hthr) x.rail
  refine ⟨?_, ?_, hloop, Dev.fld_of_rd _ (by decide) hthr, hbits, fun h9 => ?_⟩
  · rw [h.rsp, hack]
    rfl
  · rw [h.loops]
    rfl
  · rw [h.touches.link k not_false, hstored]
    exact if_pos h9

include hl hf

/-- A new command is executed, and its answer sent and stored. -/
theorem Dev.exchange_spec (hs : ∀ rsp, (d.link k).stored ≠ some (x.seq, rsp)) {a : VAnswer} {e : Dev}
    (h : (d.frameIn k (commandFrame cmd x) x.freq).vlExecute k cmd x.rail x.data = (a, e))
    (he : Dev.Executed k (d.frameIn k (commandFrame cmd x) x.freq) e) :
    Dev.Taken k cmd x d (d.exchange k cmd x) ∧ Dev.Sent k cmd x a e (d.exchange k cmd x) := by
  rw [Dev.exchange_fresh hl hf hs h]
  have hout := (e.storeRsp k cmd x.seq (e.response k x a)).responded k (e.response k x a) x.lat x.still
  refine ⟨.of_parts k cmd x (d.frameIn_spec k _ _) ?_ hout fun h9 => ?_, Dev.sent_of_responded hout⟩
  · refine ⟨he.state, ?_, he.touches.trans (Dev.touches_modLink e _ trivial)⟩
    rw [Dev.storeRsp, Dev.link_modLink_same, he.errs]
  · rw [Dev.storeRsp, Dev.link_modLink_same]
    exact if_neg h9

end Exchange

end Sys2Proof.Machine
end

section
/-!
The commands of a Velong link and their answers (R77 to R82, R85).
-/

namespace Sys2Proof.Machine

open Sys2Proof Sys2Proof.R

/-! ## What each command does -/

/-- An ACK before its STATUS is known. -/
def ackWith (w : Word) : VAnswer := { ack := 0, status := 0, data := w }

section Execute

variable (d : Dev) (k : Link) (r : Fin 4) (w : Word)

/-- The mask of the rails that have a loop. -/
def Dev.railMask (d : Dev) (k : Link) : Nat :=
  (List.finRange 4).foldl (fun a i => if (d.railLoop k i).isSome then a + 2 ^ i.val else a) 0

theorem Dev.vlExecute_ping : d.vlExecute k 0 r w = (ackWith (BitVec.ofNat 16 (0x0100 + 16 * d.railMask k)), d) := rfl

/-- The read-clear bits have been read (R85), and a throttle level acknowledged (R86). -/
def Dev.clearBits (d : Dev) (k : Link) : Dev := d.modLink k fun y => { y with bits := 0 }
def Dev.takeAck (d : Dev) (k : Link) (v : Nat) : Dev := (d.setAck k v).modLink k fun y => { y with thrAcked := true }

theorem Dev.vlExecute_getstat : d.vlExecute k 5 r w = (ackWith (d.vlWord k), d.clearBits k) := rfl

theorem Dev.vlExecute_thrack : d.vlExecute k 6 r w = if 3 < w.toNat then (nak 5, d) else (ackWith w, d.takeAck k w.toNat) := rfl

theorem Dev.vlExecute_resync : d.vlExecute k 9 r w = (ackWith 0, d) := rfl

theorem Dev.vlExecute_reserved (i : Fin 6) : d.vlExecute k (10 + i.val) r w = (nak 1, d) := by
  fin_cases i <;> rfl

/-- A rail command to a rail with no loop. -/
theorem Dev.vlExecute_noRail {cmd : Nat} (h : d.railLoop k r = none) (hc : cmd ∈ [1, 2, 3, 4, 7, 8]) :
    d.vlExecute k cmd r w = (nak 2, d) := by
  simp only [List.mem_cons, List.not_mem_nil, or_false] at hc
  obtain rfl | rfl | rfl | rfl | rfl | rfl := hc <;> simp [Dev.vlExecute, h]

variable {d k r w} {n : Loop} (h : d.railLoop k r = some n)
include h

theorem Dev.vlExecute_getv : d.vlExecute k 2 r w = (ackWith (d.rd (LP_VOUT n)), d) := by simp [Dev.vlExecute, h, ackWith]
theorem Dev.vlExecute_geti : d.vlExecute k 3 r w = (ackWith (d.rd (LP_IOUT n)), d) := by simp [Dev.vlExecute, h, ackWith]
theorem Dev.vlExecute_getp : d.vlExecute k 4 r w = (ackWith (d.rd (LP_POUT n)), d) := by simp [Dev.vlExecute, h, ackWith]
theorem Dev.vlExecute_getvset : d.vlExecute k 8 r w = (ackWith (d.rd (LP_VSET n)), d) := by simp [Dev.vlExecute, h, ackWith]

/-- NOTOWNER is noted (R79, R93). -/
def Dev.notOwner (d : Dev) (k : Link) : Dev := d.setFlag (VL_STICKY k) VL_STICKY.NOTOWNER true

/-- A setpoint of the link is taken, and the rail reports at once where it has settled (R82, R83). -/
def Dev.linkTarget (d : Dev) (n : Loop) (v : Nat) : Dev :=
  (d.setTarget n v).2.when ((d.setTarget n v).2.flag (LP_STATUS n) LP_STATUS.SETTLED) (·.vlSettle n)

theorem Dev.vlExecute_foreign (ho : d.fld (LP_CFG n) LP_CFG.SPSRC ≠ 2) :
    d.vlExecute k 1 r w = (nak 3, (d.notOwner k).spFault n) ∧ d.vlExecute k 7 r w = (nak 3, d.notOwner k) := by
  simp [Dev.vlExecute, h, ho, Dev.notOwner]

theorem Dev.vlExecute_latched (ho : d.fld (LP_CFG n) LP_CFG.SPSRC = 2) (hl : d.lstate n = lsOvLatched) :
    d.vlExecute k 1 r w = (nak 4, d) ∧ d.vlExecute k 7 r w = (nak 4, d) := by
  simp [Dev.vlExecute, h, ho, hl]

theorem Dev.vlExecute_setv (ho : d.fld (LP_CFG n) LP_CFG.SPSRC = 2) (hl : d.lstate n ≠ lsOvLatched) :
    d.vlExecute k 1 r w = (ackWith ((d.linkTarget n w.toNat).rd (LP_VSET n)), d.linkTarget n w.toNat) := by
  simp [Dev.vlExecute, h, ho, hl, Dev.linkTarget, ackWith]

theorem Dev.vlExecute_setslew (ho : d.fld (LP_CFG n) LP_CFG.SPSRC = 2) (hl : d.lstate n ≠ lsOvLatched) :
    d.vlExecute k 7 r w = if d.flag (VL_CFG k) VL_CFG.SLEWEN then (ackWith w, d.wr (LP_SLEW n) w) else (nak 6, d) := by
  cases hs : d.flag (VL_CFG k) VL_CFG.SLEWEN <;> simp [Dev.vlExecute, h, ho, hl, hs, ackWith]

end Execute

/-! ## What each command leaves of its exchange -/

section Executed

variable {d e g : Dev} {k : Link} {n : Loop}

theorem Dev.Executed.refl (d : Dev) (k : Link) : Dev.Executed k d d := ⟨rfl, rfl, touches_raise.refl d⟩

theorem Dev.Executed.trans (h1 : Dev.Executed k d e) (h2 : Dev.Executed k e g) : Dev.Executed k d g :=
  ⟨h2.state.trans h1.state, h2.errs.trans h1.errs, h1.touches.trans h2.touches⟩

/-- A step that writes neither the status of a link nor the count of its errors. -/
theorem Dev.Executed.of_touches (h : Dev.Touches (fun a => a = VL_STICKY k ∨ a = VL_THRSTAT k ∨ loopSide a) (fun _ => True) d e)
    (he : (e.link k).errs = (d.link k).errs) : Dev.Executed k d e := by
  refine ⟨h.fld ?_ (evtReg_link k (by decide) (by decide)) _ (by decide), he, h.mono (fun a ha => .inr (.inr ha)) fun _ h => h⟩
  rintro (h | h | h)
  · simp only [VL_STICKY] at h
    omega
  · simp only [VL_THRSTAT] at h
    omega
  · exact not_loopSide_link k (by decide) h

theorem Dev.executed_clearBits (d : Dev) (k : Link) : Dev.Executed k d (d.clearBits k) :=
  .of_touches (Dev.touches_modLink d _ trivial) (by rw [Dev.clearBits, Dev.link_modLink_same])

theorem Dev.executed_takeAck (d : Dev) (k : Link) (v : Nat) : Dev.Executed k d (d.takeAck k v) :=
  .of_touches ((d.touches_setAck v (.inr (.inl rfl))).trans (Dev.touches_modLink _ _ trivial))
    (by rw [Dev.takeAck, Dev.link_modLink_same, Dev.link_of_links (d.links_setAck v)])

theorem Dev.loops_takeAck (d : Dev) (k : Link) (v : Nat) : (d.takeAck k v).loops = d.loops := by
  rw [Dev.takeAck, Dev.modLink_loops, Dev.setAck, Dev.setFlag_loops, Dev.setFld_loops]

theorem Dev.thrAck_takeAck (d : Dev) (k : Link) {v : Nat} (hv : v < 4) : (d.takeAck k v).thrAck k = v :=
  (Dev.fld_of_rd _ (by decide) (Dev.rd_modLink ..)).trans (d.thrAck_setAck hv)

theorem Dev.executed_notOwner (d : Dev) (k : Link) : Dev.Executed k d (d.notOwner k) :=
  .of_touches (d.touches_linkFld VL_STICKY.NOTOWNER _ (by decide) (.inl rfl) (by decide) (by decide))
    (by rw [Dev.link, Dev.link, Dev.notOwner, Dev.setFlag_links])

/-- A step on the loops' side. -/
theorem Dev.Executed.of_loopSide (h : Dev.Touches loopSide (fun _ => False) d e) : Dev.Executed k d e :=
  .of_touches (h.mono (fun _ h => .inr (.inr h)) fun _ h => h.elim) (by rw [h.link k not_false])

theorem Dev.touches_spFault {L : Link → Prop} (d : Dev) (n : Loop) : Dev.Touches loopSide L d (d.spFault n) :=
  (d.touches_setFld (f := LP_STICKY.SPFAULT) _ (by decide) (.inl (loopReg_loop n (by decide) (by decide)))
    (statReg_of_loopReg (loopReg_loop n (by decide) (by decide)))).trans (touches_raise.raise _ (by have := n.isLt; omega))

theorem Dev.touches_slew {L : Link → Prop} (d : Dev) (n : Loop) (v : Word) : Dev.Touches loopSide L d (d.wr (LP_SLEW n) v) :=
  d.touches_wr v (.inl (.inl (loopReg_loop n (by decide) (by decide)))) (statReg_of_loopReg (loopReg_loop n (by decide) (by decide)))

theorem Dev.executed_vlSetBits (d : Dev) (j : Link) (m : Word) : Dev.Executed k d (d.vlSetBits j m) := by
  refine ⟨Dev.fld_syncAttn _ _ _ _ (by decide) (by decide), ?_, ?_⟩
  · rw [Dev.vlSetBits, Dev.link_of_links (Dev.links_syncAttn ..)]
    by_cases h : k = j
    · rw [h, Dev.link_modLink_same]
    · rw [Dev.link_modLink_ne _ _ _ h]
  · exact (Dev.touches_modLink d _ trivial).trans (Dev.touches_syncAttn _ (.inl ⟨j, rfl⟩))

/-- A settle is reported by bits of a link, and touches no register of loops. -/
theorem Dev.vlSettle_cases (d : Dev) (n : Loop) : d.vlSettle n = d ∨ ∃ j m, d.vlSettle n = d.vlSetBits j m := by
  unfold Dev.vlSettle
  split
  · exact .inr ⟨_, _, rfl⟩
  · exact .inl rfl

theorem Dev.executed_vlSettle (d : Dev) (n : Loop) : Dev.Executed k d (d.vlSettle n) := by
  obtain h | ⟨j, m, h⟩ := d.vlSettle_cases n
  · rw [h]
    exact .refl d k
  · rw [h]
    exact d.executed_vlSetBits j m

theorem Dev.executed_linkTarget (d : Dev) (n : Loop) (v : Nat) : Dev.Executed k d (d.linkTarget n v) := by
  refine (Dev.Executed.of_loopSide (d.touches_setTarget n v)).trans ?_
  unfold Dev.linkTarget Dev.when
  split
  · exact Dev.executed_vlSettle _ n
  · exact .refl _ k

theorem Dev.sides_vlSettle (d : Dev) (n : Loop) : (d.vlSettle n).loops = d.loops ∧
    ∀ a, loopReg a = true → (d.vlSettle n).rd a = d.rd a := by
  obtain h | ⟨j, m, h⟩ := d.vlSettle_cases n
  · rw [h]
    exact ⟨rfl, fun _ _ => rfl⟩
  · rw [h]
    refine ⟨Dev.setFlag_loops .., fun a ha => Dev.rd_syncAttn _ j fun e => ?_⟩
    subst e
    exact not_loopSide_link j (b := 0x2C16) (by decide) (.inl ha)

/-- LP_VSET and the target of the loop stand at the setpoint, limited (R48, R82). -/
theorem Dev.linkTarget_takes (d : Dev) (n : Loop) (w : Word) : (d.linkTarget n w.toNat).rn (LP_VSET n) = d.clampSet n w.toNat ∧
    ((d.linkTarget n w.toNat).loop n).target = d.clampSet n w.toNat := by
  have ht := d.takes_newTarget n w.isLt
  unfold Dev.linkTarget Dev.when
  rw [Dev.setTarget_eq]
  split
  · obtain ⟨hl, hr⟩ := ((d.setReady n w.toNat).newTarget n (d.clampSet n w.toNat)).sides_vlSettle n
    rw [Dev.rn, hr _ (loopReg_loop n (by decide) (by decide)), Dev.loop_congr hl]
    exact ⟨ht.vset, ht.target⟩
  · exact ⟨ht.vset, ht.target⟩

end Executed

/-! ## Commands of an exchange -/

/-- Command `c` of code `cmd` is taken and answered with ACK and the data `w`, and `P` describes what it leaves. -/
def Acks (s : State) (k : Link) (x : VlFrame) (c : Instr) (cmd : Nat) (w : Word) (P : Dev → Prop) : Prop :=
  Completes c s fun g => Dev.Taken k cmd x s.dev g ∧ g.rd32 (VL_LASTRSP k) = vlFrame (g.ackStatus k x.rail) w x.seq ∧ P g

/-- It is taken and answered with NAK, and changes no loop. -/
def Naks (s : State) (k : Link) (x : VlFrame) (c : Instr) (cmd reason : Nat) : Prop :=
  Completes c s fun g => Dev.Taken k cmd x s.dev g ∧ g.rd32 (VL_LASTRSP k) = vlFrame (16 + reason) 0 x.seq ∧
    g.loops = s.dev.loops

section Arrived

variable (d : Dev) (k : Link) (f : BitVec 32) (freq : Word)

/-- The arrival of a frame leaves the mapping, and the registers that commands read. -/
theorem Dev.railLoop_frameIn (j : Link) (r : Fin 4) : (d.frameIn k f freq).railLoop j r = d.railLoop j r :=
  (d.frameIn_spec k f freq).touches.railLoop (fun _ h => not_frameReg_of_loopSide (.inl h)) j r

theorem Dev.rd_loop_frameIn {a : Nat} (h : loopReg a = true) : (d.frameIn k f freq).rd a = d.rd a :=
  (d.frameIn_spec k f freq).touches.rd (not_frameReg_of_loopSide (.inl h)) (evtReg_of_loopReg h)

theorem Dev.spsrc_frameIn (n : Loop) : (d.frameIn k f freq).fld (LP_CFG n) LP_CFG.SPSRC = d.fld (LP_CFG n) LP_CFG.SPSRC :=
  Dev.fld_of_rd _ (by decide) (d.rd_loop_frameIn k f freq (loopReg_LP_CFG n))

theorem Dev.lstate_frameIn (n : Loop) : (d.frameIn k f freq).lstate n = d.lstate n :=
  Dev.fld_of_rd _ (by decide) (d.rd_loop_frameIn k f freq (loopReg_LP_STATUS n))

theorem Dev.rd_link_frameIn {b : Nat} (h : 0x2C00 ≤ b) (h2 : b < 0x2C40) (hb : b ∉ [0x2C16, 0x2C24, 0x2C26, 0x2C2E, 0x2C22]) :
    (d.frameIn k f freq).rd (b + 0x40 * k.val) = d.rd (b + 0x40 * k.val) := by
  refine (d.frameIn_spec k f freq).touches.rd ?_ (evtReg_link k h h2)
  simp only [List.mem_cons, List.not_mem_nil, or_false] at hb
  simp only [frameReg, VL_STATUS, VL_LASTCMD, VL_CKFREQ, VL_CMDCNT]
  omega

theorem Dev.slewen_frameIn : (d.frameIn k f freq).flag (VL_CFG k) VL_CFG.SLEWEN = d.flag (VL_CFG k) VL_CFG.SLEWEN := by
  rw [Dev.flag, Dev.flag, Dev.fld_of_rd _ (by decide) (d.rd_link_frameIn k f freq (by decide) (by decide) (by decide))]

theorem Dev.vlWord_frameIn : (d.frameIn k f freq).vlWord k = d.vlWord k := by
  have hpg (n : Loop) : (d.frameIn k f freq).flag (LP_STATUS n) LP_STATUS.PG = d.flag (LP_STATUS n) LP_STATUS.PG := by
    rw [Dev.flag, Dev.flag, Dev.fld_of_rd _ (by decide) (d.rd_loop_frameIn k f freq (loopReg_LP_STATUS n))]
  have hreq : (d.frameIn k f freq).thrReq k = d.thrReq k :=
    Dev.fld_of_rd _ (by decide) (d.rd_link_frameIn k f freq (by decide) (by decide) (by decide))
  simp only [Dev.vlWord, (d.frameIn_spec k f freq).link, d.railLoop_frameIn, hpg, hreq]

theorem Dev.railMask_frameIn : (d.frameIn k f freq).railMask k = d.railMask k := by
  simp only [Dev.railMask, d.railLoop_frameIn]

theorem Dev.clampSet_frameIn (n : Loop) (v : Nat) : (d.frameIn k f freq).clampSet n v = d.clampSet n v := by
  rw [Dev.clampSet, Dev.rn, Dev.rn, d.rd_loop_frameIn k f freq (loopReg_loop n (by decide) (by decide)),
    d.rd_loop_frameIn k f freq (loopReg_loop n (by decide) (by decide))]
  rfl

end Arrived

section Commands

variable {s : State} {k : Link} {x : VlFrame} (hl : s.dev.listens k = true) (hf : s.dev.flag (VL_STATUS k) VL_STATUS.FRAME = false)
  (hs : ∀ rsp, (s.dev.link k).stored ≠ some (x.seq, rsp))
include hl hf hs

section Answers

variable {c : Instr} {cmd : Nat} {e : Dev} (hx : exec c s = s.step1 (·.exchange k cmd x))
include hx

theorem acks_of_execute {w : Word} {P : Dev → Prop}
    (h : (s.dev.frameIn k (commandFrame cmd x) x.freq).vlExecute k cmd x.rail x.data = (ackWith w, e))
    (he : Dev.Executed k (s.dev.frameIn k (commandFrame cmd x) x.freq) e) (hP : ∀ g, Dev.Sent k cmd x (ackWith w) e g → P g) :
    Acks s k x c cmd w P := by
  obtain ⟨htaken, hsent⟩ := Dev.exchange_spec hl hf hs h he
  refine completes_step1 _ hx ⟨htaken, hsent.rsp.trans ?_, hP _ hsent⟩
  simp [VAnswer.sent, ackWith, VAnswer.frame]

theorem naks_of_execute {reason : Nat}
    (h : (s.dev.frameIn k (commandFrame cmd x) x.freq).vlExecute k cmd x.rail x.data = (nak reason, e))
    (he : Dev.Executed k (s.dev.frameIn k (commandFrame cmd x) x.freq) e) (hloops : e.loops = s.dev.loops) :
    Naks s k x c cmd reason := by
  obtain ⟨htaken, hsent⟩ := Dev.exchange_spec hl hf hs h he
  refine completes_step1 _ hx ⟨htaken, hsent.rsp.trans ?_, hsent.loops.trans hloops⟩
  simp [VAnswer.sent, nak, VAnswer.frame]

/-- A command that is refused, or only reads, leaves the device as its frame found it. -/
theorem acks_reading {w : Word} (h : (s.dev.frameIn k (commandFrame cmd x) x.freq).vlExecute k cmd x.rail x.data =
      (ackWith w, s.dev.frameIn k (commandFrame cmd x) x.freq)) : Acks s k x c cmd w fun g => g.loops = s.dev.loops :=
  acks_of_execute hl hf hs hx h (.refl _ k) fun _ hg => hg.loops.trans (s.dev.frameIn_spec k _ _).loops

theorem naks_refused {reason : Nat} (h : (s.dev.frameIn k (commandFrame cmd x) x.freq).vlExecute k cmd x.rail x.data =
      (nak reason, s.dev.frameIn k (commandFrame cmd x) x.freq)) : Naks s k x c cmd reason :=
  naks_of_execute hl hf hs hx h (.refl _ k) (s.dev.frameIn_spec k _ _).loops

end Answers

/-! ## Commands of the link -/

theorem vlPing_acks : Acks s k x (.vlPing k x) 0 (BitVec.ofNat 16 (0x0100 + 16 * s.dev.railMask k)) fun g =>
    g.loops = s.dev.loops :=
  acks_reading hl hf hs rfl (by rw [Dev.vlExecute_ping, Dev.railMask_frameIn])

theorem vlGetstat_acks : Acks s k x (.vlGetstat k x) 5 (s.dev.vlWord k) fun g => (g.link k).bits = 0 ∧ g.loops = s.dev.loops := by
  refine acks_of_execute hl hf hs rfl (by rw [Dev.vlExecute_getstat, Dev.vlWord_frameIn]) (Dev.executed_clearBits _ k)
    fun g hg => ⟨?_, hg.loops.trans (s.dev.frameIn_spec k _ _).loops⟩
  rw [hg.bits, Dev.clearBits, Dev.link_modLink_same]

theorem vlThrack_acks (hw : x.data.toNat ≤ 3) : Acks s k x (.vlThrack k x) 6 x.data fun g =>
    g.thrAck k = x.data.toNat ∧ g.loops = s.dev.loops := by
  refine acks_of_execute hl hf hs rfl (by rw [Dev.vlExecute_thrack, if_neg (by omega)]) (Dev.executed_takeAck _ k _)
    fun g hg => ⟨hg.thrAck.trans (Dev.thrAck_takeAck _ k (by omega)), hg.loops.trans ?_⟩
  rw [Dev.loops_takeAck, (s.dev.frameIn_spec k _ _).loops]

theorem vlThrack_naks (hw : 3 < x.data.toNat) : Naks s k x (.vlThrack k x) 6 5 :=
  naks_refused hl hf hs rfl (by rw [Dev.vlExecute_thrack, if_pos hw])

theorem vlResync_acks : Acks s k x (.vlResync k x) 9 0 fun g => (g.link k).stored = none ∧ g.loops = s.dev.loops :=
  acks_of_execute hl hf hs rfl (Dev.vlExecute_resync ..) (.refl _ k)
    fun _ hg => ⟨hg.stored rfl, hg.loops.trans (s.dev.frameIn_spec k _ _).loops⟩

theorem vlReserved_naks (i : Fin 6) : Naks s k x (.vlReservedCmd k i x) (10 + i.val) 1 :=
  naks_refused hl hf hs rfl (Dev.vlExecute_reserved ..)

/-! ## Commands of a rail -/

theorem vlRail_naks (hr : s.dev.railLoop k x.rail = none) : Naks s k x (.vlSetv k x) 1 2 ∧ Naks s k x (.vlGetv k x) 2 2 ∧
    Naks s k x (.vlGeti k x) 3 2 ∧ Naks s k x (.vlGetp k x) 4 2 ∧ Naks s k x (.vlSetslew k x) 7 2 ∧ Naks s k x (.vlGetvset k x) 8 2 := by
  have hc (f : BitVec 32) : (s.dev.frameIn k f x.freq).railLoop k x.rail = none := (Dev.railLoop_frameIn ..).trans hr
  exact ⟨naks_refused hl hf hs rfl (Dev.vlExecute_noRail _ _ _ _ (hc _) (by decide)),
    naks_refused hl hf hs rfl (Dev.vlExecute_noRail _ _ _ _ (hc _) (by decide)),
    naks_refused hl hf hs rfl (Dev.vlExecute_noRail _ _ _ _ (hc _) (by decide)),
    naks_refused hl hf hs rfl (Dev.vlExecute_noRail _ _ _ _ (hc _) (by decide)),
    naks_refused hl hf hs rfl (Dev.vlExecute_noRail _ _ _ _ (hc _) (by decide)),
    naks_refused hl hf hs rfl (Dev.vlExecute_noRail _ _ _ _ (hc _) (by decide))⟩

variable {n : Loop} (hr : s.dev.railLoop k x.rail = some n)
include hr

theorem vlGet_acks : Acks s k x (.vlGetv k x) 2 (s.dev.rd (LP_VOUT n)) (fun g => g.loops = s.dev.loops) ∧
    Acks s k x (.vlGeti k x) 3 (s.dev.rd (LP_IOUT n)) (fun g => g.loops = s.dev.loops) ∧
    Acks s k x (.vlGetp k x) 4 (s.dev.rd (LP_POUT n)) (fun g => g.loops = s.dev.loops) ∧
    Acks s k x (.vlGetvset k x) 8 (s.dev.rd (LP_VSET n)) (fun g => g.loops = s.dev.loops) := by
  have hc (f : BitVec 32) : (s.dev.frameIn k f x.freq).railLoop k x.rail = some n := (Dev.railLoop_frameIn ..).trans hr
  have hrd {b : Nat} (h : 0x2000 ≤ b) (hb : b < 0x2080) (f : BitVec 32) :
      (s.dev.frameIn k f x.freq).rd (b + 0x80 * n.val) = s.dev.rd (b + 0x80 * n.val) := Dev.rd_loop_frameIn _ _ _ _ (loopReg_loop n h hb)
  refine ⟨acks_reading hl hf hs rfl ?_, acks_reading hl hf hs rfl ?_, acks_reading hl hf hs rfl ?_, acks_reading hl hf hs rfl ?_⟩
  · rw [Dev.vlExecute_getv (hc _), LP_VOUT, hrd (by decide) (by decide)]
  · rw [Dev.vlExecute_geti (hc _), LP_IOUT, hrd (by decide) (by decide)]
  · rw [Dev.vlExecute_getp (hc _), LP_POUT, hrd (by decide) (by decide)]
  · rw [Dev.vlExecute_getvset (hc _), LP_VSET, hrd (by decide) (by decide)]

theorem vlSet_foreign (ho : s.dev.fld (LP_CFG n) LP_CFG.SPSRC ≠ 2) : Naks s k x (.vlSetv k x) 1 3 ∧ Naks s k x (.vlSetslew k x) 7 3 := by
  have hexec (f : BitVec 32) := Dev.vlExecute_foreign (d := s.dev.frameIn k f x.freq) (k := k) (r := x.rail) (w := x.data)
    (by rwa [Dev.railLoop_frameIn]) (by rwa [Dev.spsrc_frameIn])
  have hloops (f : BitVec 32) : ((s.dev.frameIn k f x.freq).notOwner k).loops = s.dev.loops := by
    rw [Dev.notOwner, Dev.setFlag_loops, (s.dev.frameIn_spec k _ _).loops]
  refine ⟨naks_of_execute hl hf hs rfl (hexec _).1 ((Dev.executed_notOwner _ k).trans (.of_loopSide (Dev.touches_spFault _ n))) ?_,
    naks_of_execute hl hf hs rfl (hexec _).2 (Dev.executed_notOwner _ k) (hloops _)⟩
  exact ((loops_hop.raise _ (by have := n.isLt; omega)).trans (Dev.setFlag_loops ..)).trans (hloops _)

variable (ho : s.dev.fld (LP_CFG n) LP_CFG.SPSRC = 2)
include ho

theorem vlSet_latched (hlat : s.dev.lstate n = lsOvLatched) : Naks s k x (.vlSetv k x) 1 4 ∧ Naks s k x (.vlSetslew k x) 7 4 := by
  have hexec (f : BitVec 32) := Dev.vlExecute_latched (d := s.dev.frameIn k f x.freq) (k := k) (r := x.rail) (w := x.data)
    (by rwa [Dev.railLoop_frameIn]) (by rwa [Dev.spsrc_frameIn]) (by rwa [Dev.lstate_frameIn])
  exact ⟨naks_refused hl hf hs rfl (hexec _).1, naks_refused hl hf hs rfl (hexec _).2⟩

variable (hlat : s.dev.lstate n ≠ lsOvLatched)
include hlat

theorem vlSetv_acks : Acks s k x (.vlSetv k x) 1 (BitVec.ofNat 16 (s.dev.clampSet n x.data.toNat)) fun g =>
    g.rn (LP_VSET n) = s.dev.clampSet n x.data.toNat ∧ (g.loop n).target = s.dev.clampSet n x.data.toNat := by
  have hexec (f : BitVec 32) := Dev.vlExecute_setv (d := s.dev.frameIn k f x.freq) (k := k) (r := x.rail) (w := x.data)
    (by rwa [Dev.railLoop_frameIn]) (by rwa [Dev.spsrc_frameIn]) (by rwa [Dev.lstate_frameIn])
  have htakes (f : BitVec 32) := (s.dev.frameIn k f x.freq).linkTarget_takes n x.data
  simp only [Dev.clampSet_frameIn] at htakes
  have hword (f : BitVec 32) : ((s.dev.frameIn k f x.freq).linkTarget n x.data.toNat).rd (LP_VSET n) =
      BitVec.ofNat 16 (s.dev.clampSet n x.data.toNat) := by
    rw [← (htakes f).1, Dev.rn, BitVec.ofNat_toNat, BitVec.setWidth_eq]
  refine acks_of_execute hl hf hs rfl ((hexec _).trans (by rw [hword])) (Dev.executed_linkTarget _ n _) fun g hg => ⟨?_, ?_⟩
  · rw [Dev.rn, hg.rd _ (loopReg_loop n (by decide) (by decide))]
    exact (htakes _).1
  · rw [Dev.loop_congr hg.loops]
    exact (htakes _).2

theorem vlSetslew_locked (hslew : s.dev.flag (VL_CFG k) VL_CFG.SLEWEN = false) : Naks s k x (.vlSetslew k x) 7 6 := by
  have hexec (f : BitVec 32) := Dev.vlExecute_setslew (d := s.dev.frameIn k f x.freq) (k := k) (r := x.rail) (w := x.data)
    (by rwa [Dev.railLoop_frameIn]) (by rwa [Dev.spsrc_frameIn]) (by rwa [Dev.lstate_frameIn])
  exact naks_refused hl hf hs rfl ((hexec _).trans (if_neg (by rw [Dev.slewen_frameIn, hslew]; decide)))

theorem vlSetslew_acks (hslew : s.dev.flag (VL_CFG k) VL_CFG.SLEWEN = true) : Acks s k x (.vlSetslew k x) 7 x.data fun g =>
    g.rd (LP_SLEW n) = x.data ∧ g.loops = s.dev.loops := by
  have hexec (f : BitVec 32) := Dev.vlExecute_setslew (d := s.dev.frameIn k f x.freq) (k := k) (r := x.rail) (w := x.data)
    (by rwa [Dev.railLoop_frameIn]) (by rwa [Dev.spsrc_frameIn]) (by rwa [Dev.lstate_frameIn])
  refine acks_of_execute hl hf hs rfl ((hexec _).trans (if_pos (by rw [Dev.slewen_frameIn, hslew])))
    (.of_loopSide (Dev.touches_slew _ n _)) fun g hg => ⟨?_, hg.loops.trans (s.dev.frameIn_spec k _ _).loops⟩
  rw [hg.rd _ (loopReg_loop n (by decide) (by decide)), Dev.rd_wr_same]

end Commands

/-! ## Replay (R80) -/

section Replay

variable (d : Dev) (k : Link)

theorem Dev.loops_replayed : (d.replayed k).loops = d.loops := by rw [Dev.replayed, Dev.bump_loops, Dev.setFlag_loops]

theorem Dev.links_replayed : (d.replayed k).links = d.links := by rw [Dev.replayed, Dev.bump_links, Dev.setFlag_links]

theorem Dev.touches_replayed : Dev.Touches (fun a => a = VL_DUPCNT k ∨ a = VL_STICKY k) (fun _ => False) d (d.replayed k) :=
  (d.touches_linkFld VL_STICKY.DUP _ (by decide) (.inr rfl) (by decide) (by decide)).trans
    (Dev.touches_wr _ _ (.inl (.inl rfl)) (statReg_link k (by decide) (by decide)))

theorem Dev.executed_replayed : Dev.Executed k d (d.replayed k) := by
  refine ⟨(d.touches_replayed k).fld ?_ (evtReg_link k (by decide) (by decide)) _ (by decide), ?_, ?_⟩
  · simp only [VL_DUPCNT, VL_STICKY]
    omega
  · rw [Dev.link_of_links (d.links_replayed k)]
  · exact (d.touches_replayed k).mono (fun a ha => .inr (ha.imp_right .inl)) fun _ h => h.elim

theorem Dev.dup_replayed : (d.replayed k).flag (VL_STICKY k) VL_STICKY.DUP = true := by
  rw [Dev.replayed, Dev.flag, Dev.fld_of_rd _ (by decide) (Dev.rd_bump_ne _ (by simp))]
  exact Dev.flag_setFlag_same d _ _ _ (by decide) (by decide)

theorem Dev.dupcnt_replayed : (d.replayed k).rd (VL_DUPCNT k) = satInc (d.rd (VL_DUPCNT k)) := by
  rw [Dev.replayed, Dev.rd_bump_same, Dev.rd_setFlag_ne _ _ _ (by decide) (by simp)]

end Replay

/-- A stored SEQ is answered from the store, and counted; nothing is executed. -/
theorem Dev.exchange_replays {d : Dev} {k : Link} {cmd : Nat} {x : VlFrame} (hl : d.listens k = true)
    (hf : d.flag (VL_STATUS k) VL_STATUS.FRAME = false) {rsp : BitVec 32} (hs : (d.link k).stored = some (x.seq, rsp)) :
    Dev.Taken k cmd x d (d.exchange k cmd x) ∧ (d.exchange k cmd x).rd32 (VL_LASTRSP k) = rsp ∧
      (d.exchange k cmd x).flag (VL_STICKY k) VL_STICKY.DUP = true ∧
      (d.exchange k cmd x).rd (VL_DUPCNT k) = satInc (d.rd (VL_DUPCNT k)) ∧ (d.exchange k cmd x).loops = d.loops := by
  rw [Dev.exchange_stored hl hf hs]
  have hin := d.frameIn_spec k (commandFrame cmd x) x.freq
  have hout := ((d.frameIn k (commandFrame cmd x) x.freq).replayed k).responded k rsp x.lat x.still
  have hans {b : Nat} (hb : b ∉ [0x2C16, 0x2C28, 0x2C2A, 0x2C2C]) : ¬answerReg k (b + 0x40 * k.val) := by
    simp only [List.mem_cons, List.not_mem_nil, or_false] at hb
    simp only [answerReg, VL_STATUS, VL_LASTRSP, VL_ACKLAT]
    omega
  refine ⟨.of_parts k cmd x hin (Dev.executed_replayed _ k) hout fun _ => ?_, hout.rsp, ?_, ?_, ?_⟩
  · rw [Dev.link_of_links (Dev.links_replayed _ k), hin.link]
    exact hs
  · exact (hout.touches.flag (hans (by decide)) (evtReg_link k (by decide) (by decide)) _ (by decide)).trans (Dev.dup_replayed _ k)
  · rw [hout.touches.rd (hans (by decide)) (evtReg_link k (by decide) (by decide)), Dev.dupcnt_replayed, VL_DUPCNT,
      d.rd_link_frameIn k _ _ (by decide) (by decide) (by decide)]
  · rw [hout.loops, Dev.loops_replayed, hin.loops]

/-! ## The statement -/

theorem Dev.railMask_eq (d : Dev) (k : Link) {bit : Fin 4 → Nat} (h : ∀ i, bit i = if (d.railLoop k i).isSome then 2 ^ i.val else 0) :
    d.railMask k = bit 0 + bit 1 + bit 2 + bit 3 := by
  have hstep (a : Nat) (i : Fin 4) : (if (d.railLoop k i).isSome then a + 2 ^ i.val else a) = a + bit i := by
    rw [h i]
    split <;> simp
  have hl : List.finRange 4 = [0, 1, 2, 3] := by decide
  simp only [Dev.railMask, hstep, hl, List.foldl_cons, List.foldl_nil, Nat.zero_add]

/-- Settles O49: a good frame is its arrival, the command or the replay of its response, and the answer. -/
theorem velongCommands : Obligations.VelongCommands := by
  unfold Obligations.VelongCommands
  intro s k x hl hf d lim bit fresh taken acks naks same
  have htaken {cmd : Nat} {e : Dev} (h : Dev.Taken k cmd x d e) : taken e cmd :=
    ⟨h.state, h.event, h.errs, h.lastCmd, h.count, h.freq, h.lat, h.frame, h.stored⟩
  have hacks {c : Instr} {cmd : Nat} {w : Word} {P : Dev → Prop} (h : Acks s k x c cmd w P) : acks c cmd w P :=
    h.mono fun _ h => ⟨htaken h.1, h.2⟩
  have hnaks {c : Instr} {cmd reason : Nat} (h : Naks s k x c cmd reason) : naks c cmd reason :=
    h.mono fun _ h => ⟨htaken h.1, h.2⟩
  refine ⟨fun hs => ⟨?_, hacks (vlGetstat_acks hl hf hs), fun h => hacks (vlThrack_acks hl hf hs h),
    fun h => hnaks (vlThrack_naks hl hf hs h), hacks (vlResync_acks hl hf hs), fun i => hnaks (vlReserved_naks hl hf hs i),
    fun hr => ?_, fun n hr => ?_⟩, fun rsp hs => ?_⟩
  · rw [← d.railMask_eq k fun _ => rfl]
    exact hacks (vlPing_acks hl hf hs)
  · obtain ⟨hsetv, hgetv, hgeti, hgetp, hslew, hgetvset⟩ := vlRail_naks hl hf hs hr
    exact ⟨hnaks hsetv, hnaks hgetv, hnaks hgeti, hnaks hgetp, hnaks hslew, hnaks hgetvset⟩
  · intro mine latch
    obtain ⟨hgetv, hgeti, hgetp, hgetvset⟩ := vlGet_acks hl hf hs hr
    refine ⟨hacks hgetv, hacks hgeti, hacks hgetp, hacks hgetvset, fun ho => ?_, fun ho hlat => ?_,
      fun ho hlat => hacks (vlSetv_acks hl hf hs hr ho hlat), fun ho hlat hslew => hnaks (vlSetslew_locked hl hf hs hr ho hlat hslew),
      fun ho hlat hslew => hacks (vlSetslew_acks hl hf hs hr ho hlat hslew)⟩
    · obtain ⟨hsetv, hslew⟩ := vlSet_foreign hl hf hs hr ho
      exact ⟨hnaks hsetv, hnaks hslew⟩
    · obtain ⟨hsetv, hslew⟩ := vlSet_latched hl hf hs hr ho hlat
      exact ⟨hnaks hsetv, hnaks hslew⟩
  · obtain ⟨htak, hrest⟩ := Dev.exchange_replays (cmd := 1) hl hf hs
    exact completes_step1 (·.exchange k 1 x) rfl ⟨htaken htak, hrest⟩

end Sys2Proof.Machine
end

section
/-!
Bad frames, and the states of a link (R80, R86 to R90, R92, R93).
-/

namespace Sys2Proof.Machine

open Sys2Proof Sys2Proof.R

/-! ## Loss (R88 to R90) -/

/-- What the loss of link `k`, which was UP in `d`, makes of the device. -/
structure Dev.Lost (k : Link) (d e : Dev) : Prop where
  state : e.vlState k = vlLost
  sticky : e.flag (VL_STICKY k) VL_STICKY.LOST = true
  event : e.evtPending (96 + 4 * k.val) = true
  ack : e.thrAck k = 0
  stored : (e.link k).stored = none
  rails : ∀ (r : Fin 4) (n : Loop), d.railLoop k r = some n → d.fld (LP_CFG n) LP_CFG.SPSRC = 2 → Dev.LossDone k r n d e

/-- The link shows its loss. -/
def Dev.markLost (d : Dev) (k : Link) : Dev := (d.setVlState k vlLost).setFlag (VL_STICKY k) VL_STICKY.LOST true

/-- The rails of a lost link are told. -/
def Dev.tellRails (d : Dev) (k : Link) : Dev := ((d.lossActions k).raise (96 + 4 * k.val)).syncAttn k

section Lose

variable (d : Dev) (k : Link)

theorem Dev.lose_of_up (h : d.vlState k = vlUp) : d.lose k = (d.markLost k).tellRails k := by
  unfold Dev.lose
  rw [if_neg (by simpa using h)]
  rfl

theorem Dev.lose_of_not_up (h : d.vlState k ≠ vlUp) : d.lose k = d := by
  unfold Dev.lose
  exact if_pos h

theorem Dev.touches_markLost {L : Link → Prop} : Dev.Touches (fun a => a = VL_STATUS k ∨ a = VL_STICKY k) L d (d.markLost k) :=
  (d.touches_status VL_STATUS.STATE _ (by decide) (.inl rfl)).trans
    (Dev.touches_linkFld _ VL_STICKY.LOST _ (by decide) (.inr rfl) (by decide) (by decide))

theorem Dev.vlState_markLost : (d.markLost k).vlState k = vlLost :=
  (Dev.fld_of_rd _ (by decide) (Dev.rd_setFlag_ne _ _ _ (by decide) (by simp))).trans (d.vlState_setVlState k (by decide))

/-- After the rails are told: the events and the attention are all that follows LOSSACT. -/
theorem Dev.touches_afterActions : Dev.Touches (· = VL_STATUS k) (fun _ => False) (d.lossActions k) (d.tellRails k) :=
  (touches_raise.raise _ (by have := k.isLt; omega)).trans (Dev.touches_syncAttn _ rfl)

theorem Dev.touches_tellRails : Dev.Touches (fun a => a = VL_STATUS k ∨ a = VL_THRSTAT k ∨ loopSide a) (· = k) d (d.tellRails k) :=
  ((d.touches_lossActions k).mono (fun _ h => .inr h) fun _ h => h).trans
    ((d.touches_afterActions k).mono (fun _ h => .inl h) fun _ h => h.elim)

theorem Dev.vlState_tellRails : (d.tellRails k).vlState k = d.vlState k := by
  refine (Dev.fld_syncAttn _ _ _ _ (by decide) (by decide)).trans (Dev.fld_of_rd _ (by decide) ?_)
  exact ((Dev.quiet_raise _ (by have := k.isLt; omega)).2 _ (evtReg_link k (by decide) (by decide))).trans
    (d.rd_status_lossActions k)

/-- The sticky bits of the link are not touched by what a loss does to rails. -/
theorem Dev.rd_sticky_tellRails : (d.tellRails k).rd (VL_STICKY k) = d.rd (VL_STICKY k) := by
  refine (d.touches_tellRails k).rd ?_ (evtReg_link k (by decide) (by decide))
  rintro (h | h | h)
  · simp only [VL_STICKY, VL_STATUS] at h
    omega
  · simp only [VL_STICKY, VL_THRSTAT] at h
    omega
  · exact not_loopSide_link k (by decide) h

theorem not_setting_status {n : Loop} {a : Nat} (ha : lossSetting k n a) : ¬(a = VL_STATUS k ∨ a = VL_STICKY k) := by
  obtain rfl | rfl | rfl | rfl | rfl | ⟨i, rfl⟩ := ha <;>
    simp only [LP_CFG, LP_VSET, LP_VMIN, LP_VMAX, VL_CFG, VL_SAFEV, VL_STATUS, VL_STICKY] <;> omega

variable {d k} in
/-- A loss is told of the settings that it finds. -/
theorem Dev.Lost.of_start {d' e : Dev} (hset : ∀ n a, lossSetting k n a → d.rd a = d'.rd a)
    (hmap : ∀ r, d.railLoop k r = d'.railLoop k r) (h : Dev.Lost k d e) : Dev.Lost k d' e :=
  { h with
    rails := fun r n hr ho => (h.rails r n ((hmap r).trans hr)
      ((Dev.fld_of_rd _ (by decide) (hset n _ (.inr (.inl rfl)))).trans ho)).of_start (hset n) }

variable {d k} in
/-- What an answer touches is no part of a loss. -/
theorem Dev.Lost.of_end {e f : Dev} (ht : Dev.Touches (answerReg k) (fun _ => False) e f) (hs : f.vlState k = e.vlState k)
    (h : Dev.Lost k d e) : Dev.Lost k d f := by
  have hlink {b : Nat} (hb : 0x2C00 ≤ b) (h2 : b < 0x2C40) (hne : b ∉ [0x2C16, 0x2C28, 0x2C2A, 0x2C2C]) :
      f.rd (b + 0x40 * k.val) = e.rd (b + 0x40 * k.val) := by
    refine ht.rd ?_ (evtReg_link k hb h2)
    simp only [List.mem_cons, List.not_mem_nil, or_false] at hne
    simp only [answerReg, VL_STATUS, VL_LASTRSP, VL_ACKLAT]
    omega
  have hloop {a : Nat} (ha : loopReg a = true) : f.rd a = e.rd a :=
    ht.rd (not_answerReg_of_loopSide (.inl ha)) (evtReg_of_loopReg ha)
  refine ⟨hs.trans h.state, ?_, ht.pending _ (by omega) h.event, ?_, ?_, fun r n hr ho => ?_⟩
  · rw [Dev.flag, Dev.fld_of_rd _ (by decide) (hlink (by decide) (by decide) (by decide))]
    exact h.sticky
  · exact (Dev.fld_of_rd _ (by decide) (hlink (by decide) (by decide) (by decide))).trans h.ack
  · rw [ht.link k not_false, h.stored]
  · exact (h.rails r n hr ho).of_end (hloop (loopReg_loop n (by decide) (by decide))) (hloop (loopReg_LP_CFG n))

theorem Dev.lost_tellRails (hs : d.vlState k = vlLost) (hl : d.flag (VL_STICKY k) VL_STICKY.LOST = true) :
    Dev.Lost k d (d.tellRails k) := by
  have hafter := d.touches_afterActions k
  have hloop {a : Nat} (ha : loopReg a = true) : (d.tellRails k).rd a = (d.lossActions k).rd a := by
    refine hafter.rd (fun e => ?_) (evtReg_of_loopReg ha)
    subst e
    exact not_loopSide_link k (b := 0x2C16) (by decide) (.inl ha)
  refine ⟨(d.vlState_tellRails k).trans hs, ?_, ?_, ?_, ?_, fun r n hr ho => ?_⟩
  · rw [Dev.flag, Dev.fld_of_rd _ (by decide) (d.rd_sticky_tellRails k)]
    exact hl
  · have hlt : 96 + 4 * k.val < 256 := by omega
    exact (Dev.touches_syncAttn (W := (· = VL_STATUS k)) (L := fun _ => False) _ rfl).pending _ hlt (Dev.evtPending_raise _ hlt)
  · exact (hafter.fld (by simp) (evtReg_link k (by decide) (by decide)) _ (by decide)).trans (d.thrAck_lossActions k)
  · rw [hafter.link k not_false, d.link_lossActions k]
  · exact (d.lossDone_lossActions k hr ho).of_end (hloop (loopReg_loop n (by decide) (by decide))) (hloop (loopReg_LP_CFG n))

theorem Dev.lost_lose (h : d.vlState k = vlUp) : Dev.Lost k d (d.lose k) := by
  rw [d.lose_of_up k h]
  have hm := d.touches_markLost k (L := fun _ => False)
  refine ((d.markLost k).lost_tellRails k (d.vlState_markLost k)
    (Dev.flag_setFlag_same _ _ _ _ (by decide) (by decide))).of_start (fun n a ha => ?_) fun r => ?_
  · exact hm.rd (not_setting_status k ha) (evtReg_of_setting ha)
  · refine hm.railLoop (fun a ha => ?_) k r
    rintro (rfl | rfl)
    · exact not_loopSide_link k (b := 0x2C16) (by decide) (.inl ha)
    · exact not_loopSide_link k (b := 0x2C1A) (by decide) (.inl ha)

theorem Dev.touches_lose : Dev.Touches (lossSide k) (· = k) d (d.lose k) := by
  by_cases h : d.vlState k = vlUp
  · rw [d.lose_of_up k h]
    exact ((d.touches_markLost k).mono (fun _ h => h.imp_right .inl) fun _ h => h).trans
      ((Dev.touches_tellRails _ k).mono (fun _ h => h.imp_right .inr) fun _ h => h)
  · rw [d.lose_of_not_up k h]
    exact touches_raise.refl d

/-- Of the sticky bits a loss writes LOST alone. -/
theorem Dev.fld_sticky_lose (f : Fld) (hf : f.lo + f.w ≤ 3) : (d.lose k).fld (VL_STICKY k) f = d.fld (VL_STICKY k) f := by
  by_cases h : d.vlState k = vlUp
  · rw [d.lose_of_up k h, Dev.fld_of_rd f (by omega) (Dev.rd_sticky_tellRails _ k), Dev.markLost, Dev.setFlag,
      Dev.fld_setFld_other _ _ _ _ (by decide) (by omega) (.inl hf)]
    exact Dev.fld_of_rd f (by omega) (Dev.rd_setFld_ne _ _ _ (by decide) (by simp))
  · rw [d.lose_of_not_up k h]

end Lose

/-! ## Bad command frames (R88, R90) -/

/-- A bad frame is counted, and PROTOCOL raised after a good one. -/
def Dev.countBad (d : Dev) (k : Link) : Dev :=
  (d.modLink k fun x => { x with errs := x.errs + 1, protoArmed := false }).when (d.link k).protoArmed (·.raise (98 + 4 * k.val))

/-- What a bad frame makes of a device, whatever was wrong with it. -/
structure Dev.BadFrame (k : Link) (d e : Dev) : Prop where
  protocol : (d.link k).protoArmed = true → e.evtPending (98 + 4 * k.val) = true
  below : d.fld (VL_CFG k) VL_CFG.ERRLIM = 0 ∨ (d.link k).errs + 1 < d.fld (VL_CFG k) VL_CFG.ERRLIM →
    e.vlState k = d.vlState k ∧ (e.link k).errs = (d.link k).errs + 1 ∧ (e.link k).stored = (d.link k).stored
  lost : d.fld (VL_CFG k) VL_CFG.ERRLIM ≠ 0 → d.fld (VL_CFG k) VL_CFG.ERRLIM ≤ (d.link k).errs + 1 → d.vlState k = vlUp →
    Dev.Lost k d e
  sticky : ∀ f : Fld, f.lo + f.w ≤ 3 → e.fld (VL_STICKY k) f = d.fld (VL_STICKY k) f
  touches : Dev.Touches (lossSide k) (· = k) d e

section BadFrame

variable (d : Dev) (k : Link)

theorem Dev.touches_countBad {W : Nat → Prop} : Dev.Touches W (· = k) d (d.countBad k) :=
  (Dev.touches_modLink (k := k) (L := (· = k)) d _ rfl).trans
    (touches_raise.when fun _ => touches_raise.raise (e := 98 + 4 * k.val) _ (by have := k.isLt; omega))

theorem Dev.link_countBad : (d.countBad k).link k = { d.link k with errs := (d.link k).errs + 1, protoArmed := false } := by
  have h : Dev.Touches (fun _ => False) (fun _ => False) (d.modLink k fun x => { x with errs := x.errs + 1, protoArmed := false })
      (d.countBad k) := touches_raise.when fun _ => touches_raise.raise _ (by have := k.isLt; omega)
  rw [h.link k not_false, Dev.link_modLink_same]

theorem Dev.protocol_countBad (h : (d.link k).protoArmed = true) : (d.countBad k).evtPending (98 + 4 * k.val) = true := by
  rw [Dev.countBad, Dev.when, if_pos h]
  exact Dev.evtPending_raise _ (by have := k.isLt; omega)

theorem Dev.rd_countBad {a : Nat} (h : evtReg a = false) : (d.countBad k).rd a = d.rd a :=
  (d.touches_countBad k (W := fun _ => False)).rd not_false h

theorem Dev.badFrame_eq : d.badFrame k = (d.countBad k).when (d.fld (VL_CFG k) VL_CFG.ERRLIM ≠ 0 &&
    d.fld (VL_CFG k) VL_CFG.ERRLIM ≤ (d.link k).errs + 1) (·.lose k) := by
  have hlim : (d.countBad k).fld (VL_CFG k) VL_CFG.ERRLIM = d.fld (VL_CFG k) VL_CFG.ERRLIM :=
    Dev.fld_of_rd _ (by decide) (d.rd_countBad k (evtReg_link k (by decide) (by decide)))
  have herrs : ((d.countBad k).link k).errs = (d.link k).errs + 1 := by rw [d.link_countBad k]
  rw [← hlim, ← herrs]
  rfl

theorem Dev.badFrame_spec : Dev.BadFrame k d (d.badFrame k) := by
  have hbad : Dev.Touches (lossSide k) (· = k) (d.countBad k) (d.badFrame k) := by
    rw [d.badFrame_eq k]
    exact touches_raise.when fun _ => Dev.touches_lose _ k
  have hst : (d.countBad k).vlState k = d.vlState k :=
    Dev.fld_of_rd _ (by decide) (d.rd_countBad k (evtReg_link k (by decide) (by decide)))
  refine ⟨fun h => ?_, fun h => ?_, fun h0 h1 hup => ?_, fun f hf => ?_, (d.touches_countBad k).trans hbad⟩
  · exact hbad.pending _ (by omega) (d.protocol_countBad k h)
  · have : d.badFrame k = d.countBad k := by
      rw [d.badFrame_eq k, Dev.when, if_neg]
      simp only [Bool.and_eq_true, decide_eq_true_eq]
      omega
    rw [this, d.link_countBad k]
    exact ⟨hst, rfl, rfl⟩
  · have : d.badFrame k = (d.countBad k).lose k := by
      rw [d.badFrame_eq k, Dev.when, if_pos (by simp [h0, h1])]
    rw [this]
    refine ((d.countBad k).lost_lose k (hst.trans hup)).of_start (fun n a ha => d.rd_countBad k (evtReg_of_setting ha)) fun r => ?_
    exact (d.touches_countBad k (W := fun _ => False)).railLoop (fun _ _ => not_false) k r
  · have hcount : (d.countBad k).fld (VL_STICKY k) f = d.fld (VL_STICKY k) f :=
      Dev.fld_of_rd f (by omega) (d.rd_countBad k (evtReg_link k (by decide) (by decide)))
    rw [d.badFrame_eq k, Dev.when]
    split
    · rw [Dev.fld_sticky_lose _ k f hf, hcount]
    · exact hcount

end BadFrame

end Sys2Proof.Machine
end

section
/-!
The errors of command frames, the time-outs of a link, and its enable (R80, R86 to R90, R92, R93).
-/

namespace Sys2Proof.Machine

open Sys2Proof Sys2Proof.R

/-! ## The frame that is refused (R80, R88, R93) -/

/-- What an error of a command frame, of the sticky bit `sticky` and the counter `cnt`, leaves. -/
structure Dev.Counts (k : Link) (sticky : Fld) (cnt : Nat) (d e : Dev) : Prop where
  sticky : e.flag (VL_STICKY k) sticky = true
  count : e.rd cnt = satInc (d.rd cnt)
  protocol : (d.link k).protoArmed = true → e.evtPending (98 + 4 * k.val) = true
  below : d.fld (VL_CFG k) VL_CFG.ERRLIM = 0 ∨ (d.link k).errs + 1 < d.fld (VL_CFG k) VL_CFG.ERRLIM →
    e.vlState k = d.vlState k ∧ (e.link k).errs = (d.link k).errs + 1 ∧ (e.link k).stored = (d.link k).stored
  lost : d.fld (VL_CFG k) VL_CFG.ERRLIM ≠ 0 → d.fld (VL_CFG k) VL_CFG.ERRLIM ≤ (d.link k).errs + 1 → d.vlState k = vlUp →
    Dev.Lost k d e

/-- The registers that show and count a frame which is refused. -/
def noteReg (k : Link) (a : Nat) : Prop :=
  ∃ b : Nat, b ∈ [0x2C1A, 0x2C1C, 0x2C1E, 0x2C24, 0x2C26, 0x2C2E] ∧ a = b + 0x40 * k.val

section Counts

variable {k : Link}

theorem not_noteReg_link {b : Nat} (h : b ∉ [0x2C1A, 0x2C1C, 0x2C1E, 0x2C24, 0x2C26, 0x2C2E]) : ¬noteReg k (b + 0x40 * k.val) := by
  rintro ⟨c, hc, he⟩
  obtain rfl := Nat.add_right_cancel he
  exact h hc

theorem not_noteReg_of_lt {a : Nat} (h : a < 0x2C00) : ¬noteReg k a := by
  rintro ⟨b, hb, rfl⟩
  simp only [List.mem_cons, List.not_mem_nil, or_false] at hb
  omega

theorem not_noteReg_of_loopReg {a : Nat} (h : loopReg a = true) : ¬noteReg k a := by
  simp only [loopReg, Bool.and_eq_true, decide_eq_true_eq] at h
  exact not_noteReg_of_lt (by omega)

theorem not_noteReg_of_setting {n : Loop} {a : Nat} (h : lossSetting k n a) : ¬noteReg k a := by
  have hn := n.isLt
  obtain rfl | rfl | rfl | rfl | rfl | ⟨r, rfl⟩ := h
  · exact not_noteReg_of_lt (by simp only [LP_VSET]; omega)
  · exact not_noteReg_of_lt (by simp only [LP_CFG]; omega)
  · exact not_noteReg_of_lt (by simp only [LP_VMIN]; omega)
  · exact not_noteReg_of_lt (by simp only [LP_VMAX]; omega)
  · exact not_noteReg_link (by decide)
  · rw [VL_SAFEV, Nat.add_right_comm]
    exact not_noteReg_link (by simp only [List.mem_cons, List.not_mem_nil, or_false]; omega)

/-- The error is noted. -/
def Dev.noteError (d : Dev) (k : Link) (sticky : Fld) (cnt : Nat) : Dev := (d.setFlag (VL_STICKY k) sticky true).bump cnt

/-- A frame is refused: the error of the sticky bit `sticky` and the counter `cnt` has been noted in `c`. -/
structure Dev.Noted (k : Link) (sticky : Fld) (cnt : Nat) (d c : Dev) : Prop where
  sticky : c.fld (VL_STICKY k) sticky ≠ 0
  count : c.rd cnt = satInc (d.rd cnt)
  touches : Dev.Touches (noteReg k) (fun _ => False) d c

variable {d c e g : Dev} {sticky : Fld}

theorem Dev.noted_noteError (d : Dev) {b : Nat} (hb : b ∈ [0x2C1C, 0x2C1E]) (hs : sticky.lo + sticky.w ≤ 3) (hw : 0 < sticky.w) :
    Dev.Noted k sticky (b + 0x40 * k.val) d (d.noteError k sticky (b + 0x40 * k.val)) := by
  simp only [List.mem_cons, List.not_mem_nil, or_false] at hb
  have hne : VL_STICKY k ≠ b + 0x40 * k.val := by
    simp only [VL_STICKY]
    omega
  refine ⟨?_, ?_, ?_⟩
  · have h := Dev.flag_setFlag_same d (VL_STICKY k) sticky true (by omega) hw
    rw [Dev.noteError, Dev.fld_of_rd sticky (by omega) (Dev.rd_bump_ne _ hne)]
    simpa [Dev.flag] using h
  · rw [Dev.noteError, Dev.rd_bump_same, Dev.rd_setFlag_ne _ _ _ (by omega) (Ne.symm hne)]
  · refine (d.touches_linkFld sticky _ (by omega) ⟨0x2C1A, by decide, rfl⟩ (by decide) (by decide)).trans
      (Dev.touches_wr _ _ (.inl ⟨b, ?_, rfl⟩) (statReg_link k (by omega) (by omega)))
    simp only [List.mem_cons]
    omega

/-- An error that is noted, then counted, then perhaps answered. -/
theorem Dev.Counts.of_parts {b : Nat} (hb : b ∈ [0x2C1C, 0x2C1E]) (hs : sticky.lo + sticky.w ≤ 3)
    (hin : Dev.Noted k sticky (b + 0x40 * k.val) d c) (hbad : Dev.BadFrame k c e)
    (hout : Dev.Touches (answerReg k) (fun _ => False) e g) (hst : g.vlState k = e.vlState k) :
    Dev.Counts k sticky (b + 0x40 * k.val) d g := by
  have hnote := hin.touches
  have hlink : c.link k = d.link k := hnote.link k not_false
  have hlim : c.fld (VL_CFG k) VL_CFG.ERRLIM = d.fld (VL_CFG k) VL_CFG.ERRLIM :=
    hnote.fld (not_noteReg_link (by decide)) (evtReg_link k (by decide) (by decide)) _ (by decide)
  have hstate : c.vlState k = d.vlState k :=
    hnote.fld (not_noteReg_link (by decide)) (evtReg_link k (by decide) (by decide)) _ (by decide)
  have hans {a : Nat} (ha : a ∉ [0x2C16, 0x2C28, 0x2C2A, 0x2C2C]) : ¬answerReg k (a + 0x40 * k.val) := by
    simp only [List.mem_cons, List.not_mem_nil, or_false] at ha
    simp only [answerReg, VL_STATUS, VL_LASTRSP, VL_ACKLAT]
    omega
  have hev {a : Nat} (h : 0x2C00 ≤ a) (h2 : a < 0x2C40) : evtReg (a + 0x40 * k.val) = false := evtReg_link k h h2
  refine ⟨?_, ?_, fun h => ?_, fun h => ?_, fun h0 h1 hup => ?_⟩
  · rw [Dev.flag, hout.fld (hans (by decide)) (hev (by decide) (by decide)) _ (by omega), hbad.sticky _ hs]
    exact decide_eq_true hin.sticky
  · simp only [List.mem_cons, List.not_mem_nil, or_false] at hb
    have hcnt : 0x2C00 ≤ b ∧ b < 0x2C40 := by omega
    rw [hout.rd (hans ?_) (hev hcnt.1 hcnt.2), hbad.touches.rd (not_lossSide_link k k hcnt.1 hcnt.2 (.inr ?_)) (hev hcnt.1 hcnt.2),
      hin.count]
    · simp only [List.mem_cons, List.not_mem_nil, or_false]
      omega
    · simp only [List.mem_cons, List.not_mem_nil, or_false]
      omega
  · exact hout.pending _ (by omega) (hbad.protocol (by rwa [hlink]))
  · rw [hst, hout.link k not_false, ← hlink, ← hstate]
    exact hbad.below (by rwa [hlim, hlink])
  · refine ((hbad.lost (by rwa [hlim]) (by rwa [hlim, hlink]) (hstate.trans hup)).of_end hout hst).of_start
      (fun n a ha => hnote.rd (not_noteReg_of_setting ha) (evtReg_of_setting ha)) fun r => ?_
    exact hnote.railLoop (fun a ha => not_noteReg_of_loopReg ha) k r

end Counts

section Refused

variable {d : Dev} {k : Link} (hl : d.listens k = true) (hf : d.flag (VL_STATUS k) VL_STATUS.FRAME = false)
include hl hf

theorem Dev.counts_frameError : Dev.Counts k VL_STICKY.FRAMEERR (VL_FRAMECNT k) d (d.frameError k) := by
  have h : d.frameError k = (d.noteError k VL_STICKY.FRAMEERR (VL_FRAMECNT k)).badFrame k := by
    unfold Dev.frameError
    rw [d.endFrame_of_idle k hf]
    exact if_neg (by simp [hl])
  rw [h]
  exact .of_parts (by decide) (by decide) (d.noted_noteError (by decide) (by decide) (by decide)) (Dev.badFrame_spec _ k)
    (touches_raise.refl _) rfl

/-- The frame is shown, and its error noted. -/
def Dev.badShown (d : Dev) (k : Link) (f : BitVec 32) (freq : Word) : Dev :=
  ((d.wr32 (VL_LASTCMD k) f).wr (VL_CKFREQ k) freq).noteError k VL_STICKY.CRCERR (VL_CRCCNT k)

theorem Dev.badCrc_eq {f : BitVec 32} (hs : Machine.frameStart f = true) (hg : frameGood f = false) (lat freq : Word) (still : Bool) :
    d.badCrc k f lat freq still =
      ((d.badShown k f freq).badFrame k).respond k (vlFrame 32 0 (f.extractLsb' 4 4)) lat still := by
  have hseq : f.extractLsb' 4 4 = BitVec.ofNat 4 (f.toNat / 16) :=
    congrArg (BitVec.ofNat 4) (Nat.shiftRight_eq_div_pow f.toNat 4)
  unfold Dev.badCrc
  rw [if_neg (by simp [hs, hg]), d.endFrame_of_idle k hf, hseq]
  exact if_neg (by simp [hl])

end Refused

section BadCrc

variable (d : Dev) (k : Link) (f : BitVec 32) (freq : Word)

theorem VL_LASTCMD_high : VL_LASTCMD k + 2 = 0x2C26 + 0x40 * k.val := by
  simp only [VL_LASTCMD]
  omega

/-- A frame that is shown is a register of the link's apart. -/
theorem Dev.rd_shown_other {b : Nat} (hb : b ∉ [0x2C24, 0x2C26, 0x2C2E]) :
    ((d.wr32 (VL_LASTCMD k) f).wr (VL_CKFREQ k) freq).rd (b + 0x40 * k.val) = d.rd (b + 0x40 * k.val) := by
  simp only [List.mem_cons, List.not_mem_nil, or_false] at hb
  rw [Dev.rd_wr_ne, Dev.rd_wr32_ne] <;> simp only [VL_LASTCMD, VL_CKFREQ] <;> omega

theorem Dev.touches_shown : Dev.Touches (noteReg k) (fun _ => False) d ((d.wr32 (VL_LASTCMD k) f).wr (VL_CKFREQ k) freq) := by
  have hst {b : Nat} (h : 0x2C00 ≤ b) (h2 : b < 0x2C40) : statReg (b + 0x40 * k.val) = false := statReg_link k h h2
  refine .trans (.trans (d.touches_wr _ (.inl ⟨0x2C24, by decide, rfl⟩) (hst (by decide) (by decide)))
    (Dev.touches_wr _ _ (.inl ⟨0x2C26, by decide, VL_LASTCMD_high k⟩) ?_))
    (Dev.touches_wr _ _ (.inl ⟨0x2C2E, by decide, rfl⟩) (hst (by decide) (by decide)))
  rw [VL_LASTCMD_high]
  exact hst (by decide) (by decide)

theorem Dev.noted_badShown : Dev.Noted k VL_STICKY.CRCERR (VL_CRCCNT k) d (d.badShown k f freq) := by
  have h := ((d.wr32 (VL_LASTCMD k) f).wr (VL_CKFREQ k) freq).noted_noteError (k := k) (b := 0x2C1C) (sticky := VL_STICKY.CRCERR)
    (by decide) (by decide) (by decide)
  refine ⟨h.sticky, ?_, (d.touches_shown k f freq).trans h.touches⟩
  rw [Dev.badShown, VL_CRCCNT, h.count, d.rd_shown_other k f freq (by decide)]

theorem Dev.lastCmd_badShown : (d.badShown k f freq).rd32 (VL_LASTCMD k) = f := by
  have hnote (e : Dev) {b : Nat} (hb : b ∈ [0x2C24, 0x2C26]) :
      (e.noteError k VL_STICKY.CRCERR (VL_CRCCNT k)).rd (b + 0x40 * k.val) = e.rd (b + 0x40 * k.val) := by
    simp only [List.mem_cons, List.not_mem_nil, or_false] at hb
    rw [Dev.noteError, Dev.rd_bump_ne, Dev.rd_setFlag_ne _ _ _ (by decide)] <;> simp only [VL_CRCCNT, VL_STICKY] <;> omega
  have hlow := hnote ((d.wr32 (VL_LASTCMD k) f).wr (VL_CKFREQ k) freq) (b := 0x2C24) (by decide)
  have hhigh := hnote ((d.wr32 (VL_LASTCMD k) f).wr (VL_CKFREQ k) freq) (b := 0x2C26) (by decide)
  rw [← VL_LASTCMD_high] at hhigh
  rw [Dev.badShown, Dev.rd32_congr hlow hhigh, Dev.rd32_wr_ne _ _ (by simp) (by simp only [VL_CKFREQ]; omega),
    Dev.rd32_wr32_same]

end BadCrc

theorem vlBadCrc_counts {s : State} {k : Link} {f : BitVec 32} {lat freq : Word} {still : Bool} (hl : s.dev.listens k = true)
    (hf : s.dev.flag (VL_STATUS k) VL_STATUS.FRAME = false) (hs : frameStart f = true) (hg : frameGood f = false) :
    Completes (.vlBadCrc k f lat freq still) s fun e => Dev.Counts k VL_STICKY.CRCERR (VL_CRCCNT k) s.dev e ∧
      e.rd32 (VL_LASTCMD k) = f ∧ e.rd32 (VL_LASTRSP k) = vlFrame 32 0 (f.extractLsb' 4 4) := by
  refine completes_step1 (·.badCrc k f lat freq still) rfl ?_
  rw [Dev.badCrc_eq hl hf hs hg]
  have hbad := (s.dev.badShown k f freq).badFrame_spec k
  have hout := ((s.dev.badShown k f freq).badFrame k).responded k (vlFrame 32 0 (f.extractLsb' 4 4)) lat still
  have hkeep {b : Nat} (hb : b ∈ [0x2C24, 0x2C26]) :
      (((s.dev.badShown k f freq).badFrame k).respond k (vlFrame 32 0 (f.extractLsb' 4 4)) lat still).rd (b + 0x40 * k.val) =
        (s.dev.badShown k f freq).rd (b + 0x40 * k.val) := by
    simp only [List.mem_cons, List.not_mem_nil, or_false] at hb
    have hlo : 0x2C00 ≤ b := by omega
    have hhi : b < 0x2C40 := by omega
    refine (hout.touches.rd ?_ (evtReg_link k hlo hhi)).trans
      (hbad.touches.rd (not_lossSide_link k k hlo hhi (.inr ?_)) (evtReg_link k hlo hhi))
    · simp only [answerReg, VL_STATUS, VL_LASTRSP, VL_ACKLAT]
      omega
    · simp only [List.mem_cons, List.not_mem_nil, or_false]
      omega
  have hhigh := hkeep (b := 0x2C26) (by decide)
  rw [← VL_LASTCMD_high] at hhigh
  refine ⟨.of_parts (by decide) (by decide) (s.dev.noted_badShown k f freq) hbad hout.touches hout.state, ?_, hout.rsp⟩
  rw [Dev.rd32_congr (hkeep (by decide)) hhigh, Dev.lastCmd_badShown]

end Sys2Proof.Machine
end

section
/-!
The time-outs of a link, and its enable (R80, R86, R87, R90, R92).
-/

namespace Sys2Proof.Machine

open Sys2Proof Sys2Proof.R

/-! ## Time-outs (R73, R86, R88) -/

theorem vlResponseAbandon_ends {s : State} {k : Link} (hb : s.dev.blocksRun = true)
    (hf : s.dev.flag (VL_STATUS k) VL_STATUS.FRAME = true) (hp : (s.dev.link k).disPend = false) :
    Completes (.vlResponseAbandon k) s fun e => e.flag (VL_STICKY k) VL_STICKY.FRAMEERR = true ∧
      e.flag (VL_STATUS k) VL_STATUS.FRAME = false ∧ e.links = s.dev.links ∧
      s.dev.onlyRegs e (fun a => a = VL_STICKY k ∨ a = VL_STATUS k) := by
  refine completes_step1 (·.abandonResponse k) rfl ?_
  have hframe : (s.dev.setFlag (VL_STICKY k) VL_STICKY.FRAMEERR true).flag (VL_STATUS k) VL_STATUS.FRAME = true := by
    rw [Dev.flag, Dev.fld_of_rd _ (by decide) (Dev.rd_setFlag_ne _ _ _ (by decide) (by simp))]
    exact hf
  have hlink : ((s.dev.setFlag (VL_STICKY k) VL_STICKY.FRAMEERR true).link k).disPend = false := by
    rw [Dev.link, Dev.setFlag_links]
    exact hp
  have h : s.dev.abandonResponse k = (s.dev.setFlag (VL_STICKY k) VL_STICKY.FRAMEERR true).frameOver k := by
    rw [Dev.abandonResponse, if_pos (by simp [hb, hf]), Dev.endFrame_of_busy _ k hframe, hlink]
    rfl
  rw [h]
  refine ⟨?_, Dev.frame_frameOver _ k, by rw [Dev.frameOver, Dev.links_syncAttn, Dev.setFlag_links, Dev.setFlag_links], ?_⟩
  · rw [Dev.frameOver, Dev.flag, Dev.fld_of_rd _ (by decide) (Dev.rd_syncAttn _ k (by simp)),
      Dev.fld_of_rd _ (by decide) (Dev.rd_setFlag_ne _ _ _ (by decide) (by simp))]
    exact Dev.flag_setFlag_same s.dev (VL_STICKY k) VL_STICKY.FRAMEERR true (by decide) (by decide)
  · exact ((s.dev.onlyRegs_setFlag (VL_STICKY k) VL_STICKY.FRAMEERR true (by decide)).trans
      ((Dev.onlyRegs_setFlag _ (VL_STATUS k) VL_STATUS.FRAME false (by decide)).trans
        (Dev.onlyRegs_setFlag _ (VL_STATUS k) VL_STATUS.ATTN _ (by decide)))).mono fun _ h => h.imp_right (Or.elim · id id)

theorem vlKeepaliveTimeout_loses {s : State} {k : Link} (hb : s.dev.blocksRun = true) (hup : s.dev.vlState k = vlUp)
    (hk : s.dev.rn (VL_KATO k) ≠ 0) : Completes (.vlKeepaliveTimeout k) s (Dev.Lost k s.dev) := by
  refine completes_step1 (fun d => d.when (d.blocksRun && d.rn (VL_KATO k) ≠ 0) (·.lose k)) rfl ?_
  rw [Dev.when, if_pos (by simp [hb, hk])]
  exact s.dev.lost_lose k hup

theorem vlKeepaliveTimeout_idle {s : State} {k : Link} (h : s.dev.vlState k ≠ vlUp ∨ s.dev.rn (VL_KATO k) = 0) :
    exec (.vlKeepaliveTimeout k) s = .next s := by
  have hd : s.dev.when (s.dev.blocksRun && s.dev.rn (VL_KATO k) ≠ 0) (·.lose k) = s.dev := by
    obtain hup | h0 := h
    · rw [Dev.when, s.dev.lose_of_not_up k hup, ite_self]
    · rw [Dev.when, if_neg (by simp [h0])]
  show Host.Outcome.next { s with dev := s.dev.when (s.dev.blocksRun && s.dev.rn (VL_KATO k) ≠ 0) (·.lose k) } = _
  rw [hd]

/-- The time-out of the present request is noted. -/
def Dev.noteTimeout (d : Dev) (k : Link) : Dev :=
  (d.setFlag (VL_STICKY k) VL_STICKY.THRTO true).modLink k fun x => { x with thrRaised := true }

theorem vlThrottleTimeout_raises {s : State} {k : Link} (hb : s.dev.blocksRun = true) (ha : s.dev.thrAck k < s.dev.thrReq k)
    (ht : s.dev.rn (VL_THRTO k) ≠ 0) (hr : (s.dev.link k).thrRaised = false) :
    Completes (.vlThrottleTimeout k) s fun e => e.flag (VL_STICKY k) VL_STICKY.THRTO = true ∧
      e.evtPending (99 + 4 * k.val) = true ∧ e.link k = { s.dev.link k with thrRaised := true } ∧
      s.dev.keepsRegs e (fun a => a = VL_STICKY k) := by
  refine completes_step1 (·.throttleTimeout k) rfl ?_
  have hlt : 99 + 4 * k.val < 256 := by omega
  have h : s.dev.throttleTimeout k = (s.dev.noteTimeout k).raise (99 + 4 * k.val) := by
    unfold Dev.throttleTimeout
    exact if_pos (by simp [hb, ha, ht, hr])
  have hnote : Dev.Touches (· = VL_STICKY k) (· = k) s.dev (s.dev.noteTimeout k) :=
    (s.dev.touches_linkFld (W := (· = VL_STICKY k)) (L := (· = k)) VL_STICKY.THRTO _ (by decide) rfl (by decide) (by decide)).trans
      (Dev.touches_modLink _ _ rfl)
  have hraise : Dev.Touches (fun _ => False) (fun _ => False) (s.dev.noteTimeout k) ((s.dev.noteTimeout k).raise (99 + 4 * k.val)) :=
    touches_raise.raise _ hlt
  rw [h]
  refine ⟨?_, Dev.evtPending_raise _ hlt, ?_, (hnote.trans (hraise.mono (fun _ h => h.elim) fun _ h => h.elim)).regs⟩
  · rw [Dev.flag, hraise.fld not_false (evtReg_link k (by decide) (by decide)) _ (by decide)]
    exact Dev.flag_setFlag_same s.dev (VL_STICKY k) VL_STICKY.THRTO true (by decide) (by decide)
  · rw [hraise.link k not_false, Dev.noteTimeout, Dev.link_modLink_same, Dev.link, Dev.setFlag_links, ← Dev.link]

/-! ## EN (R87, R92, R93) -/

theorem stores_VL_CTL (k : Link) : Stores (VL_CTL k) 0x3 := by revert k; unfold Stores; decide

/-- VL_CTL is written, with what its self-clearing bits do, before EN acts. -/
def Dev.ctlStored (d : Dev) (k : Link) (v : Word) : Dev :=
  ((d.storeWord (VL_CTL k) (VL_CTL k) v).when (v.getLsbD 3) (·.vlCntclr k)).when (v.getLsbD 2) (·.vlResync k)

section Ctl

variable (d : Dev) (k : Link)

theorem Dev.rd_ctlStored (v : Word) {a : Nat} (ha : a ∉ [VL_CRCCNT k, VL_FRAMECNT k, VL_DUPCNT k, VL_CMDCNT k]) :
    (d.ctlStored k v).rd a = (d.storeWord (VL_CTL k) (VL_CTL k) v).rd a := by
  have hclr (e : Dev) (b : Bool) : (e.when b (·.vlCntclr k)).rd a = e.rd a := by
    cases b
    · rfl
    · exact (Dev.rd_zero e _ a).trans (if_neg ha)
  have hres (e : Dev) (b : Bool) : (e.when b (·.vlResync k)).rd a = e.rd a := by cases b <;> rfl
  rw [Dev.ctlStored, hres, hclr]

theorem Dev.rd_status_ctlStored (v : Word) : (d.ctlStored k v).rd (VL_STATUS k) = d.rd (VL_STATUS k) := by
  rw [d.rd_ctlStored k v (by simp), d.storeWord_of_stores (stores_VL_CTL k), Dev.rd_wr_ne _ _ (by simp)]

theorem Dev.en_ctlStored (v : Word) : (d.ctlStored k v).flag (VL_CTL k) VL_CTL.EN = v.getLsbD 0 := by
  have hrd : (d.ctlStored k v).rd (VL_CTL k) = (d.rd (VL_CTL k) &&& ~~~(0x3 : Word)) ||| (v &&& (0x3 : Word)) := by
    rw [d.rd_ctlStored k v (by simp), d.storeWord_of_stores (stores_VL_CTL k), Dev.rd_wr_same]
  have hbit : ((d.rd (VL_CTL k) &&& ~~~(0x3 : Word)) ||| (v &&& (0x3 : Word))).getLsbD 0 = v.getLsbD 0 := by simp
  rw [← hbit, ← hrd, BitVec.getLsbD, Nat.testBit_zero]
  simp [Dev.flag, Dev.fld, Fld.of, Dev.rn]

theorem Dev.writeVlCtl_enable {v : Word} (h : v.getLsbD 0 = true) :
    d.writeVlCtl k v = ((d.ctlStored k v).raiseLink k).syncAttn k := by
  unfold Dev.writeVlCtl
  simp only [h]
  rfl

theorem Dev.writeVlCtl_disable {v : Word} (h : v.getLsbD 0 = false) :
    d.writeVlCtl k v = ((d.ctlStored k v).dropLink k).syncAttn k := by
  unfold Dev.writeVlCtl
  simp only [h]
  rfl

/-- A link that is enabled stands WAIT, with nothing stored and nothing counted. -/
theorem Dev.raiseLink_off (hoff : d.vlState k = vlDisabled) (hc : d.flag (VL_STATUS k) VL_STATUS.CFGERR = false) :
    (d.raiseLink k).vlState k = vlWait ∧ ((d.raiseLink k).link k).stored = none ∧ ((d.raiseLink k).link k).errs = 0 := by
  have h : d.raiseLink k = ((((d.modLink k fun x => { x with disPend := false }).modLink k
      fun x => { x with stored := none, errs := 0, driven := true }).setVlState k vlWait).syncAttn k) := by
    unfold Dev.raiseLink
    rw [if_neg (by simp [hc])]
    exact if_neg (not_not.mpr hoff)
  have hl : (d.raiseLink k).link k = { d.link k with disPend := false, stored := none, errs := 0, driven := true } := by
    rw [h, Dev.link_of_links (Dev.links_syncAttn ..), Dev.setVlState, Dev.link, Dev.setFld_links, ← Dev.link,
      Dev.link_modLink_same, Dev.link_modLink_same]
  refine ⟨?_, by rw [hl], by rw [hl]⟩
  rw [h]
  exact (Dev.fld_syncAttn _ _ _ _ (by decide) (by decide)).trans (Dev.vlState_setVlState _ k (by decide))

/-- A link with CFGERR, or one that is enabled already, keeps its state. -/
theorem Dev.vlState_raiseLink (h : d.flag (VL_STATUS k) VL_STATUS.CFGERR = true ∨ d.vlState k ≠ vlDisabled) :
    (d.raiseLink k).vlState k = d.vlState k := by
  unfold Dev.raiseLink
  split
  · rfl
  · rename_i hc
    have hst : (d.modLink k fun x => { x with disPend := false }).vlState k = d.vlState k :=
      Dev.fld_of_rd _ (by decide) (Dev.rd_modLink ..)
    dsimp only
    rw [if_pos (by rw [hst]; exact h.resolve_left hc), hst]

theorem Dev.rd_raiseLink {a : Nat} (h : a ≠ VL_STATUS k) : (d.raiseLink k).rd a = d.rd a := by
  unfold Dev.raiseLink
  split
  · rfl
  · dsimp only
    split
    · rw [Dev.rd_modLink]
    · rw [Dev.rd_syncAttn _ k h, Dev.setVlState, Dev.rd_setFld_ne _ _ _ (by decide) h, Dev.rd_modLink, Dev.rd_modLink]

theorem Dev.dropLink_off (h : d.vlState k = vlDisabled) : d.dropLink k = d := by
  unfold Dev.dropLink
  exact if_pos h

theorem Dev.dropLink_idle (h : d.vlState k ≠ vlDisabled) (hf : d.flag (VL_STATUS k) VL_STATUS.FRAME = false) :
    d.dropLink k = d.disableLink k := by
  unfold Dev.dropLink
  rw [if_neg h]
  exact if_neg (by simp [hf])

/-- A disable during a frame waits for its end. -/
def Dev.deferDisable (d : Dev) (k : Link) : Dev := d.modLink k fun x => { x with disPend := true }

theorem Dev.dropLink_busy (h : d.vlState k ≠ vlDisabled) (hf : d.flag (VL_STATUS k) VL_STATUS.FRAME = true) :
    d.dropLink k = d.deferDisable k := by
  unfold Dev.dropLink
  rw [if_neg h]
  exact if_pos hf

theorem Dev.touches_dropLink : Dev.Touches (lossSide k) (· = k) d (d.dropLink k) := by
  by_cases h : d.vlState k = vlDisabled
  · rw [d.dropLink_off k h]
    exact touches_raise.refl d
  by_cases hf : d.flag (VL_STATUS k) VL_STATUS.FRAME = true
  · rw [d.dropLink_busy k h hf]
    exact Dev.touches_modLink d _ rfl
  · rw [d.dropLink_idle k h (Bool.eq_false_iff.mpr hf)]
    exact (d.linkOff_disableLink k).touches

end Ctl

/-! ## The instructions that write EN -/

/-- EN as the instructions write it. -/
theorem en_set (v : Word) : (v ||| 1).getLsbD 0 = true := by simp
theorem en_cleared (v : Word) : (v &&& 0xFFFE#16).getLsbD 0 = false := by simp

section DeferredDisable

variable {s : State} {k : Link}

/-- The frame that a disable waits for is over. -/
theorem vlDeferredDisable_acts (hp : (s.dev.link k).disPend = true) (hf : s.dev.flag (VL_STATUS k) VL_STATUS.FRAME = true) :
    Completes (.vlDeferredDisable k) s fun e => e.vlState k = vlDisabled ∧ (e.link k).disPend = false ∧
      e.flag (VL_STATUS k) VL_STATUS.FRAME = false ∧ e.thrAck k = 0 ∧ (s.dev.vlState k = vlUp → (e.link k).stored = none) := by
  refine completes_step1 (fun d => d.when (d.link k).disPend (·.endFrame k)) rfl ?_
  rw [Dev.when, if_pos hp]
  have hoff := s.dev.linkOff_endFrame k hf hp
  exact ⟨hoff.state, hoff.pend, s.dev.frame_endFrame k, hoff.ack, fun hup => hoff.stored ((s.dev.vlState_frameOver k).trans hup)⟩

theorem vlDeferredDisable_idle (h : (s.dev.link k).disPend = false ∨ s.dev.flag (VL_STATUS k) VL_STATUS.FRAME = false) :
    exec (.vlDeferredDisable k) s = .next s := by
  have hd : s.dev.when (s.dev.link k).disPend (·.endFrame k) = s.dev := by
    obtain hp | hf := h
    · rw [hp]
      rfl
    · rw [Dev.when, s.dev.endFrame_of_idle k hf, ite_self]
  show Host.Outcome.next { s with dev := s.dev.when (s.dev.link k).disPend (·.endFrame k) } = _
  rw [hd]

end DeferredDisable

section Enable

variable {s : State} {acc : Acc} {k : Link} (hm : s.dev.mayWrite acc (VL_CTL k) = true)
include hm

/-- VL_CTL is stored with EN at 1, and the link raised. -/
theorem vlLinkEnable_of_raise {P : Dev → Prop} (h : ∀ c : Dev, c.rd (VL_STATUS k) = s.dev.rd (VL_STATUS k) →
      c.flag (VL_CTL k) VL_CTL.EN = true → P ((c.raiseLink k).syncAttn k)) : Completes (.vlLinkEnable acc k) s P :=
  completes_gate (fun d => d.writeVlCtl k (d.rd (VL_CTL k) ||| 1)) rfl hm (by
    rw [Dev.writeVlCtl_enable _ k (en_set _)]
    exact h _ (Dev.rd_status_ctlStored _ k _) ((Dev.en_ctlStored _ k _).trans (en_set _)))

/-- VL_CTL is stored with EN at 0, and the link dropped. -/
theorem vlLinkDisable_of_drop {P : Dev → Prop} (h : ∀ c : Dev, c.rd (VL_STATUS k) = s.dev.rd (VL_STATUS k) →
      c.flag (VL_CTL k) VL_CTL.EN = false → P ((c.dropLink k).syncAttn k)) : Completes (.vlLinkDisable acc k) s P :=
  completes_gate (fun d => d.writeVlCtl k (d.rd (VL_CTL k) &&& 0xFFFE#16)) rfl hm (by
    rw [Dev.writeVlCtl_disable _ k (en_cleared _)]
    exact h _ (Dev.rd_status_ctlStored _ k _) ((Dev.en_ctlStored _ k _).trans (en_cleared _)))

omit hm in
theorem Dev.en_raised {c : Dev} (h : c.flag (VL_CTL k) VL_CTL.EN = true) :
    ((c.raiseLink k).syncAttn k).flag (VL_CTL k) VL_CTL.EN = true := by
  rw [Dev.flag, Dev.fld_of_rd _ (by decide) (Dev.rd_syncAttn _ k (by simp)), Dev.fld_of_rd _ (by decide) (c.rd_raiseLink k (by simp))]
  exact h

omit hm in
theorem Dev.en_dropped {c : Dev} (h : c.flag (VL_CTL k) VL_CTL.EN = false) :
    ((c.dropLink k).syncAttn k).flag (VL_CTL k) VL_CTL.EN = false := by
  rw [((c.touches_dropLink k).trans (Dev.touches_syncAttn _ (.inl rfl))).flag
    (not_lossSide_link k k (by decide) (by decide) (.inr (by decide))) (evtReg_link k (by decide) (by decide)) _ (by decide)]
  exact h

theorem vlLinkEnable_off (hoff : s.dev.vlState k = vlDisabled) (hc : s.dev.flag (VL_STATUS k) VL_STATUS.CFGERR = false) :
    Completes (.vlLinkEnable acc k) s fun e => e.vlState k = vlWait ∧ e.flag (VL_CTL k) VL_CTL.EN = true ∧
      (e.link k).stored = none ∧ (e.link k).errs = 0 := by
  refine vlLinkEnable_of_raise hm fun c hrd hen => ?_
  obtain ⟨hst, hstored, herrs⟩ := c.raiseLink_off k ((Dev.fld_of_rd _ (by decide) hrd).trans hoff)
    (by rw [Dev.flag, Dev.fld_of_rd _ (by decide) hrd]; exact hc)
  refine ⟨(Dev.fld_syncAttn _ _ _ _ (by decide) (by decide)).trans hst, Dev.en_raised hen, ?_, ?_⟩
  · rw [Dev.link_of_links (Dev.links_syncAttn ..), hstored]
  · rw [Dev.link_of_links (Dev.links_syncAttn ..), herrs]

theorem vlLinkEnable_kept (h : s.dev.flag (VL_STATUS k) VL_STATUS.CFGERR = true ∨ s.dev.vlState k ≠ vlDisabled) :
    Completes (.vlLinkEnable acc k) s fun e => e.vlState k = s.dev.vlState k ∧ e.flag (VL_CTL k) VL_CTL.EN = true := by
  refine vlLinkEnable_of_raise hm fun c hrd hen => ?_
  have hst : c.vlState k = s.dev.vlState k := Dev.fld_of_rd _ (by decide) hrd
  have hc : c.flag (VL_STATUS k) VL_STATUS.CFGERR = s.dev.flag (VL_STATUS k) VL_STATUS.CFGERR := by
    rw [Dev.flag, Dev.flag, Dev.fld_of_rd _ (by decide) hrd]
  refine ⟨(Dev.fld_syncAttn _ _ _ _ (by decide) (by decide)).trans ?_, Dev.en_raised hen⟩
  exact (c.vlState_raiseLink k (by rwa [hc, hst])).trans hst

theorem vlLinkDisable_idle (hf : s.dev.flag (VL_STATUS k) VL_STATUS.FRAME = false) :
    Completes (.vlLinkDisable acc k) s fun e => e.vlState k = vlDisabled ∧ e.flag (VL_CTL k) VL_CTL.EN = false ∧
      (s.dev.vlState k ≠ vlDisabled → e.thrAck k = 0) := by
  refine vlLinkDisable_of_drop hm fun c hrd hen => ?_
  have hst : c.vlState k = s.dev.vlState k := Dev.fld_of_rd _ (by decide) hrd
  have hframe : c.flag (VL_STATUS k) VL_STATUS.FRAME = false := by
    rw [Dev.flag, Dev.fld_of_rd _ (by decide) hrd]
    exact hf
  have hdrop : (c.dropLink k).vlState k = vlDisabled ∧ (c.vlState k ≠ vlDisabled → (c.dropLink k).thrAck k = 0) := by
    by_cases hoff : c.vlState k = vlDisabled
    · rw [c.dropLink_off k hoff]
      exact ⟨hoff, fun h => absurd hoff h⟩
    · rw [c.dropLink_idle k hoff hframe]
      exact ⟨(c.linkOff_disableLink k).state, fun _ => (c.linkOff_disableLink k).ack⟩
  exact ⟨(Dev.fld_syncAttn _ _ _ _ (by decide) (by decide)).trans hdrop.1, Dev.en_dropped hen,
    fun h => (Dev.fld_syncAttn _ _ _ _ (by decide) (by decide)).trans (hdrop.2 (by rwa [hst]))⟩

theorem vlLinkDisable_busy (hf : s.dev.flag (VL_STATUS k) VL_STATUS.FRAME = true) (hon : s.dev.vlState k ≠ vlDisabled) :
    Completes (.vlLinkDisable acc k) s fun e => e.vlState k = s.dev.vlState k ∧ (e.link k).disPend = true ∧
      e.flag (VL_CTL k) VL_CTL.EN = false ∧ e.flag (VL_STATUS k) VL_STATUS.FRAME = true := by
  refine vlLinkDisable_of_drop hm fun c hrd hen => ?_
  have hst : c.vlState k = s.dev.vlState k := Dev.fld_of_rd _ (by decide) hrd
  have hframe : c.flag (VL_STATUS k) VL_STATUS.FRAME = true := by
    rw [Dev.flag, Dev.fld_of_rd _ (by decide) hrd]
    exact hf
  have hdrop : c.dropLink k = c.deferDisable k := c.dropLink_busy k (by rwa [hst]) hframe
  have hkeep (f : Fld) (h16 : f.lo + f.w ≤ 16) (h : f.lo + f.w ≤ 5 ∨ 6 ≤ f.lo) :
      ((c.dropLink k).syncAttn k).fld (VL_STATUS k) f = c.fld (VL_STATUS k) f := by
    rw [hdrop, Dev.fld_syncAttn _ _ _ _ h16 h]
    exact Dev.fld_of_rd f h16 (Dev.rd_modLink ..)
  refine ⟨(hkeep _ (by decide) (by decide)).trans hst, ?_, Dev.en_dropped hen, ?_⟩
  · rw [Dev.link_of_links (Dev.links_syncAttn ..), hdrop, Dev.deferDisable, Dev.link_modLink_same]
  · rw [Dev.flag, hkeep _ (by decide) (by decide)]
    exact hframe

theorem vlCtlResync_forgets : Completes (.vlCtlResync acc k) s fun e => e.link k = { s.dev.link k with stored := none } ∧
    (∀ j, j ≠ k → e.link j = s.dev.link j) ∧ ({ e with links := s.dev.links } : Dev) = s.dev.dropHeld acc :=
  completes_gate (·.vlResync k) rfl hm ⟨Dev.link_modLink_same _ _ _, fun _ hj => Dev.link_modLink_ne _ _ _ hj, rfl⟩

end Enable

/-! ## The statement -/

theorem Dev.LossDone.clauses {k : Link} {r : Fin 4} {n : Loop} {d e : Dev} (h : Dev.LossDone k r n d e) :
    (d.fld (VL_CFG k) VL_CFG.LOSSACT = 2 → e.fld (LP_CFG n) LP_CFG.SPSRC = 1) ∧
      (d.fld (VL_CFG k) VL_CFG.LOSSACT = 0 → e.rd (LP_VSET n) = d.rd (LP_VSET n) ∧ e.fld (LP_CFG n) LP_CFG.SPSRC = 2) ∧
      (d.fld (VL_CFG k) VL_CFG.LOSSACT = 1 → d.rn (LP_VMIN n) ≤ d.rn (VL_SAFEV k r) → d.rn (VL_SAFEV k r) ≤ d.rn (LP_VMAX n) →
        e.rd (LP_VSET n) = d.rd (VL_SAFEV k r)) :=
  ⟨h.program, h.hold, h.safe⟩

/-- Settles O50: an error is noted, counted and may lose the link; a disable waits for the end of a frame. -/
theorem velongLinks : Obligations.VelongLinks := by
  unfold Obligations.VelongLinks
  intro s acc k f lat freq still d st busy q limit lost counts
  have hlost {e : Dev} (h : Dev.Lost k d e) : lost e :=
    ⟨h.state, h.sticky, h.event, h.ack, h.stored, fun r n hr ho => (h.rails r n hr ho).clauses⟩
  have hcounts {e : Dev} {sticky : Fld} {cnt : Nat} (h : Dev.Counts k sticky cnt d e) : counts e sticky cnt :=
    ⟨h.sticky, h.count, h.protocol, h.below, fun h0 h1 hup => hlost (h.lost h0 h1 hup)⟩
  refine ⟨fun hl hf hs hg => (vlBadCrc_counts hl hf hs hg).mono fun _ h => ⟨hcounts h.1, h.2⟩, fun hl hf => ?_,
    vlResponseAbandon_ends, fun hb hup hk => (vlKeepaliveTimeout_loses hb hup hk).mono fun _ h => hlost h, vlKeepaliveTimeout_idle,
    vlThrottleTimeout_raises, fun hm => ?_, vlDeferredDisable_acts, vlDeferredDisable_idle⟩
  · have h := hcounts (Dev.counts_frameError hl hf)
    exact ⟨completes_step1 (·.frameError k) rfl h, completes_step1 (·.frameError k) rfl h⟩
  · refine ⟨vlLinkEnable_off hm, vlLinkEnable_kept hm, vlLinkDisable_idle hm, fun hf hon => ?_, vlCtlResync_forgets hm⟩
    refine (vlLinkDisable_busy hm hf hon).mono fun e ⟨hst, hpend, hen, hframe⟩ => ⟨hst, hpend, hen, ?_⟩
    exact (vlDeferredDisable_acts (s := { s with dev := e }) hpend hframe).mono fun _ h => ⟨h.1, h.2.1⟩

end Sys2Proof.Machine
end

section
/-!
The last rail that a power-down waits for, taken off by the Guard's shed (R112): the shed marks it, every rail then counts as done,
and the end of the power-down clears the mark (R134, R143).
-/

namespace Sys2Proof.Machine

open Sys2Proof Sys2Proof.R

/-! ## LLSHED_STEP (R112, R143) -/

/-- What a command whose meaning is `f` on the device completes with is true of what `f` leaves. -/
theorem Completes.of_step1 {c : Instr} {s : State} {P : Dev → Prop} {f : Dev → Dev} (h : Completes c s P)
    (hc : exec c s = s.step1 f) : P (f s.dev) := by
  obtain ⟨e, he, hp⟩ := h
  have hdev : ({ s with dev := f s.dev } : State) = { s with dev := e } := Host.Outcome.next.inj (hc.symm.trans he)
  rwa [show f s.dev = e from congrArg State.dev hdev]

/-- The first rail of the shed list, cut and marked SHED, before its fall is judged. -/
def Dev.shedMarked (d : Dev) (r : Rail) (rest : List Rail) : Dev :=
  ((({ d with drill := { d.drill with shedList := rest } } : Dev).cutRail r).markShed r).checkUp

theorem Dev.shedStep_cons {d : Dev} {r : Rail} {rest : List Rail} (hl : d.drill.shedList = r :: rest) (hrun : d.blocksRun = true)
    (hon : d.railOn r = true) (hshed : d.rstate r ≠ rsShed) (hfailed : d.rstate r ≠ rsFailed) :
    d.shedStep = (d.shedMarked r rest).checkFallen r := by
  have hoff : ¬(!d.railOn r || d.rstate r = rsShed || (d.rstate r = rsFailed && !d.lossOnly r)) = true := by
    simp [hon, hshed, hfailed]
  rw [Dev.shedStep, hl]
  dsimp only
  rw [Dev.when, if_pos hrun, Dev.shedRail]
  exact if_neg hoff

/-- In FALLING a rail that has not fallen leaves the power-down to its end, where every rail counts as done (R134). -/
theorem Dev.checkFallen_ends {d : Dev} {r : Rail} (hfall : d.fallenCond r = false) (hds : d.ds = drFalling)
    (hdown : rails.all d.railDown = true) : d.checkFallen r = d.endDown := by
  simp [Dev.checkFallen, Dev.checkDown, hfall, hds, hdown]

/-! ## A shed that ends a power-down -/

/-- The Guard hands over while the drill is FALLING. Only the external rail 12 is still on: its off-slot has not come, XPG0 is high,
and BG_LLGAP has held its shed back until now. -/
def lastOfPowerDown : Dev :=
  let d := ((Dev.reset.wn CFG_DSTATE 0).setBgState bgHandover).setFld SEQ_STATUS SEQ_STATUS.STATE drFalling
  let d := (d.setMbit SEQ_RAILON 12 true).setFld (SEQ_RSTATE 12) SEQ_RSTATE.STATE rsGood
  { d with boot := { d.boot with phase := .up }, drill := { d.drill with shedList := [12] },
           pins := { d.pins with xpg := d.pins.xpg.set 0 true, xen := d.pins.xen.set 0 true } }

/-- Rail 12 meets every premise on the rail that LLSHED_STEP takes off. -/
theorem lastOfPowerDown_live :
    lastOfPowerDown.blocksRun = true ∧ lastOfPowerDown.railOn 12 = true ∧ lastOfPowerDown.rstate 12 ≠ rsShed ∧
      lastOfPowerDown.rstate 12 ≠ rsFailed ∧ lastOfPowerDown.fallenCond 12 = false := by decide +kernel

/-- Once rail 12 is marked, it has not fallen, but the power-down waits for no rail. -/
theorem lastOfPowerDown_marked :
    (lastOfPowerDown.shedMarked 12 []).fallenCond 12 = false ∧ (lastOfPowerDown.shedMarked 12 []).ds = drFalling ∧
      rails.all (lastOfPowerDown.shedMarked 12 []).railDown = true := by decide +kernel

/-- The end of that power-down takes the mark away. -/
theorem rstate_endDown_lastOfPowerDown : (lastOfPowerDown.shedMarked 12 []).endDown.rstate 12 = rsOff := by decide +kernel

/-- Refutes O52: a shed that takes off the last rail of a power-down ends it, which clears the rail's SHED mark (R134), while the clause
of LLSHED_STEP asks for SHED in every state of the drill. -/
theorem not_guardDecisions : ¬ Obligations.GuardDecisions := by
  unfold Obligations.GuardDecisions
  intro h
  obtain ⟨hrun, hon, hshed, hfailed, hfall⟩ := lastOfPowerDown_live
  obtain ⟨hstands, hds, hdown⟩ := lastOfPowerDown_marked
  obtain ⟨-, -, -, -, -, -, -, -, -, -, -, -, -, -, -, -, hstep, -⟩ :=
    h { State.reset with dev := lastOfPowerDown } 0 0 12 (.port 0) 0
  have hst := ((hstep [] rfl hrun hon hshed hfailed hfall).of_step1 rfl).2.1
  have hoff : lastOfPowerDown.shedStep.rstate 12 = rsOff := by
    rw [Dev.shedStep_cons rfl hrun hon hshed hfailed, Dev.checkFallen_ends hstands hds hdown]
    exact rstate_endDown_lastOfPowerDown
  exact absurd (hoff.symm.trans hst) (by decide)

end Sys2Proof.Machine
end

section
/-!
The words that the steps of the drill write (R125 to R147): what reads back, and what of the registers and of the rest each step leaves.
-/

namespace Sys2Proof.Machine

open Sys2Proof Sys2Proof.R

/-! ## Where the words stand -/

/-- The words of SEQ_GOOD, SEQ_FAILED and SEQ_SHED. -/
def maskReg (a : Nat) : Bool := (decide (0x100C ≤ a) && decide (a < 0x1010)) || (decide (0x1014 ≤ a) && decide (a < 0x101C))

/-- The words in which the state of rail `r` shows: its own, the masks of all rails, and SEQ_STATUS.SHED. -/
def stateReg (r : Rail) (a : Nat) : Prop := a = SEQ_RSTATE r ∨ maskReg a = true ∨ a = SEQ_STATUS

section Places

variable (r : Rail)

theorem maskReg_GOOD : maskReg (SEQ_GOOD + 2 * (r.val / 16)) = true := by revert r; decide
theorem maskReg_SHED : maskReg (SEQ_SHED + 2 * (r.val / 16)) = true := by revert r; decide
theorem maskReg_FAILED : maskReg (SEQ_FAILED + 2 * (r.val / 16)) = true := by revert r; decide
theorem maskReg_RSTATE : maskReg (SEQ_RSTATE r) = false := by revert r; decide
theorem RSTATE_ne_STATUS : SEQ_RSTATE r ≠ SEQ_STATUS := by revert r; decide

theorem RSTATE_inj {r q : Rail} (h : r ≠ q) : SEQ_RSTATE r ≠ SEQ_RSTATE q := by
  have : r.val ≠ q.val := fun e => h (Fin.ext e)
  simp only [SEQ_RSTATE]; omega

theorem not_stateReg_RSTATE {r q : Rail} (h : q ≠ r) : ¬stateReg r (SEQ_RSTATE q) := by
  rintro (e | e | e)
  · exact RSTATE_inj h e
  · rw [maskReg_RSTATE] at e; cases e
  · exact RSTATE_ne_STATUS q e

end Places

theorem Dev.onlyRegs.refl (d : Dev) (K : Nat → Prop) : d.onlyRegs d K := ⟨fun _ _ => rfl, rfl⟩

theorem Dev.onlyRegs_when {d : Dev} {K : Nat → Prop} (b : Bool) {f : Dev → Dev} (h : d.onlyRegs (f d) K) :
    d.onlyRegs (d.when b f) K := by
  unfold Dev.when
  split
  · exact h
  · exact .refl d K

theorem Dev.onlyRegs_setMbit (d : Dev) (a i : Nat) (b : Bool) :
    d.onlyRegs (d.setMbit a i b) (· = a + 2 * (i / 16)) := d.onlyRegs_wr _ _

/-- A field of a word that does not change. -/
theorem Dev.onlyRegs.fld {d e : Dev} {K : Nat → Prop} (h : d.onlyRegs e K) {a : Nat} (f : Fld) (hf : f.lo + f.w ≤ 16)
    (ha : ¬K a) : e.fld a f = d.fld a f := Dev.fld_of_rd f hf (h.1 a ha)

section OnlyRegs

variable {d e : Dev} {K : Nat → Prop} (h : d.onlyRegs e K)
include h

theorem Dev.onlyRegs.hopper : e.hopper = d.hopper := by simpa using congrArg Dev.hopper h.2
theorem Dev.onlyRegs.drill : e.drill = d.drill := by simpa using congrArg Dev.drill h.2
theorem Dev.onlyRegs.clock : e.clock = d.clock := by simpa using congrArg Dev.clock h.2

end OnlyRegs

/-! ## A rail's state (R128) -/

/-- The masks that show a rail's state. -/
def Dev.markRstate (d : Dev) (r : Rail) (st : Nat) : Dev :=
  ((d.setMbit SEQ_GOOD r.val (st = rsGood)).setMbit SEQ_SHED r.val (st = rsShed)).when (st = rsFailed)
    (·.setMbit SEQ_FAILED r.val true)

theorem Dev.setRstate_eq (d : Dev) (r : Rail) (st : Nat) : d.setRstate r st =
    let e := (d.setFld (SEQ_RSTATE r) SEQ_RSTATE.STATE st).markRstate r st
    e.setFlag SEQ_STATUS SEQ_STATUS.SHED (e.rn32 SEQ_SHED ≠ 0) := rfl

section Rstate

variable (d : Dev) (r : Rail) (st : Nat)

theorem Dev.onlyRegs_markRstate : d.onlyRegs (d.markRstate r st) (maskReg · = true) := by
  refine (((d.onlyRegs_setMbit _ _ _).trans (Dev.onlyRegs_setMbit _ _ _ _)).trans
    (Dev.onlyRegs_when _ (Dev.onlyRegs_setMbit _ _ _ _))).mono ?_
  rintro a ((rfl | rfl) | rfl)
  · exact maskReg_GOOD r
  · exact maskReg_SHED r
  · exact maskReg_FAILED r

theorem Dev.onlyRegs_setRstate : d.onlyRegs (d.setRstate r st) (stateReg r) := by
  rw [Dev.setRstate_eq]
  refine (((d.onlyRegs_setFld _ _ _ (by decide)).trans (Dev.onlyRegs_markRstate _ r st)).trans
    (Dev.onlyRegs_setFlag _ _ _ _ (by decide))).mono ?_
  rintro a ((rfl | h) | rfl)
  · exact .inl rfl
  · exact .inr (.inl h)
  · exact .inr (.inr rfl)

theorem Dev.rd_RSTATE_setRstate :
    (d.setRstate r st).rd (SEQ_RSTATE r) = (d.setFld (SEQ_RSTATE r) SEQ_RSTATE.STATE st).rd (SEQ_RSTATE r) := by
  rw [Dev.setRstate_eq, Dev.rd_setFlag_ne _ _ _ (by decide) (RSTATE_ne_STATUS r)]
  exact (Dev.onlyRegs_markRstate _ r st).1 _ (by simp [maskReg_RSTATE])

theorem Dev.rstate_setRstate_same (h : st < 8) : (d.setRstate r st).rstate r = st := by
  rw [Dev.rstate, Dev.fld_of_rd _ (by decide) (d.rd_RSTATE_setRstate r st), Dev.fld_setFld_same _ _ _ _ (by decide)]
  exact Nat.mod_eq_of_lt h

theorem Dev.rstate_setRstate_ne {q : Rail} (h : q ≠ r) : (d.setRstate r st).rstate q = d.rstate q :=
  (d.onlyRegs_setRstate r st).fld _ (by decide) (not_stateReg_RSTATE h)

/-- A change of state leaves the cause of the last failure (R133). -/
theorem Dev.cause_setRstate (q : Rail) :
    (d.setRstate r st).fld (SEQ_RSTATE q) SEQ_RSTATE.CAUSE = d.fld (SEQ_RSTATE q) SEQ_RSTATE.CAUSE := by
  by_cases h : q = r
  · subst h
    rw [Dev.fld_of_rd _ (by decide) (d.rd_RSTATE_setRstate q st)]
    exact Dev.fld_setFld_disjoint _ _ _ _ _ (by decide) (by decide) (by decide)
  · exact (d.onlyRegs_setRstate r st).fld _ (by decide) (not_stateReg_RSTATE h)

/-- Fields of SEQ_STATUS other than SHED stay. -/
theorem Dev.status_setRstate (f : Fld) (hf : f.lo + f.w ≤ 16) (hd : f.lo + f.w ≤ 13 ∨ 14 ≤ f.lo) :
    (d.setRstate r st).fld SEQ_STATUS f = d.fld SEQ_STATUS f := by
  rw [Dev.setRstate_eq, Dev.setFlag, Dev.fld_setFld_disjoint _ _ _ _ _ (by decide) hf hd]
  exact (Dev.onlyRegs_markRstate _ r st).fld f hf (by decide) |>.trans
    ((d.onlyRegs_setFld _ _ _ (by decide)).fld f hf (RSTATE_ne_STATUS r).symm)

@[simp] theorem Dev.ds_setRstate : (d.setRstate r st).ds = d.ds := d.status_setRstate r st _ (by decide) (by decide)
@[simp] theorem Dev.setRstate_drill : (d.setRstate r st).drill = d.drill := (d.onlyRegs_setRstate r st).drill
@[simp] theorem Dev.setRstate_pins : (d.setRstate r st).pins = d.pins := (d.onlyRegs_setRstate r st).pins

end Rstate
/-! ## The drill's state (R125, R130) -/

/-- SEQ_STATUS, SEQ_ELAPSED, and the words of a rail's state are the registers of a change of the drill's state. -/
def dsReg (a : Nat) : Prop := a = SEQ_STATUS ∨ a = SEQ_ELAPSED ∨ a = SEQ_ELAPSED + 2

/-- SEQ_ELAPSED is held where an operation ends. -/
def Dev.holdElapsed (d : Dev) (v : Nat) : Dev :=
  if drActive d.ds && !drActive v then d.wn32 SEQ_ELAPSED d.elapsed else d

theorem Dev.setDs_eq (d : Dev) (v : Nat) : d.setDs v =
    ((d.holdElapsed v).setFld SEQ_STATUS SEQ_STATUS.STATE v).when (decide (d.ds = drLatched ∨ v = drLatched)) Dev.lampSync := rfl

section Ds

variable (d : Dev) (v : Nat)

theorem Dev.onlyRegs_holdElapsed : d.onlyRegs (d.holdElapsed v) fun a => a = SEQ_ELAPSED ∨ a = SEQ_ELAPSED + 2 := by
  unfold Dev.holdElapsed
  split
  · exact (d.onlyRegs_wr _ _).trans (Dev.onlyRegs_wr _ _ _)
  · exact .refl d _

theorem Dev.onlyRegs_setState :
    d.onlyRegs ((d.holdElapsed v).setFld SEQ_STATUS SEQ_STATUS.STATE v) dsReg :=
  ((d.onlyRegs_holdElapsed v).trans (Dev.onlyRegs_setFld _ _ _ _ (by decide))).mono fun _ h => or_comm.mp h

theorem Dev.rd_whenLamps (b : Bool) (a : Nat) : (d.when b Dev.lampSync).rd a = d.rd a := by
  unfold Dev.when; split <;> rfl

theorem Dev.rd_setDs {a : Nat} (h : ¬dsReg a) : (d.setDs v).rd a = d.rd a := by
  rw [Dev.setDs_eq, Dev.rd_whenLamps]
  exact (d.onlyRegs_setState v).1 a h

theorem Dev.ds_setDs (h : v < 16) : (d.setDs v).ds = v := by
  rw [Dev.ds, Dev.fld_of_rd _ (by decide) ((Dev.setDs_eq d v ▸ Dev.rd_whenLamps _ _ _)), Dev.fld_setFld_same _ _ _ _ (by decide)]
  exact Nat.mod_eq_of_lt h

theorem Dev.status_setDs (f : Fld) (hf : f.lo + f.w ≤ 16) (hd : 4 ≤ f.lo) :
    (d.setDs v).fld SEQ_STATUS f = d.fld SEQ_STATUS f := by
  rw [Dev.fld_of_rd f hf ((Dev.setDs_eq d v ▸ Dev.rd_whenLamps _ _ _)),
    Dev.fld_setFld_disjoint _ _ _ _ _ (by decide) hf (.inr (by simpa using hd))]
  exact (d.onlyRegs_holdElapsed v).fld f hf (by decide)

@[simp] theorem Dev.profileNow_setDs : (d.setDs v).profileNow = d.profileNow := d.status_setDs v _ (by decide) (by decide)
@[simp] theorem Dev.targetNow_setDs : (d.setDs v).targetNow = d.targetNow := d.status_setDs v _ (by decide) (by decide)

theorem Dev.setDs_rest : (d.setDs v).hopper = d.hopper ∧ (d.setDs v).drill = d.drill ∧ (d.setDs v).pins = d.pins ∧
    (d.setDs v).clock = d.clock := by
  have h := d.onlyRegs_setState v
  rw [Dev.setDs_eq, Dev.when]
  split <;> exact ⟨h.hopper, h.drill, h.pins, h.clock⟩

@[simp] theorem Dev.setDs_hopper : (d.setDs v).hopper = d.hopper := (d.setDs_rest v).1
@[simp] theorem Dev.setDs_drill : (d.setDs v).drill = d.drill := (d.setDs_rest v).2.1
@[simp] theorem Dev.setDs_pins : (d.setDs v).pins = d.pins := (d.setDs_rest v).2.2.1
@[simp] theorem Dev.setDs_clock : (d.setDs v).clock = d.clock := (d.setDs_rest v).2.2.2

@[simp] theorem Dev.rstate_setDs (r : Rail) : (d.setDs v).rstate r = d.rstate r :=
  Dev.fld_of_rd _ (by decide) (d.rd_setDs v (by have := r.isLt; simp only [dsReg, SEQ_RSTATE, SEQ_STATUS, SEQ_ELAPSED]; omega))

end Ds
end Sys2Proof.Machine
end

section
/-!
What the reset outputs leave as they follow their rails (R146, R147), and what of the drill its own turning leaves: the ends of
operations, their changes of direction, and the phases of a switch (R132, R134, R135, R139, R142).
-/

namespace Sys2Proof.Machine

open Sys2Proof Sys2Proof.R

/-! ## Words that nothing but the drill writes -/

theorem statReg_imp_evtReg {a : Nat} (h : statReg a = true) : evtReg a = true := by
  simp only [evtReg, statReg] at h ⊢
  simp only [h, Bool.true_or]

/-- The registers of the drill and the profile tables. -/
def seqReg (a : Nat) : Bool := decide (0x1000 ≤ a) && decide (a < 0x1C00)

theorem evtReg_of_seqReg {a : Nat} (h : seqReg a = true) : evtReg a = false := by
  simp only [seqReg, Bool.and_eq_true, decide_eq_true_eq] at h
  simp only [evtReg, EVT_STAT, KE_STICKY, KE_EVQOVCNT, REC_STATUS, REC_OLDEST, REC_DROPCNT, Bool.or_eq_false_iff,
    Bool.and_eq_false_iff, decide_eq_false_iff_not]
  omega

theorem hopReg_of_seqReg {a : Nat} (h : seqReg a = true) : hopReg a = false := by
  simp only [seqReg, Bool.and_eq_true, decide_eq_true_eq] at h
  simp only [hopReg, Bool.and_eq_false_iff, decide_eq_false_iff_not]
  omega

theorem statReg_of_seqReg {a : Nat} (h : seqReg a = true) : statReg a = false :=
  Bool.eq_false_iff.mpr fun hs => by
    have := statReg_imp_evtReg hs
    rw [evtReg_of_seqReg h] at this
    cases this

theorem seqReg_RSTATE (r : Rail) : seqReg (SEQ_RSTATE r) = true := by revert r; decide
theorem seqReg_RAILON (r : Rail) : seqReg (SEQ_RAILON + 2 * (r.val / 16)) = true := by revert r; decide

/-! ## What the drill's registers say -/

/-- From `d` to `e` the drill stands as it did, but for its reset outputs (R146), and what is pending stays so. -/
structure Dev.SameDrill (d e : Dev) : Prop where
  seq : ∀ a, seqReg a = true → a ≠ SEQ_RSTSTAT → e.rd a = d.rd a
  pending : d.StillPending e
  drill : { e.drill with preoff := d.drill.preoff, owed := d.drill.owed } = d.drill

theorem Dev.sameDrill_wr (d : Dev) {a : Nat} (v : Word) (h : seqReg a = false ∨ a = SEQ_RSTSTAT) (hs : statReg a = false) :
    d.SameDrill (d.wr a v) where
  seq b hb hn := Dev.rd_wr_ne d v fun e => by
    subst e
    obtain h | h := h
    · rw [hb] at h; cases h
    · exact hn h
  pending := d.stillPending_wr v hs
  drill := rfl

theorem Dev.SameDrill.trans {d e g : Dev} (h1 : d.SameDrill e) (h2 : e.SameDrill g) : d.SameDrill g where
  seq a ha he := (h2.seq a ha he).trans (h1.seq a ha he)
  pending x hx hp := h2.pending x hx (h1.pending x hx hp)
  drill := by
    have h := congrArg (fun x : DrillSt => { x with preoff := d.drill.preoff, owed := d.drill.owed }) h2.drill
    exact h.trans h1.drill

theorem Dev.sameDrill_of_eq {d e : Dev} (hr : e.regs = d.regs) (hd : e.drill = d.drill) : d.SameDrill e where
  seq a _ _ := by rw [Dev.rd, Dev.rd, hr]
  pending x _ hx := by rwa [Dev.evtPending, Dev.mbit, Dev.rd, hr]
  drill := by rw [hd]

/-- Events, records and the ends of items leave the drill. -/
theorem sameDrill_hop : HopClosed Dev.SameDrill where
  refl _ := Dev.sameDrill_of_eq rfl rfl
  trans := .trans
  recorder _ _ := Dev.sameDrill_of_eq rfl rfl
  nvCount _ _ _ := Dev.sameDrill_of_eq rfl rfl
  nvBytes _ _ _ := Dev.sameDrill_of_eq rfl rfl
  nvWrite _ _ _ := Dev.sameDrill_of_eq rfl rfl
  queue _ _ _ := Dev.sameDrill_of_eq rfl rfl
  wr d a v he hs := d.sameDrill_wr v (.inl (Bool.eq_false_iff.mpr fun h => by rw [evtReg_of_seqReg h] at he; cases he)) hs
  stat d e he :=
    have hq := d.quiet_wr (if true then d.rd (EVT_STAT 0 + 2 * (e / 16)) ||| (1 : Word) <<< (e % 16) else 0) (evtReg_stat he)
    ⟨fun a ha _ => hq.2 a (evtReg_of_seqReg ha), stillPending_closed.stat d e he, rfl⟩
  hopWr d a v ha := d.sameDrill_wr v (.inl (Bool.eq_false_iff.mpr fun h => by rw [hopReg_of_seqReg h] at ha; cases ha))
    (statReg_of_hopReg ha)
  hopper _ _ := Dev.sameDrill_of_eq rfl rfl
  unqueue _ _ := Dev.sameDrill_of_eq rfl rfl

section Reads

variable {d e : Dev} (h : d.SameDrill e)
include h

theorem Dev.SameDrill.rstate (r : Rail) : e.rstate r = d.rstate r :=
  Dev.fld_of_rd _ (by decide) (h.seq _ (seqReg_RSTATE r) (by have := r.isLt; simp only [SEQ_RSTATE, SEQ_RSTSTAT]; omega))

theorem Dev.SameDrill.railOn (r : Rail) : e.railOn r = d.railOn r := by
  rw [Dev.railOn, Dev.mbit, h.seq _ (seqReg_RAILON r) (by have := r.isLt; simp only [SEQ_RAILON, SEQ_RSTSTAT]; omega)]
  rfl

theorem Dev.SameDrill.inMask (p : Profile) (r : Rail) : e.inMask p.val r = d.inMask p.val r := by
  have := p.isLt
  have := r.isLt
  rw [Dev.inMask, Dev.mbit, h.seq]
  · rfl
  · simp only [seqReg, SEQ_PFMASK, Bool.and_eq_true, decide_eq_true_eq]; omega
  · simp only [SEQ_PFMASK, SEQ_RSTSTAT]; omega

theorem Dev.SameDrill.status (f : Fld) (hf : f.lo + f.w ≤ 16) : e.fld SEQ_STATUS f = d.fld SEQ_STATUS f :=
  Dev.fld_of_rd f hf (h.seq _ (by decide) (by decide))

theorem Dev.SameDrill.ds : e.ds = d.ds := h.status _ (by decide)
theorem Dev.SameDrill.profileNow : e.profileNow = d.profileNow := h.status _ (by decide)
theorem Dev.SameDrill.targetNow : e.targetNow = d.targetNow := h.status _ (by decide)

theorem Dev.SameDrill.offDue : e.drill.offDue = d.drill.offDue := by simpa using congrArg DrillSt.offDue h.drill
theorem Dev.SameDrill.lossOnly : e.drill.lossOnly = d.drill.lossOnly := by simpa using congrArg DrillSt.lossOnly h.drill
theorem Dev.SameDrill.onAt : e.drill.onAt = d.drill.onAt := by simpa using congrArg DrillSt.onAt h.drill
theorem Dev.SameDrill.t0 : e.drill.t0 = d.drill.t0 := by simpa using congrArg DrillSt.t0 h.drill
theorem Dev.SameDrill.phase2 : e.drill.phase2 = d.drill.phase2 := by simpa using congrArg DrillSt.phase2 h.drill

theorem Dev.SameDrill.railDown (r : Rail) : e.railDown r = d.railDown r := by
  simp only [Dev.railDown, Dev.lossOnly, h.rstate, h.lossOnly]

theorem Dev.SameDrill.railLive (r : Rail) : e.railLive r = d.railLive r := by
  simp only [Dev.railLive, h.railOn, h.railDown, h.rstate]

end Reads

/-! ## The reset outputs (R146, R147) -/

/-- From `d` to `e` nothing changes but SEQ_RSTSTAT, which outputs PREOFF holds or owe a stretch, and what events may change. -/
structure Dev.Outputs (d e : Dev) : Prop extends Dev.SameDrill d e where
  rd : ∀ a, a ≠ SEQ_RSTSTAT → evtReg a = false → e.rd a = d.rd a
  hopper : e.hopper = d.hopper
  pins : e.pins = d.pins
  clock : e.clock = d.clock

theorem Dev.outputs_of_quiet {d e : Dev} (h : d.Quiet e) (hs : d.SameDrill e) : d.Outputs e where
  toSameDrill := hs
  rd a _ ha := h.2 a ha
  hopper := by simpa [Dev.hush] using congrArg Dev.hopper h.1
  pins := by simpa [Dev.hush] using congrArg Dev.pins h.1
  clock := by simpa [Dev.hush] using congrArg Dev.clock h.1

theorem Dev.Outputs.trans {d e g : Dev} (h1 : d.Outputs e) (h2 : e.Outputs g) : d.Outputs g where
  toSameDrill := h1.toSameDrill.trans h2.toSameDrill
  rd a ha he := (h2.rd a ha he).trans (h1.rd a ha he)
  hopper := h2.hopper.trans h1.hopper
  pins := h2.pins.trans h1.pins
  clock := h2.clock.trans h1.clock

theorem Dev.outputs_refl (d : Dev) : d.Outputs d := Dev.outputs_of_quiet (quiet_closed.refl d) (sameDrill_hop.refl d)

theorem Dev.outputs_setMbit (d : Dev) {i : Nat} (h : i < 16) (b : Bool) : d.Outputs (d.setMbit SEQ_RSTSTAT i b) := by
  have hi : SEQ_RSTSTAT + 2 * (i / 16) = SEQ_RSTSTAT := by rw [Nat.div_eq_of_lt h]
  refine ⟨d.sameDrill_wr _ (.inr hi) ?_, fun a ha _ => Dev.rd_setMbit_ne d b (by rwa [hi]), rfl, rfl, rfl⟩
  rw [hi]
  decide

theorem Dev.outputs_owed (d : Dev) (m : BitVec 8) : d.Outputs { d with drill := { d.drill with owed := m } } :=
  ⟨⟨fun _ _ _ => rfl, fun _ _ h => h, rfl⟩, fun _ _ _ => rfl, rfl, rfl, rfl⟩

theorem Dev.outputs_held (d : Dev) (m : BitVec 8) : d.Outputs { d with drill := { d.drill with preoff := m } } :=
  ⟨⟨fun _ _ _ => rfl, fun _ _ h => h, rfl⟩, fun _ _ _ => rfl, rfl, rfl, rfl⟩

theorem Dev.outputs_rstStep (d : Dev) (n : RstOut) : d.Outputs (d.rstStep n).2 := by
  unfold Dev.rstStep
  dsimp only
  refine ((Dev.outputs_owed d _).trans (Dev.outputs_setMbit _ ?_ _)).trans (Dev.outputs_setMbit _ ?_ _)
  · have := n.isLt; omega
  · have := n.isLt; omega

theorem outputs_foldl_rstGather (ns : List RstOut) (x : List Nat × Dev) : x.2.Outputs (ns.foldl rstGather x).2 := by
  induction ns generalizing x with
  | nil => exact x.2.outputs_refl
  | cons n ns ih => exact (x.2.outputs_rstStep n).trans (ih (rstGather x n))

theorem Dev.outputs_raiseAll (d : Dev) {es : List Nat} (h : ∀ e ∈ es, e < 256) : d.Outputs (d.raiseAll es) :=
  Dev.outputs_of_quiet (d.quiet_raiseAll es h) (sameDrill_hop.raiseAll d es h)

theorem Dev.outputs_raise (d : Dev) {e : Nat} (h : e < 256) : d.Outputs (d.raise e) :=
  Dev.outputs_of_quiet (d.quiet_raise h) (sameDrill_hop.raise d h)

theorem Dev.outputs_rstSync (d : Dev) : d.Outputs d.rstSync := by
  rw [Dev.rstSync_eq]
  split
  · exact d.outputs_refl
  · exact (outputs_foldl_rstGather _ ([], d)).trans (Dev.outputs_raiseAll _ (foldl_rstGather_lt _ _ (by simp)))

theorem Dev.outputs_preoff (d : Dev) (touched : Rail → Bool) : d.Outputs (d.preoff touched) :=
  (d.outputs_held _).trans (Dev.outputs_rstSync _)

theorem Dev.outputs_preoffEnd (d : Dev) : d.Outputs d.preoffEnd := (d.outputs_held _).trans (Dev.outputs_rstSync _)

end Sys2Proof.Machine
end

section
/-!
What the drill's own turning leaves (R132, R134, R135, R139, R142): the ends of operations, and the phases of a switch.
-/

namespace Sys2Proof.Machine

open Sys2Proof Sys2Proof.R

/-! ## Off-slots that are due -/

theorem getLsbD_one_shiftLeft28 (i j : Nat) (hj : j < 28) : ((1 : BitVec 28) <<< i).getLsbD j = decide (j = i) := by
  rw [BitVec.getLsbD_shiftLeft, show (1 : BitVec 28) = 1#28 from rfl, BitVec.getLsbD_one, Bool.eq_iff_iff]
  simp only [Bool.and_eq_true, Bool.not_eq_true', decide_eq_true_eq, decide_eq_false_iff_not]
  omega

theorem getLsbD_setBit28_same (m : BitVec 28) {i : Nat} (h : i < 28) (b : Bool) : (setBit28 m i b).getLsbD i = b := by
  unfold setBit28
  split
  · rw [BitVec.getLsbD_or, getLsbD_one_shiftLeft28 _ _ h]
    simp [*]
  · rw [BitVec.getLsbD_and, BitVec.getLsbD_not, getLsbD_one_shiftLeft28 _ _ h]
    simp_all

theorem getLsbD_setBit28_ne (m : BitVec 28) {i j : Nat} (h : j ≠ i) (b : Bool) : (setBit28 m i b).getLsbD j = m.getLsbD j := by
  by_cases hj : j < 28
  · unfold setBit28
    split
    · rw [BitVec.getLsbD_or, getLsbD_one_shiftLeft28 _ _ hj]
      simp [h]
    · rw [BitVec.getLsbD_and, BitVec.getLsbD_not, getLsbD_one_shiftLeft28 _ _ hj]
      simp [h, hj]
  · rw [BitVec.getLsbD_of_ge _ _ (by omega), BitVec.getLsbD_of_ge _ _ (by omega)]

/-- The off-slot of rail `r` is still to come. -/
def Dev.due (d : Dev) (r : Rail) : Bool := d.drill.offDue.getLsbD r.val

/-- The off-slots of the rails `rs` are to come. -/
def Dev.dueAll (d : Dev) (rs : List Rail) : Dev :=
  { d with drill := { d.drill with offDue := rs.foldl (fun m r => setBit28 m r.val true) d.drill.offDue } }

theorem Dev.foldl_setOffDue (d : Dev) (rs : List Rail) : rs.foldl (fun d r => d.setOffDue r true) d = d.dueAll rs := by
  induction rs generalizing d with
  | nil => rfl
  | cons r rs ih => exact ih _

theorem getLsbD_foldl_setBit28 (rs : List Rail) (m : BitVec 28) (r : Rail) :
    (rs.foldl (fun m q => setBit28 m q.val true) m).getLsbD r.val = (decide (r ∈ rs) || m.getLsbD r.val) := by
  induction rs generalizing m with
  | nil => simp
  | cons q rs ih =>
    rw [List.foldl_cons, ih]
    by_cases h : r = q
    · subst h
      rw [getLsbD_setBit28_same _ r.isLt]
      simp
    · rw [getLsbD_setBit28_ne _ fun e => h (Fin.ext e)]
      simp [h]

theorem Dev.due_dueAll (d : Dev) (rs : List Rail) (r : Rail) : (d.dueAll rs).due r = (decide (r ∈ rs) || d.due r) :=
  getLsbD_foldl_setBit28 rs _ r

theorem mem_rails (r : Rail) : r ∈ rails := List.mem_finRange r

/-! ## What a turn of the drill leaves -/

/-- The words that the drill's turning writes: SEQ_STATUS, SEQ_ELAPSED, SEQ_RSTSTAT and the words of rail states. -/
def turnReg (a : Nat) : Bool :=
  hopReg a || maskReg a || a = SEQ_STATUS || a = SEQ_ELAPSED || a = SEQ_ELAPSED + 2 || a = SEQ_RSTSTAT ||
    (decide (0x1100 ≤ a) && decide (a < 0x12C0) && a % 16 = 10)

/-- A rail of which no slot is running: OFF, WAITING or SHED. -/
def Dev.restful (d : Dev) (r : Rail) : Prop := d.rstate r = rsOff ∨ d.rstate r = rsWaiting ∨ d.rstate r = rsShed

/-- From `d` to `e` only registers of `W` and those of events change; a rail that is RISING, GOOD, FALLING or FAILED stays so, the
cause of its last failure stays, no rail goes on, and none that is not on gets an off-slot. -/
structure Dev.Turns (W : Nat → Prop) (d e : Dev) : Prop where
  rd : ∀ a, ¬W a → evtReg a = false → e.rd a = d.rd a
  rstate : ∀ r, ¬d.restful r → e.rstate r = d.rstate r
  cause : ∀ r : Rail, e.fld (SEQ_RSTATE r) SEQ_RSTATE.CAUSE = d.fld (SEQ_RSTATE r) SEQ_RSTATE.CAUSE
  off : ∀ r, d.railOn r = false → d.due r = false → e.railOn r = false ∧ e.due r = false
  pending : d.StillPending e
  pins : e.pins = d.pins
  clock : e.clock = d.clock
  onAt : e.drill.onAt = d.drill.onAt

section Turns

variable {W : Nat → Prop}

theorem Dev.Turns.trans {d e g : Dev} (h1 : d.Turns W e) (h2 : e.Turns W g) : d.Turns W g where
  rd a ha he := (h2.rd a ha he).trans (h1.rd a ha he)
  rstate r hr := (h2.rstate r (by rwa [Dev.restful, h1.rstate r hr])).trans (h1.rstate r hr)
  cause r := (h2.cause r).trans (h1.cause r)
  off r hon hd := h2.off r (h1.off r hon hd).1 (h1.off r hon hd).2
  pending x hx hp := h2.pending x hx (h1.pending x hx hp)
  pins := h2.pins.trans h1.pins
  clock := h2.clock.trans h1.clock
  onAt := h2.onAt.trans h1.onAt

theorem Dev.Turns.mono {d e : Dev} {V : Nat → Prop} (h : d.Turns W e) (hv : ∀ a, W a → V a) : d.Turns V e :=
  { h with rd := fun a ha he => h.rd a (fun hw => ha (hv a hw)) he }

/-- A word of SEQ_RAILON, or of SEQ_RSTATE. -/
def railReg (a : Nat) : Bool := (decide (0x1010 ≤ a) && decide (a < 0x1014)) || (decide (0x1100 ≤ a) && decide (a < 0x12C0))

theorem railReg_RAILON (r : Rail) : railReg (SEQ_RAILON + 2 * (r.val / 16)) = true := by revert r; decide
theorem railReg_RSTATE (r : Rail) : railReg (SEQ_RSTATE r) = true := by revert r; decide

theorem seqReg_of_railReg {a : Nat} (h : railReg a = true) : seqReg a = true := by
  simp only [railReg, seqReg, Bool.or_eq_true, Bool.and_eq_true, decide_eq_true_eq] at h ⊢
  omega

/-- Rails whose registers and drill stay. -/
theorem Dev.turns_of_rails {d e : Dev} (hrd : ∀ a, ¬W a → evtReg a = false → e.rd a = d.rd a)
    (hrail : ∀ a, railReg a = true → e.rd a = d.rd a) (hp : d.StillPending e) (hpins : e.pins = d.pins)
    (hclock : e.clock = d.clock) (hat : e.drill.onAt = d.drill.onAt)
    (hdue : ∀ r, d.railOn r = false → d.due r = false → e.due r = false) : d.Turns W e where
  rd := hrd
  rstate r _ := Dev.fld_of_rd _ (by decide) (hrail _ (railReg_RSTATE r))
  cause r := Dev.fld_of_rd _ (by decide) (hrail _ (railReg_RSTATE r))
  off r hon hd := ⟨by rw [← hon, Dev.railOn, Dev.railOn, Dev.mbit, Dev.mbit, hrail _ (railReg_RAILON r)], hdue r hon hd⟩
  pending := hp
  pins := hpins
  clock := hclock
  onAt := hat

theorem Dev.turns_wr (d : Dev) {a : Nat} (v : Word) (hw : W a ∨ evtReg a = true) (hs : statReg a = false)
    (hr : railReg a = false) : d.Turns W (d.wr a v) := by
  refine Dev.turns_of_rails (fun b hb he => Dev.rd_wr_ne d v ?_) (fun b hb => Dev.rd_wr_ne d v ?_) (d.stillPending_wr v hs)
    rfl rfl rfl fun _ _ h => h
  · rintro rfl
    obtain h | h := hw
    · exact hb h
    · rw [he] at h; cases h
  · rintro rfl
    rw [hb] at hr; cases hr

theorem railReg_of_evtReg {a : Nat} (h : evtReg a = true) : railReg a = false :=
  Bool.eq_false_iff.mpr fun hr => by rw [evtReg_of_seqReg (seqReg_of_railReg hr)] at h; cases h

theorem railReg_of_hopReg {a : Nat} (h : hopReg a = true) : railReg a = false :=
  Bool.eq_false_iff.mpr fun hr => by rw [hopReg_of_seqReg (seqReg_of_railReg hr)] at h; cases h

/-- Where no register changes, nor the off-slots. -/
theorem Dev.turns_of_regs {d e : Dev} (h : e.regs = d.regs) (hpins : e.pins = d.pins) (hclock : e.clock = d.clock)
    (hat : e.drill.onAt = d.drill.onAt) (hdue : ∀ r, d.railOn r = false → d.due r = false → e.due r = false) : d.Turns W e :=
  have hrd : ∀ a, e.rd a = d.rd a := fun a => by rw [Dev.rd, Dev.rd, h]
  Dev.turns_of_rails (fun a _ _ => hrd a) (fun a _ => hrd a)
    (fun x _ hx => by rwa [Dev.evtPending, Dev.mbit, Dev.rd, h]) hpins hclock hat hdue

theorem turns_raise : RaiseClosed (Dev.Turns W) where
  refl _ := Dev.turns_of_regs rfl rfl rfl rfl fun _ _ h => h
  trans := .trans
  recorder _ _ := Dev.turns_of_regs rfl rfl rfl rfl fun _ _ h => h
  nvCount _ _ _ := Dev.turns_of_regs rfl rfl rfl rfl fun _ _ h => h
  nvBytes _ _ _ := Dev.turns_of_regs rfl rfl rfl rfl fun _ _ h => h
  nvWrite _ _ _ := Dev.turns_of_regs rfl rfl rfl rfl fun _ _ h => h
  queue _ _ _ := Dev.turns_of_regs rfl rfl rfl rfl fun _ _ h => h
  wr d _ v he hs := d.turns_wr v (.inr he) hs (railReg_of_evtReg he)
  stat d e he :=
    have hq := d.quiet_wr (if true then d.rd (EVT_STAT 0 + 2 * (e / 16)) ||| (1 : Word) <<< (e % 16) else 0) (evtReg_stat he)
    Dev.turns_of_rails (fun a _ ha => hq.2 a ha) (fun a ha => hq.2 a (evtReg_of_seqReg (seqReg_of_railReg ha)))
      (stillPending_closed.stat d e he) rfl rfl rfl fun _ _ h => h

theorem turns_hop (hW : ∀ a, hopReg a = true → W a) : HopClosed (Dev.Turns W) where
  toRaiseClosed := turns_raise
  hopWr d a v ha := d.turns_wr v (.inl (hW a ha)) (statReg_of_hopReg ha) (railReg_of_hopReg ha)
  hopper _ _ := Dev.turns_of_regs rfl rfl rfl rfl fun _ _ h => h
  unqueue _ _ := Dev.turns_of_regs rfl rfl rfl rfl fun _ _ h => h

theorem Dev.Outputs.turns {d e : Dev} (h : d.Outputs e) (hW : W SEQ_RSTSTAT) : d.Turns W e := by
  refine Dev.turns_of_rails (fun a ha he => h.rd a (fun e => ha (e ▸ hW)) he) (fun a ha => h.seq _ (seqReg_of_railReg ha) ?_)
    h.pending h.pins h.clock h.onAt fun r _ hd => ?_
  · rintro rfl
    revert ha; decide
  · rwa [Dev.due, h.offDue]

/-- The drill beside its registers, where no rail that is not on gets an off-slot. -/
theorem Dev.turns_drill (d : Dev) (x : DrillSt) (hat : x.onAt = d.drill.onAt)
    (hdue : ∀ r, d.railOn r = false → d.due r = false → x.offDue.getLsbD r.val = false) :
    d.Turns W { d with drill := x } := Dev.turns_of_regs rfl rfl rfl hat hdue

/-- An operation ends with no off-slot to come. -/
theorem Dev.turns_noneDue (d : Dev) (x : DrillSt) (hat : x.onAt = d.drill.onAt) (h : x.offDue = 0) :
    d.Turns W { d with drill := x } := d.turns_drill x hat fun r _ _ => by rw [h]; exact BitVec.getLsbD_zero

end Turns
end Sys2Proof.Machine
end

section
/-!
The parts of the drill's turning, one by one (R130 to R148): each is a turn.
-/

namespace Sys2Proof.Machine

open Sys2Proof Sys2Proof.R

/-! ## The small steps -/

theorem Dev.stillPending_of_rd {d e : Dev} (h : ∀ a, statReg a = true → e.rd a = d.rd a) : d.StillPending e := by
  intro x hx hp
  rwa [Dev.evtPending, Dev.mbit, h _ (statReg_of_lt hx)]

theorem turnReg_of_stateReg {r : Rail} {a : Nat} (h : stateReg r a) : turnReg a = true := by
  obtain rfl | h | rfl := h
  · revert r; decide
  · simp [turnReg, h]
  · decide

theorem statReg_of_stateReg {r : Rail} {a : Nat} (h : stateReg r a) : statReg a = false := by
  refine statReg_of_seqReg ?_
  obtain rfl | h | rfl := h
  · exact seqReg_RSTATE r
  · simp only [maskReg, seqReg, Bool.or_eq_true, Bool.and_eq_true, decide_eq_true_eq] at h ⊢
    omega
  · decide

theorem statReg_of_dsReg {a : Nat} (h : dsReg a) : statReg a = false := by
  obtain rfl | rfl | rfl := h <;> decide

theorem turnReg_of_dsReg {a : Nat} (h : dsReg a) : turnReg a = true := by
  obtain rfl | rfl | rfl := h <;> decide

theorem railReg_of_dsReg {a : Nat} (h : dsReg a) : railReg a = false := by
  obtain rfl | rfl | rfl := h <;> decide

theorem not_stateReg_RAILON (r q : Rail) : ¬stateReg r (SEQ_RAILON + 2 * (q.val / 16)) := by
  rintro (e | e | e)
  · have := q.isLt
    simp only [SEQ_RAILON, SEQ_RSTATE] at e
    omega
  · revert q; decide
  · revert q; decide

@[simp] theorem Dev.railOn_setRstate (d : Dev) (r : Rail) (st : Nat) (q : Rail) : (d.setRstate r st).railOn q = d.railOn q := by
  rw [Dev.railOn, Dev.railOn, Dev.mbit, Dev.mbit, (d.onlyRegs_setRstate r st).1 _ (not_stateReg_RAILON r q)]

/-- A power-down is prepared: the off-slots of all live rails are to come (R134). -/
def Dev.downDue (d : Dev) : Dev :=
  let e := d.dueAll (rails.filter d.railLive)
  { e with drill := { e.drill with t0 := e.now, warned := false, firstFail := 0, phase2 := false } }

theorem Dev.startDown_eq (d : Dev) : d.startDown =
    (d.downDue.setDs drFalling).preoff fun r => d.downDue.railLive r || (d.downDue.railOn r && d.downDue.rstate r = rsFalling) := by
  have h : d.startDown = (let e := (rails.filter d.railLive).foldl (fun d r => d.setOffDue r true) d
    let e : Dev := { e with drill := { e.drill with t0 := e.now, warned := false, firstFail := 0, phase2 := false } }
    (e.setDs drFalling).preoff fun r => e.railLive r || (e.railOn r && e.rstate r = rsFalling)) := rfl
  rw [h, Dev.foldl_setOffDue]
  rfl

section Turning

variable {W : Nat → Prop} (hT : ∀ a, turnReg a = true → W a)
include hT

theorem turns_hop_of : HopClosed (Dev.Turns W) := turns_hop fun a h => hT a (by simp [turnReg, h])

/-- A rail of which no slot is running takes a state. -/
theorem Dev.turns_setRstate (d : Dev) {r : Rail} (st : Nat) (hr : d.restful r) : d.Turns W (d.setRstate r st) := by
  have h := d.onlyRegs_setRstate r st
  refine ⟨fun a ha _ => h.1 a fun hs => ha (hT a (turnReg_of_stateReg hs)), fun q hq => ?_, d.cause_setRstate r st,
    fun q hon hd => ⟨by rwa [Dev.railOn_setRstate], by rwa [Dev.due, h.drill]⟩,
    Dev.stillPending_of_rd fun a ha => h.1 a fun hs => ?_, h.pins, h.clock, by rw [h.drill]⟩
  · exact d.rstate_setRstate_ne r st fun e => hq (e ▸ hr)
  · rw [statReg_of_stateReg hs] at ha; cases ha

/-- Rails that a condition picks, of which no slot is running, take a state. -/
theorem Dev.turns_setRstates (d : Dev) (p : Dev → Rail → Prop) [∀ e r, Decidable (p e r)] (st : Nat)
    (hp : ∀ e r, p e r → e.restful r) :
    d.Turns W (rails.foldl (fun d r => if p d r then d.setRstate r st else d) d) := by
  refine turns_raise.foldl _ _ d fun e r _ => ?_
  split
  · exact e.turns_setRstate hT st (hp e r ‹_›)
  · exact turns_raise.refl e

theorem Dev.turns_setDs (d : Dev) (v : Nat) : d.Turns W (d.setDs v) := by
  have hrd {a : Nat} (h : ¬dsReg a) := d.rd_setDs v h
  refine Dev.turns_of_rails (fun a ha _ => hrd fun h => ha (hT a (turnReg_of_dsReg h))) (fun a ha => hrd fun h => ?_)
    (Dev.stillPending_of_rd fun a ha => hrd fun h => ?_) (d.setDs_pins v) (d.setDs_clock v) (by rw [d.setDs_drill])
    fun r _ hd => by rwa [Dev.due, d.setDs_drill]
  · rw [railReg_of_dsReg h] at ha; cases ha
  · rw [statReg_of_dsReg h] at ha; cases ha

theorem Dev.turns_rstSync (d : Dev) : d.Turns W d.rstSync := d.outputs_rstSync.turns (hT _ (by decide))

theorem Dev.turns_dropWaiting (d : Dev) : d.Turns W d.dropWaiting :=
  d.turns_setRstates hT (fun d r => d.rstate r = rsWaiting) rsOff fun _ _ h => .inr (.inl h)

theorem Dev.turns_endDown (d : Dev) : d.Turns W d.endDown := by
  have h := turns_hop_of hT
  unfold Dev.endDown
  refine h.trans ?_ (h.endItems _ _)
  refine h.trans ?_ (h.raise _ (by decide))
  refine h.trans ?_ (Dev.turns_noneDue _ _ rfl rfl)
  refine h.trans (h.trans ?_ (Dev.turns_setDs hT _ _)) ((Dev.outputs_preoffEnd _).turns (hT _ (by decide)))
  exact d.turns_setRstates hT (fun d r => d.rstate r = rsShed) rsOff fun _ _ h => .inr (.inr h)

theorem Dev.turns_endFault (d : Dev) : d.Turns W d.endFault := by
  have h := turns_hop_of hT
  unfold Dev.endFault
  refine h.trans ?_ (h.endItems _ _)
  refine h.trans ?_ (h.raise _ (by decide))
  refine h.trans ?_ (Dev.turns_drill _ _ rfl fun _ _ hd => hd)
  exact h.trans (d.turns_setDs hT _) ((Dev.outputs_preoffEnd _).turns (hT _ (by decide)))

omit hT in
/-- Only rails that are on get an off-slot. -/
theorem Dev.turns_dueAll (d : Dev) (rs : List Rail) (h : ∀ r ∈ rs, d.railOn r = true) : d.Turns W (d.dueAll rs) := by
  refine Dev.turns_drill d _ rfl fun r hon hd => ?_
  have hr : r ∉ rs := fun hm => by rw [h r hm] at hon; cases hon
  exact (d.due_dueAll rs r).trans (by simp [hr, hd])

omit hT in
theorem Dev.railOn_of_live {d : Dev} {r : Rail} (h : d.railLive r = true) : d.railOn r = true := by
  simp only [Dev.railLive, Bool.and_eq_true] at h
  exact h.1.1

omit hT in
theorem Dev.turns_downDue (d : Dev) : d.Turns W d.downDue :=
  (d.turns_dueAll _ fun _ hr => Dev.railOn_of_live (List.mem_filter.mp hr).2).trans
    (Dev.turns_drill _ _ rfl fun _ _ hd => hd)

theorem Dev.turns_startDown (d : Dev) : d.Turns W d.startDown := by
  rw [Dev.startDown_eq]
  exact (d.turns_downDue.trans (Dev.turns_setDs hT _ _)).trans ((Dev.outputs_preoff _ _).turns (hT _ (by decide)))

theorem Dev.turns_endSwitch (d : Dev) (b : Bool) :
    d.Turns W (((({ d.setDs drUp with drill := { d.drill with phase2 := b } } : Dev).preoffEnd).raise 130).endItems
      (onlyCode 0x12 0)) := by
  have h := turns_hop_of hT
  refine h.trans (h.trans ?_ (h.raise _ (by decide))) (h.endItems _ _)
  refine Dev.Turns.trans ?_ ((Dev.outputs_preoffEnd _).turns (hT _ (by decide)))
  refine (d.turns_setDs hT drUp).trans (Dev.turns_drill _ _ (by rw [Dev.setDs_drill]) fun r _ hd => ?_)
  rwa [Dev.due, Dev.setDs_drill] at hd

theorem Dev.turns_checkUp (d : Dev) : d.Turns W d.checkUp := by
  have h := turns_hop_of hT
  unfold Dev.checkUp
  dsimp only
  split
  · exact h.refl d
  split
  · exact h.trans (h.trans (d.turns_setDs hT _) (h.raise _ (by decide))) (h.endItems _ _)
  split
  · have hdown (e : Dev) (p : Option Profile) :
        e.Turns W ({ e with drill := { e.drill with cycleSwitch := false, cycle := p } } : Dev).startDown := by
      refine Dev.Turns.trans ?_ (Dev.turns_startDown hT _)
      exact Dev.turns_drill e _ rfl fun _ _ hd => hd
    split
    · split
      · exact ((d.turns_endSwitch hT false).trans (hdown _ _)).trans (Dev.turns_endDown hT _)
      · exact (d.turns_endSwitch hT false).trans (hdown _ _)
    · exact d.turns_endSwitch hT false
  · exact h.refl d

theorem Dev.turns_startPhase2 (d : Dev) : d.Turns W d.startPhase2 := by
  unfold Dev.startPhase2
  refine (Dev.Turns.trans ?_ (Dev.turns_rstSync hT _)).trans (Dev.turns_checkUp hT _)
  refine Dev.Turns.trans ?_ (Dev.turns_setRstates hT _
    (fun e r => (e.inMask d.targetNow r && (e.rstate r = rsOff || e.rstate r = rsShed)) = true) rsWaiting fun e r he => ?_)
  · refine Dev.Turns.trans ?_ (Dev.turns_noneDue _ _ rfl rfl)
    simp only [Dev.setFld, SEQ_STATUS.PROFILE, Nat.reduceAdd, Nat.reduceLeDiff, ↓reduceIte]
    exact d.turns_wr _ (.inl (hT _ (by decide))) (by decide) (by decide)
  · simp only [Bool.and_eq_true, Bool.or_eq_true, decide_eq_true_eq] at he
    exact he.2.elim .inl fun h => .inr (.inr h)

theorem Dev.turns_checkDown (d : Dev) : d.Turns W d.checkDown := by
  have hrefl : d.Turns W d := turns_raise.refl d
  unfold Dev.checkDown
  split
  · split
    · exact d.turns_endDown hT
    · exact hrefl
  split
  · split
    · exact d.turns_endFault hT
    · exact hrefl
  split
  · split
    · exact d.turns_startPhase2 hT
    · exact hrefl
  · exact hrefl

end Turning
end Sys2Proof.Machine
end

section
/-!
The commands of the drill (R131, R138): what ON, OFF, SWITCH and UNLATCH make of it, whether SEQ_CMD or an item gives them.
-/

namespace Sys2Proof.Machine

open Sys2Proof Sys2Proof.R

/-! ## Rails through the small steps -/

/-- The words of all rail states. -/
def anyStateReg (a : Nat) : Prop := ∃ r, stateReg r a

theorem anyStateReg_lt {a : Nat} (h : anyStateReg a) : 0x1000 ≤ a ∧ a < 0x1400 := by
  obtain ⟨r, rfl | h | rfl⟩ := h
  · have := r.isLt
    simp only [SEQ_RSTATE]
    omega
  · simp only [maskReg, Bool.or_eq_true, Bool.and_eq_true, decide_eq_true_eq] at h
    omega
  · decide

theorem not_anyStateReg_RAILON (q : Rail) : ¬anyStateReg (SEQ_RAILON + 2 * (q.val / 16)) :=
  fun ⟨r, h⟩ => not_stateReg_RAILON r q h

/-- Every rail takes a state. -/
theorem Dev.onlyRegs_setEach (f : Dev → Rail → Nat) (rs : List Rail) (d : Dev) :
    d.onlyRegs (rs.foldl (fun d r => d.setRstate r (f d r)) d) anyStateReg :=
  Dev.onlyRegs_foldl (fun e r => (e.onlyRegs_setRstate r _).mono fun _ h => ⟨r, h⟩) rs d

theorem Dev.onlyRegs_dropWaiting (d : Dev) : d.onlyRegs d.dropWaiting anyStateReg :=
  Dev.onlyRegs_foldl (fun e r => by
    split
    · exact (e.onlyRegs_setRstate r _).mono fun _ h => ⟨r, h⟩
    · exact .refl e _) rails d

/-- A rail that takes the state `v` in its turn has it in the end, where `f` gives it `v` in every device that `I` describes. -/
theorem Dev.rstate_setEach {f : Dev → Rail → Nat} {r : Rail} {v : Nat} (hv : v < 8) (I : Dev → Prop)
    (hI : ∀ e q, I e → I (e.setRstate q (f e q))) (hf : ∀ e, I e → f e r = v) (rs : List Rail) (d : Dev) (hd : I d)
    (h : r ∈ rs ∨ d.rstate r = v) : (rs.foldl (fun d r => d.setRstate r (f d r)) d).rstate r = v := by
  induction rs generalizing d with
  | nil => simpa using h
  | cons q rs ih =>
    refine ih _ (hI d q hd) ?_
    by_cases hq : r = q
    · subst hq
      exact .inr (by
        show (d.setRstate r (f d r)).rstate r = v
        rw [hf d hd, Dev.rstate_setRstate_same _ _ _ hv])
    · exact h.imp (fun hm => (List.mem_cons.mp hm).resolve_left hq) (Dev.rstate_setRstate_ne d q _ hq).trans

theorem Dev.inMask_of_rd {d e : Dev} (h : ∀ a, 0x1400 ≤ a → e.rd a = d.rd a) (p : Nat) (r : Rail) : e.inMask p r = d.inMask p r := by
  rw [Dev.inMask, Dev.mbit, h _ (by simp only [SEQ_PFMASK]; omega)]
  rfl

theorem Dev.inMask_of_onlyRegs {d e : Dev} {K : Nat → Prop} (h : d.onlyRegs e K) (hK : ∀ a, K a → a < 0x1400) (p : Nat) (r : Rail) :
    e.inMask p r = d.inMask p r :=
  Dev.inMask_of_rd (fun a ha => h.1 a fun hk => absurd (hK a hk) (by omega)) p r

@[simp] theorem Dev.inMask_setRstate (d : Dev) (q : Rail) (st p : Nat) (r : Rail) : (d.setRstate q st).inMask p r = d.inMask p r :=
  Dev.inMask_of_onlyRegs (d.onlyRegs_setRstate q st) (fun _ h => (anyStateReg_lt ⟨q, h⟩).2) p r

@[simp] theorem Dev.inMask_setDs (d : Dev) (v p : Nat) (r : Rail) : (d.setDs v).inMask p r = d.inMask p r :=
  Dev.inMask_of_rd (fun a ha => d.rd_setDs v fun h => by
    simp only [dsReg, SEQ_STATUS, SEQ_ELAPSED] at h; omega) p r

@[simp] theorem Dev.railDown_setDs (d : Dev) (v : Nat) (r : Rail) : (d.setDs v).railDown r = d.railDown r := by
  simp [Dev.railDown, Dev.lossOnly]

theorem Dev.due_of_live {d : Dev} {r : Rail} (h : d.railLive r = true) : (d.dueAll (rails.filter d.railLive)).due r = true := by
  rw [Dev.due_dueAll]
  simp [mem_rails, h]

/-- A live rail is not done in a power-down. -/
theorem Dev.not_down_of_live {d : Dev} {r : Rail} (h : d.railLive r = true) : d.railDown r = false := by
  simp only [Dev.railLive, Bool.and_eq_true, Bool.not_eq_true'] at h
  exact h.1.2

/-- A live rail whose on-slot has come is in no state of rest. -/
theorem Dev.not_restful_of_live {d : Dev} {r : Rail} (h : d.railLive r = true) (hw : d.rstate r ≠ rsWaiting) : ¬d.restful r := by
  have hd := Dev.not_down_of_live h
  simp only [Dev.railDown, Bool.or_eq_false_iff, decide_eq_false_iff_not] at hd
  rintro (e | e | e)
  · exact hd.1.1 e
  · exact hw e
  · exact hd.1.2 e

/-! ## Operations that do not end at once -/

/-- A rail of the running profile that is not up keeps the drill from UP. -/
theorem Dev.checkUp_of_not_up {d : Dev} {r : Rail} (hm : d.inMask d.profileNow r = true) (hu : d.railUp r = false) :
    d.checkUp = d := by
  have : rails.all (fun r => !d.inMask d.profileNow r || d.railUp r) = false :=
    List.all_eq_false.mpr ⟨r, mem_rails r, by simp [hm, hu]⟩
  simp [Dev.checkUp, this]

/-- A rail that is not done keeps a power-down or a reversal from its end. -/
theorem Dev.checkDown_of_not_down {d : Dev} {r : Rail} (hds : d.ds = drFalling ∨ d.ds = drReversing) (hr : d.railDown r = false) :
    d.checkDown = d := by
  have : rails.all d.railDown = false := List.all_eq_false.mpr ⟨r, mem_rails r, by simp [hr]⟩
  simp [Dev.checkDown, hds, this]

/-- A leaving rail that is not done keeps a switch in phase 1. -/
theorem Dev.checkDown_of_leaving {d : Dev} {r : Rail} (hds : d.ds = drSwitching) (hm : d.inMask d.targetNow r = false)
    (hr : d.railDown r = false) : d.checkDown = d := by
  have : rails.all (fun r => d.inMask d.targetNow r || d.railDown r) = false :=
    List.all_eq_false.mpr ⟨r, mem_rails r, by simp [hm, hr]⟩
  simp [Dev.checkDown, hds, this]

/-! ## Refusals and ends (R138) -/

theorem Dev.drillEnd_refused (d : Dev) {status : Nat} (h : 0x20 ≤ status) :
    d.drillEnd none status = d.setFlag SEQ_STICKY SEQ_STICKY.CMDREF true := by
  simp [Dev.drillEnd, Dev.when, h]

theorem Dev.drillEnd_done (d : Dev) : d.drillEnd none 0x00 = d := rfl

/-- A refused command of SEQ_CMD sets CMDREF and nothing else. -/
theorem Dev.refused_setFlag (d : Dev) : (d.setFlag SEQ_STICKY SEQ_STICKY.CMDREF true).flag SEQ_STICKY SEQ_STICKY.CMDREF = true ∧
    d.onlyRegs (d.setFlag SEQ_STICKY SEQ_STICKY.CMDREF true) (fun k => k = SEQ_STICKY) :=
  ⟨Dev.flag_setFlag_same _ _ _ _ (by decide) (by decide), Dev.onlyRegs_setFlag _ _ _ _ (by decide)⟩

/-- The end of an item leaves the drill. -/
theorem Dev.sameDrill_drillEnd (d : Dev) (it : Item) (status : Nat) : d.SameDrill (d.drillEnd (some it) status) :=
  sameDrill_hop.complete d _ _ _

theorem Dev.drillEnd_ended {d : Dev} {it : Item} (status : Nat) (h : d.item it.tag ≠ none) :
    (d.drillEnd (some it) status).ended it.tag status := d.complete_ended _ _ h

/-! ## ON (R131, R138) -/

/-- The rails of the mask WAITING, SEQ_FAILED cleared, and the profile named. -/
def Dev.waitAll (d : Dev) (p : Nat) : Dev :=
  let e := (rails.foldl (fun d r => d.setRstate r (if d.inMask p r then rsWaiting else rsOff)) d).zero [SEQ_FAILED, SEQ_FAILED + 2]
  (e.setFld SEQ_STATUS SEQ_STATUS.PROFILE p).setFlag SEQ_STATUS SEQ_STATUS.DEFER false

/-- The drill beside its registers as a power-up starts. -/
def Dev.restarted (d : Dev) : Dev :=
  { d with drill := { d.drill with t0 := d.now, lossOnly := 0, elapsed := 0, offDue := 0, phase2 := false, firstFail := 0,
                                   warned := false, gap := [], cycle := none } }

theorem Dev.rd_restarted (d : Dev) (a : Nat) : d.restarted.rd a = d.rd a := rfl
theorem Dev.profileNow_restarted (d : Dev) : d.restarted.profileNow = d.profileNow := rfl
theorem Dev.rstate_restarted (d : Dev) (r : Rail) : d.restarted.rstate r = d.rstate r := rfl
theorem Dev.inMask_restarted (d : Dev) (p : Nat) (r : Rail) : d.restarted.inMask p r = d.inMask p r := rfl
theorem Dev.t0_restarted (d : Dev) : d.restarted.drill.t0 = d.now := rfl
theorem Dev.lossOnly_restarted (d : Dev) : d.restarted.drill.lossOnly = 0 := rfl
theorem Dev.hopper_restarted (d : Dev) : d.restarted.hopper = d.hopper := rfl

/-- A power-up of profile `p` before it is asked whether it has ended already. -/
def Dev.armUp (d : Dev) (p : Nat) : Dev := (d.waitAll p).restarted.setDs drRising

theorem Dev.startUp_eq (d : Dev) (p : Nat) : d.startUp p = (d.armUp p).checkUp := rfl

theorem Dev.onlyRegs_waitAll (d : Dev) (p : Nat) : d.onlyRegs (d.waitAll p) fun a => 0x1000 ≤ a ∧ a < 0x1400 := by
  refine ((((d.onlyRegs_setEach _ rails).trans (Dev.onlyRegs_zero _ _)).trans
    (Dev.onlyRegs_setFld _ _ _ _ (by decide))).trans (Dev.onlyRegs_setFlag _ _ _ _ (by decide))).mono ?_
  rintro a (((h | h) | rfl) | rfl)
  · exact anyStateReg_lt h
  · simp only [SEQ_FAILED, List.mem_cons, List.not_mem_nil, or_false] at h
    omega
  · decide
  · decide

theorem Dev.rstate_waitAll {d : Dev} {p : Nat} {r : Rail} (hm : d.inMask p r = true) : (d.waitAll p).rstate r = rsWaiting := by
  have hz : SEQ_RSTATE r ∉ [SEQ_FAILED, SEQ_FAILED + 2] := by
    have := r.isLt
    simp only [SEQ_FAILED, SEQ_RSTATE, List.mem_cons, List.not_mem_nil, or_false]
    omega
  have hrd := (Dev.rd_setFlag_ne _ SEQ_STATUS.DEFER false (by decide) (RSTATE_ne_STATUS r)).trans
    ((Dev.rd_setFld_ne _ SEQ_STATUS.PROFILE p (by decide) (RSTATE_ne_STATUS r)).trans
      ((Dev.rd_zero (rails.foldl (fun d r => d.setRstate r (if d.inMask p r then rsWaiting else rsOff)) d) _ _).trans
        (if_neg hz)))
  exact (Dev.fld_of_rd _ (by decide) hrd).trans
    (Dev.rstate_setEach (f := fun e q => if e.inMask p q then rsWaiting else rsOff) (by decide) (fun e => e.inMask p r = true)
      (fun e q he => (e.inMask_setRstate q _ p r).trans he) (fun e he => if_pos he) rails d hm (.inl (mem_rails r)))

theorem Dev.profileNow_waitAll (d : Dev) {p : Nat} (hp : p < 8) : (d.waitAll p).profileNow = p :=
  (Dev.fld_setFld_disjoint _ _ _ _ _ (by decide) (by decide) (by decide)).trans
    ((Dev.fld_setFld_same _ _ _ _ (by decide)).trans (Nat.mod_eq_of_lt hp))

theorem Dev.failed_waitAll (d : Dev) (p : Nat) {a : Nat} (ha : a ∈ [SEQ_FAILED, SEQ_FAILED + 2]) : (d.waitAll p).rd a = 0 := by
  have hne : a ≠ SEQ_STATUS := by rintro rfl; revert ha; decide
  exact (Dev.rd_setFlag_ne _ _ _ (by decide) hne).trans ((Dev.rd_setFld_ne _ _ _ (by decide) hne).trans (Dev.rd_zero_mem _ ha))

/-- What a power-up of profile `p` starts with, for rail `r` of its mask (R130, R132). -/
structure Dev.Risen (d : Dev) (p : Nat) (r : Rail) (e : Dev) : Prop where
  ds : e.ds = drRising
  profile : e.profileNow = p
  rstate : e.rstate r = rsWaiting
  failed : e.rn32 SEQ_FAILED = 0
  t0 : e.drill.t0 = d.now
  hopper : e.hopper = d.hopper

theorem Dev.rn32_eq_zero {d : Dev} {a : Nat} (h : ∀ b ∈ [a, a + 2], d.rd b = 0) : d.rn32 a = 0 := by
  rw [Dev.rn32, Dev.rd32, h a (by simp), h (a + 2) (by simp)]
  rfl

theorem Dev.risen_armUp {d : Dev} {p : Nat} {r : Rail} (hp : p < 8) (hm : d.inMask p r = true) : d.Risen p r (d.armUp p) where
  ds := Dev.ds_setDs _ _ (by decide)
  profile := by rw [Dev.armUp, Dev.profileNow_setDs, Dev.profileNow_restarted, d.profileNow_waitAll hp]
  rstate := by rw [Dev.armUp, Dev.rstate_setDs, Dev.rstate_restarted, Dev.rstate_waitAll hm]
  failed := Dev.rn32_eq_zero fun a ha => by
    have hn : ¬dsReg a := by rintro (rfl | rfl | rfl) <;> revert ha <;> decide
    rw [Dev.armUp, Dev.rd_setDs _ _ hn, Dev.rd_restarted, d.failed_waitAll p ha]
  t0 := by
    rw [Dev.armUp, Dev.setDs_drill, Dev.t0_restarted, Dev.now, (d.onlyRegs_waitAll p).clock]
    rfl
  hopper := by rw [Dev.armUp, Dev.setDs_hopper, Dev.hopper_restarted, (d.onlyRegs_waitAll p).hopper]

/-- A power-up does not end at once where it has a rail. -/
theorem Dev.checkUp_armUp {d : Dev} {p : Nat} {r : Rail} (hp : p < 8) (hm : d.inMask p r = true) :
    (d.armUp p).checkUp = d.armUp p := by
  have h := Dev.risen_armUp hp hm
  refine Dev.checkUp_of_not_up (r := r) ?_ ?_
  · rw [h.profile]
    rw [Dev.armUp, Dev.inMask_setDs, Dev.inMask_restarted, Dev.inMask_of_onlyRegs (d.onlyRegs_waitAll p) (fun _ h => h.2), hm]
  · have hloss : (d.armUp p).drill.lossOnly = 0 := by
      rw [Dev.armUp, Dev.setDs_drill, Dev.lossOnly_restarted]
    rw [Dev.railUp, h.rstate, Dev.lossOnly, hloss]
    simp

/-- A power-up starts with its rails WAITING, and does not end at once where it has a rail. -/
theorem Dev.risen_startUp {d : Dev} {p : Nat} {r : Rail} (hp : p < 8) (hm : d.inMask p r = true) : d.Risen p r (d.startUp p) := by
  rw [Dev.startUp_eq, Dev.checkUp_armUp hp hm]
  exact Dev.risen_armUp hp hm

/-- An ON that nothing refuses starts the power-up from OFF. -/
theorem Dev.drillOn_off {d : Dev} {src : Option Item} {p : Nat} (hl : d.loopDisabled src p = false) (hds : d.ds = drOff)
    (hp : d.profileRefused p = none) : d.drillOn src p = (d.drillRun src).startUp p := by
  simp [Dev.drillOn, hl, hds, hp]

theorem Dev.loopDisabled_none (d : Dev) (p : Nat) : d.loopDisabled none p = false := rfl

/-- In UP an ON of another profile is refused. -/
theorem Dev.drillOn_up {d : Dev} {p : Nat} (hds : d.ds = drUp) (hp : p ≠ d.profileNow) :
    d.drillOn none p = d.setFlag SEQ_STICKY SEQ_STICKY.CMDREF true := by
  simp [Dev.drillOn, Dev.loopDisabled_none, hds, hp, Dev.drillEnd_refused]

end Sys2Proof.Machine
end

section
/-!
OFF, SWITCH and UNLATCH (R134, R136, R138, R139, R142), and the statements about the drill's commands.
-/

namespace Sys2Proof.Machine

open Sys2Proof Sys2Proof.R

/-! ## OFF (R134, R138) -/

/-- What a power-down starts with, for the live rail `r`, in the state `st` of the drill. -/
structure Dev.Leaving (d : Dev) (r : Rail) (st : Nat) (e : Dev) : Prop where
  ds : e.ds = st
  due : e.due r = true
  t0 : e.drill.t0 = d.now
  hopper : e.hopper = d.hopper
  down : e.railDown r = false

theorem Dev.Outputs.due {d e : Dev} (h : d.Outputs e) (r : Rail) : e.due r = d.due r := by
  rw [Dev.due, Dev.due, h.offDue]

theorem Dev.railDown_downDue (d : Dev) (r : Rail) : d.downDue.railDown r = d.railDown r := rfl
theorem Dev.hopper_downDue (d : Dev) : d.downDue.hopper = d.hopper := rfl
theorem Dev.t0_downDue (d : Dev) : d.downDue.drill.t0 = d.now := rfl
theorem Dev.due_downDue (d : Dev) (r : Rail) : d.downDue.due r = (d.dueAll (rails.filter d.railLive)).due r := rfl

theorem Dev.leaving_startDown {d : Dev} {r : Rail} (h : d.railLive r = true) : d.Leaving r drFalling d.startDown := by
  rw [Dev.startDown_eq]
  have ho := (d.downDue.setDs drFalling).outputs_preoff
    fun r => d.downDue.railLive r || (d.downDue.railOn r && d.downDue.rstate r = rsFalling)
  refine ⟨ho.ds.trans (Dev.ds_setDs _ _ (by decide)), ?_, ?_, ?_, ?_⟩
  · rw [ho.due, Dev.due, Dev.setDs_drill, ← Dev.due, Dev.due_downDue, Dev.due_of_live h]
  · rw [ho.t0, Dev.setDs_drill, Dev.t0_downDue]
  · rw [ho.hopper, Dev.setDs_hopper, Dev.hopper_downDue]
  · rw [ho.railDown, Dev.railDown_setDs, Dev.railDown_downDue, Dev.not_down_of_live h]

/-- An OFF in UP takes the rails down. -/
theorem Dev.leaving_drillOff {d : Dev} {src : Option Item} {r : Rail} (hds : d.ds = drUp)
    (h : (d.drillRun src).railLive r = true) : (d.drillRun src).Leaving r drFalling (d.drillOff src) := by
  have hl := Dev.leaving_startDown h
  have : d.drillOff src = (d.drillRun src).startDown.checkDown := by simp [Dev.drillOff, hds]
  rwa [this, Dev.checkDown_of_not_down (.inl hl.ds) hl.down]

/-! ## The reversal of a power-up (R139) -/

/-- A reversal is prepared: the off-slots of all live rails are to come. -/
def Dev.reverseDue (d : Dev) : Dev :=
  let e := d.dueAll (rails.filter d.railLive)
  { e with drill := { e.drill with t0 := e.now, warned := false } }

theorem Dev.reverse_eq (d : Dev) : d.reverse =
    ((((d.dropWaiting.reverseDue.setDs drReversing).preoff d.dropWaiting.reverseDue.railLive).raise 134).endItems
      (onlyCode 0x10 0x10)).checkDown := by
  have h : d.reverse = (let e := (rails.filter d.dropWaiting.railLive).foldl (fun d r => d.setOffDue r true) d.dropWaiting
    let e : Dev := { e with drill := { e.drill with t0 := e.now, warned := false } }
    ((((e.setDs drReversing).preoff e.railLive).raise 134).endItems (onlyCode 0x10 0x10)).checkDown) := rfl
  rw [h, Dev.foldl_setOffDue]
  rfl

theorem Dev.railLive_dropWaiting {d : Dev} {r : Rail} (h : d.railLive r = true) (hw : d.rstate r ≠ rsWaiting) :
    d.dropWaiting.railLive r = true := by
  have ho := d.onlyRegs_dropWaiting
  have hst := (d.turns_dropWaiting (W := fun _ => True) fun _ _ => trivial).rstate r (Dev.not_restful_of_live h hw)
  have hon : d.dropWaiting.railOn r = d.railOn r := by
    rw [Dev.railOn, Dev.mbit, ho.1 _ (not_anyStateReg_RAILON r)]
    rfl
  rw [← h, Dev.railLive, Dev.railLive, Dev.railDown, Dev.railDown, hst, hon, Dev.lossOnly, Dev.lossOnly, ho.drill]

theorem Dev.railDown_reverseDue (d : Dev) (r : Rail) : d.reverseDue.railDown r = d.railDown r := rfl
theorem Dev.due_reverseDue (d : Dev) (r : Rail) : d.reverseDue.due r = (d.dueAll (rails.filter d.railLive)).due r := rfl

theorem Dev.reverse_of_live {d : Dev} {r : Rail} (h : d.railLive r = true) (hw : d.rstate r ≠ rsWaiting) :
    d.reverse.ds = drReversing ∧ d.reverse.evtPending 134 = true ∧ d.reverse.due r = true := by
  rw [Dev.reverse_eq]
  have hlive := Dev.railLive_dropWaiting h hw
  generalize d.dropWaiting = x at hlive ⊢
  have ho := (x.reverseDue.setDs drReversing).outputs_preoff x.reverseDue.railLive
  generalize (x.reverseDue.setDs drReversing).preoff x.reverseDue.railLive = e at ho ⊢
  have he := sameDrill_hop.endItems (e.raise 134) (onlyCode 0x10 0x10)
  have hs := (ho.toSameDrill.trans (sameDrill_hop.raise e (by decide))).trans he
  have hds := hs.ds.trans (Dev.ds_setDs _ _ (by decide))
  rw [Dev.checkDown_of_not_down (r := r) (.inr hds)]
  · refine ⟨hds, he.pending _ (by decide) (e.evtPending_raise (by decide)), ?_⟩
    rw [Dev.due, hs.offDue, Dev.setDs_drill, ← Dev.due, Dev.due_reverseDue, Dev.due_of_live hlive]
  · rw [hs.railDown, Dev.railDown_setDs, Dev.railDown_reverseDue, Dev.not_down_of_live hlive]

/-! ## SWITCH (R142) -/

/-- The rails that leave for the profile `q`. -/
def Dev.leavers (d : Dev) (q : Nat) : List Rail := rails.filter fun r => d.railLive r && !d.inMask q r

/-- A switch to profile `q`, which SEQ_STATUS names, is prepared: the off-slots of the rails that leave are to come. -/
def Dev.switchDue (d : Dev) (q : Nat) : Dev :=
  let e := d.dueAll (d.leavers q)
  { e with drill := { e.drill with t0 := e.now, phase2 := false, warned := false, firstFail := 0 } }

theorem Dev.targetNow_switchDue (d : Dev) (q : Nat) : (d.switchDue q).targetNow = d.targetNow := rfl
theorem Dev.inMask_switchDue (d : Dev) (q p : Nat) (r : Rail) : (d.switchDue q).inMask p r = d.inMask p r := rfl
theorem Dev.railDown_switchDue (d : Dev) (q : Nat) (r : Rail) : (d.switchDue q).railDown r = d.railDown r := rfl
theorem Dev.hopper_switchDue (d : Dev) (q : Nat) : (d.switchDue q).hopper = d.hopper := rfl
theorem Dev.due_switchDue (d : Dev) (q : Nat) (r : Rail) : (d.switchDue q).due r = (d.dueAll (d.leavers q)).due r := rfl

/-- Phase 1 of a switch to profile `q`, which SEQ_STATUS names. -/
def Dev.startSwitch (d : Dev) (q : Nat) : Dev :=
  (((d.switchDue q).setDs drSwitching).preoff fun r => decide (r ∈ d.leavers q)).checkDown

/-- A SWITCH that nothing refuses starts from UP. -/
theorem Dev.drillSwitch_up {d : Dev} {src : Option Item} {q : Nat} (hl : d.loopDisabled src q = false) (hds : d.ds = drUp)
    (hb : d.profileBad q = false) :
    d.drillSwitch src q = ((d.drillRun src).setFld SEQ_STATUS SEQ_STATUS.TARGET q).startSwitch q := by
  rw [Dev.drillSwitch, if_neg (by simp [hl]), if_neg (by simp [hds]), if_neg (by simp [hds]), if_neg (by simp [hb])]
  dsimp only
  rw [Dev.foldl_setOffDue]
  rfl

/-- What a switch to profile `q` starts with, for a rail `r` that leaves. -/
structure Dev.Switches (d : Dev) (q : Nat) (r : Rail) (e : Dev) : Prop where
  ds : e.ds = drSwitching
  target : e.targetNow = q
  due : e.due r = true
  hopper : e.hopper = d.hopper

section Switch

variable {d : Dev} {q : Nat} {r : Rail}

theorem Dev.railLive_setTarget (q : Nat) (r : Rail) : (d.setFld SEQ_STATUS SEQ_STATUS.TARGET q).railLive r = d.railLive r := by
  have h := d.onlyRegs_setFld SEQ_STATUS SEQ_STATUS.TARGET q (by decide)
  have hst : (d.setFld SEQ_STATUS SEQ_STATUS.TARGET q).rstate r = d.rstate r := h.fld _ (by decide) (RSTATE_ne_STATUS r)
  have hon : (d.setFld SEQ_STATUS SEQ_STATUS.TARGET q).railOn r = d.railOn r := by
    rw [Dev.railOn, Dev.mbit, h.1 _ (by have := r.isLt; simp only [SEQ_RAILON, SEQ_STATUS]; omega)]
    rfl
  rw [Dev.railLive, Dev.railLive, Dev.railDown, Dev.railDown, hst, hon, Dev.lossOnly, Dev.lossOnly, h.drill]

/-- A switch in which a live rail leaves. -/
theorem Dev.switches_of_leaving (e : Dev) (ht : e.targetNow = q) (hlive : e.railLive r = true) (hm : e.inMask q r = false)
    (hq : q < 8) : Dev.Switches e q r (e.startSwitch q) := by
  have ho := ((e.switchDue q).setDs drSwitching).outputs_preoff fun r => decide (r ∈ e.leavers q)
  have hds := ho.ds.trans (Dev.ds_setDs _ _ (by decide))
  have htarget := ho.targetNow.trans ((Dev.targetNow_setDs _ _).trans ((e.targetNow_switchDue q).trans ht))
  have hin := (ho.inMask ⟨q, hq⟩ r).trans ((Dev.inMask_setDs _ _ _ _).trans ((e.inMask_switchDue q q r).trans hm))
  rw [Dev.startSwitch, Dev.checkDown_of_leaving (r := r) hds (by rw [htarget]; exact hin)]
  · refine ⟨hds, htarget, ?_, ?_⟩
    · rw [ho.due, Dev.due, Dev.setDs_drill, ← Dev.due, Dev.due_switchDue, Dev.due_dueAll]
      simp [Dev.leavers, mem_rails, hlive, hm]
    · rw [ho.hopper, Dev.setDs_hopper, Dev.hopper_switchDue]
  · rw [ho.railDown, Dev.railDown_setDs, Dev.railDown_switchDue, Dev.not_down_of_live hlive]

theorem Dev.switches_drillSwitch {src : Option Item} (hl : d.loopDisabled src q = false) (hds : d.ds = drUp)
    (hb : d.profileBad q = false) (hq : q < 8) (hlive : (d.drillRun src).railLive r = true)
    (hm : (d.drillRun src).inMask q r = false) : (d.drillRun src).Switches q r (d.drillSwitch src q) := by
  rw [Dev.drillSwitch_up hl hds hb]
  generalize d.drillRun src = e at hlive hm ⊢
  have ho := e.onlyRegs_setFld SEQ_STATUS SEQ_STATUS.TARGET q (by decide)
  have ht : (e.setFld SEQ_STATUS SEQ_STATUS.TARGET q).targetNow = q :=
    (Dev.fld_setFld_same e SEQ_STATUS SEQ_STATUS.TARGET q (by decide)).trans (Nat.mod_eq_of_lt hq)
  have := Dev.switches_of_leaving (e.setFld SEQ_STATUS SEQ_STATUS.TARGET q) (r := r) ht ((Dev.railLive_setTarget q r).trans hlive)
    ((Dev.inMask_of_onlyRegs ho (by rintro a rfl; decide) q r).trans hm) hq
  exact ⟨this.ds, this.target, this.due, this.hopper.trans ho.hopper⟩

end Switch

theorem Dev.drillSwitch_refused {d : Dev} {q : Nat} (hds : d.ds ≠ drUp) :
    d.drillSwitch none q = d.setFlag SEQ_STICKY SEQ_STICKY.CMDREF true := by
  by_cases h : d.ds = drSwitching <;> simp [Dev.drillSwitch, Dev.loopDisabled_none, h, hds, Dev.drillEnd_refused]

/-! ## UNLATCH (R136) -/

/-- The latch is left: every rail OFF, and no rail FAILED. -/
def Dev.unlatched (d : Dev) : Dev :=
  ((rails.foldl (fun d r => d.setRstate r rsOff) d).zero [SEQ_FAILED, SEQ_FAILED + 2]).setDs drOff

theorem Dev.drillUnlatch_latched {d : Dev} {src : Option Item} (hds : d.ds = drLatched) :
    d.drillUnlatch src = (d.unlatched.rstSync.raise 138).drillEnd src 0x00 := by
  unfold Dev.drillUnlatch
  rw [if_neg (by simp [hds])]
  rfl

theorem Dev.drillUnlatch_refused {d : Dev} {src : Option Item} (hds : d.ds ≠ drLatched) :
    d.drillUnlatch src = d.drillEnd src 0x23 := by
  simp [Dev.drillUnlatch, hds]

/-- What UNLATCH leaves, for any rail. -/
structure Dev.Unlatched (d : Dev) (r : Rail) (e : Dev) : Prop where
  ds : e.ds = drOff
  rstate : e.rstate r = rsOff
  failed : e.rn32 SEQ_FAILED = 0
  event : e.evtPending 138 = true
  hopper : e.hopper = d.hopper

theorem Dev.unlatched_leaves (d : Dev) (r : Rail) : d.Unlatched r (d.unlatched.rstSync.raise 138) := by
  have ho : d.unlatched.Outputs (d.unlatched.rstSync.raise 138) := (Dev.outputs_rstSync _).trans (Dev.outputs_raise _ (by decide))
  have hz : SEQ_RSTATE r ∉ [SEQ_FAILED, SEQ_FAILED + 2] := by
    have := r.isLt
    simp only [SEQ_FAILED, SEQ_RSTATE, List.mem_cons, List.not_mem_nil, or_false]
    omega
  refine ⟨ho.ds.trans (Dev.ds_setDs _ _ (by decide)), ho.rstate r |>.trans ?_, Dev.rn32_eq_zero fun a ha => ?_,
    Dev.evtPending_raise _ (by decide), ho.hopper.trans ?_⟩
  · rw [Dev.unlatched, Dev.rstate_setDs]
    exact (Dev.fld_of_rd _ (by decide) ((Dev.rd_zero _ _ _).trans (if_neg hz))).trans
      (Dev.rstate_setEach (f := fun _ _ => rsOff) (by decide) (fun _ => True) (fun _ _ _ => trivial) (fun _ _ => rfl) rails d
        trivial (.inl (mem_rails r)))
  · have hn : ¬dsReg a ∧ seqReg a = true ∧ a ≠ SEQ_RSTSTAT := by
      simp only [List.mem_cons, List.not_mem_nil, or_false] at ha
      obtain rfl | rfl := ha <;> refine ⟨?_, by decide, by decide⟩ <;> rintro (h | h | h) <;> revert h <;> decide
    rw [ho.seq a hn.2.1 hn.2.2, Dev.unlatched, Dev.rd_setDs _ _ hn.1, Dev.rd_zero_mem _ ha]
  · rw [Dev.unlatched, Dev.setDs_hopper, Dev.zero_hopper, (Dev.onlyRegs_setEach (fun _ _ => rsOff) rails d).hopper]

end Sys2Proof.Machine
end

section
/-!
The statements about SEQ_CMD, the profile tables and the drill's items (R129, R131, R138, R291).
-/

namespace Sys2Proof.Machine

open Sys2Proof Sys2Proof.R

/-! ## SEQ_CMD -/

section Commands

variable {s : State} {acc : Acc}

/-- A value of SEQ_CMD that names no command is refused (R138). -/
theorem Dev.seqCmd_invalid (d : Dev) {v : Nat} (hc : SEQ_CMD.CNTCLR.of v = 0) (hv : 4 < SEQ_CMD.CMD.of v) :
    d.seqCmd v = d.setFlag SEQ_STICKY SEQ_STICKY.CMDREF true := by
  have hlt : SEQ_CMD.CMD.of v < 8 := Fld.of_lt _ _
  unfold Dev.seqCmd
  rw [hc]
  generalize SEQ_CMD.CMD.of v = k at hv hlt
  interval_cases k <;> rfl

/-! ## The profile tables (R129) -/

theorem stores_PFMASK_low (q : Profile) : Stores (SEQ_PFMASK q) 0xFFFF := by revert q; unfold Stores; decide
theorem stores_PFMASK_high (q : Profile) : Stores (SEQ_PFMASK q + 2) 0xFFF := by revert q; unfold Stores; decide

/-- A write of a profile in use sets PFWREF and nothing else. -/
theorem Dev.writeProfile_busy (d : Dev) {a : Nat} (v : BitVec 32) (hlo : 0x1400 ≤ a) (hhi : a < 0x1C00)
    (h : d.profileBusy ((a - 0x1400) / 0x100) = true) :
    d.writeProfile a v = d.setFlag SEQ_STICKY SEQ_STICKY.PFWREF true := by
  have hp : (a - 0x1400) / 0x100 % 8 = (a - 0x1400) / 0x100 := Nat.mod_eq_of_lt (by omega)
  simp [Dev.writeProfile, hp, h]

/-- The mask of a profile, as a write of its two words leaves it. -/
def Dev.maskWritten (d : Dev) (q : Profile) (v : BitVec 32) : Dev :=
  (d.storeWord (SEQ_PFMASK q) (SEQ_PFMASK q) (v.setWidth 16)).storeWord (SEQ_PFMASK q + 2) (SEQ_PFMASK q + 2)
    ((v >>> 16).setWidth 16)

theorem Dev.writeProfile_mask (d : Dev) (q : Profile) (v : BitVec 32) (h : d.profileBusy q.val = false) :
    d.writeProfile (SEQ_PFMASK q) v = d.maskWritten q v := by
  have hp : (SEQ_PFMASK q - 0x1400) / 0x100 % 8 = q.val := by have := q.isLt; simp only [SEQ_PFMASK]; omega
  have ha : ¬(SEQ_PFMASK q % 0x100 = 4 ∨ SEQ_PFMASK q % 0x100 = 6) := by simp only [SEQ_PFMASK]; omega
  unfold Dev.writeProfile
  simp only [hp, h, Bool.false_eq_true, ↓reduceIte, Bool.or_eq_true, decide_eq_true_eq, if_neg ha]
  rfl

theorem Dev.maskWritten_eq (d : Dev) (q : Profile) (v : BitVec 32) : d.maskWritten q v =
    (d.wr (SEQ_PFMASK q) (v.setWidth 16)).wr (SEQ_PFMASK q + 2)
      ((d.rd (SEQ_PFMASK q + 2) &&& ~~~(0xFFF : Word)) ||| ((v >>> 16).setWidth 16 &&& (0xFFF : Word))) := by
  rw [Dev.maskWritten, Dev.storeWord_of_stores_all _ (stores_PFMASK_low q), Dev.storeWord_of_stores _ (stores_PFMASK_high q),
    Dev.rd_wr_ne _ _ (by omega)]

/-- Bits 16 to 27 of a mask are bits 0 to 11 of its high word. -/
theorem Dev.inMask_maskWritten (d : Dev) (q : Profile) (v : BitVec 32) (x : Rail) :
    (d.maskWritten q v).inMask q.val x = v.getLsbD x.val := by
  have := x.isLt
  rw [Dev.inMask, Dev.mbit, Dev.maskWritten_eq]
  by_cases hx : x.val < 16
  · rw [Nat.div_eq_of_lt hx, Nat.mod_eq_of_lt hx, Dev.rd_wr_ne _ _ (by omega), Nat.mul_zero, Nat.add_zero, Dev.rd_wr_same]
    simp [hx]
  · have hd : x.val / 16 = 1 := by omega
    have hm : x.val % 16 = x.val - 16 := by omega
    have hbit : (0xFFF#16).getLsbD (x.val - 16) = true := by
      generalize hi : x.val - 16 = i
      have hi : i < 12 := by omega
      interval_cases i <;> rfl
    rw [hd, hm, Nat.mul_one, Dev.rd_wr_same, BitVec.getLsbD_or, BitVec.getLsbD_and, BitVec.getLsbD_and, BitVec.getLsbD_not]
    simp only [show (0xFFF : Word) = 0xFFF#16 from rfl, hbit, BitVec.getLsbD_setWidth, BitVec.getLsbD_ushiftRight]
    simp [show x.val - 16 < 16 by omega, show 16 + (x.val - 16) = x.val by omega]

theorem Dev.onlyRegs_maskWritten (d : Dev) (q : Profile) (v : BitVec 32) :
    d.onlyRegs (d.maskWritten q v) fun k => k = SEQ_PFMASK q ∨ k = SEQ_PFMASK q + 2 := by
  rw [Dev.maskWritten_eq]
  exact (d.onlyRegs_wr _ _).trans (Dev.onlyRegs_wr _ _ _)

theorem profileWrite_busy {a : BitVec 16} (v : BitVec 32) (hlo : 0x1400 ≤ a.toNat) (hhi : a.toNat < 0x1C00)
    (hm : s.dev.mayWrite acc a.toNat = true) (hb : (s.dev.dropHeld acc).profileBusy ((a.toNat - 0x1400) / 0x100) = true) :
    Completes (.seqProfileWrite acc a v) s fun e => e.flag SEQ_STICKY SEQ_STICKY.PFWREF = true ∧
      (s.dev.dropHeld acc).onlyRegs e (fun k => k = SEQ_STICKY) := by
  refine completes_gate (fun d => d.when (decide (0x1400 ≤ a.toNat ∧ a.toNat < 0x1C00)) (·.writeProfile a.toNat v)) rfl hm ?_
  rw [Dev.when, if_pos (by simp [hlo, hhi]), Dev.writeProfile_busy _ _ hlo hhi hb]
  exact ⟨Dev.flag_setFlag_same _ _ _ _ (by decide) (by decide), Dev.onlyRegs_setFlag _ _ _ _ (by decide)⟩

theorem profileWrite_mask {q : Profile} (v : BitVec 32) (hm : s.dev.mayWrite acc (SEQ_PFMASK q) = true)
    (hb : (s.dev.dropHeld acc).profileBusy q.val = false) :
    Completes (.seqProfileWrite acc (BitVec.ofNat 16 (SEQ_PFMASK q)) v) s fun e =>
      (∀ x : Rail, e.inMask q.val x = v.getLsbD x.val) ∧
      (s.dev.dropHeld acc).onlyRegs e (fun k => k = SEQ_PFMASK q ∨ k = SEQ_PFMASK q + 2) := by
  have ha : (BitVec.ofNat 16 (SEQ_PFMASK q)).toNat = SEQ_PFMASK q := by
    have := q.isLt
    simp only [SEQ_PFMASK, BitVec.toNat_ofNat]
    omega
  have hin : 0x1400 ≤ SEQ_PFMASK q ∧ SEQ_PFMASK q < 0x1C00 := by
    have := q.isLt
    simp only [SEQ_PFMASK]
    omega
  refine completes_gate (fun d => d.when (decide (0x1400 ≤ (BitVec.ofNat 16 (SEQ_PFMASK q)).toNat ∧
    (BitVec.ofNat 16 (SEQ_PFMASK q)).toNat < 0x1C00)) (·.writeProfile (BitVec.ofNat 16 (SEQ_PFMASK q)).toNat v)) rfl
    (by rw [ha]; exact hm) ?_
  rw [ha, Dev.when, if_pos (by simpa using hin), Dev.writeProfile_mask _ q v hb]
  exact ⟨Dev.inMask_maskWritten _ q v, Dev.onlyRegs_maskWritten _ q v⟩

end Commands

/-- Settles O31: what SEQ_CMD starts does not end at once, as a rail of its mask WAITs or one that leaves still stands; what it refuses
sets CMDREF alone. That the drill's state is judged before the masks of R131, and that R302 is not applied to SEQ_CMD, are the model's
choice (log entry 43), as is that the reserved offsets of a profile in use set PFWREF too (log entry 19). -/
theorem drillCommands : Obligations.DrillCommands := by
  unfold Obligations.DrillCommands
  intro s acc p r hm d
  have hcmd {c : Instr} {P : Dev → Prop} (eff : Dev → Dev) (h : exec c s = s.step1 fun d => d.gate acc SEQ_CMD eff) (hp : P (eff d)) :
      Completes c s P := completes_gate eff h hm hp
  refine ⟨fun hds hp hin => ?_, fun hds hp => ?_, fun hds => ?_, fun hds hlive hw => ?_, fun hds hlive => ?_,
    fun hds hb hlive hin => ?_, fun hds => ?_, fun hds => ?_, fun hds => ?_, fun v hc hv => ?_, fun a v hlo hhi hma hb => ?_,
    fun q v hmq hb => ?_⟩
  · refine hcmd (·.drillOn none p.val) rfl ?_
    rw [Dev.drillOn_off (d.loopDisabled_none _) hds hp]
    obtain ⟨h1, h2, h3, h4, h5, -⟩ := Dev.risen_startUp (d := d) p.isLt hin
    exact ⟨h1, h2, h3, h4, h5⟩
  · refine hcmd (·.drillOn none p.val) rfl ?_
    rw [Dev.drillOn_up hds hp]
    exact d.refused_setFlag
  · have : d.drillOff none = d := by simp [Dev.drillOff, hds, Dev.drillEnd_done]
    obtain ⟨e, he, hp⟩ := hcmd (c := .seqCmdOff acc) (P := fun e => e = d) (·.drillOff none) rfl this
    rw [he, hp]
  · refine hcmd (·.drillOff none) rfl ?_
    have : d.drillOff none = d.reverse := by simp [Dev.drillOff, hds, Dev.drillRun]
    rw [this]
    exact Dev.reverse_of_live hlive hw
  · obtain ⟨h1, h2, h3, -, -⟩ := Dev.leaving_drillOff (src := none) hds hlive
    exact hcmd (·.drillOff none) rfl ⟨h1, h2, h3⟩
  · obtain ⟨h1, h2, h3, -⟩ := Dev.switches_drillSwitch (src := none) (d.loopDisabled_none _) hds hb p.isLt hlive hin
    exact hcmd (·.drillSwitch none p.val) rfl ⟨h1, h2, h3⟩
  · refine hcmd (·.drillSwitch none p.val) rfl ?_
    rw [Dev.drillSwitch_refused hds]
    exact d.refused_setFlag
  · refine hcmd (·.drillUnlatch none) rfl ?_
    rw [Dev.drillUnlatch_latched hds, Dev.drillEnd_done]
    obtain ⟨h1, h2, h3, h4, -⟩ := d.unlatched_leaves r
    exact ⟨h1, h2, h3, h4⟩
  · refine hcmd (·.drillUnlatch none) rfl ?_
    rw [Dev.drillUnlatch_refused hds, Dev.drillEnd_refused _ (by decide)]
    exact d.refused_setFlag
  · refine hcmd (·.seqCmd v.toNat) rfl ?_
    rw [Dev.seqCmd_invalid _ hc hv]
    exact d.refused_setFlag
  · exact profileWrite_busy v hlo hhi (by simpa [d, Dev.dropHeld] using hma) hb
  · exact profileWrite_mask v (by simpa [d, Dev.dropHeld] using hmq) hb

/-! ## The drill's items (R291) -/

section Items

variable {s : State} {tag : Tag} {it : Item}

/-- An item whose stage is set to running runs, in every device with that hopper. -/
theorem Dev.runs_of_hopper {d e : Dev} (h : d.item tag = some it) (he : e.hopper = (d.setStage tag .running).hopper) : e.runs tag := by
  have hrun : (d.setStage tag .running).item tag = some { it with stage := .running } :=
    Dev.Stands.find_map_stage (by decide) h
  have : e.item tag = (d.setStage tag .running).item tag := by rw [Dev.item, Dev.inFlight, he]; rfl
  rw [Dev.runs, this, hrun]
  rfl

theorem completes_drillItem {c : Instr} {code : Nat} {P : Dev → Prop} (body : Item → Dev → Dev)
    (h : exec c s = s.step1 fun d => d.carry tag (· = code) body) (hc : s.dev.carries tag code it) (hp : P (body it s.dev)) :
    Completes c s P :=
  completes_step1 _ h (by rwa [Dev.carry_of_carries hc])

/-- The items that name a profile have one of eight (R291). -/
theorem Dev.profile_lt_of_carries {d : Dev} {code : Nat} (h : d.carries tag code it) (hc : code = 0x10 ∨ code = 0x12) :
    it.args[0].toNat < 8 := by
  obtain ⟨-, -, -, hcode, hbad, -⟩ := h
  show it.arg 0 < 8
  unfold Item.bad at hbad
  obtain rfl | rfl := hc <;> simp only [hcode, Bool.or_eq_false_iff, decide_eq_false_iff_not] at hbad <;> omega

/-- An item that is refused or done ends, and the drill stays. -/
theorem Dev.drillEnd_of_carries {d e : Dev} {code : Nat} (hc : d.carries tag code it) (he : e.hopper = d.hopper) (status : Nat) :
    (e.drillEnd (some it) status).ended tag status ∧ e.SameDrill (e.drillEnd (some it) status) := by
  have htag := Dev.tag_of_item hc.2.1
  refine ⟨?_, e.sameDrill_drillEnd it status⟩
  have h : e.item it.tag ≠ none := by
    rw [htag, show e.item tag = d.item tag by rw [Dev.item, Dev.inFlight, he]; rfl, hc.2.1]
    simp
  simpa only [htag] using Dev.drillEnd_ended status h

end Items

/-- Settles O32: an item is carried out as the command of SEQ_CMD is, and runs on or ends. That a loop which is disabled, or the
drill's state, refuses before the masks of R131 do is the model's choice (log entry 43). -/
theorem drillItems : Obligations.DrillItems := by
  unfold Obligations.DrillItems
  intro s tag it r d p
  have hrun {code : Nat} (hc : d.carries tag code it) : d.drillRun (some it) = d.setStage tag .running := by
    rw [Dev.drillRun, Dev.tag_of_item hc.2.1]
  refine ⟨fun hc hl hds hp hin => ?_, fun hc hds => ?_, fun hc hds hlive => ?_, fun hc hl hds hb hlive hin => ?_,
    fun hc hds => ?_, fun hc hds => ?_, fun hl => ⟨fun hc => ?_, fun hc => ?_⟩⟩
  · have hp8 : p < 8 := Dev.profile_lt_of_carries hc (.inl rfl)
    refine completes_drillItem (fun it d => d.drillOn (some it) (it.arg 0)) rfl hc ?_
    show (d.drillOn (some it) p).ds = _ ∧ (d.drillOn (some it) p).profileNow = _ ∧ (d.drillOn (some it) p).rstate r = _ ∧
      (d.drillOn (some it) p).runs tag
    rw [Dev.drillOn_off hl hds hp, hrun hc]
    obtain ⟨h1, h2, h3, -, -, h6⟩ := Dev.risen_startUp (d := d.setStage tag .running) (p := p) hp8 hin
    exact ⟨h1, h2, h3, Dev.runs_of_hopper hc.2.1 h6⟩
  · refine completes_drillItem (fun it d => d.drillOff (some it)) rfl hc ?_
    have : d.drillOff (some it) = d.drillEnd (some it) 0x00 := by simp [Dev.drillOff, hds]
    rw [this]
    obtain ⟨h1, h2⟩ := Dev.drillEnd_of_carries hc rfl 0x00
    exact ⟨h1, h2.ds.trans hds⟩
  · refine completes_drillItem (fun it d => d.drillOff (some it)) rfl hc ?_
    have h := Dev.leaving_drillOff (src := some it) (r := r) hds (by rw [hrun hc]; exact hlive)
    exact ⟨h.ds, Dev.runs_of_hopper hc.2.1 (h.hopper.trans (by rw [hrun hc]))⟩
  · have hp8 : p < 8 := Dev.profile_lt_of_carries hc (.inr rfl)
    refine completes_drillItem (fun it d => d.drillSwitch (some it) (it.arg 0)) rfl hc ?_
    have h := Dev.switches_drillSwitch (src := some it) (r := r) hl hds hb hp8 (by rw [hrun hc]; exact hlive)
      (by rw [hrun hc]; exact hin)
    exact ⟨h.ds, h.target, Dev.runs_of_hopper hc.2.1 (h.hopper.trans (by rw [hrun hc]))⟩
  · refine completes_drillItem (fun it d => d.drillUnlatch (some it)) rfl hc ?_
    rw [Dev.drillUnlatch_latched hds]
    have hu := d.unlatched_leaves r
    obtain ⟨h1, h2⟩ := Dev.drillEnd_of_carries hc hu.hopper 0x00
    exact ⟨h1, h2.ds.trans hu.ds, h2.pending _ (by decide) hu.event⟩
  · refine completes_drillItem (fun it d => d.drillUnlatch (some it)) rfl hc ?_
    rw [Dev.drillUnlatch_refused hds]
    exact (Dev.drillEnd_of_carries hc rfl 0x23).1
  · refine completes_drillItem (fun it d => d.drillOn (some it) (it.arg 0)) rfl hc ?_
    have : d.drillOn (some it) p = d.drillEnd (some it) 0x23 := by simp [Dev.drillOn, hl]
    show (d.drillOn (some it) p).ended tag _ ∧ (d.drillOn (some it) p).ds = _
    rw [this]
    obtain ⟨h1, h2⟩ := Dev.drillEnd_of_carries hc rfl 0x23
    exact ⟨h1, h2.ds⟩
  · refine completes_drillItem (fun it d => d.drillSwitch (some it) (it.arg 0)) rfl hc ?_
    have : d.drillSwitch (some it) p = d.drillEnd (some it) 0x23 := by simp [Dev.drillSwitch, hl]
    show (d.drillSwitch (some it) p).ended tag _ ∧ (d.drillSwitch (some it) p).ds = _
    rw [this]
    obtain ⟨h1, h2⟩ := Dev.drillEnd_of_carries hc rfl 0x23
    exact ⟨h1, h2.ds⟩

end Sys2Proof.Machine
end

section
/-!
What the answers to a change of a rail leave (R126 to R147): a rail that becomes GOOD, SHED or falls, and a rail's failure after the rail
is cut. Beside the turning of the drill they write SEQ_RAILON, CFG_DSTATE and the registers of snapshots.
-/

namespace Sys2Proof.Machine

open Sys2Proof Sys2Proof.R

/-! ## Words -/

/-- The words that such an answer writes, beside those of the rail itself and of the failure. -/
def moveReg (a : Nat) : Bool :=
  turnReg a || a = CFG_DSTATE || (decide (0x1010 ≤ a) && decide (a < 0x1014)) ||
    (decide (REC_SNEWEST ≤ a) && decide (a < REC_SOLDEST + 4)) || a = REC_SDROPCNT

theorem moveReg_of_turnReg {a : Nat} (h : turnReg a = true) : moveReg a = true := by simp [moveReg, h]

theorem moveReg_RAILON (r : Rail) : moveReg (SEQ_RAILON + 2 * (r.val / 16)) = true := by revert r; decide

theorem turnReg_RAILON (r : Rail) : turnReg (SEQ_RAILON + 2 * (r.val / 16)) = false := by revert r; decide

/-- The words of a loop are none of them. -/
theorem moveReg_of_loopReg {a : Nat} (h : loopReg a = true) : moveReg a = false := by
  have hh := hopReg_of_loopReg h
  rw [loopReg_iff] at h
  simp only [moveReg, turnReg, maskReg, hh, SEQ_STATUS, SEQ_ELAPSED, SEQ_RSTSTAT, CFG_DSTATE, REC_SNEWEST, REC_SOLDEST, REC_SDROPCNT,
    Bool.or_eq_false_iff, Bool.and_eq_false_iff, decide_eq_false_iff_not, true_and]
  refine ⟨⟨⟨⟨?_, ?_⟩, ?_⟩, ?_⟩, ?_⟩ <;> omega

theorem turnReg_of_not_moveReg {a : Nat} (h : moveReg a = false) : turnReg a = false :=
  Bool.eq_false_iff.mpr fun ht => by rw [moveReg_of_turnReg ht] at h; cases h

section Reads

variable {d e : Dev} {W : Nat → Prop} (h : d.Turns W e)
include h

/-- SEQ_RAILON, where it may not change. -/
theorem Dev.Turns.railOn (hW : ∀ r : Rail, ¬W (SEQ_RAILON + 2 * (r.val / 16))) (r : Rail) : e.railOn r = d.railOn r := by
  rw [Dev.railOn, Dev.mbit, h.rd _ (hW r) (evtReg_of_seqReg (seqReg_RAILON r))]
  rfl

/-- A field of a word that may not change. -/
theorem Dev.Turns.fld {a : Nat} (f : Fld) (hf : f.lo + f.w ≤ 16) (ha : ¬W a) (he : evtReg a = false) : e.fld a f = d.fld a f :=
  Dev.fld_of_rd f hf (h.rd a ha he)

theorem Dev.Turns.xen : e.pins.xen = d.pins.xen := by rw [h.pins]

end Reads

/-! ## Snapshots (R369) -/

/-- The bounds of the snapshots held, and the count of those dropped. -/
def snapReg (a : Nat) : Bool := (decide (REC_SNEWEST ≤ a) && decide (a < REC_SOLDEST + 4)) || a = REC_SDROPCNT

theorem moveReg_of_snapReg {a : Nat} (h : snapReg a = true) : moveReg a = true := by
  simp only [snapReg, Bool.or_eq_true, Bool.and_eq_true, decide_eq_true_eq] at h
  obtain h | h := h <;> simp [moveReg, h]

theorem seqReg_of_snapReg {a : Nat} (h : snapReg a = true) : seqReg a = false := by
  simp only [snapReg, REC_SNEWEST, REC_SOLDEST, REC_SDROPCNT, Bool.or_eq_true, Bool.and_eq_true, decide_eq_true_eq] at h
  simp only [seqReg, Bool.and_eq_false_iff, decide_eq_false_iff_not]
  omega

theorem statReg_of_snapReg {a : Nat} (h : snapReg a = true) : statReg a = false := by
  simp only [snapReg, REC_SNEWEST, REC_SOLDEST, REC_SDROPCNT, Bool.or_eq_true, Bool.and_eq_true, decide_eq_true_eq] at h
  simp only [statReg, EVT_STAT, Bool.and_eq_false_iff, decide_eq_false_iff_not]
  omega

section Snapshots

variable {R : Dev → Dev → Prop} (h : RaiseClosed R) (hw : ∀ (d : Dev) (a : Nat) (v : Word), snapReg a = true → R d (d.wr a v))
include h hw

theorem RaiseClosed.holdSnap (d : Dev) (n : BitVec 32) : R d (d.holdSnap n) := by
  have hnew : R d (({ d with recorder := { d.recorder with anySnap := true } } : Dev).wr32 REC_SNEWEST n) :=
    h.trans (h.recorder d _) (h.trans (hw _ _ _ (by decide)) (hw _ _ _ (by decide)))
  have hold (e : Dev) (v : BitVec 32) : R e (e.wr32 REC_SOLDEST v) := h.trans (hw e _ _ (by decide)) (hw _ _ _ (by decide))
  unfold Dev.holdSnap
  dsimp only
  split
  · exact h.trans hnew (hold _ _)
  split
  · exact h.trans hnew (hold _ _)
  · exact hnew

/-- A snapshot is a record and an event beside its own words. -/
theorem RaiseClosed.takeSnapshot (d : Dev) (cause rail code : Nat) : R d (d.takeSnapshot cause rail code) := by
  unfold Dev.takeSnapshot
  dsimp only
  split
  · refine h.trans ?_ (h.raise _ (by decide))
    refine h.trans ?_ (h.record _ _ _ _)
    exact h.trans (hw d _ _ (by decide)) (h.setFlag _ _ _ _ (by decide) (by decide) (by decide))
  · refine h.trans ?_ (h.raise _ (by decide))
    refine h.trans ?_ (h.startFlush _)
    refine h.trans ?_ (h.holdSnap hw _ _)
    exact h.trans (h.record d _ _ _) (h.recorder _ _)

end Snapshots

theorem Dev.sameDrill_takeSnapshot (d : Dev) (cause rail code : Nat) : d.SameDrill (d.takeSnapshot cause rail code) :=
  sameDrill_hop.takeSnapshot (fun e _ v ha => e.sameDrill_wr v (.inl (seqReg_of_snapReg ha)) (statReg_of_snapReg ha)) d cause rail code

section Moves

variable {W : Nat → Prop} (hW : ∀ a, moveReg a = true → W a)
include hW

theorem Dev.turns_setDstate (d : Dev) (f : Fld) (v : Nat) (hf : f.lo + f.w ≤ 16) : d.Turns W (d.setFld CFG_DSTATE f v) := by
  simp only [Dev.setFld, hf, ↓reduceIte]
  exact d.turns_wr _ (.inl (hW _ (by decide))) (by decide) (by decide)

theorem Dev.turns_abandonNewt (d : Dev) : d.Turns W d.abandonNewt := by
  unfold Dev.abandonNewt
  split
  · exact (d.turns_setDstate hW CFG_DSTATE.NEWTPEND 0 (by decide)).trans (turns_raise.raise _ (by decide))
  · exact turns_raise.refl d

theorem Dev.turns_syncDevice (d : Dev) : d.Turns W d.syncDevice := by
  unfold Dev.syncDevice
  dsimp only
  split
  · exact (d.turns_setDstate hW CFG_DSTATE.STATE dsRun (by decide)).trans (Dev.turns_abandonNewt hW _)
  split
  · exact d.turns_setDstate hW CFG_DSTATE.STATE dsIdle (by decide)
  · exact turns_raise.refl d

/-- A rail is off, for SEQ_RAILON. -/
theorem Dev.turns_setOff (d : Dev) (r : Rail) : d.Turns W (d.setMbit SEQ_RAILON r.val false) := by
  have hne {a : Nat} (ha : a ≠ SEQ_RAILON + 2 * (r.val / 16)) : (d.setMbit SEQ_RAILON r.val false).rd a = d.rd a :=
    Dev.rd_setMbit_ne d false ha
  have hst (q : Rail) : SEQ_RSTATE q ≠ SEQ_RAILON + 2 * (r.val / 16) := by
    have := r.isLt
    simp only [SEQ_RSTATE, SEQ_RAILON]
    omega
  refine ⟨fun a ha _ => hne fun e => ha (hW a (e ▸ moveReg_RAILON r)), fun q _ => Dev.fld_of_rd _ (by decide) (hne (hst q)),
    fun q => Dev.fld_of_rd _ (by decide) (hne (hst q)), fun q hon hd => ⟨?_, hd⟩, d.stillPending_wr _ ?_, rfl, rfl, rfl⟩
  · by_cases hq : q = r
    · subst hq
      exact Dev.mbit_setMbit_same _ _ _ _
    · exact (Dev.mbit_setMbit_ne _ _ _ _ _ fun e => hq (Fin.ext e)).trans hon
  · exact statReg_of_seqReg (seqReg_RAILON r)

/-- A snapshot writes its bounds and its count of drops. -/
theorem Dev.turns_takeSnapshot (d : Dev) (cause rail code : Nat) : d.Turns W (d.takeSnapshot cause rail code) :=
  turns_raise.takeSnapshot (fun e a v ha => by
    have hs := seqReg_of_snapReg ha
    refine e.turns_wr v (.inl (hW a (moveReg_of_snapReg ha))) (statReg_of_snapReg ha) (Bool.eq_false_iff.mpr fun hr => ?_)
    rw [seqReg_of_railReg hr] at hs
    cases hs) d cause rail code

end Moves

/-! ## A rail has fallen (R134) -/

/-- A rail that has fallen, before the device and the drill answer. -/
def Dev.markFallen (d : Dev) (r : Rail) : Dev :=
  let e := d.setLossOnly r false
  (e.when (e.rstate r = rsFalling) (·.setRstate r rsOff)).setMbit SEQ_RAILON r.val false

theorem Dev.railFallen_eq (d : Dev) (r : Rail) : d.railFallen r = (d.markFallen r).syncDevice.checkDown := rfl

theorem Dev.railOn_markFallen (d : Dev) (r : Rail) : (d.markFallen r).railOn r = false := Dev.mbit_setMbit_same _ _ _ _

section Fallen

variable {W : Nat → Prop} (hW : ∀ a, moveReg a = true → W a)
include hW

theorem Dev.turns_railFallen (d : Dev) (r : Rail) : (d.markFallen r).Turns W (d.railFallen r) := by
  rw [Dev.railFallen_eq]
  exact (Dev.turns_syncDevice hW _).trans (Dev.turns_checkDown (fun a ha => hW a (moveReg_of_turnReg ha)) _)

/-- A rail that is not FALLING is only off. -/
theorem Dev.turns_railFallen_of_cut (d : Dev) (r : Rail) (h : d.rstate r ≠ rsFalling) : d.Turns W (d.railFallen r) := by
  have : d.markFallen r = (d.setLossOnly r false).setMbit SEQ_RAILON r.val false := by
    have h' : (d.setLossOnly r false).rstate r ≠ rsFalling := h
    simp [Dev.markFallen, Dev.when, h']
  refine Dev.Turns.trans ?_ (d.turns_railFallen hW r)
  rw [this]
  have hloss : d.Turns W (d.setLossOnly r false) := Dev.turns_drill d _ rfl fun _ _ hd => hd
  exact hloss.trans (Dev.turns_setOff hW _ r)

theorem Dev.turns_checkFallen (d : Dev) (r : Rail) (h : d.rstate r ≠ rsFalling) : d.Turns W (d.checkFallen r) := by
  unfold Dev.checkFallen
  split
  · exact d.turns_railFallen_of_cut hW r h
  · exact d.turns_checkDown fun a ha => hW a (moveReg_of_turnReg ha)

end Fallen

/-- What `railFallen` leaves of a rail's registers and of the pins. -/
theorem Dev.markFallen_rest (d : Dev) (r : Rail) :
    (d.markFallen r).pins = d.pins ∧ (d.markFallen r).drill.offDue = d.drill.offDue ∧
      ∀ a, loopReg a = true → (d.markFallen r).rd a = d.rd a := by
  have hst : (d.setLossOnly r false).onlyRegs
      ((d.setLossOnly r false).when ((d.setLossOnly r false).rstate r = rsFalling) (·.setRstate r rsOff)) (stateReg r) :=
    Dev.onlyRegs_when _ (Dev.onlyRegs_setRstate _ r rsOff)
  have h := hst.trans (Dev.onlyRegs_setMbit _ SEQ_RAILON r.val false)
  refine ⟨h.pins.trans rfl, (congrArg DrillSt.offDue h.drill :), fun a ha => (h.1 a ?_).trans rfl⟩
  rw [loopReg_iff] at ha
  rintro (hs | rfl)
  · have := (anyStateReg_lt ⟨r, hs⟩).2
    omega
  · have := r.isLt
    simp only [SEQ_RAILON] at ha
    omega

/-! ## A rail becomes GOOD (R132), and a rail is marked SHED (R143) -/

/-- A rail that is GOOD, before the reset outputs and the drill answer. -/
def Dev.markGood (d : Dev) (r : Rail) : Dev :=
  (d.setRstate r rsGood).wn (SEQ_RUPTIME r) (min 65535 (((d.setRstate r rsGood).now - (d.setRstate r rsGood).drill.onAt[r]) / 10))

theorem Dev.railGood_eq (d : Dev) (r : Rail) : d.railGood r = (d.markGood r).rstSync.checkUp := rfl

theorem Dev.onlyRegs_markGood (d : Dev) (r : Rail) : d.onlyRegs (d.markGood r) fun a => stateReg r a ∨ a = SEQ_RUPTIME r :=
  (d.onlyRegs_setRstate r _).trans (Dev.onlyRegs_wr _ _ _)

theorem Dev.rstate_markGood (d : Dev) (r : Rail) : (d.markGood r).rstate r = rsGood := by
  refine (Dev.fld_of_rd _ (by decide) (Dev.rd_wn_ne _ _ ?_)).trans (d.rstate_setRstate_same r rsGood (by decide))
  simp only [SEQ_RSTATE, SEQ_RUPTIME]
  omega

theorem Dev.turns_railGood (d : Dev) (r : Rail) : (d.markGood r).Turns (turnReg · = true) (d.railGood r) := by
  rw [Dev.railGood_eq]
  exact (Dev.turns_rstSync (fun _ h => h) _).trans (Dev.turns_checkUp (fun _ h => h) _)

/-- A rail in a state in which a slot is running keeps it as the drill turns. -/
theorem Dev.Turns.rstate_of {d e : Dev} {W : Nat → Prop} (h : d.Turns W e) {r : Rail} {st : Nat} (hr : d.rstate r = st)
    (hst : st ≠ rsOff ∧ st ≠ rsWaiting ∧ st ≠ rsShed) : e.rstate r = st := by
  refine (h.rstate r ?_).trans hr
  rintro (hx | hx | hx)
  · exact hst.1 (hr.symm.trans hx)
  · exact hst.2.1 (hr.symm.trans hx)
  · exact hst.2.2 (hr.symm.trans hx)

theorem Dev.rstate_railGood (d : Dev) (r : Rail) : (d.railGood r).rstate r = rsGood :=
  (d.turns_railGood r).rstate_of (d.rstate_markGood r) (by decide)

/-- A word that neither shows the rail's state nor turns with the drill. -/
theorem Dev.rd_railGood (d : Dev) {r : Rail} {a : Nat} (h : turnReg a = false) (hu : a ≠ SEQ_RUPTIME r) (he : evtReg a = false) :
    (d.railGood r).rd a = d.rd a := by
  refine ((d.turns_railGood r).rd a (by simp [h]) he).trans ((d.onlyRegs_markGood r).1 a ?_)
  rintro (hs | rfl)
  · rw [turnReg_of_stateReg hs] at h; cases h
  · exact hu rfl

theorem Dev.railOn_railGood (d : Dev) (r q : Rail) : (d.railGood r).railOn q = d.railOn q := by
  rw [Dev.railOn, Dev.mbit, d.rd_railGood (turnReg_RAILON q) ?_ (evtReg_of_seqReg (seqReg_RAILON q))]
  · rfl
  · have := q.isLt
    simp only [SEQ_RAILON, SEQ_RUPTIME]
    omega

theorem Dev.pins_railGood (d : Dev) (r : Rail) : (d.railGood r).pins = d.pins :=
  (d.turns_railGood r).pins.trans (d.onlyRegs_markGood r).pins

theorem Dev.onAt_railGood (d : Dev) (r : Rail) : (d.railGood r).drill.onAt = d.drill.onAt :=
  (d.turns_railGood r).onAt.trans (by rw [(d.onlyRegs_markGood r).drill])

/-- A rail that is marked SHED is reported, and stays on (R143). -/
theorem Dev.markShed_checkUp (d : Dev) (r : Rail) : let e := (d.markShed r).checkUp
    e.evtPending 137 = true ∧ e.railOn r = d.railOn r ∧ e.pins.xen = d.pins.xen := by
  have ht : ((d.setRstate r rsShed).setLossOnly r false).Turns (turnReg · = true)
      (((d.setRstate r rsShed).setLossOnly r false).raise 137) := turns_raise.raise _ (by decide)
  have h : (((d.setRstate r rsShed).setLossOnly r false).raise 137).Turns (turnReg · = true) (d.markShed r).checkUp :=
    (Dev.turns_rstSync (fun _ h => h) _).trans (Dev.turns_checkUp (fun _ h => h) _)
  refine ⟨h.pending _ (by decide) (Dev.evtPending_raise _ (by decide)), ?_, ?_⟩
  · exact ((ht.trans h).railOn (fun q => by simp [turnReg_RAILON]) r).trans (d.railOn_setRstate r rsShed r)
  · exact (ht.trans h).xen.trans (by rw [Dev.setLossOnly, Dev.setRstate_pins])

/-! ## The supervision of a rail, by its state -/

section Poll

variable {d : Dev} {r : Rail} (hrun : d.blocksRun = true)
include hrun

theorem Dev.railPoll_rising (h : d.rstate r = rsRising) : d.railPoll r = if d.goodCond r then d.railGood r else d := by
  simp [Dev.railPoll, hrun, h]

theorem Dev.railPoll_good (h : d.rstate r = rsGood) : d.railPoll r = if d.goodCond r then d else d.railLoss r := by
  simp [Dev.railPoll, hrun, h]

theorem Dev.railPoll_else (h1 : d.rstate r ≠ rsRising) (h2 : d.rstate r ≠ rsGood) :
    d.railPoll r = if d.railOn r && d.fallenCond r then d.railFallen r else d := by
  simp [Dev.railPoll, hrun, h1, h2]

end Poll

end Sys2Proof.Machine
end

section
/-!
Off-slots, the gaps of a fault shutdown, and fall time-outs of rails that have fallen (R134, R135).
-/

namespace Sys2Proof.Machine

open Sys2Proof Sys2Proof.R

/-! ## Rails and outputs -/

theorem loopOf_rail {r : Rail} {n : Loop} (h : r.val = n.val) : loopOf r.val = some n := by
  rw [h]
  exact dif_pos n.isLt

theorem loopOf_external {r : Rail} (h : 12 ≤ r.val) : loopOf r.val = none := by
  rw [loopOf, dif_neg (by omega)]

theorem railX_of {r : Rail} {x : Fin 16} (h : r.val = 12 + x.val) : railX r = x := by
  have := x.isLt
  exact Fin.ext (by simp only [railX, Fin.ofNat]; omega)

theorem Dev.xen_setXen (d : Dev) {r : Rail} {x : Fin 16} (b : Bool) (h : r.val = 12 + x.val) : (d.setXen r b).pins.xen[x] = b := by
  simp [Dev.setXen, railX_of h]

/-- A loop that stops shows neither PG nor SETTLED. -/
def Dev.unsettle (d : Dev) (n : Loop) : Dev :=
  ((d.modLoop n fun x => { x with uvArmed := false }).setFlag (LP_STATUS n) LP_STATUS.PG false).setFlag (LP_STATUS n)
    LP_STATUS.SETTLED false

theorem Dev.softStop_eq {d : Dev} {n : Loop} (h1 : d.lstate n ≠ lsOff) (h2 : d.lstate n ≠ lsOvLatched) : d.softStop n =
    if ((d.unsettle n).loop n).offMode && (d.unsettle n).rn (LP_SSSLEW n) ≠ 0 then
      ((d.unsettle n).setLstate n lsSoftStop).modLoop n fun x => { x with refAcc := 0 }
    else (d.unsettle n).modLoop n fun x => { x with offPend := true } := if_neg (not_or.mpr ⟨h1, h2⟩)

theorem Dev.flag_unsettle (d : Dev) (n : Loop) : (d.unsettle n).flag (LP_STATUS n) LP_STATUS.PG = false ∧
    (d.unsettle n).flag (LP_STATUS n) LP_STATUS.SETTLED = false :=
  ⟨(Dev.flag_setFlag_disjoint _ _ _ _ _ (by decide) (by decide) (by decide)).trans
    (Dev.flag_setFlag_same _ _ _ _ (by decide) (by decide)), Dev.flag_setFlag_same _ _ _ _ (by decide) (by decide)⟩

/-- A change of the loop's state leaves the other bits of its status. -/
theorem Dev.flag_setLstate (d : Dev) (n : Loop) (v : Nat) (f : Fld) (hf : f.lo + f.w ≤ 16)
    (hd : f.lo + f.w ≤ LP_STATUS.STATE.lo ∨ LP_STATUS.STATE.lo + LP_STATUS.STATE.w ≤ f.lo) :
    (d.setLstate n v).flag (LP_STATUS n) f = d.flag (LP_STATUS n) f := by
  rw [Dev.flag, Dev.flag, Dev.setLstate, Dev.fld_setFld_disjoint d _ LP_STATUS.STATE f v (by decide) hf hd]

theorem Dev.flag_modLoop (d : Dev) (n : Loop) (g : LoopSt → LoopSt) (a : Nat) (f : Fld) : (d.modLoop n g).flag a f = d.flag a f := rfl

/-- A loop that is not OFF shows neither PG nor SETTLED at its off-slot (R54). -/
theorem Dev.softStop_flags {d : Dev} {n : Loop} (h1 : d.lstate n ≠ lsOff) (h2 : d.lstate n ≠ lsOvLatched) :
    (d.softStop n).flag (LP_STATUS n) LP_STATUS.PG = false ∧ (d.softStop n).flag (LP_STATUS n) LP_STATUS.SETTLED = false := by
  rw [Dev.softStop_eq h1 h2]
  split
  · rw [Dev.flag_modLoop, Dev.flag_modLoop, Dev.flag_setLstate _ _ _ _ (by decide) (by decide),
      Dev.flag_setLstate _ _ _ _ (by decide) (by decide)]
    exact d.flag_unsettle n
  · exact d.flag_unsettle n

theorem Dev.softStop_rest (d : Dev) (n : Loop) : (d.softStop n).pins = d.pins ∧ (d.softStop n).drill = d.drill := by
  unfold Dev.softStop
  split
  · exact ⟨rfl, rfl⟩
  · dsimp only
    split <;> exact ⟨by simp [Dev.setLstate, Dev.modLoop], by simp [Dev.setLstate, Dev.modLoop]⟩

/-! ## What a stopped rail shows -/

/-- The output of rail `r` is released or its loop stops, as an off-slot or a fault gap asks (R134, R135). -/
structure Dev.Stops (d : Dev) (r : Rail) (e : Dev) : Prop where
  xen : ∀ x : Fin 16, r.val = 12 + x.val → e.pins.xen[x] = false
  loop : ∀ n : Loop, r.val = n.val → d.lstate n ≠ lsOff → d.lstate n ≠ lsOvLatched →
    e.flag (LP_STATUS n) LP_STATUS.PG = false ∧ e.flag (LP_STATUS n) LP_STATUS.SETTLED = false
  due : e.due r = false

/-- What the pins, the loops' registers and the off-slot of the rail do not show. -/
theorem Dev.Stops.of_same {d e g : Dev} {r : Rail} (h : Dev.Stops d r e) (hp : g.pins = e.pins)
    (hl : ∀ a, loopReg a = true → g.rd a = e.rd a) (hd : g.due r = false) : Dev.Stops d r g where
  xen x hx := by rw [hp]; exact h.xen x hx
  loop n hn h1 h2 := by
    have hst := hl _ (loopReg_LP_STATUS n)
    rw [Dev.flag, Dev.flag, Dev.fld_of_rd _ (by decide) hst, Dev.fld_of_rd _ (by decide) hst]
    exact h.loop n hn h1 h2
  due := hd

/-- The rail is FALLING, with its slot past. -/
def Dev.markFalling (d : Dev) (r : Rail) : Dev :=
  ((((d.setRstate r rsFalling).setOffDue r false).setElapsedRail r false).setLossOnly r false).rstSync

/-- The off action of a rail (R134): soft-stop, or XENn low. -/
def Dev.stopOut (d : Dev) (r : Rail) : Dev :=
  match loopOf r.val with
  | some n => d.softStop n
  | none => d.setXen r false

theorem Dev.railOff_eq (d : Dev) (r : Rail) : d.railOff r = let e := (d.markFalling r).stopOut r
    if e.rn (SEQ_FTO r) = 0 || e.fallenCond r then e.railFallen r else e := rfl

theorem Dev.lstate_markFalling (d : Dev) (r : Rail) (n : Loop) : (d.markFalling r).lstate n = d.lstate n := by
  have hl := loopReg_LP_STATUS n
  refine Dev.fld_of_rd _ (by decide) (((Dev.outputs_rstSync _).rd _ (fun e => ?_) (evtReg_of_loopReg hl)).trans
    ((d.onlyRegs_setRstate r rsFalling).1 _ fun h => ?_))
  · rw [e] at hl
    exact absurd hl (by decide)
  · have hlt := (anyStateReg_lt ⟨r, h⟩).2
    simp only [loopReg_iff] at hl
    omega

theorem Dev.due_setOffDue (d : Dev) (r : Rail) (b : Bool) : (d.setOffDue r b).due r = b := getLsbD_setBit28_same _ r.isLt b

theorem Dev.due_markFalling (d : Dev) (r : Rail) : (d.markFalling r).due r = false :=
  ((Dev.outputs_rstSync _).due r).trans (Dev.due_setOffDue (d.setRstate r rsFalling) r false)

theorem Dev.due_stopOut (d : Dev) (r : Rail) : (d.stopOut r).due r = d.due r := by
  unfold Dev.stopOut
  split
  · rw [Dev.due, (d.softStop_rest _).2, Dev.due]
  · rfl

/-- The off action stops the rail. -/
theorem Dev.stops_stopOut (d : Dev) (r : Rail) : Dev.Stops d r ((d.markFalling r).stopOut r) where
  xen x hx := by
    rw [Dev.stopOut, loopOf_external (by omega)]
    exact Dev.xen_setXen _ false hx
  loop n hn h1 h2 := by
    rw [Dev.stopOut, loopOf_rail hn]
    exact Dev.softStop_flags (by rwa [Dev.lstate_markFalling]) (by rwa [Dev.lstate_markFalling])
  due := by rw [Dev.due_stopOut, Dev.due_markFalling]

theorem Dev.stops_railOff (d : Dev) (r : Rail) : Dev.Stops d r (d.railOff r) := by
  have h := d.stops_stopOut r
  rw [Dev.railOff_eq]
  dsimp only
  split
  · obtain ⟨hp, hd, hl⟩ := ((d.markFalling r).stopOut r).markFallen_rest r
    have ht : (((d.markFalling r).stopOut r).markFallen r).Turns (moveReg · = true) (((d.markFalling r).stopOut r).railFallen r) :=
      Dev.turns_railFallen (fun _ h => h) _ r
    refine h.of_same (ht.pins.trans hp) (fun a ha => ?_) ?_
    · exact (ht.rd a (by simp [moveReg_of_loopReg ha]) (evtReg_of_loopReg ha)).trans (hl a ha)
    · exact (ht.off r (Dev.railOn_markFallen _ r) (by rw [Dev.due, hd]; exact h.due)).2
  · exact h

/-- A fault gap is past, with the rails `rest` to come. -/
def Dev.gapPast (d : Dev) (rest : List Rail) : Dev := { d with drill := { d.drill with gap := rest } }

theorem Dev.railLive_gapPast (d : Dev) (rest : List Rail) (r : Rail) : (d.gapPast rest).railLive r = d.railLive r := rfl
theorem Dev.lstate_gapPast (d : Dev) (rest : List Rail) (n : Loop) : (d.gapPast rest).lstate n = d.lstate n := rfl

/-! ## The commands -/

section Commands

variable {s : State} {r : Rail} (hrun : s.dev.blocksRun = true)
include hrun

theorem offSlot_stops (hds : s.dev.ds = drFalling ∨ s.dev.ds = drReversing ∨ (s.dev.ds = drSwitching ∧ s.dev.drill.phase2 = false))
    (hdue : s.dev.drill.offDue.getLsbD r.val = true) (hlive : s.dev.railLive r = true) :
    Completes (.drillOffSlot r) s (Dev.Stops s.dev r) := by
  refine completes_step1 (·.offSlot r) rfl ?_
  have : s.dev.offSlot r = s.dev.railOff r := by
    rw [Dev.offSlot, if_pos]
    rcases hds with h | h | ⟨h, h2⟩ <;> simp [*]
  rw [this]
  exact s.dev.stops_railOff r

theorem gapStep_eq {rest : List Rail} (hds : s.dev.ds = drFaulting) (hgap : s.dev.drill.gap = r :: rest) :
    s.dev.gapStep = if (s.dev.gapPast rest).railLive r then (s.dev.gapPast rest).railOff r else s.dev.gapPast rest := by
  simp only [Dev.gapStep, hrun, hds, hgap, decide_true, Bool.and_self, Bool.not_true, Bool.false_eq_true, ↓reduceIte]
  rfl

theorem faultGap_stops {rest : List Rail} (hds : s.dev.ds = drFaulting) (hgap : s.dev.drill.gap = r :: rest)
    (hlive : s.dev.railLive r = true) : Completes .faultGapStep s (Dev.Stops s.dev r) := by
  refine completes_step1 Dev.gapStep rfl ?_
  rw [gapStep_eq hrun hds hgap, Dev.railLive_gapPast, if_pos hlive]
  have h := (s.dev.gapPast rest).stops_railOff r
  exact ⟨h.xen, fun n hn h1 h2 => h.loop n hn (by rwa [Dev.lstate_gapPast]) (by rwa [Dev.lstate_gapPast]), h.due⟩

/-- The place of a rail that is off already is skipped. -/
theorem faultGap_skips {rest : List Rail} (hds : s.dev.ds = drFaulting) (hgap : s.dev.drill.gap = r :: rest)
    (hlive : s.dev.railLive r = false) : exec .faultGapStep s = .next { s with dev := s.dev.gapPast rest } := by
  have hg : s.dev.gapStep = s.dev.gapPast rest := by
    rw [gapStep_eq hrun hds hgap, Dev.railLive_gapPast, hlive]
    exact if_neg (by decide)
  show s.step1 Dev.gapStep = _
  rw [State.step1, hg]

end Commands

/-! ## A fall time-out of a rail that has fallen (R134) -/

/-- A rail that is OFF stays so as a power-down ends. -/
theorem Dev.rstate_endDown {d : Dev} {r : Rail} (h : d.rstate r = rsOff) : d.endDown.rstate r = rsOff := by
  have hfold (rs : List Rail) (e : Dev) (he : e.rstate r = rsOff) :
      (rs.foldl (fun d q => if d.rstate q = rsShed then d.setRstate q rsOff else d) e).rstate r = rsOff := by
    induction rs generalizing e with
    | nil => exact he
    | cons q rs ih =>
      refine ih _ ?_
      dsimp only
      split
      · by_cases hq : r = q
        · subst hq
          exact e.rstate_setRstate_same r rsOff (by decide)
        · exact (e.rstate_setRstate_ne q rsOff hq).trans he
      · exact he
  unfold Dev.endDown
  refine ((sameDrill_hop.endItems _ _).rstate r).trans (((sameDrill_hop.raise _ (by decide)).rstate r).trans ?_)
  refine Eq.trans (b := Dev.rstate (Dev.preoffEnd _) r) rfl ?_
  exact (((Dev.outputs_preoffEnd _).rstate r).trans (Dev.rstate_setDs _ _ r)).trans (hfold rails d h)

/-- The device's state is no matter of the drill. -/
theorem Dev.sameDrill_setDstate (d : Dev) (f : Fld) (v : Nat) (hf : f.lo + f.w ≤ 16) : d.SameDrill (d.setFld CFG_DSTATE f v) := by
  simp only [Dev.setFld, hf, ↓reduceIte]
  exact d.sameDrill_wr _ (.inl (by decide)) (by decide)

theorem Dev.sameDrill_syncDevice (d : Dev) : d.SameDrill d.syncDevice := by
  unfold Dev.syncDevice Dev.abandonNewt
  dsimp only
  split
  · refine sameDrill_hop.trans (d.sameDrill_setDstate CFG_DSTATE.STATE dsRun (by decide)) ?_
    split
    · exact (Dev.sameDrill_setDstate _ CFG_DSTATE.NEWTPEND 0 (by decide)).trans (sameDrill_hop.raise _ (by decide))
    · exact sameDrill_hop.refl _
  split
  · exact d.sameDrill_setDstate CFG_DSTATE.STATE dsIdle (by decide)
  · exact sameDrill_hop.refl d

section Fallen

variable {d : Dev} {r : Rail}

/-- A FALLING rail that has fallen is OFF. -/
theorem Dev.rstate_markFallen (h : d.rstate r = rsFalling) : (d.markFallen r).rstate r = rsOff := by
  have h' : (d.setLossOnly r false).rstate r = rsFalling := h
  have hne : SEQ_RSTATE r ≠ SEQ_RAILON + 2 * (r.val / 16) := by
    have := r.isLt
    simp only [SEQ_RSTATE, SEQ_RAILON]
    omega
  rw [Dev.markFallen, Dev.rstate, Dev.fld_of_rd _ (by decide) (Dev.rd_setMbit_ne _ _ hne), ← Dev.rstate, Dev.when, h']
  exact Dev.rstate_setRstate_same _ r rsOff (by decide)

theorem Dev.ds_markFallen (h : d.rstate r = rsFalling) : (d.markFallen r).ds = d.ds := by
  have h' : (d.setLossOnly r false).rstate r = rsFalling := h
  have hne : SEQ_STATUS ≠ SEQ_RAILON + 2 * (r.val / 16) := by
    have := r.isLt
    simp only [SEQ_STATUS, SEQ_RAILON]
    omega
  rw [Dev.markFallen, Dev.ds, Dev.fld_of_rd _ (by decide) (Dev.rd_setMbit_ne _ _ hne), ← Dev.ds, Dev.when, h']
  exact Dev.ds_setRstate _ r rsOff

/-- In a power-down a FALLING rail that has fallen is OFF, also where it was the last. -/
theorem Dev.railFallen_falling (h : d.rstate r = rsFalling) (hds : d.ds = drFalling) :
    (d.railFallen r).rstate r = rsOff ∧ (d.railFallen r).railOn r = false := by
  have hs := (d.markFallen r).sameDrill_syncDevice
  have hst := (hs.rstate r).trans (Dev.rstate_markFallen h)
  have hon := (hs.railOn r).trans (d.railOn_markFallen r)
  rw [Dev.railFallen_eq, Dev.checkDown, if_pos (by simp [hs.ds, Dev.ds_markFallen h, hds])]
  split
  · exact ⟨Dev.rstate_endDown hst,
      ((Dev.turns_endDown (W := (turnReg · = true)) (fun _ h => h) _).railOn (fun q => by simp [turnReg_RAILON]) r).trans hon⟩
  · exact ⟨hst, hon⟩

end Fallen

section Commands

variable {s : State} {r : Rail} (hrun : s.dev.blocksRun = true)
include hrun

theorem fallTimeout_fallen (hst : s.dev.rstate r = rsFalling) (hto : s.dev.rn (SEQ_FTO r) ≠ 0) (hf : s.dev.fallenCond r = true)
    (hon : s.dev.railOn r = true) (hds : s.dev.ds = drFalling) :
    Completes (.fallTimeout r) s fun e => e.rstate r = rsOff ∧ e.railOn r = false := by
  refine completes_step1 (·.fallTimeout r) rfl ?_
  have : s.dev.fallTimeout r = s.dev.railFallen r := by
    rw [Dev.fallTimeout, if_neg (by simp [hrun, hst, hto]), if_pos hf,
      Dev.railPoll_else hrun (by simp [hst]) (by simp [hst]), if_pos (by simp [hon, hf])]
  rw [this]
  exact Dev.railFallen_falling hst hds

end Commands

end Sys2Proof.Machine
end

section
/-!
Failures of rails (R133, R135, R137): what is entered as a rail is cut, and what the fault shutdown and the drill's answers leave of it.
-/

namespace Sys2Proof.Machine

open Sys2Proof Sys2Proof.R

/-! ## A failure by its parts -/

/-- The failure shows in the rail's state and in SEQ_STICKY. -/
def Dev.failMarked (d : Dev) (r : Rail) (cause : Nat) (falling : Bool) : Dev :=
  ((d.wr SEQ_STICKY (d.rd SEQ_STICKY ||| BitVec.ofNat 16 (failSticky cause falling))).setRstate r rsFailed).setFld (SEQ_RSTATE r)
    SEQ_RSTATE.CAUSE cause

/-- And it is no loss that is only reported. -/
def Dev.failEntered (d : Dev) (r : Rail) (cause : Nat) (falling : Bool) : Dev := (d.failMarked r cause falling).setLossOnly r false

/-- The failure is counted and the rail cut. -/
def Dev.failCut (d : Dev) (r : Rail) (cause : Nat) : Dev := (((d.noteFailure r cause).bump SEQ_FAILCNT).bump (SEQ_RFAILCNT r)).cutRail r

/-- The power-down goes on with a warning (R141). -/
def Dev.markWarned (d : Dev) : Dev := { d with drill := { d.drill with warned := true } }

/-- The drill beside its registers as a fault shutdown starts (R135). -/
def Dev.armFault (d : Dev) (r : Rail) (cause : Nat) : Dev :=
  { d with drill := { d.drill with t0 := if d.ds = drUp then d.now else d.drill.t0, firstFail := cause, firstAt := d.now,
                                   firstRail := r.val, gap := d.gapList, offDue := 0, phase2 := false, warned := false } }

/-- A fault shutdown starts. -/
def Dev.shutDown (d : Dev) (r : Rail) (cause : Nat) : Dev :=
  ((d.dropWaiting.armFault r cause).setFlag SEQ_STICKY SEQ_STICKY.FAULTSD true).setDs drFaulting

/-- The failure is reported, and the reset outputs and the drill answer. -/
def Dev.failReport (d : Dev) (r : Rail) (cause : Nat) (es : List Nat) : Dev :=
  (((d.raiseAll es).takeSnapshot 1 r.val cause).rstSync).checkFallen r

/-- Whether a failure starts a fault shutdown (R133, R141). -/
def Dev.shutsDown (d : Dev) (r : Rail) : Bool := !d.fallingRule r && (d.ds = drRising || d.ds = drUp || d.ds = drSwitching)

theorem Dev.railFailure_eq {d : Dev} {r : Rail} {cause : Nat} (hc : d.fallingRule r = true → cause ≠ 2) : d.railFailure r cause =
    ((((d.failEntered r cause (d.fallingRule r)).failCut r cause).when (d.fallingRule r) Dev.markWarned).when (d.shutsDown r)
      (·.shutDown r cause)).failReport r cause (if d.shutsDown r then [131, 132] else [131]) := by
  have hcause : (if d.fallingRule r && cause = 2 then 4 else cause) = cause := by
    split
    · rename_i h
      simp only [Bool.and_eq_true, decide_eq_true_eq] at h
      exact absurd h.2 (hc h.1)
    · rfl
  have h : d.railFailure r cause = (let c := if d.fallingRule r && cause = 2 then 4 else cause
    ((((d.failEntered r c (d.fallingRule r)).failCut r c).when (d.fallingRule r) Dev.markWarned).when (d.shutsDown r)
      (·.shutDown r c)).failReport r c (if d.shutsDown r then [131, 132] else [131])) := rfl
  rw [h]
  dsimp only
  rw [hcause]

/-! ## The failure as it is entered -/

section LossOnly

variable (d : Dev) (r : Rail) (b : Bool)

theorem Dev.rd_setLossOnly (a : Nat) : (d.setLossOnly r b).rd a = d.rd a := rfl
theorem Dev.setLossOnly_pins : (d.setLossOnly r b).pins = d.pins := rfl
theorem Dev.setLossOnly_clock : (d.setLossOnly r b).clock = d.clock := rfl
theorem Dev.setLossOnly_lastAt : (d.setLossOnly r b).drill.lastAt = d.drill.lastAt := rfl
theorem Dev.setLossOnly_phase2 : (d.setLossOnly r b).drill.phase2 = d.drill.phase2 := rfl

end LossOnly

section Entered

variable (d : Dev) (r : Rail) (cause : Nat) (falling : Bool)

/-- The registers of a failure as it is entered. -/
def enterReg (r : Rail) (a : Nat) : Prop := a = SEQ_STICKY ∨ stateReg r a

theorem Dev.onlyRegs_failMarked : d.onlyRegs (d.failMarked r cause falling) (enterReg r) := by
  refine (((d.onlyRegs_wr _ _).trans (Dev.onlyRegs_setRstate _ r rsFailed)).trans (Dev.onlyRegs_setFld _ _ _ _ (by decide))).mono ?_
  rintro a ((h | h) | h)
  · exact .inl h
  · exact .inr h
  · exact .inr (.inl h)

theorem Dev.rd_failEntered {a : Nat} (h : ¬enterReg r a) : (d.failEntered r cause falling).rd a = d.rd a := by
  rw [Dev.failEntered, Dev.rd_setLossOnly]
  exact (d.onlyRegs_failMarked r cause falling).1 a h

theorem Dev.rstate_failEntered : (d.failEntered r cause falling).rstate r = rsFailed := by
  rw [Dev.failEntered, Dev.rstate, Dev.fld_of_rd _ (by decide) (Dev.rd_setLossOnly _ _ _ _), Dev.failMarked,
    Dev.fld_setFld_disjoint _ _ _ _ _ (by decide) (by decide) (by decide), ← Dev.rstate]
  exact Dev.rstate_setRstate_same _ r rsFailed (by decide)

theorem Dev.cause_failEntered (hc : cause < 16) : (d.failEntered r cause falling).fld (SEQ_RSTATE r) SEQ_RSTATE.CAUSE = cause := by
  rw [Dev.failEntered, Dev.fld_of_rd _ (by decide) (Dev.rd_setLossOnly _ _ _ _), Dev.failMarked, Dev.fld_setFld_same _ _ _ _ (by decide)]
  exact Nat.mod_eq_of_lt hc

theorem not_stateReg_STICKY : ¬stateReg r SEQ_STICKY := by
  rintro (h | h | h)
  · have := r.isLt
    simp only [SEQ_STICKY, SEQ_RSTATE] at h
    omega
  · exact absurd h (by decide)
  · exact absurd h (by decide)

theorem Dev.sticky_failEntered : (d.failEntered r cause falling).rd SEQ_STICKY =
    d.rd SEQ_STICKY ||| BitVec.ofNat 16 (failSticky cause falling) := by
  have hne : SEQ_STICKY ≠ SEQ_RSTATE r := fun h => not_stateReg_STICKY r (.inl h)
  rw [Dev.failEntered, Dev.rd_setLossOnly, Dev.failMarked, Dev.rd_setFld_ne _ _ _ (by decide) hne,
    (Dev.onlyRegs_setRstate _ r rsFailed).1 _ (not_stateReg_STICKY r), Dev.rd_wr_same]

theorem Dev.status_failEntered (f : Fld) (hf : f.lo + f.w ≤ 16) (hd : f.lo + f.w ≤ 13 ∨ 14 ≤ f.lo) :
    (d.failEntered r cause falling).fld SEQ_STATUS f = d.fld SEQ_STATUS f := by
  rw [Dev.failEntered, Dev.fld_of_rd f hf (Dev.rd_setLossOnly _ _ _ _), Dev.failMarked,
    Dev.fld_of_rd f hf (Dev.rd_setFld_ne _ _ _ (by decide) (RSTATE_ne_STATUS r).symm), Dev.status_setRstate _ r rsFailed f hf hd]
  exact Dev.fld_of_rd f hf (Dev.rd_wr_ne _ _ (by decide))

theorem Dev.failEntered_rest : (d.failEntered r cause falling).pins = d.pins ∧ (d.failEntered r cause falling).clock = d.clock ∧
    (d.failEntered r cause falling).drill.lastAt = d.drill.lastAt ∧ (d.failEntered r cause falling).drill.phase2 = d.drill.phase2 := by
  have h := d.onlyRegs_failMarked r cause falling
  rw [Dev.failEntered, Dev.setLossOnly_pins, Dev.setLossOnly_clock, Dev.setLossOnly_lastAt, Dev.setLossOnly_phase2, h.drill]
  exact ⟨h.pins, h.clock, rfl, rfl⟩

end Entered

/-! ## The counts and the cut (R133, R137) -/

/-- The failure is the most recent one, unless a higher rail failed in the same tick (R137). -/
def Dev.newestFail (d : Dev) (r : Rail) : Prop := d.drill.lastAt ≠ d.now ∨ d.fld SEQ_LASTFAIL SEQ_LASTFAIL.RAIL ≤ r.val

section Cut

variable (d : Dev) (r : Rail) (cause : Nat)

theorem Dev.rd_noteFailure_ne {a : Nat} (h : a ≠ SEQ_LASTFAIL) : (d.noteFailure r cause).rd a = d.rd a := by
  unfold Dev.noteFailure
  dsimp only
  split
  · rfl
  · exact Dev.rd_wn_ne _ _ h

theorem Dev.last_noteFailure (h : d.newestFail r) : (d.noteFailure r cause).rd SEQ_LASTFAIL =
    BitVec.ofNat 16 (0x8000 + d.profileNow * 0x1000 + cause * 0x100 + r.val) := by
  have hl : ¬(d.flag SEQ_LASTFAIL SEQ_LASTFAIL.VALID && decide (d.drill.lastAt = d.now) &&
      decide (r.val < d.fld SEQ_LASTFAIL SEQ_LASTFAIL.RAIL)) = true := by
    simp only [Bool.and_eq_true, decide_eq_true_eq, not_and, not_lt]
    exact fun h1 => h.resolve_left (not_not.mpr h1.2)
  unfold Dev.noteFailure
  dsimp only
  rw [if_neg hl]
  exact Dev.rd_wn_same _ _ _

theorem Dev.noteFailure_pins : (d.noteFailure r cause).pins = d.pins := by
  unfold Dev.noteFailure
  dsimp only
  split <;> rfl

/-- The counts of a failure. -/
theorem Dev.rd_countFailure {a : Nat} (h : a ≠ SEQ_FAILCNT) (hr : a ≠ SEQ_RFAILCNT r) :
    ((d.bump SEQ_FAILCNT).bump (SEQ_RFAILCNT r)).rd a = d.rd a := (Dev.rd_bump_ne _ hr).trans (Dev.rd_bump_ne _ h)

/-- A cut leaves every register but the status of the rail's loop, and of the pins all but XENn. -/
theorem Dev.rd_cutRail {a : Nat} (h : seqReg a = true) : (d.cutRail r).rd a = d.rd a := by
  unfold Dev.cutRail
  dsimp only
  split
  · rename_i n _
    refine ((Dev.keeps_cutLoop (n := n) (W := fun _ => False) (F := [LP_STATUS.PG, LP_STATUS.SETTLED]) _ (by decide)).rd a
      not_false ?_ (evtReg_of_seqReg h)).trans rfl
    rintro rfl
    have hl := loopReg_LP_STATUS n
    rw [loopReg_iff] at hl
    simp only [seqReg, Bool.and_eq_true, decide_eq_true_eq] at h
    omega
  · rfl

theorem Dev.cutLoop_pins (n : Loop) : (d.cutLoop n).pins = d.pins := by
  unfold Dev.cutLoop
  split
  · rfl
  · simp [Dev.modLoop]

theorem Dev.xen_cutRail {x : Fin 16} (h : r.val = 12 + x.val) : (d.cutRail r).pins.xen[x] = false := by
  unfold Dev.cutRail
  rw [loopOf_external (by omega)]
  exact Dev.xen_setXen _ false h

theorem Dev.xpg_cutRail : (d.cutRail r).pins.xpg = d.pins.xpg := by
  unfold Dev.cutRail
  dsimp only
  split
  · rw [Dev.cutLoop_pins]; rfl
  · rfl

/-- Of the drill's registers a cut failure changes its counts and SEQ_LASTFAIL. -/
theorem Dev.rd_failCut {a : Nat} (hs : seqReg a = true) (h : a ≠ SEQ_FAILCNT) (hr : a ≠ SEQ_RFAILCNT r) (hl : a ≠ SEQ_LASTFAIL) :
    (d.failCut r cause).rd a = d.rd a :=
  (Dev.rd_cutRail _ r hs).trans ((Dev.rd_countFailure _ r h hr).trans (d.rd_noteFailure_ne r cause hl))

theorem Dev.count_failCut : (d.failCut r cause).rd SEQ_FAILCNT = satInc (d.rd SEQ_FAILCNT) := by
  have hne : SEQ_FAILCNT ≠ SEQ_RFAILCNT r := by simp only [SEQ_FAILCNT, SEQ_RFAILCNT]; omega
  rw [Dev.failCut, Dev.rd_cutRail _ r (by decide), Dev.rd_bump_ne _ hne, Dev.rd_bump_same, d.rd_noteFailure_ne r cause (by decide)]

theorem seqReg_RFAILCNT : seqReg (SEQ_RFAILCNT r) = true := by revert r; decide

theorem Dev.railCount_failCut : (d.failCut r cause).rd (SEQ_RFAILCNT r) = satInc (d.rd (SEQ_RFAILCNT r)) := by
  have hne : SEQ_RFAILCNT r ≠ SEQ_FAILCNT := by simp only [SEQ_FAILCNT, SEQ_RFAILCNT]; omega
  rw [Dev.failCut, Dev.rd_cutRail _ r (seqReg_RFAILCNT r), Dev.rd_bump_same, Dev.rd_bump_ne _ hne,
    d.rd_noteFailure_ne r cause (by simp only [SEQ_LASTFAIL, SEQ_RFAILCNT]; omega)]

theorem Dev.last_failCut (h : d.newestFail r) : (d.failCut r cause).rd SEQ_LASTFAIL =
    BitVec.ofNat 16 (0x8000 + d.profileNow * 0x1000 + cause * 0x100 + r.val) := by
  rw [Dev.failCut, Dev.rd_cutRail _ r (by decide),
    Dev.rd_countFailure _ r (by decide) (by simp only [SEQ_LASTFAIL, SEQ_RFAILCNT]; omega), d.last_noteFailure r cause h]

theorem Dev.rstate_failCut : (d.failCut r cause).rstate r = d.rstate r :=
  Dev.fld_of_rd _ (by decide) (d.rd_failCut r cause (seqReg_RSTATE r) (by simp only [SEQ_RSTATE, SEQ_FAILCNT]; omega)
    (by simp only [SEQ_RSTATE, SEQ_RFAILCNT]; omega) (by simp only [SEQ_RSTATE, SEQ_LASTFAIL]; omega))

theorem Dev.cause_failCut : (d.failCut r cause).fld (SEQ_RSTATE r) SEQ_RSTATE.CAUSE = d.fld (SEQ_RSTATE r) SEQ_RSTATE.CAUSE :=
  Dev.fld_of_rd _ (by decide) (d.rd_failCut r cause (seqReg_RSTATE r) (by simp only [SEQ_RSTATE, SEQ_FAILCNT]; omega)
    (by simp only [SEQ_RSTATE, SEQ_RFAILCNT]; omega) (by simp only [SEQ_RSTATE, SEQ_LASTFAIL]; omega))

end Cut

end Sys2Proof.Machine
end

section
/-!
What a failure of a rail leaves, with or without a fault shutdown (R133, R135, R141), and the rise and fall time-outs that are failures.
-/

namespace Sys2Proof.Machine

open Sys2Proof Sys2Proof.R

/-! ## What shows of a failure -/

/-- What shows of a failure of rail `r` once the rail is cut: the counts, the output, the most recent failure, and the rail's state. -/
structure Dev.FailShown (d : Dev) (r : Rail) (cause : Nat) (e : Dev) : Prop where
  count : e.rd SEQ_FAILCNT = satInc (d.rd SEQ_FAILCNT)
  railCount : e.rd (SEQ_RFAILCNT r) = satInc (d.rd (SEQ_RFAILCNT r))
  xen : ∀ x : Fin 16, r.val = 12 + x.val → e.pins.xen[x] = false
  last : d.newestFail r → e.rd SEQ_LASTFAIL = BitVec.ofNat 16 (0x8000 + d.profileNow * 0x1000 + cause * 0x100 + r.val)
  rstate : e.rstate r = rsFailed
  cause : e.fld (SEQ_RSTATE r) SEQ_RSTATE.CAUSE = cause

/-- The words that a failure changes once it is entered. -/
def failReg (a : Nat) : Prop := moveReg a = true ∨ a = SEQ_STICKY

theorem moveReg_RFAILCNT (r : Rail) : moveReg (SEQ_RFAILCNT r) = false := by revert r; decide

theorem Dev.FailShown.turns {d e g : Dev} {r : Rail} {cause : Nat} (h : d.FailShown r cause e) (ht : e.Turns failReg g) :
    d.FailShown r cause g := by
  have hne {a : Nat} (hm : moveReg a = false) (hs : a ≠ SEQ_STICKY) : ¬failReg a := by
    rintro (h | h)
    · rw [hm] at h; cases h
    · exact hs h
  have hrd {a : Nat} (hm : moveReg a = false) (hs : a ≠ SEQ_STICKY) (hq : seqReg a = true) : g.rd a = e.rd a :=
    ht.rd a (hne hm hs) (evtReg_of_seqReg hq)
  refine ⟨?_, ?_, fun x hx => ?_, fun hn => ?_, ?_, (ht.cause r).trans h.cause⟩
  · exact (hrd (by decide) (by decide) (by decide)).trans h.count
  · exact (hrd (moveReg_RFAILCNT r) (by simp only [SEQ_RFAILCNT, SEQ_STICKY]; omega) (seqReg_RFAILCNT r)).trans h.railCount
  · rw [ht.pins]; exact h.xen x hx
  · exact (hrd (by decide) (by decide) (by decide)).trans (h.last hn)
  · exact ht.rstate_of h.rstate (by decide)

/-! ## The failure is entered, and the rail cut -/

/-- A failure as it is entered and counted, with the rail cut. -/
def Dev.failNoted (d : Dev) (r : Rail) (cause : Nat) : Dev :=
  ((d.failEntered r cause (d.fallingRule r)).failCut r cause).when (d.fallingRule r) Dev.markWarned

section Noted

variable (d : Dev) (r : Rail) (cause : Nat)

theorem Dev.rd_whenWarned (b : Bool) (a : Nat) : (d.when b Dev.markWarned).rd a = d.rd a := by
  unfold Dev.when; split <;> rfl

theorem Dev.pins_whenWarned (b : Bool) : (d.when b Dev.markWarned).pins = d.pins := by
  unfold Dev.when; split <;> rfl

theorem not_enterReg_of {a : Nat} (hs : a ≠ SEQ_STICKY) (hr : turnReg a = false) : ¬enterReg r a := by
  rintro (h | h)
  · exact hs h
  · rw [turnReg_of_stateReg h] at hr; cases hr

theorem Dev.newestFail_failEntered (b : Bool) (h : d.newestFail r) : (d.failEntered r cause b).newestFail r := by
  obtain ⟨-, hclock, hat, -⟩ := d.failEntered_rest r cause b
  rw [Dev.newestFail, hat, Dev.now, hclock,
    Dev.fld_of_rd _ (by decide) (d.rd_failEntered r cause b (not_enterReg_of r (by decide) (by decide)))]
  exact h

theorem Dev.failShown_failNoted (hc : cause < 16) : d.FailShown r cause (d.failNoted r cause) := by
  have hent {a : Nat} (hs : a ≠ SEQ_STICKY) (hr : turnReg a = false) :=
    d.rd_failEntered r cause (d.fallingRule r) (not_enterReg_of r hs hr)
  refine ⟨?_, ?_, fun x hx => ?_, fun hn => ?_, ?_, ?_⟩
  · rw [Dev.failNoted, Dev.rd_whenWarned, Dev.count_failCut, hent (by decide) (by decide)]
  · rw [Dev.failNoted, Dev.rd_whenWarned, Dev.railCount_failCut, hent (by simp only [SEQ_RFAILCNT, SEQ_STICKY]; omega)
      (turnReg_of_not_moveReg (moveReg_RFAILCNT r))]
  · rw [Dev.failNoted, Dev.pins_whenWarned, Dev.failCut]
    exact Dev.xen_cutRail _ r hx
  · rw [Dev.failNoted, Dev.rd_whenWarned, Dev.last_failCut _ r cause (d.newestFail_failEntered r cause _ hn), Dev.profileNow,
      Dev.status_failEntered d r cause _ _ (by decide) (by decide), ← Dev.profileNow]
  · rw [Dev.failNoted, Dev.rstate, Dev.fld_of_rd _ (by decide) (Dev.rd_whenWarned _ _ _), ← Dev.rstate, Dev.rstate_failCut,
      Dev.rstate_failEntered]
  · rw [Dev.failNoted, Dev.fld_of_rd _ (by decide) (Dev.rd_whenWarned _ _ _), Dev.cause_failCut, Dev.cause_failEntered d r cause _ hc]

theorem Dev.rd_STICKY_failNoted : (d.failNoted r cause).rd SEQ_STICKY =
    d.rd SEQ_STICKY ||| BitVec.ofNat 16 (failSticky cause (d.fallingRule r)) := by
  rw [Dev.failNoted, Dev.rd_whenWarned, Dev.rd_failCut _ r cause (by decide) (by decide)
    (by simp only [SEQ_RFAILCNT, SEQ_STICKY]; omega) (by decide), Dev.sticky_failEntered]

end Noted

/-! ## The fault shutdown (R135) -/

section Shutdown

variable (d : Dev) (r : Rail) (cause : Nat)

theorem Dev.offDue_armFault : (d.armFault r cause).drill.offDue = 0 := rfl
theorem Dev.rd_armFault (a : Nat) : (d.armFault r cause).rd a = d.rd a := rfl

theorem Dev.turns_armFault {W : Nat → Prop} : d.Turns W (d.armFault r cause) :=
  Dev.turns_of_regs rfl rfl rfl rfl fun q _ _ => by rw [Dev.due, Dev.offDue_armFault]; exact BitVec.getLsbD_zero

theorem Dev.turns_shutDown : d.Turns failReg (d.shutDown r cause) := by
  have hT {a : Nat} (h : turnReg a = true) : failReg a := .inl (moveReg_of_turnReg h)
  have hst (e : Dev) : e.Turns failReg (e.setFlag SEQ_STICKY SEQ_STICKY.FAULTSD true) := by
    simp only [Dev.setFlag, Dev.setFld, SEQ_STICKY.FAULTSD, Nat.reduceAdd, Nat.reduceLeDiff, ↓reduceIte]
    exact e.turns_wr _ (.inl (.inr rfl)) (by decide) (by decide)
  exact (((d.turns_dropWaiting fun _ => hT).trans (Dev.turns_armFault _ r cause)).trans (hst _)).trans
    (Dev.turns_setDs (fun _ => hT) _ _)

theorem Dev.ds_shutDown : (d.shutDown r cause).ds = drFaulting := Dev.ds_setDs _ _ (by decide)

theorem not_dsReg_STICKY : ¬dsReg SEQ_STICKY := by
  rintro (h | h | h) <;> exact absurd h (by decide)

theorem Dev.faultsd_shutDown : (d.shutDown r cause).flag SEQ_STICKY SEQ_STICKY.FAULTSD = true := by
  rw [Dev.shutDown, Dev.flag, Dev.fld_of_rd _ (by decide) (Dev.rd_setDs _ _ not_dsReg_STICKY), ← Dev.flag]
  exact Dev.flag_setFlag_same _ _ _ _ (by decide) (by decide)

/-- The other bits of SEQ_STICKY stay as a fault shutdown starts. -/
theorem Dev.lost_shutDown : (d.shutDown r cause).flag SEQ_STICKY SEQ_STICKY.LOST = d.flag SEQ_STICKY SEQ_STICKY.LOST := by
  have hd : d.dropWaiting.rd SEQ_STICKY = d.rd SEQ_STICKY :=
    d.onlyRegs_dropWaiting.1 _ fun ⟨q, hq⟩ => not_stateReg_STICKY q hq
  rw [Dev.shutDown, Dev.flag, Dev.fld_of_rd _ (by decide) (Dev.rd_setDs _ _ not_dsReg_STICKY), ← Dev.flag,
    Dev.flag_setFlag_disjoint _ _ _ _ _ (by decide) (by decide) (by decide), Dev.flag,
    Dev.fld_of_rd _ (by decide) (Dev.rd_armFault _ r cause _), Dev.fld_of_rd _ (by decide) hd, ← Dev.flag]

end Shutdown

/-! ## The report, and the drill's answer -/

section Report

variable (d : Dev) (r : Rail) (cause : Nat) (es : List Nat)

/-- A failure is reported, with its snapshot. -/
def Dev.failPosted (d : Dev) (r : Rail) (cause : Nat) (es : List Nat) : Dev := ((d.raiseAll es).takeSnapshot 1 r.val cause).rstSync

theorem Dev.failReport_eq : d.failReport r cause es = (d.failPosted r cause es).checkFallen r := rfl

theorem Dev.turns_failPosted : (d.raiseAll es).Turns (moveReg · = true) (d.failPosted r cause es) :=
  (Dev.turns_takeSnapshot (fun _ h => h) _ _ _ _).trans (Dev.turns_rstSync (fun _ h => moveReg_of_turnReg h) _)

theorem Dev.sameDrill_failPosted (he : ∀ e ∈ es, e < 256) : d.SameDrill (d.failPosted r cause es) :=
  ((sameDrill_hop.raiseAll d es he).trans (Dev.sameDrill_takeSnapshot _ _ _ _)).trans (Dev.outputs_rstSync _).toSameDrill

variable (hst : d.rstate r = rsFailed) (he : ∀ e ∈ es, e < 256)
include hst he

theorem Dev.turns_failReport_of_raised : (d.raiseAll es).Turns (moveReg · = true) (d.failReport r cause es) := by
  have hf : (d.failPosted r cause es).rstate r = rsFailed := ((d.sameDrill_failPosted r cause es he).rstate r).trans hst
  rw [Dev.failReport_eq]
  exact (d.turns_failPosted r cause es).trans (Dev.turns_checkFallen (fun _ h => h) _ r (by rw [hf]; decide))

theorem Dev.turns_failReport : d.Turns (moveReg · = true) (d.failReport r cause es) :=
  (turns_raise.raiseAll d es he).trans (d.turns_failReport_of_raised r cause es hst he)

theorem Dev.evtPending_failReport {x : Nat} (hx : x ∈ es) : (d.failReport r cause es).evtPending x = true :=
  (d.turns_failReport_of_raised r cause es hst he).pending x (he x hx) (d.evtPending_raiseAll es he hx)

end Report

/-- A fault shutdown goes on, or ends in LATCHED (R135 step 4). -/
theorem Dev.ds_endFault (d : Dev) : d.endFault.ds = drLatched := by
  unfold Dev.endFault
  refine ((sameDrill_hop.endItems _ _).ds).trans ((sameDrill_hop.raise _ (by decide)).ds.trans ?_)
  refine Eq.trans (b := Dev.ds (Dev.preoffEnd _)) rfl ?_
  exact ((Dev.outputs_preoffEnd _).ds).trans (Dev.ds_setDs _ _ (by decide))

theorem Dev.ds_checkDown_faulting {d : Dev} (h : d.ds = drFaulting) : d.checkDown.ds = drFaulting ∨ d.checkDown.ds = drLatched := by
  rw [Dev.checkDown, if_neg (by simp [h]), if_pos h]
  split
  · exact .inr d.ds_endFault
  · exact .inl h

theorem Dev.ds_checkFallen_faulting {d : Dev} {r : Rail} (h : d.ds = drFaulting) (hst : d.rstate r = rsFailed) :
    (d.checkFallen r).ds = drFaulting ∨ (d.checkFallen r).ds = drLatched := by
  unfold Dev.checkFallen
  split
  · have hne : SEQ_STATUS ≠ SEQ_RAILON + 2 * (r.val / 16) := by
      have := r.isLt
      simp only [SEQ_STATUS, SEQ_RAILON]
      omega
    have hm : d.markFallen r = (d.setLossOnly r false).setMbit SEQ_RAILON r.val false := by
      have h' : (d.setLossOnly r false).rstate r = rsFailed := hst
      simp [Dev.markFallen, Dev.when, h']
    have hds : (d.markFallen r).ds = drFaulting := by
      rw [hm, Dev.ds, Dev.fld_of_rd _ (by decide) (Dev.rd_setMbit_ne _ _ hne),
        Dev.fld_of_rd _ (by decide) (Dev.rd_setLossOnly _ _ _ _), ← Dev.ds, h]
    rw [Dev.railFallen_eq]
    exact Dev.ds_checkDown_faulting ((Dev.sameDrill_syncDevice _).ds.trans hds)
  · exact Dev.ds_checkDown_faulting h

/-! ## The whole failure -/

section Failure

variable {d : Dev} {r : Rail} {cause : Nat}

theorem Dev.failed_lt (b : Bool) : ∀ e ∈ (if b then [131, 132] else [131] : List Nat), e < 256 := by
  revert b; decide

theorem Dev.railFailure_noted (hc : d.fallingRule r = true → cause ≠ 2) : d.railFailure r cause =
    ((d.failNoted r cause).when (d.shutsDown r) (·.shutDown r cause)).failReport r cause (if d.shutsDown r then [131, 132] else [131]) :=
  Dev.railFailure_eq hc

/-- A failure of a rail is reported, counted and entered, and the rail cut. -/
theorem Dev.failShown_railFailure (hlt : cause < 16) (hc : d.fallingRule r = true → cause ≠ 2) :
    d.FailShown r cause (d.railFailure r cause) ∧ (d.railFailure r cause).evtPending 131 = true := by
  have hn := d.failShown_failNoted r cause hlt
  have hs : d.FailShown r cause ((d.failNoted r cause).when (d.shutsDown r) (·.shutDown r cause)) :=
    hn.turns (turns_raise.when fun _ => Dev.turns_shutDown _ r cause)
  rw [Dev.railFailure_noted hc]
  have ht := Dev.turns_failReport _ r cause _ hs.rstate (Dev.failed_lt (d.shutsDown r))
  exact ⟨hs.turns (ht.mono fun _ => .inl), Dev.evtPending_failReport _ r cause _ hs.rstate (Dev.failed_lt _) (by
    split <;> simp)⟩

/-- What shows of a fault shutdown that a failure starts. -/
structure Dev.FaultStarted (e : Dev) : Prop where
  event : e.evtPending 132 = true
  flag : e.flag SEQ_STICKY SEQ_STICKY.FAULTSD = true
  ds : e.ds = drFaulting ∨ e.ds = drLatched

theorem moveReg_STICKY : moveReg SEQ_STICKY = false := by decide

theorem Dev.railFailure_shutDown (hlt : cause < 16) (hf : d.fallingRule r = false) (hs : d.shutsDown r = true) :
    (d.railFailure r cause).FaultStarted ∧
      ((d.failNoted r cause).flag SEQ_STICKY SEQ_STICKY.LOST = true →
        (d.railFailure r cause).flag SEQ_STICKY SEQ_STICKY.LOST = true) := by
  have hst := ((d.failShown_failNoted r cause hlt).turns (Dev.turns_shutDown _ r cause)).rstate
  have he : ∀ e ∈ [131, 132], e < 256 := by decide
  rw [Dev.railFailure_noted (by simp [hf]), hs, Dev.when, if_pos rfl, if_pos rfl]
  have ht := Dev.turns_failReport _ r cause [131, 132] hst he
  have hfld (f : Fld) (hw : f.lo + f.w ≤ 16) := ht.fld (a := SEQ_STICKY) f hw (by simp [moveReg_STICKY]) (by decide)
  have hp := Dev.sameDrill_failPosted ((d.failNoted r cause).shutDown r cause) r cause [131, 132] he
  refine ⟨⟨Dev.evtPending_failReport _ r cause _ hst he (by simp), ?_, ?_⟩, fun hl => ?_⟩
  · rw [Dev.flag, hfld _ (by decide), ← Dev.flag]
    exact Dev.faultsd_shutDown _ r cause
  · rw [Dev.failReport_eq]
    exact Dev.ds_checkFallen_faulting (hp.ds.trans (Dev.ds_shutDown _ r cause)) ((hp.rstate r).trans hst)
  · rw [Dev.flag, hfld _ (by decide), ← Dev.flag, Dev.lost_shutDown, hl]

end Failure

end Sys2Proof.Machine
end

section
/-!
Rise time-outs, fall time-outs of rails that have not fallen, and changes of XPGn (R126, R132, R133).
-/

namespace Sys2Proof.Machine

open Sys2Proof Sys2Proof.R

/-! ## Rise and fall time-outs -/

/-- A rail rises: in a power-up, or in phase 2 of a switch (R132). -/
def Dev.rises (d : Dev) : Prop := d.ds = drRising ∨ (d.ds = drSwitching ∧ d.drill.phase2 = true)

/-- An external rail with PGSRC NONE counts as good once its time has run (R127). -/
def Dev.goodUntold (d : Dev) (r : Rail) : Prop := 12 ≤ r.val ∧ d.fld (SEQ_RCFG r) SEQ_RCFG.PGSRC = 3

section Rising

variable {d : Dev} {r : Rail}

theorem Dev.fallingRule_of_rises (h : d.rises) : d.fallingRule r = false := by
  rcases h with h | ⟨h, h2⟩ <;> simp [Dev.fallingRule, *]

theorem Dev.shutsDown_of_rises (h : d.rises) : d.shutsDown r = true := by
  rw [Dev.shutsDown, Dev.fallingRule_of_rises h]
  rcases h with h | ⟨h, -⟩ <;> simp [h]

theorem Dev.fallingRule_of_up (h : d.ds = drUp) : d.fallingRule r = false := by simp [Dev.fallingRule, h]

theorem Dev.shutsDown_of_up (h : d.ds = drUp) : d.shutsDown r = true := by simp [Dev.shutsDown, Dev.fallingRule_of_up h, h]

theorem Dev.rstate_setElapsedRail (b : Bool) : (d.setElapsedRail r b).rstate r = d.rstate r := rfl

/-- A rail with PGSRC NONE is good once its time has run. -/
theorem Dev.goodCond_elapsed (h : d.goodUntold r) : (d.setElapsedRail r true).goodCond r = true := by
  have hsrc : (d.setElapsedRail r true).fld (SEQ_RCFG r) SEQ_RCFG.PGSRC = 3 := h.2
  have hel : (d.setElapsedRail r true).drill.elapsed.getLsbD r.val = true := getLsbD_setBit28_same _ r.isLt true
  rw [Dev.goodCond, loopOf_external h.1]
  dsimp only
  rw [hsrc]
  simp [hel]

variable (hrun : d.blocksRun = true)
include hrun

theorem Dev.railPoll_rises (hst : d.rstate r = rsRising) (hg : d.goodCond r = true) : (d.railPoll r).rstate r = rsGood := by
  rw [Dev.railPoll_rising hrun hst, if_pos hg]
  exact d.rstate_railGood r

theorem Dev.riseTimeout_good (hst : d.rstate r = rsRising) (h : d.goodUntold r ∨ d.goodCond r = true) :
    (d.riseTimeout r).rstate r = rsGood := by
  rw [Dev.riseTimeout, if_neg (by simp [hrun, hst])]
  split
  · rename_i hn
    simp only [Bool.and_eq_true, decide_eq_true_eq] at hn
    exact Dev.railPoll_rises (d := d.setElapsedRail r true) hrun hst (Dev.goodCond_elapsed hn)
  · rename_i hn
    simp only [Bool.and_eq_true, decide_eq_true_eq] at hn
    have hg := h.resolve_left hn
    rw [if_pos hg]
    exact Dev.railPoll_rises hrun hst hg

theorem Dev.riseTimeout_bad (hst : d.rstate r = rsRising) (hn : ¬d.goodUntold r) (hg : d.goodCond r = false) :
    d.riseTimeout r = d.railFailure r 1 := by
  rw [Dev.riseTimeout, if_neg (by simp [hrun, hst]), if_neg (by
      rw [Bool.and_eq_true, decide_eq_true_eq, decide_eq_true_eq]
      exact hn),
    if_neg (by simp [hg])]

theorem Dev.fallTimeout_bad (hst : d.rstate r = rsFalling) (hto : d.rn (SEQ_FTO r) ≠ 0) (hf : d.fallenCond r = false) :
    d.fallTimeout r = d.railFailure r 5 := by
  rw [Dev.fallTimeout, if_neg (by simp [hrun, hst, hto]), if_neg (by simp [hf])]

end Rising

/-! ## The loss of a GOOD rail (R133) -/

/-- A loss that is only reported, before the reset outputs answer. -/
def Dev.lossMarked (d : Dev) (r : Rail) : Dev :=
  ((d.setFlag SEQ_STICKY SEQ_STICKY.LOST true).setRstate r rsFailed).setFld (SEQ_RSTATE r) SEQ_RSTATE.CAUSE 2

section Loss

variable (d : Dev) (r : Rail)

theorem Dev.onlyRegs_lossMarked : d.onlyRegs (d.lossMarked r) (enterReg r) := by
  refine (((d.onlyRegs_setFlag _ _ _ (by decide)).trans (Dev.onlyRegs_setRstate _ r rsFailed)).trans
    (Dev.onlyRegs_setFld _ _ _ _ (by decide))).mono ?_
  rintro a ((h | h) | h)
  · exact .inl h
  · exact .inr h
  · exact .inr (.inl h)

theorem Dev.rstate_lossMarked : (d.lossMarked r).rstate r = rsFailed := by
  rw [Dev.lossMarked, Dev.rstate, Dev.fld_setFld_disjoint _ _ _ _ _ (by decide) (by decide) (by decide), ← Dev.rstate]
  exact Dev.rstate_setRstate_same _ r rsFailed (by decide)

theorem Dev.cause_lossMarked : (d.lossMarked r).fld (SEQ_RSTATE r) SEQ_RSTATE.CAUSE = 2 :=
  Dev.fld_setFld_same _ _ _ _ (by decide)

theorem Dev.lost_lossMarked : (d.lossMarked r).flag SEQ_STICKY SEQ_STICKY.LOST = true := by
  have hne : SEQ_STICKY ≠ SEQ_RSTATE r := fun h => not_stateReg_STICKY r (.inl h)
  rw [Dev.lossMarked, Dev.flag, Dev.fld_of_rd _ (by decide) (Dev.rd_setFld_ne _ _ _ (by decide) hne),
    (Dev.onlyRegs_setRstate _ r rsFailed).fld _ (by decide) (not_stateReg_STICKY r), ← Dev.flag]
  exact Dev.flag_setFlag_same _ _ _ _ (by decide) (by decide)

theorem Dev.ds_lossMarked : (d.lossMarked r).ds = d.ds := by
  rw [Dev.lossMarked, Dev.ds, Dev.fld_of_rd _ (by decide) (Dev.rd_setFld_ne _ _ _ (by decide) (RSTATE_ne_STATUS r).symm), ← Dev.ds,
    Dev.ds_setRstate]
  exact (d.onlyRegs_setFlag _ _ _ (by decide)).fld _ (by decide) (by decide)

/-- A reported loss of a rail. -/
def Dev.lossReported (d : Dev) (r : Rail) : Dev := (((d.lossMarked r).setLossOnly r true).raise 139).rstSync

theorem Dev.outputs_lossReported : ((d.lossMarked r).setLossOnly r true).Outputs (d.lossReported r) :=
  (Dev.outputs_raise _ (by decide)).trans (Dev.outputs_rstSync _)

theorem Dev.flag_FAILACT_lost : (d.setFlag SEQ_STICKY SEQ_STICKY.LOST true).flag (SEQ_RCFG r) SEQ_RCFG.FAILACT =
    d.flag (SEQ_RCFG r) SEQ_RCFG.FAILACT := by
  have hne : SEQ_RCFG r ≠ SEQ_STICKY := by
    have := r.isLt
    simp only [SEQ_RCFG, SEQ_STICKY]
    omega
  rw [Dev.flag, Dev.flag, Dev.fld_of_rd _ (by decide) (Dev.rd_setFlag_ne _ _ _ (by decide) hne)]

theorem Dev.railLoss_eq : d.railLoss r = if d.flag (SEQ_RCFG r) SEQ_RCFG.FAILACT then d.lossReported r
    else (d.setFlag SEQ_STICKY SEQ_STICKY.LOST true).railFailure r 2 := by
  rw [← d.flag_FAILACT_lost r]
  rfl

/-- What shows of a loss. -/
structure Dev.LossShown (e : Dev) (r : Rail) : Prop where
  rstate : e.rstate r = rsFailed
  cause : e.fld (SEQ_RSTATE r) SEQ_RSTATE.CAUSE = 2
  lost : e.flag SEQ_STICKY SEQ_STICKY.LOST = true

/-- A loss that is only reported leaves the drill, the outputs and the counts. -/
theorem Dev.lossReported_shown : (d.lossReported r).LossShown r ∧ (d.lossReported r).evtPending 139 = true ∧
    (d.lossReported r).ds = d.ds ∧ (d.lossReported r).pins.xen = d.pins.xen ∧ (d.lossReported r).railOn r = d.railOn r ∧
    (d.lossReported r).rd SEQ_FAILCNT = d.rd SEQ_FAILCNT := by
  have ho := d.outputs_lossReported r
  have hm := d.onlyRegs_lossMarked r
  have hrd {a : Nat} (h1 : seqReg a = true) (h2 : a ≠ SEQ_RSTSTAT) : (d.lossReported r).rd a = (d.lossMarked r).rd a := by
    rw [ho.seq a h1 h2, Dev.rd_setLossOnly]
  have hst : SEQ_RSTATE r ≠ SEQ_RSTSTAT := by simp only [SEQ_RSTATE, SEQ_RSTSTAT]; omega
  refine ⟨⟨?_, ?_, ?_⟩, ?_, ?_, ?_, ?_, ?_⟩
  · rw [Dev.rstate, Dev.fld_of_rd _ (by decide) (hrd (seqReg_RSTATE r) hst), ← Dev.rstate, Dev.rstate_lossMarked]
  · rw [Dev.fld_of_rd _ (by decide) (hrd (seqReg_RSTATE r) hst), Dev.cause_lossMarked]
  · rw [Dev.flag, Dev.fld_of_rd _ (by decide) (hrd (by decide) (by decide)), ← Dev.flag, Dev.lost_lossMarked]
  · exact (Dev.outputs_rstSync _).pending _ (by decide) (Dev.evtPending_raise _ (by decide))
  · rw [Dev.ds, Dev.fld_of_rd _ (by decide) (hrd (by decide) (by decide)), ← Dev.ds, Dev.ds_lossMarked]
  · rw [ho.pins, Dev.setLossOnly_pins, hm.pins]
  · have hne : SEQ_RAILON + 2 * (r.val / 16) ≠ SEQ_RSTSTAT := by
      have := r.isLt
      simp only [SEQ_RAILON, SEQ_RSTSTAT]
      omega
    have hns : ¬enterReg r (SEQ_RAILON + 2 * (r.val / 16)) := not_enterReg_of r (by
      have := r.isLt
      simp only [SEQ_RAILON, SEQ_STICKY]
      omega) (turnReg_RAILON r)
    rw [Dev.railOn, Dev.mbit, hrd (seqReg_RAILON r) hne, hm.1 _ hns]
    rfl
  · rw [hrd (by decide) (by decide), hm.1 _ (not_enterReg_of r (by decide) (by decide))]

/-- LOST is bit 1 of SEQ_STICKY. -/
theorem Dev.flag_LOST : d.flag SEQ_STICKY SEQ_STICKY.LOST = (d.rd SEQ_STICKY).getLsbD 1 := by
  rw [BitVec.getLsbD, Nat.testBit_eq_decide_div_mod_eq]
  have h2 := Nat.mod_two_eq_zero_or_one ((d.rd SEQ_STICKY).toNat / 2 ^ 1)
  simp only [Dev.flag, Dev.fld, Fld.of, Dev.rn, Nat.reduceAdd, Nat.reduceLeDiff, ↓reduceIte,
    pow_one, ne_eq, decide_not, Bool.not_eq_eq_eq_not] at h2 ⊢
  rcases h2 with h | h <;> simp [h]

/-- The failure of a rail that was lost shows the loss. -/
theorem Dev.lost_failNoted (cause : Nat) (h : d.flag SEQ_STICKY SEQ_STICKY.LOST = true) :
    (d.failNoted r cause).flag SEQ_STICKY SEQ_STICKY.LOST = true := by
  rw [Dev.flag_LOST] at h ⊢
  rw [Dev.rd_STICKY_failNoted, BitVec.getLsbD_or, h, Bool.true_or]

/-- What shows of a failure is told against any device with the same drill. -/
theorem Dev.FailShown.of_base {d c e : Dev} {r : Rail} {cause : Nat} (h : c.FailShown r cause e)
    (hrd : ∀ a, a ≠ SEQ_STICKY → c.rd a = d.rd a) (hat : c.drill.lastAt = d.drill.lastAt) (hclock : c.clock = d.clock) :
    d.FailShown r cause e where
  count := by rw [h.count, hrd _ (by decide)]
  railCount := by rw [h.railCount, hrd _ (by simp only [SEQ_RFAILCNT, SEQ_STICKY]; omega)]
  xen := h.xen
  last hn := by
    have hp : c.profileNow = d.profileNow := Dev.fld_of_rd _ (by decide) (hrd _ (by decide))
    rw [← hp]
    refine h.last ?_
    rw [Dev.newestFail, hat, Dev.now, hclock, Dev.fld_of_rd _ (by decide) (hrd SEQ_LASTFAIL (by decide))]
    exact hn
  rstate := h.rstate
  cause := h.cause

/-- In UP a loss with FAILACT 0 starts the fault shutdown. -/
theorem Dev.lossFailure_shown (hds : d.ds = drUp) : let e := (d.setFlag SEQ_STICKY SEQ_STICKY.LOST true).railFailure r 2
    e.LossShown r ∧ d.FailShown r 2 e ∧ e.evtPending 131 = true ∧ e.FaultStarted := by
  have hl := d.onlyRegs_setFlag SEQ_STICKY SEQ_STICKY.LOST true (by decide)
  have hup : (d.setFlag SEQ_STICKY SEQ_STICKY.LOST true).ds = drUp := (hl.fld _ (by decide) (by decide)).trans hds
  have hf := Dev.fallingRule_of_up (r := r) hup
  obtain ⟨hshown, hevt⟩ := Dev.failShown_railFailure (d := d.setFlag SEQ_STICKY SEQ_STICKY.LOST true) (r := r) (cause := 2)
    (by decide) (by simp [hf])
  obtain ⟨hfault, hlost⟩ := Dev.railFailure_shutDown (r := r) (cause := 2) (by decide) hf (Dev.shutsDown_of_up hup)
  refine ⟨⟨hshown.rstate, hshown.cause, hlost (Dev.lost_failNoted _ r 2 ?_)⟩, ?_, hevt, hfault⟩
  · exact Dev.flag_setFlag_same _ _ _ _ (by decide) (by decide)
  · exact hshown.of_base (fun a ha => hl.1 a ha) (by rw [hl.drill]) hl.clock

end Loss

/-! ## The levels of XPGn (R126) -/

section Xpg

variable (d : Dev) (r : Rail)

/-- A loss or over-current of a falling rail is recorded as a cut (R141). -/
theorem Dev.railFailure_loss_falling (h : d.fallingRule r = true) : d.railFailure r 2 = d.railFailure r 4 := by
  unfold Dev.railFailure
  rw [h]
  rfl

theorem Dev.xpg_failNoted (cause : Nat) : (d.failNoted r cause).pins.xpg = d.pins.xpg := by
  rw [Dev.failNoted, Dev.pins_whenWarned, Dev.failCut, Dev.xpg_cutRail, Dev.bump, Dev.bump, Dev.wr_pins, Dev.wr_pins,
    Dev.noteFailure_pins, (d.failEntered_rest r cause _).1]

theorem Dev.xpg_railFailure_of {cause : Nat} (hlt : cause < 16) (hc : d.fallingRule r = true → cause ≠ 2) :
    (d.railFailure r cause).pins.xpg = d.pins.xpg := by
  have ht : (d.failNoted r cause).Turns failReg ((d.failNoted r cause).when (d.shutsDown r) (·.shutDown r cause)) :=
    turns_raise.when fun _ => Dev.turns_shutDown _ r cause
  have hs := (d.failShown_failNoted r cause hlt).turns ht
  rw [Dev.railFailure_noted hc, (Dev.turns_failReport _ r cause _ hs.rstate (Dev.failed_lt (d.shutsDown r))).pins, ht.pins,
    Dev.xpg_failNoted]

theorem Dev.xpg_railFailure_loss : (d.railFailure r 2).pins.xpg = d.pins.xpg := by
  by_cases h : d.fallingRule r = true
  · rw [d.railFailure_loss_falling r h]
    exact d.xpg_railFailure_of r (by decide) (by simp)
  · exact d.xpg_railFailure_of r (by decide) fun h' => absurd h' h

theorem Dev.xpg_railLoss : (d.railLoss r).pins.xpg = d.pins.xpg := by
  rw [Dev.railLoss_eq]
  split
  · rw [(d.outputs_lossReported r).pins, Dev.setLossOnly_pins, (d.onlyRegs_lossMarked r).pins]
  · rw [Dev.xpg_railFailure_loss, Dev.setFlag_pins]

theorem Dev.pins_railFallen : (d.railFallen r).pins = d.pins :=
  (Dev.turns_railFallen (W := (moveReg · = true)) (fun _ h => h) d r).pins.trans (d.markFallen_rest r).1

/-- The supervision of a rail leaves the levels of XPGn. -/
theorem Dev.xpg_railPoll : (d.railPoll r).pins.xpg = d.pins.xpg := by
  unfold Dev.railPoll
  dsimp only
  split
  · rfl
  split
  · split
    · rw [Dev.pins_railGood]
    · rfl
  split
  · split
    · rfl
    · exact d.xpg_railLoss r
  split
  · rw [Dev.pins_railFallen]
  · rfl

/-- The level of XPGn, before its rail is supervised. -/
def Dev.setXpg (d : Dev) (x : Fin 16) (level : Bool) : Dev := { d with pins := { d.pins with xpg := d.pins.xpg.set x level } }

theorem Dev.xpgChange_eq {x : Fin 16} (hx : r.val = 12 + x.val) (level : Bool) : d.xpgChange x level = (d.setXpg x level).railPoll r := by
  have : r = ⟨12 + x.val, by omega⟩ := Fin.ext hx
  rw [this]
  rfl

variable (x : Fin 16) (level : Bool)

theorem Dev.rd_setXpg (a : Nat) : (d.setXpg x level).rd a = d.rd a := rfl
theorem Dev.rstate_setXpg : (d.setXpg x level).rstate r = d.rstate r := rfl
theorem Dev.railOn_setXpg : (d.setXpg x level).railOn r = d.railOn r := rfl
theorem Dev.ds_setXpg : (d.setXpg x level).ds = d.ds := rfl
theorem Dev.fld_setXpg (a : Nat) (f : Fld) : (d.setXpg x level).fld a f = d.fld a f := rfl
theorem Dev.flag_setXpg (a : Nat) (f : Fld) : (d.setXpg x level).flag a f = d.flag a f := rfl
theorem Dev.blocksRun_setXpg : (d.setXpg x level).blocksRun = d.blocksRun := rfl
theorem Dev.xen_setXpg : (d.setXpg x level).pins.xen = d.pins.xen := rfl

/-- The level that the rail of XPGn is judged by. -/
theorem Dev.xpg_setXpg {r : Rail} {x : Fin 16} (hx : r.val = 12 + x.val) (level : Bool) :
    (d.setXpg x level).pins.xpg[railX r] = level := by simp [Dev.setXpg, railX_of hx]

/-- XPGn low: the rail that it supervises is not good. -/
theorem Dev.goodCond_xpgLow {r : Rail} {x : Fin 16} (hx : r.val = 12 + x.val)
    (hsrc : d.fld (SEQ_RCFG r) SEQ_RCFG.PGSRC = 0 ∨ d.fld (SEQ_RCFG r) SEQ_RCFG.PGSRC = 2) :
    (d.setXpg x false).goodCond r = false := by
  rw [Dev.goodCond, loopOf_external (by omega)]
  dsimp only
  rw [Dev.fld_setXpg, d.xpg_setXpg hx]
  obtain h | h := hsrc <;> rw [h] <;> rfl

theorem Dev.goodCond_xpgHigh {r : Rail} {x : Fin 16} (hx : r.val = 12 + x.val) (hsrc : d.fld (SEQ_RCFG r) SEQ_RCFG.PGSRC = 0) :
    (d.setXpg x true).goodCond r = true := by
  rw [Dev.goodCond, loopOf_external (by omega)]
  dsimp only
  rw [Dev.fld_setXpg, d.xpg_setXpg hx, hsrc]
  rfl

end Xpg

section XpgChange

variable {d : Dev} {r : Rail} {x : Fin 16} (hrun : d.blocksRun = true) (hx : r.val = 12 + x.val)
include hrun hx

theorem Dev.xpgChange_good (hsrc : d.fld (SEQ_RCFG r) SEQ_RCFG.PGSRC = 0) (hst : d.rstate r = rsRising) :
    (d.xpgChange x true).rstate r = rsGood := by
  rw [Dev.xpgChange_eq d r hx]
  exact Dev.railPoll_rises ((d.blocksRun_setXpg x true).trans hrun) ((d.rstate_setXpg r x true).trans hst) (d.goodCond_xpgHigh hx hsrc)

variable (hsrc : d.fld (SEQ_RCFG r) SEQ_RCFG.PGSRC = 0 ∨ d.fld (SEQ_RCFG r) SEQ_RCFG.PGSRC = 2) (hst : d.rstate r = rsGood)
include hsrc hst

/-- A GOOD rail whose XPGn goes low is lost. -/
theorem Dev.xpgChange_lost : d.xpgChange x false = if d.flag (SEQ_RCFG r) SEQ_RCFG.FAILACT then (d.setXpg x false).lossReported r
    else ((d.setXpg x false).setFlag SEQ_STICKY SEQ_STICKY.LOST true).railFailure r 2 := by
  rw [Dev.xpgChange_eq d r hx, Dev.railPoll_good ((d.blocksRun_setXpg x false).trans hrun) ((d.rstate_setXpg r x false).trans hst),
    d.goodCond_xpgLow hx hsrc, if_neg (by decide), Dev.railLoss_eq, Dev.flag_setXpg]

theorem Dev.xpgChange_reported (hact : d.flag (SEQ_RCFG r) SEQ_RCFG.FAILACT = true) : let e := d.xpgChange x false
    e.LossShown r ∧ e.evtPending 139 = true ∧ e.ds = d.ds ∧ e.pins.xen = d.pins.xen ∧ e.railOn r = d.railOn r ∧
      e.rd SEQ_FAILCNT = d.rd SEQ_FAILCNT := by
  rw [Dev.xpgChange_lost hrun hx hsrc hst, if_pos hact, ← d.ds_setXpg x false, ← d.xen_setXpg x false, ← d.railOn_setXpg r x false,
    ← d.rd_setXpg x false]
  exact (d.setXpg x false).lossReported_shown r

theorem Dev.xpgChange_fails (hact : d.flag (SEQ_RCFG r) SEQ_RCFG.FAILACT = false) (hds : d.ds = drUp) : let e := d.xpgChange x false
    e.LossShown r ∧ d.FailShown r 2 e ∧ e.evtPending 131 = true ∧ e.FaultStarted := by
  rw [Dev.xpgChange_lost hrun hx hsrc hst, if_neg (by simp [hact])]
  obtain ⟨h1, h2, h3⟩ := (d.setXpg x false).lossFailure_shown r ((d.ds_setXpg x false).trans hds)
  exact ⟨h1, h2.of_base (fun a _ => d.rd_setXpg x false a) rfl rfl, h3⟩

end XpgChange

end Sys2Proof.Machine
end

section
/-!
The end of a dwell (R140, R145), and of a stretch of a reset output (R146).
-/

namespace Sys2Proof.Machine

open Sys2Proof Sys2Proof.R

/-! ## The dwell -/

section Dwell

variable {d : Dev} (hds : d.ds = drDwell)
include hds

/-- A dwell with no power-up to come ends in OFF. -/
theorem Dev.setDs_off_of_dwell : d.setDs drOff = d.setFld SEQ_STATUS SEQ_STATUS.STATE drOff := by
  have h : d.holdElapsed drOff = d := by simp [Dev.holdElapsed, hds, drActive]
  rw [Dev.setDs_eq, h, hds]
  rfl

variable (hrun : d.blocksRun = true) (hw : d.loadWaits = false)
include hrun hw

/-- With no load that waits, the dwell ends as the drill has it. -/
theorem Dev.dwellExpired_eq : d.dwellExpired = if d.flag SEQ_STATUS SEQ_STATUS.DEFER then d.startUp d.targetNow
    else d.dwellEnd := by
  have h : d.dwellExpired = d.dwellEnd := by simp [Dev.dwellExpired, hw, Dev.when]
  rw [h]
  split
  · rw [Dev.dwellEnd, if_neg (by simp [hrun, hds]), if_pos ‹_›]
  · rfl

variable (hdef : d.flag SEQ_STATUS SEQ_STATUS.DEFER = false)
include hdef

theorem Dev.dwellExpired_cycle {p : Profile} (hc : d.drill.cycle = some p) : d.dwellExpired = d.startUp p.val := by
  rw [Dev.dwellExpired_eq hds hrun hw, if_neg (by simp [hdef]), Dev.dwellEnd, if_neg (by simp [hrun, hds]), if_neg (by simp [hdef]), hc]

theorem Dev.dwellExpired_off (hc : d.drill.cycle = none) : d.dwellExpired = d.setDs drOff := by
  rw [Dev.dwellExpired_eq hds hrun hw, if_neg (by simp [hdef]), Dev.dwellEnd, if_neg (by simp [hrun, hds]), if_neg (by simp [hdef]), hc]

end Dwell

/-! ## One reset output among the others (R146) -/

theorem getLsbD_one_shiftLeft8 (m n : RstOut) : ((1 : BitVec 8) <<< m.val).getLsbD n.val = decide (n = m) := by
  revert m n; decide

/-- From `d` to `e` nothing changes but other reset outputs, and what events may change. -/
structure Dev.Beside (n : RstOut) (d e : Dev) : Prop where
  outputs : d.Outputs e
  preoff : e.drill.preoff = d.drill.preoff
  owed : e.drill.owed.getLsbD n.val = d.drill.owed.getLsbD n.val
  asserted : e.mbit SEQ_RSTSTAT n.val = d.mbit SEQ_RSTSTAT n.val
  stretching : e.mbit SEQ_RSTSTAT (8 + n.val) = d.mbit SEQ_RSTSTAT (8 + n.val)

theorem Dev.Beside.refl (n : RstOut) (d : Dev) : Dev.Beside n d d := ⟨d.outputs_refl, rfl, rfl, rfl, rfl⟩

theorem Dev.Beside.trans {n : RstOut} {d e g : Dev} (h1 : Dev.Beside n d e) (h2 : Dev.Beside n e g) : Dev.Beside n d g where
  outputs := h1.outputs.trans h2.outputs
  preoff := h2.preoff.trans h1.preoff
  owed := h2.owed.trans h1.owed
  asserted := h2.asserted.trans h1.asserted
  stretching := h2.stretching.trans h1.stretching

/-- The step of an output by its parts: what it owes, whether it asserts, and whether its stretch runs. -/
def Dev.showOut (d : Dev) (m : RstOut) (o : BitVec 8) (now stretch : Bool) : Dev :=
  (({ d with drill := { d.drill with owed := o } } : Dev).setMbit SEQ_RSTSTAT m.val now).setMbit SEQ_RSTSTAT (8 + m.val) stretch

/-- A rail of its mask holds the output. -/
def Dev.outHeld (d : Dev) (m : RstOut) : Bool := !decide (d.rn32 (SEQ_RSTMASK m) % 2 ^ 28 = 0) && d.rstHeld m

/-- Whether the output's stretch runs. -/
def Dev.outStretch (d : Dev) (m : RstOut) : Bool :=
  if decide (d.rn32 (SEQ_RSTMASK m) % 2 ^ 28 = 0) || d.outHeld m then false
  else if d.drill.owed.getLsbD m.val then d.fld (SEQ_RSTCFG m) SEQ_RSTCFG.STRETCH ≠ 0
  else d.mbit SEQ_RSTSTAT (8 + m.val)

/-- Whether the output asserts. -/
def Dev.outNow (d : Dev) (m : RstOut) : Bool := d.flag (SEQ_RSTCFG m) SEQ_RSTCFG.FORCE || d.outHeld m || d.outStretch m

/-- The outputs that owe a stretch. -/
def Dev.outOwed (d : Dev) (m : RstOut) : BitVec 8 :=
  if d.outHeld m then d.drill.owed ||| ((1 : BitVec 8) <<< m.val) else d.drill.owed &&& ~~~((1 : BitVec 8) <<< m.val)

theorem Dev.rstStep_eq (d : Dev) (m : RstOut) : d.rstStep m =
    (if d.mbit SEQ_RSTSTAT m.val = d.outNow m then [] else [140 + m.val], d.showOut m (d.outOwed m) (d.outNow m) (d.outStretch m)) := rfl

section ShowOut

variable (d : Dev) (m : RstOut) (o : BitVec 8) (now stretch : Bool)

theorem Dev.mbit_owed (i : Nat) : ({ d with drill := { d.drill with owed := o } } : Dev).mbit SEQ_RSTSTAT i = d.mbit SEQ_RSTSTAT i := rfl

theorem Dev.mbit_showOut_other {i : Nat} (h1 : i ≠ m.val) (h2 : i ≠ 8 + m.val) :
    (d.showOut m o now stretch).mbit SEQ_RSTSTAT i = d.mbit SEQ_RSTSTAT i := by
  rw [Dev.showOut, Dev.mbit_setMbit_ne _ _ _ _ _ h2, Dev.mbit_setMbit_ne _ _ _ _ _ h1, Dev.mbit_owed]

theorem Dev.asserted_showOut : (d.showOut m o now stretch).mbit SEQ_RSTSTAT m.val = now := by
  rw [Dev.showOut, Dev.mbit_setMbit_ne _ _ _ _ _ (by omega), Dev.mbit_setMbit_same]

theorem Dev.stretching_showOut : (d.showOut m o now stretch).mbit SEQ_RSTSTAT (8 + m.val) = stretch := Dev.mbit_setMbit_same _ _ _ _

theorem Dev.owed_showOut : (d.showOut m o now stretch).drill.owed = o := rfl
theorem Dev.preoff_showOut : (d.showOut m o now stretch).drill.preoff = d.drill.preoff := rfl

end ShowOut

theorem Dev.beside_rstStep (d : Dev) {n m : RstOut} (h : m ≠ n) : Dev.Beside n d (d.rstStep m).2 := by
  have hne : n.val ≠ m.val := fun e => h (Fin.ext e.symm)
  refine ⟨d.outputs_rstStep m, ?_, ?_, ?_, ?_⟩ <;> rw [Dev.rstStep_eq]
  · exact d.preoff_showOut m _ _ _
  · rw [Dev.owed_showOut, Dev.outOwed]
    split
    · rw [BitVec.getLsbD_or, getLsbD_one_shiftLeft8]
      simp [Ne.symm h]
    · rw [BitVec.getLsbD_and, BitVec.getLsbD_not, getLsbD_one_shiftLeft8]
      simp [Ne.symm h, n.isLt]
  · exact d.mbit_showOut_other m _ _ _ hne (by omega)
  · exact d.mbit_showOut_other m _ _ _ (by omega) (by omega)

theorem beside_foldl_rstGather {n : RstOut} (ns : List RstOut) (hn : n ∉ ns) (x : List Nat × Dev) :
    Dev.Beside n x.2 (ns.foldl rstGather x).2 ∧ ∀ e ∈ x.1, e ∈ (ns.foldl rstGather x).1 := by
  induction ns generalizing x with
  | nil => exact ⟨.refl n x.2, fun _ h => h⟩
  | cons m ns ih =>
    obtain ⟨hm, hns⟩ := not_or.mp (List.mem_cons.not.mp hn)
    obtain ⟨h1, h2⟩ := ih hns (rstGather x m)
    exact ⟨(x.2.beside_rstStep (Ne.symm hm)).trans h1, fun e he => h2 e (List.mem_append_left _ he)⟩

/-- The outputs before and after output `n`, in their order. -/
theorem finRange_around (n : RstOut) : ∃ as bs : List RstOut, List.finRange 8 = as ++ n :: bs ∧ n ∉ as ∧ n ∉ bs := by
  obtain ⟨as, bs, h⟩ := List.append_of_mem (List.mem_finRange n)
  have hd := List.nodup_finRange 8
  rw [h, List.nodup_append, List.nodup_cons] at hd
  exact ⟨as, bs, h, fun ha => hd.2.2 n ha n (List.mem_cons_self ..) rfl, hd.2.1.1⟩

section Held

variable (n : RstOut) (r : Rail)

theorem seqReg_RSTCFG : seqReg (SEQ_RSTCFG n) = true := by revert n; decide
theorem RSTCFG_ne_RSTSTAT : SEQ_RSTCFG n ≠ SEQ_RSTSTAT := by revert n; decide
theorem seqReg_RSTMASK : seqReg (SEQ_RSTMASK n + 2 * (r.val / 16)) = true := by revert n r; decide
theorem RSTMASK_ne_RSTSTAT : SEQ_RSTMASK n + 2 * (r.val / 16) ≠ SEQ_RSTSTAT := by revert n r; decide

variable {d e : Dev} (h : d.Outputs e)
include h

theorem Dev.Outputs.force : e.flag (SEQ_RSTCFG n) SEQ_RSTCFG.FORCE = d.flag (SEQ_RSTCFG n) SEQ_RSTCFG.FORCE := by
  rw [Dev.flag, Dev.flag, Dev.fld_of_rd _ (by decide) (h.seq _ (seqReg_RSTCFG n) (RSTCFG_ne_RSTSTAT n))]

/-- Whether the rails, or PREOFF, hold an output. -/
theorem Dev.Outputs.rstHeld (hp : e.drill.preoff = d.drill.preoff) : e.rstHeld n = d.rstHeld n := by
  have hmask (r : Rail) : e.mbit (SEQ_RSTMASK n) r.val = d.mbit (SEQ_RSTMASK n) r.val := by
    rw [Dev.mbit, h.seq _ (seqReg_RSTMASK n r) (RSTMASK_ne_RSTSTAT n r)]
    rfl
  simp only [Dev.rstHeld, hp, hmask, h.rstate]

end Held

/-! ## The end of a stretch -/

/-- An output whose stretch does not run and that owes none: it asserts only by FORCE or a rail that holds it. -/
theorem Dev.rstStep_unstretched {d : Dev} {n : RstOut} (hs : d.mbit SEQ_RSTSTAT (8 + n.val) = false)
    (ho : d.drill.owed.getLsbD n.val = false) :
    (d.rstStep n).2.mbit SEQ_RSTSTAT (8 + n.val) = false ∧
      (d.flag (SEQ_RSTCFG n) SEQ_RSTCFG.FORCE = false → d.rstHeld n = false → (d.rstStep n).2.mbit SEQ_RSTSTAT n.val = false ∧
        (d.mbit SEQ_RSTSTAT n.val = true → 140 + n.val ∈ (d.rstStep n).1)) := by
  have hst : d.outStretch n = false := by
    unfold Dev.outStretch
    rw [ho, hs]
    split <;> rfl
  rw [Dev.rstStep_eq]
  refine ⟨(d.stretching_showOut n _ _ _).trans hst, fun hf hh => ?_⟩
  have hnow : d.outNow n = false := by simp [Dev.outNow, Dev.outHeld, hf, hh, hst]
  exact ⟨(d.asserted_showOut n _ _ _).trans hnow, fun hw => by simp [hw, hnow]⟩

/-- The outputs follow their rails; output `n`, whose stretch does not run, is released where nothing holds it. -/
theorem Dev.rstSync_unstretched {d : Dev} {n : RstOut} (hrun : d.blocksRun = true) (hs : d.mbit SEQ_RSTSTAT (8 + n.val) = false)
    (ho : d.drill.owed.getLsbD n.val = false) :
    d.rstSync.mbit SEQ_RSTSTAT (8 + n.val) = false ∧
      (d.flag (SEQ_RSTCFG n) SEQ_RSTCFG.FORCE = false → d.rstHeld n = false → d.rstSync.mbit SEQ_RSTSTAT n.val = false ∧
        (d.mbit SEQ_RSTSTAT n.val = true → d.rstSync.evtPending (140 + n.val) = true)) := by
  have hlt := foldl_rstGather_lt (List.finRange 8) ([], d) (by simp)
  have heq : d.rstSync = ((List.finRange 8).foldl rstGather ([], d)).2.raiseAll ((List.finRange 8).foldl rstGather ([], d)).1 := by
    rw [Dev.rstSync_eq, hrun]
    rfl
  obtain ⟨as, bs, hl, has, hbs⟩ := finRange_around n
  obtain ⟨hpre, -⟩ := beside_foldl_rstGather as has ([], d)
  generalize hx : as.foldl rstGather ([], d) = x at hpre
  obtain ⟨hpost, hmem⟩ := beside_foldl_rstGather bs hbs (rstGather x n)
  have hfold : (List.finRange 8).foldl rstGather ([], d) = bs.foldl rstGather (rstGather x n) := by
    rw [hl, List.foldl_append, hx]
    rfl
  rw [hfold] at heq hlt
  generalize bs.foldl rstGather (rstGather x n) = y at hpost hmem heq hlt
  have hbit (i : Nat) (hi : i < 16) : d.rstSync.mbit SEQ_RSTSTAT i = y.2.mbit SEQ_RSTSTAT i := by
    rw [heq, Dev.mbit, Dev.mbit, Nat.div_eq_of_lt hi]
    exact congrArg (BitVec.getLsbD · _) ((y.2.quiet_raiseAll y.1 hlt).2 _ (by decide))
  obtain ⟨h1, h2⟩ := Dev.rstStep_unstretched (d := x.2) (n := n) (hpre.stretching.trans hs) (hpre.owed.trans ho)
  refine ⟨((hbit _ (by omega)).trans hpost.stretching).trans h1, fun hf hh => ?_⟩
  obtain ⟨h3, h4⟩ := h2 ((hpre.outputs.force n).trans hf) ((hpre.outputs.rstHeld n hpre.preoff).trans hh)
  refine ⟨((hbit _ (by omega)).trans hpost.asserted).trans h3, fun hw => ?_⟩
  rw [heq]
  exact Dev.evtPending_raiseAll _ _ hlt (hmem _ (List.mem_append_right _ (h4 (hpre.asserted.trans hw))))

/-- The blocks run by the device's state and its boot. -/
theorem Dev.blocksRun_of {d e : Dev} (h : e.rd CFG_DSTATE = d.rd CFG_DSTATE) (hb : e.boot = d.boot) : e.blocksRun = d.blocksRun := by
  rw [Dev.blocksRun, Dev.blocksRun, Dev.latched, Dev.latched, Dev.dstate, Dev.dstate, Dev.fld_of_rd _ (by decide) h, hb]

theorem Dev.blocksRun_setRstat (d : Dev) {i : Nat} (hi : i < 16) (b : Bool) : (d.setMbit SEQ_RSTSTAT i b).blocksRun = d.blocksRun :=
  Dev.blocksRun_of (Dev.rd_setMbit_ne d b (by rw [Nat.div_eq_of_lt hi]; decide)) rfl

/-- A stretch that expires ends, and the output is released where nothing holds it. -/
theorem Dev.stretchExpiry_ends {d : Dev} {n : RstOut} (hrun : d.blocksRun = true) (hs : d.mbit SEQ_RSTSTAT (8 + n.val) = true)
    (ho : d.drill.owed.getLsbD n.val = false) :
    (d.stretchExpiry n).mbit SEQ_RSTSTAT (8 + n.val) = false ∧
      (d.flag (SEQ_RSTCFG n) SEQ_RSTCFG.FORCE = false → d.rstHeld n = false → (d.stretchExpiry n).mbit SEQ_RSTSTAT n.val = false ∧
        (d.mbit SEQ_RSTSTAT n.val = true → (d.stretchExpiry n).evtPending (140 + n.val) = true)) := by
  have heq : d.stretchExpiry n = (d.setMbit SEQ_RSTSTAT (8 + n.val) false).rstSync := by
    rw [Dev.stretchExpiry, if_pos (by simp [hrun, hs])]
  have hout := d.outputs_setMbit (i := 8 + n.val) (by omega) false
  have hdrill := d.setMbit_drill SEQ_RSTSTAT (8 + n.val) false
  have hbit := d.mbit_setMbit_same SEQ_RSTSTAT (8 + n.val) false
  have hown := d.mbit_setMbit_ne SEQ_RSTSTAT (8 + n.val) n.val false (by omega)
  have hblocks := (d.blocksRun_setRstat (i := 8 + n.val) (by omega) false).trans hrun
  rw [heq]
  generalize d.setMbit SEQ_RSTSTAT (8 + n.val) false = e at hout hdrill hbit hown hblocks
  obtain ⟨h1, h2⟩ := Dev.rstSync_unstretched (n := n) hblocks hbit (by rw [hdrill, ho])
  refine ⟨h1, fun hf hh => ?_⟩
  obtain ⟨h3, h4⟩ := h2 ((hout.force n).trans hf) ((hout.rstHeld n (by rw [hdrill])).trans hh)
  exact ⟨h3, fun hw => h4 (hown.trans hw)⟩

end Sys2Proof.Machine
end

section
/-!
On-slots (R132, R143, R165): an external rail's output is driven, or the loop of the rail starts.
-/

namespace Sys2Proof.Machine

open Sys2Proof Sys2Proof.R

/-! ## The urgent conversion at an on-slot (R165) -/

/-- From `d` to `e` nothing changes but the seats and converters, MS_STICKY and MS_SLIPCNT. -/
structure Dev.Measures (d e : Dev) : Prop where
  rd : ∀ a, a ≠ MS_STICKY → a ≠ MS_SLIPCNT → e.rd a = d.rd a
  rest : { e with regs := d.regs, meas := d.meas } = d

namespace Dev.Measures

theorem refl (d : Dev) : d.Measures d := ⟨fun _ _ _ => rfl, rfl⟩

theorem trans {d e g : Dev} (h1 : d.Measures e) (h2 : e.Measures g) : d.Measures g where
  rd a ha hb := (h2.rd a ha hb).trans (h1.rd a ha hb)
  rest := by
    have h := congrArg (fun x : Dev => { x with regs := d.regs, meas := d.meas }) h2.rest
    exact h.trans h1.rest

theorem foldl {α : Type} {f : Dev → α → Dev} (hf : ∀ e x, Dev.Measures e (f e x)) (l : List α) (d : Dev) :
    d.Measures (l.foldl f d) := by
  induction l generalizing d with
  | nil => exact refl d
  | cons x l ih => exact (hf d x).trans (ih _)

end Dev.Measures

section Urgent

variable (d : Dev)

theorem Dev.measures_meas (m : MeasSt) : d.Measures { d with meas := m } := ⟨fun _ _ _ => rfl, rfl⟩

theorem Dev.measures_wr {a : Nat} (v : Word) (h : a = MS_STICKY ∨ a = MS_SLIPCNT) : d.Measures (d.wr a v) :=
  ⟨fun _ h1 h2 => Dev.rd_wr_ne d v fun e => h.elim (fun ha => h1 (e.trans ha)) fun ha => h2 (e.trans ha), rfl⟩

theorem Dev.measures_sticky (f : Fld) (hf : f.lo + f.w ≤ 16) (b : Bool) : d.Measures (d.setFlag MS_STICKY f b) := by
  simp only [Dev.setFlag, Dev.setFld, hf, ↓reduceIte]
  exact d.measures_wr _ (.inl rfl)

theorem Dev.measures_setConv (a : Adc) (c : Option Conv) : d.Measures (d.setConv a c) := d.measures_meas _
theorem Dev.measures_modSeat (k : Fin 24) (g : SeatSt → SeatSt) : d.Measures (d.modSeat k g) := d.measures_meas _
theorem Dev.measures_modSeq (s : SeqNo) (g : SeqSt → SeqSt) : d.Measures (d.modSeq s g) := d.measures_meas _

theorem Dev.measures_sample (e t : Nat) : d.Measures (d.sample e t) := by
  unfold Dev.sample
  split
  · exact .refl d
  split
  · exact .refl d
  · exact ((d.measures_setConv _ _).trans (Dev.measures_modSeat _ _ _)).trans (Dev.measures_modSeq _ _ _)

theorem Dev.measures_startGroup (e t : Nat) : d.Measures (d.startGroup e t) := by
  refine .foldl (fun e' x => (e'.measures_sample x (d.groupInstant e t)).trans (e := e'.sample x (d.groupInstant e t)) ?_) _ d
  unfold Dev.when
  split
  · exact (Dev.measures_wr _ _ (.inr rfl)).trans (Dev.measures_sticky _ _ (by decide) _)
  · exact .refl _

theorem Dev.measures_startSeat (lim : Nat) (k : Fin 24) : d.Measures (d.startSeat lim k) := by
  unfold Dev.startSeat
  split
  · exact .refl d
  split
  · exact .refl d
  · split
    · exact d.measures_startGroup _ _
    · exact .refl d

theorem Dev.measures_startSeats (lim : Nat) : d.Measures (d.startSeats lim) := by
  unfold Dev.startSeats
  split
  · exact .foldl (fun d k => d.measures_startSeat lim k) _ d
  · exact .refl d

theorem Dev.measures_abandon (k : Fin 24) : d.Measures (d.abandon k) := by
  unfold Dev.abandon
  split
  · exact .refl d
  split
  · split
    · exact .refl d
    · exact (d.measures_setConv _ _).trans (Dev.measures_modSeat _ _ _)
  · exact .refl d

theorem Dev.measures_startHeld (k : Fin 24) : d.Measures (d.startHeld k) := by
  unfold Dev.startHeld
  split
  · exact .refl d
  split
  · exact .refl d
  · dsimp only
    split
    · exact (d.measures_setConv _ _).trans (Dev.measures_modSeat _ _ _)
    · exact (d.measures_setConv _ _).trans (Dev.measures_modSeat _ _ _)
    · exact .refl d

theorem Dev.measures_urgent (e : Nat) (src : Fin 20) : d.Measures (d.urgent e src) := by
  unfold Dev.urgent
  split
  · exact d.measures_sticky _ (by decide) true
  split
  · exact d.measures_sticky _ (by decide) true
  split
  · exact .refl d
  · refine Dev.Measures.trans ?_ (Dev.measures_startHeld _ _)
    refine Dev.Measures.trans ?_ (Dev.measures_modSeat _ _ _)
    exact ((d.measures_startSeats _).trans (Dev.measures_abandon _ _)).trans (Dev.measures_meas _ _)

end Urgent

section Measures

variable {d e : Dev} (h : d.Measures e)
include h

theorem Dev.Measures.rd_seqReg {a : Nat} (ha : seqReg a = true) : e.rd a = d.rd a :=
  h.rd a (by rintro rfl; revert ha; decide) (by rintro rfl; revert ha; decide)

theorem Dev.Measures.rd_loopReg {a : Nat} (ha : loopReg a = true) : e.rd a = d.rd a :=
  h.rd a (by rintro rfl; revert ha; decide) (by rintro rfl; revert ha; decide)

theorem Dev.Measures.drill : e.drill = d.drill := by simpa using congrArg Dev.drill h.rest
theorem Dev.Measures.loops : e.loops = d.loops := by simpa using congrArg Dev.loops h.rest

end Measures

/-! ## The soft-start (R52) -/

/-- The words that a soft-start takes from the sense pins. -/
def senseReg (n : Loop) (a : Nat) : Prop := a = LP_PREBIAS n ∨ a = LP_VOUT n ∨ a = LP_VREF n

theorem WorkClosed.softStart {n : Loop} {J : Phase → Prop} {R : Dev → Dev → Prop} (h : WorkClosed n J R) (hj : ∀ m, J m)
    (hw : ∀ (d : Dev) (a : Nat) (v : Word), senseReg n a → R d (d.wr a v)) (d : Dev) (vout : Nat) : R d (d.softStart n vout) := by
  unfold Dev.softStart
  split
  · exact h.refl d
  dsimp only
  split
  · exact h.trans (h.evalCfgErr d) (h.when fun _ => h.spFault _)
  · refine h.trans ?_ (h.evalShed hj _)
    refine h.trans ?_ (h.cfgErr _ _)
    refine h.trans ?_ (h.state _ _)
    refine h.trans ?_ (h.foldl _ _ _ fun e m _ => h.phTrim e m _ (hj m))
    refine h.trans ?_ (h.loop _ _)
    refine h.trans ?_ (hw _ _ _ (.inr (.inr rfl)))
    refine h.trans ?_ (h.sumIout _)
    refine h.trans ?_ (hw _ _ _ (.inr (.inl rfl)))
    refine h.trans ?_ (hw _ _ _ (.inl rfl))
    exact h.trans (h.evalCfgErr d) (h.when fun _ => h.spFault _)

/-- The words that a soft-start may write, beside the status of its loop. -/
def startedReg (n : Loop) (a : Nat) : Prop := tailReg n a ∨ loopReg a = true

theorem keeps_startedStep (n : Loop) {F : List Fld} (ht : LP_STATUS.ACTPH ∈ F ∧ LP_STATUS.CFGERR ∈ F)
    (hs : LP_STATUS.STEPHOLD ∈ F) :
    StepClosed n (fun _ => True) (Dev.Keeps n (startedReg n) F) :=
  keeps_step (keeps_phase (keeps_tail (fun _ h => .inl h) ht) (by
      rintro a ⟨m, -, rfl | rfl | rfl⟩ <;> exact .inr (loopReg_phase m (by decide) (by decide)))) (by
    rintro a (rfl | rfl) <;> exact .inr (loopReg_loop n (by decide) (by decide))) hs

theorem keeps_startedReg (n : Loop) : WorkClosed n (fun _ => True) (Dev.Keeps n (startedReg n) workFields) :=
  keeps_work (keeps_startedStep n (by decide) (by decide)) (by decide)

theorem not_startedReg_of_seqReg {n : Loop} {a : Nat} (h : seqReg a = true) : ¬startedReg n a := by
  have hr : 0x1000 ≤ a ∧ a < 0x1C00 := by simpa [seqReg] using h
  have := n.isLt
  rintro ((hh | ⟨k, rfl⟩ | rfl | rfl) | hl)
  · rw [hopReg_of_seqReg h] at hh; cases hh
  · have := k.isLt
    simp only [VL_STATUS] at hr
    omega
  · simp only [LP_IOUT] at hr
    omega
  · simp only [LP_POUT] at hr
    omega
  · rw [loopReg_iff] at hl
    omega

theorem Dev.rd_softStart (d : Dev) (n : Loop) (vout : Nat) {a : Nat} (h : seqReg a = true) : (d.softStart n vout).rd a = d.rd a := by
  have hk := (keeps_startedReg n).softStart (fun _ => trivial) (fun e b v hb => by
    obtain rfl | rfl | rfl := hb <;>
      exact e.keeps_wr_loop v (.inr (loopReg_loop n (by decide) (by decide))) (by decide) (by decide) (by decide)) d vout
  refine hk.rd a (not_startedReg_of_seqReg h) (fun e => ?_) (evtReg_of_seqReg h)
  have hl := loopReg_LP_STATUS n
  rw [← e, loopReg_iff] at hl
  simp only [seqReg, Bool.and_eq_true, decide_eq_true_eq] at h
  omega

/-- The drill beside its registers stays in the work of a loop. -/
theorem drillKept_work (n : Loop) : WorkClosed n (fun _ => True) fun d e => e.drill = d.drill where
  refl _ := rfl
  trans h1 h2 := h2.trans h1
  recorder _ _ := rfl
  nvCount _ _ _ := rfl
  nvBytes _ _ _ := rfl
  nvWrite _ _ _ := rfl
  queue _ _ _ := rfl
  wr _ _ _ _ _ := rfl
  stat _ _ _ := rfl
  hopWr _ _ _ _ := rfl
  hopper _ _ := rfl
  unqueue _ _ := rfl
  actph d _ := d.setFld_drill _ _ _
  cfgErr d _ := d.setFlag_drill _ _ _
  iout _ _ := rfl
  pout _ _ := rfl
  offset _ _ _ := rfl
  links _ _ := rfl
  attn d _ _ := d.setFlag_drill _ _ _
  phState _ _ _ _ := rfl
  phTrim _ _ _ _ := rfl
  phIout _ _ _ _ := rfl
  phase _ _ _ _ := rfl
  stepCnt _ _ := rfl
  sticky _ _ := rfl
  stepHold d _ := d.setFlag_drill _ _ _
  spoil _ := rfl
  holdPend _ _ := rfl
  state d _ := d.setFld_drill _ _ _
  pg d _ := d.setFlag_drill _ _ _
  settled d _ := d.setFlag_drill _ _ _
  loop _ _ := rfl

theorem Dev.drill_softStart (d : Dev) (n : Loop) (vout : Nat) : (d.softStart n vout).drill = d.drill :=
  (drillKept_work n).softStart (fun _ => trivial) (fun _ _ _ _ => rfl) d vout

/-- A suspension of shedding leaves the loop's state. -/
theorem Dev.lstate_evalShed (d : Dev) (n : Loop) : (d.evalShed n).lstate n = d.lstate n := by
  have hk := keeps_startedStep n (F := [LP_STATUS.ACTPH, LP_STATUS.CFGERR, LP_STATUS.STEPHOLD]) (by decide) (by decide)
  refine Dev.Keeps.fld (n := n) (W := startedReg n) (F := [LP_STATUS.ACTPH, LP_STATUS.CFGERR, LP_STATUS.STEPHOLD]) ?_ _ (by decide)
    (by decide)
  unfold Dev.evalShed
  dsimp only
  split
  · refine hk.trans ?_ (hk.rejoin _ fun _ _ => trivial)
    exact (d.keeps_modLoop n _).trans (hk.stickyFlag _ _ (by decide) _)
  · exact d.keeps_modLoop n _

/-- A start that nothing refuses ends in SOFT_START. -/
theorem Dev.softStart_starts {d : Dev} {n : Loop} (vout : Nat) (ho : d.lstate n = lsOff) (hp : d.phasesOf n ≠ [])
    (hc : (d.evalCfgErr n).flag (LP_STATUS n) LP_STATUS.CFGERR = false) : (d.softStart n vout).lstate n = lsSoftStart := by
  have hph : ((d.evalCfgErr n).phasesOf n).isEmpty = false := by
    rw [Dev.phasesOf_congr (d := d) n fun m => (d.keeps_evalCfgErr n (W := fun _ => False)).rd _ not_false (by
      have := n.isLt
      simp only [PH_CFG, LP_STATUS]
      omega) (evtReg_of_loopReg (loopReg_phase m (by decide) (by decide)))]
    simpa using hp
  have hg : ∃ g : Dev, d.softStart n vout = ((g.setLstate n lsSoftStart).setFlag (LP_STATUS n) LP_STATUS.CFGERR false).evalShed n := by
    unfold Dev.softStart
    rw [if_neg (not_not.mpr ho)]
    dsimp only
    rw [if_neg (by simp [hc, hph])]
    exact ⟨_, rfl⟩
  obtain ⟨g, hg⟩ := hg
  rw [hg, Dev.lstate_evalShed, Dev.lstate, Dev.setFlag, Dev.fld_setFld_disjoint _ _ _ _ _ (by decide) (by decide) (by decide),
    Dev.setLstate, Dev.fld_setFld_same _ _ _ _ (by decide)]
  rfl

/-! ## CFGERR from the registers of the loop (R482) -/

theorem Dev.loopCfgBad_congr {d e : Dev} {n : Loop} (h : ∀ a, loopReg a = true → e.rd a = d.rd a) (hl : e.loop n = d.loop n) :
    e.loopCfgBad n = d.loopCfgBad n := by
  have hph (m : Phase) : e.rd (PH_CFG m) = d.rd (PH_CFG m) := h _ (loopReg_phase m (by decide) (by decide))
  have horder (m : Phase) : e.order m = d.order m := Dev.fld_of_rd _ (by decide) (hph m)
  have hclash : e.orderClash n = d.orderClash n := by
    simp only [Dev.orderClash, Dev.phasesOf_congr n hph, horder]
  have hlim : e.limitsBad n = d.limitsBad n := Dev.limitsBad_congr fun b h1 h2 _ _ => h _ (loopReg_loop n h1 h2)
  have hosr : e.osr n = d.osr n := by
    rw [Dev.osr, Dev.osr, Dev.fld_of_rd LP_CFG.OSR (by decide) (h _ (loopReg_loop n (b := 0x2002) (by decide) (by decide)))]
  have hper : e.fld (LP_PERIOD n) LP_PERIOD.PERIOD = d.fld (LP_PERIOD n) LP_PERIOD.PERIOD :=
    Dev.fld_of_rd _ (by decide) (h _ (loopReg_loop n (by decide) (by decide)))
  have hcfg (f : Fld) (hf : f.lo + f.w ≤ 16) : e.fld (LP_CFG n) f = d.fld (LP_CFG n) f :=
    Dev.fld_of_rd f hf (h _ (loopReg_loop n (by decide) (by decide)))
  rw [Dev.loopCfgBad, Dev.loopCfgBad, hper, hcfg LP_CFG.ATTEN (by decide), hcfg LP_CFG.OSR (by decide), hcfg LP_CFG.SPSRC (by decide),
    hosr, hl, hlim, hclash]

theorem Dev.cfgErr_congr {d e : Dev} {n : Loop} (h : ∀ a, loopReg a = true → e.rd a = d.rd a) (hl : e.loop n = d.loop n) :
    (e.evalCfgErr n).flag (LP_STATUS n) LP_STATUS.CFGERR = (d.evalCfgErr n).flag (LP_STATUS n) LP_STATUS.CFGERR := by
  have hst : e.lstate n = d.lstate n := Dev.fld_of_rd _ (by decide) (h _ (loopReg_LP_STATUS n))
  rw [Dev.evalCfgErr, Dev.evalCfgErr, Dev.flag_setFlag_same _ _ _ _ (by decide) (by decide),
    Dev.flag_setFlag_same _ _ _ _ (by decide) (by decide), hst, Dev.loopCfgBad_congr h hl]

end Sys2Proof.Machine
end

section
/-!
The on-slot of a rail as a whole (R132), and the statement about slots, time-outs and pins.
-/

namespace Sys2Proof.Machine

open Sys2Proof Sys2Proof.R

/-! ## An on-slot by its parts -/

/-- The instant of the on-slot is held. -/
def Dev.startAt (d : Dev) (r : Rail) : Dev := { d with drill := { d.drill with onAt := d.drill.onAt.set r d.now } }

/-- The rail is RISING. -/
def Dev.markRising (d : Dev) (r : Rail) : Dev :=
  (d.setRstate r rsRising).setElapsedRail r (12 ≤ r.val && d.fld (SEQ_RCFG r) SEQ_RCFG.PGSRC = 3 && d.rn (SEQ_RTO r) = 0)

/-- The on action of a rail (R132, R165): its loop starts, or XENn goes high. -/
def Dev.startOut (d : Dev) (r : Rail) (vout : Nat) : Dev :=
  match loopOf r.val with
  | some n => (d.urgent (32 + n.val) 19).softStart n vout
  | none => d.setXen r true

/-- A rail is on, for SEQ_RAILON. -/
def Dev.markOn (d : Dev) (r : Rail) : Dev := d.setMbit SEQ_RAILON r.val true

theorem Dev.setRailOn_eq (d : Dev) (r : Rail) : d.setRailOn r true = (d.markOn r).syncDevice := rfl

section ElapsedRail

variable (d : Dev) (r : Rail) (b : Bool)

theorem Dev.rd_setElapsedRail (a : Nat) : (d.setElapsedRail r b).rd a = d.rd a := rfl
theorem Dev.setElapsedRail_loops : (d.setElapsedRail r b).loops = d.loops := rfl
theorem Dev.setElapsedRail_onAt : (d.setElapsedRail r b).drill.onAt = d.drill.onAt := rfl

end ElapsedRail

section Slot

variable (d : Dev) (r : Rail)

theorem Dev.rd_startAt (a : Nat) : (d.startAt r).rd a = d.rd a := rfl
theorem Dev.loops_startAt : (d.startAt r).loops = d.loops := rfl
theorem Dev.onAt_startAt : (d.startAt r).drill.onAt[r] = d.now := Vector.getElem_set_self ..

theorem Dev.rstate_markRising : (d.markRising r).rstate r = rsRising := by
  rw [Dev.markRising, Dev.rstate_setElapsedRail, Dev.rstate_setRstate_same _ r rsRising (by decide)]

theorem Dev.rd_markRising {a : Nat} (h : loopReg a = true) : (d.markRising r).rd a = d.rd a := by
  rw [Dev.markRising, Dev.rd_setElapsedRail]
  refine (d.onlyRegs_setRstate r rsRising).1 a fun hs => ?_
  have := (anyStateReg_lt ⟨r, hs⟩).2
  rw [loopReg_iff] at h
  omega

theorem Dev.loops_markRising : (d.markRising r).loops = d.loops := by
  rw [Dev.markRising, Dev.setElapsedRail_loops]
  simpa using congrArg Dev.loops (d.onlyRegs_setRstate r rsRising).2

theorem Dev.onAt_markRising : (d.markRising r).drill.onAt = d.drill.onAt := by
  rw [Dev.markRising, Dev.setElapsedRail_onAt, Dev.setRstate_drill]

variable (vout : Nat)

/-- The on action leaves the rail's state, and the instant of the slot. -/
theorem Dev.startOut_rest : (d.startOut r vout).rstate r = d.rstate r ∧ (d.startOut r vout).drill.onAt = d.drill.onAt := by
  unfold Dev.startOut
  split
  · rename_i n _
    have hu := d.measures_urgent (32 + n.val) 19
    refine ⟨Dev.fld_of_rd _ (by decide) ?_, ?_⟩
    · rw [Dev.rd_softStart _ n vout (seqReg_RSTATE r), hu.rd_seqReg (seqReg_RSTATE r)]
    · rw [Dev.drill_softStart, hu.drill]
  · exact ⟨rfl, rfl⟩

theorem Dev.xen_startOut {x : Fin 16} (hx : r.val = 12 + x.val) : (d.startOut r vout).pins.xen[x] = true := by
  rw [Dev.startOut, loopOf_external (by omega)]
  exact d.xen_setXen true hx

/-- The on action of a loop that nothing refuses is its soft-start. -/
theorem Dev.lstate_startOut {n : Loop} (hn : r.val = n.val) (ho : d.lstate n = lsOff) (hp : d.phasesOf n ≠ [])
    (hc : (d.evalCfgErr n).flag (LP_STATUS n) LP_STATUS.CFGERR = false) : (d.startOut r vout).lstate n = lsSoftStart := by
  have hu := d.measures_urgent (32 + n.val) 19
  have hrd {a : Nat} (ha : loopReg a = true) := hu.rd_loopReg ha
  rw [Dev.startOut, loopOf_rail hn]
  refine Dev.softStart_starts vout ?_ ?_ ?_
  · exact (Dev.fld_of_rd _ (by decide) (hrd (loopReg_LP_STATUS n))).trans ho
  · rwa [Dev.phasesOf_congr n fun m => hrd (loopReg_phase m (by decide) (by decide))]
  · exact (Dev.cfgErr_congr (fun _ ha => hrd ha) (by rw [Dev.loop, hu.loops, Dev.loop])).trans hc

/-! ## The rail is on, and supervised -/

theorem Dev.railOn_markOn : (d.markOn r).railOn r = true := Dev.mbit_setMbit_same _ _ _ _

theorem Dev.rstate_markOn : (d.markOn r).rstate r = d.rstate r :=
  Dev.fld_of_rd _ (by decide) (Dev.rd_setMbit_ne _ _ (by
    have := r.isLt
    simp only [SEQ_RSTATE, SEQ_RAILON]
    omega))

theorem Dev.rd_markOn {a : Nat} (h : loopReg a = true) : (d.markOn r).rd a = d.rd a := Dev.rd_setMbit_ne _ _ (by
  have := r.isLt
  rw [loopReg_iff] at h
  simp only [SEQ_RAILON]
  omega)

theorem Dev.onAt_markOn : (d.markOn r).drill.onAt = d.drill.onAt := rfl
theorem Dev.pins_markOn : (d.markOn r).pins = d.pins := rfl

/-- What a rail that has come on shows, RISING or GOOD at once. -/
structure Dev.CameOn (d : Dev) (r : Rail) (e : Dev) : Prop where
  railOn : e.railOn r = true
  onAt : e.drill.onAt = d.drill.onAt
  pins : e.pins = d.pins
  rd : ∀ a, loopReg a = true → e.rd a = d.rd a

theorem Dev.cameOn_setRailOn (h : d.rstate r = rsRising) :
    d.CameOn r (d.setRailOn r true) ∧ (d.setRailOn r true).rstate r = rsRising := by
  have hs := (d.markOn r).sameDrill_syncDevice
  have ht := Dev.turns_syncDevice (W := (moveReg · = true)) (fun _ h => h) (d.markOn r)
  rw [Dev.setRailOn_eq]
  refine ⟨⟨(hs.railOn r).trans (d.railOn_markOn r), ?_, ?_, fun a ha => ?_⟩, ?_⟩
  · rw [hs.onAt, Dev.onAt_markOn]
  · rw [ht.pins, Dev.pins_markOn]
  · rw [ht.rd a (by simp [moveReg_of_loopReg ha]) (evtReg_of_loopReg ha), Dev.rd_markOn d r ha]
  · rw [hs.rstate, Dev.rstate_markOn, h]

theorem Dev.CameOn.railPoll {d e : Dev} {r : Rail} (h : d.CameOn r e) (hst : e.rstate r = rsRising) : d.CameOn r (e.railPoll r) := by
  have hgood : d.CameOn r (e.railGood r) := by
    refine ⟨(e.railOn_railGood r r).trans h.railOn, (e.onAt_railGood r).trans h.onAt, (e.pins_railGood r).trans h.pins, fun a ha => ?_⟩
    refine (e.rd_railGood (turnReg_of_not_moveReg (moveReg_of_loopReg ha)) ?_ (evtReg_of_loopReg ha)).trans (h.rd a ha)
    have := r.isLt
    rw [loopReg_iff] at ha
    simp only [SEQ_RUPTIME]
    omega
  cases hrun : e.blocksRun with
  | true =>
    rw [Dev.railPoll_rising hrun hst]
    split
    · exact hgood
    · exact h
  | false =>
    have : e.railPoll r = e := by simp [Dev.railPoll, hrun]
    rwa [this]

end Slot

/-! ## The on-slot -/

section OnSlot

variable {d : Dev} {r : Rail} (vout : Nat) (hrun : d.blocksRun = true) (hst : d.rstate r = rsWaiting) (hr : d.rises)
include hrun hst hr

theorem Dev.onSlot_due :
    ¬(!(d.blocksRun && d.rstate r = rsWaiting && (d.ds = drRising || (d.ds = drSwitching && d.drill.phase2)))) = true := by
  rcases hr with h | ⟨h, h2⟩ <;> simp [*]

theorem Dev.onSlot_shed (hs : d.bgShedding = true) (hl : d.mbit BG_LLSHED r.val = true) :
    d.onSlot r vout = (d.markShed r).checkUp := by
  rw [Dev.onSlot, if_neg (Dev.onSlot_due hrun hst hr), if_pos (by simp [hs, hl])]

theorem Dev.onSlot_rises (hs : d.bgShedding = false ∨ d.mbit BG_LLSHED r.val = false) :
    d.onSlot r vout = ((((d.startAt r).markRising r).startOut r vout).setRailOn r true).railPoll r := by
  rw [Dev.onSlot, if_neg (Dev.onSlot_due hrun hst hr), if_neg (by rcases hs with h | h <;> simp [h])]
  rfl

/-- At its on-slot a rail is on, its output driven or its loop started (R132). -/
theorem Dev.onSlot_on (hs : d.bgShedding = false ∨ d.mbit BG_LLSHED r.val = false) : let e := d.onSlot r vout
    e.railOn r = true ∧ e.drill.onAt[r] = d.now ∧ (∀ x : Fin 16, r.val = 12 + x.val → e.pins.xen[x] = true) ∧
      ∀ n : Loop, r.val = n.val → d.lstate n = lsOff → d.phasesOf n ≠ [] →
        (d.evalCfgErr n).flag (LP_STATUS n) LP_STATUS.CFGERR = false → e.lstate n = lsSoftStart := by
  obtain ⟨hst', hat⟩ := ((d.startAt r).markRising r).startOut_rest r vout
  obtain ⟨hon, hrising⟩ := Dev.cameOn_setRailOn _ r (hst'.trans ((d.startAt r).rstate_markRising r))
  have h := hon.railPoll hrising
  rw [Dev.onSlot_rises vout hrun hst hr hs]
  refine ⟨h.railOn, ?_, fun x hx => ?_, fun n hn ho hp hc => ?_⟩
  · have hat' := h.onAt.trans (hat.trans ((d.startAt r).onAt_markRising r))
    rw [hat']
    exact d.onAt_startAt r
  · rw [h.pins]
    exact Dev.xen_startOut _ r vout hx
  · have hrd {a : Nat} (ha : loopReg a = true) : ((d.startAt r).markRising r).rd a = d.rd a :=
      ((d.startAt r).rd_markRising r ha).trans (d.rd_startAt r a)
    refine (Dev.fld_of_rd _ (by decide) (h.rd _ (loopReg_LP_STATUS n))).trans (Dev.lstate_startOut _ r vout hn ?_ ?_ ?_)
    · exact (Dev.fld_of_rd _ (by decide) (hrd (loopReg_LP_STATUS n))).trans ho
    · rwa [Dev.phasesOf_congr n fun m => hrd (loopReg_phase m (by decide) (by decide))]
    · refine (Dev.cfgErr_congr (fun _ ha => hrd ha) ?_).trans hc
      rw [Dev.loop, Dev.loops_markRising, Dev.loops_startAt, Dev.loop]

end OnSlot

/-- Settles O33. That a loss under FAILACT 1 enters its cause and leaves the counts is the model's choice (log entry 124), as is that
a deferred ON comes before the power-up of a rail cycle as a dwell ends (log entry 89). -/
theorem drillSlots : Obligations.DrillSlots := by
  unfold Obligations.DrillSlots
  intro s r hrun d xen stops rises falls newest failed none_
  have hfail {e : Dev} {cause : Nat} (h : d.FailShown r cause e) (hp : e.evtPending 131 = true) : failed e cause :=
    ⟨hp, h.count, h.railCount, h.xen, h.last⟩
  refine ⟨fun v hst hr hs => ?_, fun v hst hr hs hl => ?_, fun hf hd hl => ?_, fun rest hds hgap => ⟨fun hl => ?_, fun hl => ?_⟩,
    fun hst hr hn hg => ?_, fun hst hg => ?_, fun hst hto hf => ?_, fun hst hto hf hon hds => ?_, fun x level => ?_,
    fun x hx hsrc => ?_, fun hds hw => ⟨fun hdef hm => ?_, fun p hdef hc hm => ?_, fun hdef hc => ?_⟩, fun n hs ho => ?_⟩
  · exact completes_step1 (·.onSlot r v.toNat) rfl (Dev.onSlot_on _ hrun hst hr hs)
  · refine completes_step1 (·.onSlot r v.toNat) rfl ?_
    rw [Dev.onSlot_shed _ hrun hst hr hs hl]
    exact Dev.markShed_checkUp _ r
  · exact (offSlot_stops hrun hf hd hl).mono fun e h => ⟨⟨h.xen, h.loop⟩, h.due⟩
  · exact (faultGap_stops hrun hds hgap hl).mono fun e h => ⟨h.xen, h.loop⟩
  · exact faultGap_skips hrun hds hgap hl
  · refine completes_step1 (·.riseTimeout r) rfl ?_
    have hrule := Dev.fallingRule_of_rises (r := r) hr
    obtain ⟨hshown, hevt⟩ := Dev.failShown_railFailure (d := s.dev) (r := r) (cause := 1) (by decide) fun _ => by decide
    obtain ⟨hfault, -⟩ := Dev.railFailure_shutDown (cause := 1) (by decide) hrule (Dev.shutsDown_of_rises hr)
    rw [Dev.riseTimeout_bad hrun hst hn hg]
    exact ⟨hfail hshown hevt, hfault.event, hfault.flag⟩
  · exact completes_step1 (·.riseTimeout r) rfl (Dev.riseTimeout_good hrun hst hg)
  · refine completes_step1 (·.fallTimeout r) rfl ?_
    obtain ⟨hshown, hevt⟩ := Dev.failShown_railFailure (d := s.dev) (r := r) (cause := 5) (by decide) fun _ => by decide
    rw [Dev.fallTimeout_bad hrun hst hto hf]
    exact hfail hshown hevt
  · exact fallTimeout_fallen hrun hst hto hf hon hds
  · refine completes_step1 (·.xpgChange x level) rfl ?_
    rw [Dev.xpgChange_eq (r := ⟨12 + x.val, by omega⟩) _ rfl, Dev.xpg_railPoll]
    rfl
  · refine ⟨fun hact hst => completes_step1 (·.xpgChange x false) rfl ?_,
      fun hact hds hst => completes_step1 (·.xpgChange x false) rfl ?_,
      fun hsrc hst => completes_step1 (·.xpgChange x true) rfl (Dev.xpgChange_good hrun hx hsrc hst)⟩
    · obtain ⟨h, hrest⟩ := Dev.xpgChange_reported hrun hx hsrc hst hact
      exact ⟨h.rstate, h.cause, h.lost, hrest⟩
    · obtain ⟨h, hshown, hevt, hfault⟩ := Dev.xpgChange_fails hrun hx hsrc hst hact hds
      exact ⟨h.rstate, h.cause, h.lost, hfail hshown hevt, hfault.event, hfault.flag, hfault.ds⟩
  · refine completes_step1 Dev.dwellExpired rfl ?_
    rw [Dev.dwellExpired_eq hds hrun hw, if_pos hdef]
    obtain ⟨h1, h2, h3, -⟩ := Dev.risen_startUp (Fld.of_lt _ _ : d.targetNow < 8) hm
    exact ⟨h1, h2, h3⟩
  · refine completes_step1 Dev.dwellExpired rfl ?_
    rw [Dev.dwellExpired_cycle hds hrun hw hdef hc]
    obtain ⟨h1, h2, h3, -⟩ := Dev.risen_startUp (d := d) p.isLt hm
    exact ⟨h1, h2, h3⟩
  · refine completes_step1 Dev.dwellExpired rfl ?_
    rw [Dev.dwellExpired_off hds hrun hw hdef hc]
    have hoff := Dev.setDs_off_of_dwell hds
    exact ⟨Dev.ds_setDs _ _ (by decide), by rw [hoff]; exact d.onlyRegs_setFld _ _ _ (by decide)⟩
  · exact completes_step1 (·.stretchExpiry n) rfl (Dev.stretchExpiry_ends hrun hs ho)

end Sys2Proof.Machine
end

section
/-!
What the seats do as they sample (R159, R160): entries leave their queues for the converters, and beside a slip nothing else changes.
-/

namespace Sys2Proof.Machine

open Sys2Proof Sys2Proof.R

/-! ## Seats, converters and sequences -/

section Cells

variable (d : Dev)

theorem Dev.conv_setConv (a b : Adc) (c : Option Conv) : (d.setConv a c).conv b = if b = a then c else d.conv b := by
  simp [Dev.conv, Dev.setConv, Vector.getElem_set, Fin.ext_iff, eq_comm]

theorem Dev.seat_modSeat (k j : Fin 24) (g : SeatSt → SeatSt) :
    (d.modSeat k g).seat j = if j = k then g (d.seat k) else d.seat j := by
  simp [Dev.seat, Dev.modSeat, Vector.getElem_set, Fin.ext_iff, eq_comm]

theorem Dev.mseq_modSeq (s q : SeqNo) (g : SeqSt → SeqSt) :
    (d.modSeq s g).mseq q = if q = s then g (d.mseq s) else d.mseq q := by
  simp [Dev.mseq, Dev.modSeq, Vector.getElem_set, Fin.ext_iff, eq_comm]

@[simp] theorem Dev.conv_setConv_same (a : Adc) (c : Option Conv) : (d.setConv a c).conv a = c := by simp [Dev.conv_setConv]
@[simp] theorem Dev.conv_modSeat (k : Fin 24) (g : SeatSt → SeatSt) (a : Adc) : (d.modSeat k g).conv a = d.conv a := rfl
@[simp] theorem Dev.seat_setConv (a : Adc) (c : Option Conv) (k : Fin 24) : (d.setConv a c).seat k = d.seat k := rfl
@[simp] theorem Dev.seat_modSeat_same (k : Fin 24) (g : SeatSt → SeatSt) : (d.modSeat k g).seat k = g (d.seat k) := by
  simp [Dev.seat_modSeat]
@[simp] theorem Dev.mseq_modSeq_same (s : SeqNo) (g : SeqSt → SeqSt) : (d.modSeq s g).mseq s = g (d.mseq s) := by
  simp [Dev.mseq_modSeq]

end Cells

/-! ## The relation -/

/-- From `d` to `e` some entries have left the seats' queues and their sequences' lists, the converters may hold others, and
MS_STICKY and MS_SLIPCNT may have changed. -/
structure Dev.Samples (d e : Dev) : Prop where
  measures : d.Measures e
  meas : ({ e.meas with convs := d.meas.convs, seats := d.meas.seats, seqs := d.meas.seqs } : MeasSt) = d.meas
  seat : ∀ k, ({ e.seat k with due := (d.seat k).due } : SeatSt) = d.seat k
  mseq : ∀ s, ({ e.mseq s with toSample := (d.mseq s).toSample } : SeqSt) = d.mseq s

namespace Dev.Samples

theorem refl (d : Dev) : d.Samples d := ⟨.refl d, rfl, fun _ => rfl, fun _ => rfl⟩

theorem trans {d e g : Dev} (h1 : d.Samples e) (h2 : e.Samples g) : d.Samples g where
  measures := h1.measures.trans h2.measures
  meas := by
    have h := congrArg (fun x : MeasSt => { x with convs := d.meas.convs, seats := d.meas.seats, seqs := d.meas.seqs }) h2.meas
    exact h.trans h1.meas
  seat k := by
    have h := congrArg (fun x : SeatSt => { x with due := (d.seat k).due }) (h2.seat k)
    exact h.trans (h1.seat k)
  mseq s := by
    have h := congrArg (fun x : SeqSt => { x with toSample := (d.mseq s).toSample }) (h2.mseq s)
    exact h.trans (h1.mseq s)

theorem foldl {α : Type} {f : Dev → α → Dev} (hf : ∀ e x, Dev.Samples e (f e x)) (l : List α) (d : Dev) :
    d.Samples (l.foldl f d) := by
  induction l generalizing d with
  | nil => exact refl d
  | cons x l ih => exact (hf d x).trans (ih _)

end Dev.Samples

section Samples

variable (d : Dev)

theorem Dev.samples_wr {a : Nat} (v : Word) (h : a = MS_STICKY ∨ a = MS_SLIPCNT) : d.Samples (d.wr a v) :=
  ⟨d.measures_wr v h, rfl, fun _ => rfl, fun _ => rfl⟩

theorem Dev.samples_setConv (a : Adc) (c : Option Conv) : d.Samples (d.setConv a c) :=
  ⟨d.measures_setConv a c, rfl, fun _ => rfl, fun _ => rfl⟩

theorem Dev.samples_due (k : Fin 24) (l : List (Nat × Nat)) : d.Samples (d.modSeat k fun x => { x with due := l }) := by
  refine ⟨d.measures_modSeat k _, rfl, fun j => ?_, fun _ => rfl⟩
  rw [Dev.seat_modSeat]
  split
  · subst j; rfl
  · rfl

theorem Dev.samples_toSample (s : SeqNo) (l : List Nat) : d.Samples (d.modSeq s fun x => { x with toSample := l }) := by
  refine ⟨d.measures_modSeq s _, rfl, fun _ => rfl, fun q => ?_⟩
  rw [Dev.mseq_modSeq]
  split
  · subst q; rfl
  · rfl

theorem Dev.samples_sample (e t : Nat) : d.Samples (d.sample e t) := by
  unfold Dev.sample
  split
  · exact .refl d
  split
  · exact .refl d
  · exact ((d.samples_setConv _ _).trans (Dev.samples_due _ _ _)).trans (Dev.samples_toSample _ _ _)

/-- A group slips (R159). -/
theorem Dev.samples_slip (b : Bool) :
    d.Samples (d.when b fun d => (d.bump MS_SLIPCNT).setFlag MS_STICKY MS_STICKY.SLIP true) := by
  unfold Dev.when
  split
  · exact (d.samples_wr _ (.inr rfl)).trans (Dev.samples_wr _ _ (.inl rfl))
  · exact .refl d

theorem Dev.samples_startGroup (e t : Nat) : d.Samples (d.startGroup e t) :=
  .foldl (fun g x => (g.samples_sample x _).trans (Dev.samples_slip _ _)) _ d

theorem Dev.samples_startSeat (lim : Nat) (k : Fin 24) : d.Samples (d.startSeat lim k) := by
  unfold Dev.startSeat
  split
  · exact .refl d
  split
  · exact .refl d
  · split
    · exact d.samples_startGroup _ _
    · exact .refl d

theorem Dev.samples_startSeats (lim : Nat) : d.Samples (d.startSeats lim) := by
  unfold Dev.startSeats
  split
  · exact .foldl (fun d k => d.samples_startSeat lim k) _ d
  · exact .refl d

end Samples

/-! ## What stays -/

theorem Dev.Measures.congr {α : Type} {d e : Dev} (h : d.Measures e) (f : Dev → α) (hf : ∀ (x : Dev) r m,
    f { x with regs := r, meas := m } = f x) : f e = f d := (hf e d.regs d.meas).symm.trans (congrArg f h.rest)

namespace Dev.Samples

variable {d e : Dev} (h : d.Samples e)
include h

theorem rd {a : Nat} (h1 : a ≠ MS_STICKY) (h2 : a ≠ MS_SLIPCNT) : e.rd a = d.rd a := h.measures.rd a h1 h2

theorem fld {a : Nat} (f : Fld) (hf : f.lo + f.w ≤ 16) (h1 : a ≠ MS_STICKY) (h2 : a ≠ MS_SLIPCNT) : e.fld a f = d.fld a f :=
  Dev.fld_of_rd f hf (h.rd h1 h2)

theorem flag {a : Nat} (f : Fld) (hf : f.lo + f.w ≤ 16) (h1 : a ≠ MS_STICKY) (h2 : a ≠ MS_SLIPCNT) : e.flag a f = d.flag a f := by
  rw [Dev.flag, Dev.flag, h.fld f hf h1 h2]

theorem clock : e.clock = d.clock := h.measures.congr Dev.clock fun _ _ _ => rfl
theorem running : e.meas.running = d.meas.running := by simpa using congrArg MeasSt.running h.meas
theorem leaving : e.meas.leaving = d.meas.leaving := by simpa using congrArg MeasSt.leaving h.meas
theorem timers : e.meas.timers = d.meas.timers := by simpa using congrArg MeasSt.timers h.meas
theorem reqs : e.meas.reqs = d.meas.reqs := by simpa using congrArg MeasSt.reqs h.meas
theorem instants : e.meas.instants = d.meas.instants := by simpa using congrArg MeasSt.instants h.meas
theorem div (s : SeqNo) : (e.mseq s).div = (d.mseq s).div := by simpa using congrArg SeqSt.div (h.mseq s)
theorem runs (s : SeqNo) : (e.mseq s).runs = (d.mseq s).runs := by simpa using congrArg SeqSt.runs (h.mseq s)

theorem tickStart : e.tickStart = d.tickStart := by rw [Dev.tickStart, Dev.tickStart, Dev.now, Dev.now, h.clock]
theorem tickEnd : e.tickEnd = d.tickEnd := by rw [Dev.tickEnd, Dev.tickEnd, Dev.now, Dev.now, h.clock]

theorem seqEnabled (s : Nat) : e.seqEnabled s = d.seqEnabled s :=
  h.flag _ (by decide) (by simp only [MS_SEQTRIG, MS_STICKY]; omega) (by simp only [MS_SEQTRIG, MS_SLIPCNT]; omega)

theorem seqDiv (s : Nat) : e.fld (MS_SEQDIV s) MS_SEQDIV.DIV = d.fld (MS_SEQDIV s) MS_SEQDIV.DIV :=
  h.fld _ (by decide) (by simp only [MS_SEQDIV, MS_STICKY]; omega) (by simp only [MS_SEQDIV, MS_SLIPCNT]; omega)

theorem entrySeq (n : Nat) : e.entrySeq n = d.entrySeq n :=
  h.fld _ (by decide) (by simp only [MS_PESEQ, MS_STICKY]; omega) (by simp only [MS_PESEQ, MS_SLIPCNT]; omega)

theorem seatAdc (k : Fin 24) : e.seatAdc k = d.seatAdc k := by
  have hr (a : Adc) (f : Fld) (hf : f.lo + f.w ≤ 16) : e.fld (MS_ADCSTAT a) f = d.fld (MS_ADCSTAT a) f :=
    h.fld f hf (by simp only [MS_ADCSTAT, MS_STICKY]; omega) (by simp only [MS_ADCSTAT, MS_SLIPCNT]; omega)
  simp only [Dev.seatAdc, Dev.flag, h.leaving, hr _ MS_ADCSTAT.INBAY (by decide), hr _ MS_ADCSTAT.QUAD (by decide),
    hr _ MS_ADCSTAT.SEAT (by decide)]

end Dev.Samples

end Sys2Proof.Machine
end

section
/-!
Triggers of sequences (R158, R162, R163, R177): what one trigger makes of its sequence, what it leaves of the others, and the
statement about triggers.
-/

namespace Sys2Proof.Machine

open Sys2Proof Sys2Proof.R

/-! ## One trigger, by the divider and the entries not yet sampled -/

/-- The divider of a sequence has not yet let a trigger through. -/
def Dev.divides (d : Dev) (s : SeqNo) : Prop := (d.mseq s).div < d.fld (MS_SEQDIV s) MS_SEQDIV.DIV

section Trigger

variable {d : Dev} {s : SeqNo} (t : Nat)

theorem Dev.trigger_disabled (h : d.seqEnabled s.val = false) : d.trigger s t = d := by simp [Dev.trigger, h]

variable (hrun : d.meas.running = true) (hen : d.seqEnabled s.val = true)
include hrun hen

theorem Dev.trigger_divides (h : d.divides s) : d.trigger s t = d.modSeq s fun x => { x with div := x.div + 1 } := by
  rw [Dev.trigger, if_neg (by simp [hrun, hen])]
  exact if_pos h

/-- A trigger that passes the divider with entries of the last run not sampled is an overrun (R158). -/
theorem Dev.trigger_overruns (h : ¬d.divides s) (hx : (d.mseq s).toSample ≠ []) : d.trigger s t =
    ((d.modSeq s fun x => { x with div := 0 }).bump MS_OVRCNT).setFlag MS_STICKY MS_STICKY.OVRUN true := by
  rw [Dev.trigger, if_neg (by simp [hrun, hen])]
  exact (if_neg h).trans (if_neg (by simpa using hx))

theorem Dev.trigger_runs (h : ¬d.divides s) (hx : (d.mseq s).toSample = []) :
    d.trigger s t = (d.modSeq s fun x => { x with div := 0 }).startRun s t := by
  rw [Dev.trigger, if_neg (by simp [hrun, hen])]
  exact (if_neg h).trans (if_pos (by simp [hx]))

end Trigger

/-! ## A run -/

/-- An entry of a run becomes due at its instant, where its seat is served. -/
def Dev.makeDue (d : Dev) (t e : Nat) : Dev :=
  match d.entrySeat e with
  | some k => if (d.seatAdc k).isNone then d
    else d.modSeat k fun x => { x with due := x.due ++ [(e, t + d.rn (MS_PEDLY (d.groupLead e)))] }
  | none => d

/-- The run that a trigger notes in its sequence, with the entries `es`. -/
def Dev.noteRun (d : Dev) (s : SeqNo) (es : List Nat) : Dev :=
  d.modSeq s fun x => { x with
    runs := x.runs + 1, toSample := es.filter d.entryServed,
    toStore := (x.toStore.filter fun r => !r.2.isEmpty && r.2.all d.entryServed) ++ [(x.runs + 1, es)] }

/-- The entries of a run of sequence `s` (R177). -/
def Dev.runEntries (d : Dev) (s : SeqNo) : List Nat := (d.seqEntries s.val).filter fun e => !d.entrySkipped e

theorem Dev.startRun_eq (d : Dev) (s : SeqNo) (t : Nat) :
    d.startRun s t = (d.runEntries s).foldl (fun d e => d.makeDue t e) (d.noteRun s (d.runEntries s)) := rfl

/-- From `d` to `e` of the measurement only what sequence `s` counts and what is due on the seats has changed, and of the registers
only MS_OVRCNT and MS_STICKY. -/
structure Dev.Triggers (s : SeqNo) (d e : Dev) : Prop where
  rd : ∀ a, a ≠ MS_OVRCNT → a ≠ MS_STICKY → e.rd a = d.rd a
  mseq : ∀ q, q ≠ s → e.mseq q = d.mseq q
  running : e.meas.running = d.meas.running
  timers : e.meas.timers = d.meas.timers

section Triggers

variable {s : SeqNo}

theorem Dev.Triggers.refl (d : Dev) : Dev.Triggers s d d := ⟨fun _ _ _ => rfl, fun _ _ => rfl, rfl, rfl⟩

theorem Dev.Triggers.trans {d e g : Dev} (h1 : Dev.Triggers s d e) (h2 : Dev.Triggers s e g) : Dev.Triggers s d g where
  rd a ha hs := (h2.rd a ha hs).trans (h1.rd a ha hs)
  mseq q hq := (h2.mseq q hq).trans (h1.mseq q hq)
  running := h2.running.trans h1.running
  timers := h2.timers.trans h1.timers

theorem Dev.triggers_modSeq (d : Dev) (g : SeqSt → SeqSt) : Dev.Triggers s d (d.modSeq s g) :=
  ⟨fun _ _ _ => rfl, fun q hq => by rw [Dev.mseq_modSeq, if_neg hq], rfl, rfl⟩

theorem Dev.makeDue_cases (d : Dev) (t e : Nat) : d.makeDue t e = d ∨ ∃ k g, d.makeDue t e = d.modSeat k g := by
  unfold Dev.makeDue
  split
  · split
    · exact .inl rfl
    · exact .inr ⟨_, _, rfl⟩
  · exact .inl rfl

theorem Dev.triggers_makeDue (d : Dev) (t e : Nat) : Dev.Triggers s d (d.makeDue t e) := by
  obtain h | ⟨k, g, h⟩ := d.makeDue_cases t e
  · rw [h]; exact .refl d
  · rw [h]; exact ⟨fun _ _ _ => rfl, fun _ _ => rfl, rfl, rfl⟩

/-- What becomes due changes nothing of the sequences, and no register. -/
theorem Dev.foldl_makeDue (t : Nat) (es : List Nat) (d : Dev) : Dev.Triggers s d (es.foldl (fun d e => d.makeDue t e) d) ∧
    (∀ q, (es.foldl (fun d e => d.makeDue t e) d).mseq q = d.mseq q) ∧ (es.foldl (fun d e => d.makeDue t e) d).regs = d.regs := by
  induction es generalizing d with
  | nil => exact ⟨.refl d, fun _ => rfl, rfl⟩
  | cons e es ih =>
    have hx : (∀ q, (d.makeDue t e).mseq q = d.mseq q) ∧ (d.makeDue t e).regs = d.regs := by
      obtain h | ⟨k, g, h⟩ := d.makeDue_cases t e <;> rw [h] <;> exact ⟨fun _ => rfl, rfl⟩
    obtain ⟨h1, h2, h3⟩ := ih (d.makeDue t e)
    exact ⟨(d.triggers_makeDue t e).trans h1, fun q => (h2 q).trans (hx.1 q), h3.trans hx.2⟩

theorem Dev.triggers_startRun (d : Dev) (t : Nat) : Dev.Triggers s d (d.startRun s t) :=
  (d.triggers_modSeq _).trans (Dev.foldl_makeDue t _ _).1

/-- A run is the last that its sequence has to store. -/
theorem Dev.mseq_startRun (d : Dev) (t : Nat) : (d.startRun s t).mseq s = (d.noteRun s (d.runEntries s)).mseq s :=
  (Dev.foldl_makeDue (s := s) t _ _).2.1 s

theorem Dev.rd_startRun (d : Dev) (t a : Nat) : (d.startRun s t).rd a = d.rd a := by
  rw [Dev.rd, Dev.startRun_eq, (Dev.foldl_makeDue (s := s) t _ _).2.2]
  rfl

theorem Dev.triggers_trigger (d : Dev) (t : Nat) : Dev.Triggers s d (d.trigger s t) := by
  unfold Dev.trigger
  split
  · exact .refl d
  dsimp only
  split
  · exact d.triggers_modSeq _
  · split
    · exact (d.triggers_modSeq _).trans (Dev.triggers_startRun _ t)
    · refine (d.triggers_modSeq fun x => { x with div := 0 }).trans ⟨fun a ha hs => ?_, fun _ _ => rfl, rfl, rfl⟩
      rw [Dev.rd_setFlag_ne _ _ _ (by decide) hs, Dev.rd_bump_ne _ ha]

end Triggers

/-! ## Triggers of several sequences in one instant -/

/-- What a trigger of another sequence leaves of sequence `q`: whether it is enabled, its divider and its counts. -/
structure Dev.SameSeq (q : SeqNo) (d e : Dev) : Prop where
  mseq : e.mseq q = d.mseq q
  running : e.meas.running = d.meas.running
  enabled : e.seqEnabled q.val = d.seqEnabled q.val
  div : e.fld (MS_SEQDIV q) MS_SEQDIV.DIV = d.fld (MS_SEQDIV q) MS_SEQDIV.DIV
  timers : e.meas.timers = d.meas.timers

theorem Dev.SameSeq.trans {q : SeqNo} {d e g : Dev} (h1 : Dev.SameSeq q d e) (h2 : Dev.SameSeq q e g) : Dev.SameSeq q d g :=
  ⟨h2.mseq.trans h1.mseq, h2.running.trans h1.running, h2.enabled.trans h1.enabled, h2.div.trans h1.div, h2.timers.trans h1.timers⟩

theorem Dev.sameSeq_trigger (d : Dev) {q s : SeqNo} (t : Nat) (h : q ≠ s) : Dev.SameSeq q d (d.trigger s t) := by
  have hs := d.triggers_trigger (s := s) t
  refine ⟨hs.mseq q h, hs.running, ?_, Dev.fld_of_rd _ (by decide) (hs.rd _ ?_ ?_), hs.timers⟩
  · rw [Dev.seqEnabled, Dev.seqEnabled, Dev.flag, Dev.flag, Dev.fld_of_rd _ (by decide) (hs.rd _ ?_ ?_)] <;>
      simp only [MS_SEQTRIG, MS_OVRCNT, MS_STICKY] <;> omega
  all_goals simp only [MS_SEQDIV, MS_OVRCNT, MS_STICKY]; omega

theorem Dev.sameSeq_triggers {q : SeqNo} (t : Nat) {ss : List SeqNo} (h : q ∉ ss) (d : Dev) :
    Dev.SameSeq q d (ss.foldl (fun d s => d.trigger s t) d) := by
  induction ss generalizing d with
  | nil => exact ⟨rfl, rfl, rfl, rfl, rfl⟩
  | cons s ss ih =>
    rw [List.mem_cons, not_or] at h
    exact (d.sameSeq_trigger t h.1).trans (ih h.2 _)

/-- Where sequence `q` is one of those triggered and its divider holds the trigger back, it counts once. -/
theorem Dev.triggerAll_counts {d : Dev} {q : SeqNo} {ss : List SeqNo} (t : Nat) (hq : q ∈ ss) (hn : ss.Nodup)
    (hrun : d.meas.running = true) (hen : d.seqEnabled q.val = true) (hd : d.divides q) :
    ((d.triggerAll ss t).mseq q).div = (d.mseq q).div + 1 ∧ (d.triggerAll ss t).meas.timers = d.meas.timers := by
  obtain ⟨l, r, rfl⟩ := List.append_of_mem hq
  have hl : q ∉ l ∧ q ∉ r := by
    simp only [List.nodup_append, List.nodup_cons] at hn
    exact ⟨fun h => hn.2.2 q h q (List.mem_cons_self ..) rfl, hn.2.1.1⟩
  have hb := d.samples_startSeats t
  have h1 := Dev.sameSeq_triggers t hl.1 (d.startSeats t)
  set e := l.foldl (fun d s => d.trigger s t) (d.startSeats t) with he
  have hdiv : e.divides q := by rwa [Dev.divides, h1.mseq, h1.div, hb.div, hb.seqDiv]
  have h2 := e.trigger_divides t (h1.running.trans (hb.running.trans hrun)) (h1.enabled.trans ((hb.seqEnabled q).trans hen)) hdiv
  have h3 := Dev.sameSeq_triggers t hl.2 (e.trigger q t)
  have hall : d.triggerAll (l ++ q :: r) t = r.foldl (fun d s => d.trigger s t) (e.trigger q t) := by
    rw [Dev.triggerAll, List.foldl_append, List.foldl_cons]
  rw [hall, h3.mseq, h3.timers, h2, Dev.mseq_modSeq_same, h1.mseq, hb.div]
  exact ⟨rfl, h1.timers.trans hb.timers⟩

theorem Dev.mem_seqsOn {d : Dev} {src sel : Nat} {q : SeqNo} : q ∈ d.seqsOn src sel ↔
    d.fld (MS_SEQTRIG q) MS_SEQTRIG.SRC = src ∧ d.fld (MS_SEQTRIG q) MS_SEQTRIG.SEL = sel := by
  simp [Dev.seqsOn]

theorem Dev.nodup_seqsOn (d : Dev) (src sel : Nat) : (d.seqsOn src sel).Nodup := (List.nodup_finRange 64).filter _

/-! ## A trigger of one sequence -/

theorem Dev.triggerAll_one (d : Dev) (q : SeqNo) (t : Nat) : d.triggerAll [q] t = (d.startSeats t).trigger q t := rfl

section Alone

variable {d b : Dev} {q : SeqNo} (t : Nat) (hb : d.Samples b)
include hb

theorem Dev.Samples.divides : b.divides q ↔ d.divides q := by rw [Dev.divides, Dev.divides, hb.div, hb.seqDiv]

theorem Dev.Samples.rd_OVRCNT : b.rd MS_OVRCNT = d.rd MS_OVRCNT := hb.rd (by decide) (by decide)

variable (hrun : d.meas.running = true) (hen : d.seqEnabled q.val = true) (hd : ¬d.divides q)
include hrun hen hd

theorem Dev.Samples.overruns (hx : (b.mseq q).toSample ≠ []) : ((b.trigger q t).mseq q).div = 0 ∧
    (b.trigger q t).rd MS_OVRCNT = satInc (d.rd MS_OVRCNT) ∧ (b.trigger q t).flag MS_STICKY MS_STICKY.OVRUN = true ∧
    b.keepsRegs (b.trigger q t) (fun a => a = MS_OVRCNT ∨ a = MS_STICKY) := by
  rw [b.trigger_overruns t (hb.running.trans hrun) ((hb.seqEnabled q).trans hen) (hb.divides.not.mpr hd) hx]
  refine ⟨congrArg SeqSt.div (b.mseq_modSeq_same q fun x => { x with div := 0 }), ?_,
    Dev.flag_setFlag_same _ _ _ _ (by decide) (by decide), fun a ha _ => ?_⟩
  · rw [Dev.rd_setFlag_ne _ _ _ (by decide) (by decide), Dev.rd_bump_same, Dev.rd_modSeq, hb.rd_OVRCNT]
  · obtain ⟨h1, h2⟩ := not_or.mp ha
    rw [Dev.rd_setFlag_ne _ _ _ (by decide) h2, Dev.rd_bump_ne _ h1, Dev.rd_modSeq]

theorem Dev.Samples.begins (hx : (b.mseq q).toSample = []) : ((b.trigger q t).mseq q).div = 0 ∧
    ((b.trigger q t).mseq q).toStore.getLast? = some ((d.mseq q).runs + 1, b.runEntries q) ∧
    (b.trigger q t).rd MS_OVRCNT = d.rd MS_OVRCNT := by
  rw [b.trigger_runs t (hb.running.trans hrun) ((hb.seqEnabled q).trans hen) (hb.divides.not.mpr hd) hx, Dev.mseq_startRun,
    Dev.rd_startRun, Dev.rd_modSeq, hb.rd_OVRCNT, Dev.noteRun, Dev.mseq_modSeq_same, Dev.mseq_modSeq_same]
  refine ⟨rfl, ?_, rfl⟩
  simp only [List.getLast?_append, List.getLast?_singleton, Option.some_or, hb.runs]
  rfl

end Alone

/-! ## The commands -/

theorem Dev.measOn_iff {d : Dev} : d.measOn = true ↔ d.meas.running = true ∧ d.latched = false := by simp [Dev.measOn]

/-- Timer `n` has ticked at `u`. -/
def Dev.noteTick (d : Dev) (n : Fin 16) (u : Nat) : Dev :=
  let x := d.meas.timers.set n (d.meas.timers[n].map fun (y : TimerSt) => { y with last := some u })
  { d with meas := { d.meas with timers := x } }

theorem Dev.timerTick_eq {d : Dev} {n : Fin 16} {u : Nat} (hon : d.measOn = true) (hm : d.mbit MS_TTCTL n.val = true)
    (hu : d.timerDue n = some u) : d.timerTick n = (d.noteTick n u).triggerAll (d.seqsOn 1 n.val) (800 * d.tickAt u) := by
  rw [Dev.timerTick, if_neg (by simp [hon, hm]), hu]
  rfl

theorem Dev.last_noteTick (d : Dev) (n : Fin 16) (u : Nat) :
    ((d.noteTick n u).meas.timers[n]).map (·.last) = (d.meas.timers[n]).map fun _ => some u := by
  simp [Dev.noteTick, Option.map_map, Function.comp_def]

/-- A trigger of sequence `q` alone, after what was due before it. -/
theorem trigger_alone {c : Instr} {s : State} {e b : Dev} {q : SeqNo} {t : Nat} (hb : e.Samples b) (hon : e.measOn = true)
    (hc : exec c s = .next { s with dev := b.trigger q t }) :
    (e.seqEnabled q.val = true → e.divides q → exec c s = .next { s with dev := b.modSeq q fun y => { y with div := y.div + 1 } }) ∧
      (e.seqEnabled q.val = true → ¬e.divides q → (b.mseq q).toSample ≠ [] → Completes c s fun g => (g.mseq q).div = 0 ∧
        g.rd MS_OVRCNT = satInc (e.rd MS_OVRCNT) ∧ g.flag MS_STICKY MS_STICKY.OVRUN = true ∧
        b.keepsRegs g (fun a => a = MS_OVRCNT ∨ a = MS_STICKY)) ∧
      (e.seqEnabled q.val = true → ¬e.divides q → (b.mseq q).toSample = [] → Completes c s fun g => (g.mseq q).div = 0 ∧
        (g.mseq q).toStore.getLast? = some ((e.mseq q).runs + 1, b.runEntries q) ∧ g.rd MS_OVRCNT = e.rd MS_OVRCNT) ∧
      (e.seqEnabled q.val = false → exec c s = .next { s with dev := b }) := by
  have hrun := (Dev.measOn_iff.mp hon).1
  refine ⟨fun hen hd => ?_, fun hen hd hx => ⟨_, hc, hb.overruns t hrun hen hd hx⟩,
    fun hen hd hx => ⟨_, hc, hb.begins t hrun hen hd hx⟩, fun hen => ?_⟩
  · rw [hc, b.trigger_divides t (hb.running.trans hrun) ((hb.seqEnabled q).trans hen) (hb.divides.mpr hd)]
  · rw [hc, b.trigger_disabled t ((hb.seqEnabled q).trans hen)]

section Commands

variable {s : State} {q : SeqNo}

theorem triggerTimerTick_counts {n : Fin 16} {u : Nat} (hon : s.dev.measOn = true) (hen : s.dev.seqEnabled q.val = true)
    (hd : s.dev.divides q) (hm : s.dev.mbit MS_TTCTL n.val = true) (hu : s.dev.timerDue n = some u)
    (hsrc : s.dev.fld (MS_SEQTRIG q) MS_SEQTRIG.SRC = 1) (hsel : s.dev.fld (MS_SEQTRIG q) MS_SEQTRIG.SEL = n.val) :
    Completes (.triggerTimerTick n) s fun e => (e.mseq q).div = (s.dev.mseq q).div + 1 ∧
      (e.meas.timers[n]).map (·.last) = (s.dev.meas.timers[n]).map fun _ => some u := by
  refine completes_step1 (·.timerTick n) rfl ?_
  rw [Dev.timerTick_eq hon hm hu, ← Dev.last_noteTick]
  obtain ⟨hdiv, htimers⟩ := Dev.triggerAll_counts (d := s.dev.noteTick n u) (800 * s.dev.tickAt u)
    (Dev.mem_seqsOn.mpr ⟨hsrc, hsel⟩) (s.dev.nodup_seqsOn 1 n.val) (Dev.measOn_iff.mp hon).1 hen hd
  exact ⟨hdiv, by rw [htimers]⟩

theorem triggerTimerTick_idle {n : Fin 16} (h : s.dev.mbit MS_TTCTL n.val = false ∨ s.dev.timerDue n = none) :
    exec (.triggerTimerTick n) s = .next s := by
  have hd : s.dev.timerTick n = s.dev := by
    unfold Dev.timerTick
    obtain h | h := h
    · rw [if_pos (by simp [h])]
    · rw [h]
      split <;> rfl
  show Host.Outcome.next { s with dev := s.dev.timerTick n } = _
  rw [hd]

theorem pwmEdgeTrigger_counts {m : Phase} {edge : Fin 3} (frac : Fin 800) (hon : s.dev.measOn = true)
    (hen : s.dev.seqEnabled q.val = true) (hd : s.dev.divides q) (hp : (s.dev.phase m).onTime ≠ 0)
    (hsrc : s.dev.fld (MS_SEQTRIG q) MS_SEQTRIG.SRC = 2) (hsel : s.dev.fld (MS_SEQTRIG q) MS_SEQTRIG.SEL = m.val)
    (hedge : s.dev.fld (MS_SEQTRIG q) MS_SEQTRIG.EDGE = edge.val) :
    Completes (.pwmEdgeTrigger m edge frac) s fun e => (e.mseq q).div = (s.dev.mseq q).div + 1 := by
  refine completes_step1 (·.edgeTrigger m edge frac.val) rfl ?_
  rw [Dev.edgeTrigger, if_pos (by simp [hon, hp])]
  exact (Dev.triggerAll_counts _ (List.mem_filter.mpr ⟨Dev.mem_seqsOn.mpr ⟨hsrc, hsel⟩, by simpa using hedge⟩)
    ((s.dev.nodup_seqsOn 2 m.val).filter _) (Dev.measOn_iff.mp hon).1 hen hd).1

theorem pwmEdgeTrigger_idle {m : Phase} (edge : Fin 3) (frac : Fin 800) (h : (s.dev.phase m).onTime = 0) :
    exec (.pwmEdgeTrigger m edge frac) s = .next s := by
  show Host.Outcome.next { s with dev := s.dev.edgeTrigger m edge frac.val } = _
  rw [Dev.edgeTrigger, if_neg (by simp [h])]

/-- MS_SWTRIG without GO, or with GO of a reserved sequence, is a write and no trigger. -/
theorem msSwtrig_idle {acc : Acc} {v : BitVec 16} (hm : s.dev.mayWrite acc MS_SWTRIG = true)
    (h : v.getLsbD 15 = false ∨ 56 ≤ v.toNat % 64) : exec (.msSwtrig acc v) s = .next { s with dev := s.dev.dropHeld acc } := by
  have hd : (s.dev.dropHeld acc).writeSwtrig v = s.dev.dropHeld acc := by
    unfold Dev.writeSwtrig Dev.when
    obtain h | h := h
    · rw [h]; rfl
    · have hx : (s.dev.dropHeld acc).swTrigger (v.toNat % 64) = s.dev.dropHeld acc := if_neg (by omega)
      simp only [hx, ite_self]
  show Host.Outcome.next { s with dev := s.dev.gate acc MS_SWTRIG (·.writeSwtrig v) } = _
  rw [Dev.gate_of_mayWrite _ _ hm, hd]

theorem exec_msSwtrig {acc : Acc} {v : BitVec 16} (hm : s.dev.mayWrite acc MS_SWTRIG = true) (hgo : v.getLsbD 15 = true)
    (hq : v.toNat % 64 = q.val) (hlt : q.val < 56) (hon : s.dev.measOn = true) : exec (.msSwtrig acc v) s =
      .next { s with dev := ((s.dev.dropHeld acc).startSeats s.dev.tickStart).trigger q s.dev.tickStart } := by
  have hl : (s.dev.dropHeld acc).latched = false := (Dev.measOn_iff.mp hon).2
  have hf : Fin.ofNat 64 q.val = q := Fin.ext (Nat.mod_eq_of_lt q.isLt)
  show Host.Outcome.next { s with dev := s.dev.gate acc MS_SWTRIG (·.writeSwtrig v) } = _
  rw [Dev.gate_of_mayWrite _ _ hm, Dev.writeSwtrig, Dev.when, if_pos (by simp [hgo, hl]), hq, Dev.swTrigger, if_pos hlt, hf]
  rfl

theorem exec_reservedSequenceTrigger {i : Fin 4} (hq : q.val = 57 + i.val) (hon : s.dev.measOn = true) :
    exec (.reservedSequenceTrigger i) s =
      .next { s with dev := (s.dev.startSeats s.dev.tickStart).trigger q s.dev.tickStart } := by
  have hf : Fin.ofNat 64 (57 + i.val) = q := by rw [← hq]; exact Fin.ext (Nat.mod_eq_of_lt q.isLt)
  show Host.Outcome.next { s with dev := s.dev.when s.dev.measOn _ } = _
  rw [Dev.when, if_pos hon, hf, Dev.triggerAll_one]

end Commands

/-- Settles O53: a trigger is judged by the divider and by what its sequence has not sampled, and one row may trigger several
sequences. -/
theorem measurementTriggers : Obligations.MeasurementTriggers := by
  unfold Obligations.MeasurementTriggers
  intro s acc q n m edge frac v d d0 x below on counts chosen alone
  refine ⟨fun u ⟨hon, hen⟩ hd hm hu ⟨hsrc, hsel⟩ => triggerTimerTick_counts hon hen hd hm hu hsrc hsel, triggerTimerTick_idle,
    fun ⟨hon, hen⟩ hd hp ⟨hsrc, hsel⟩ he => pwmEdgeTrigger_counts frac hon hen hd hp hsrc hsel he,
    pwmEdgeTrigger_idle edge frac, fun hm hgo hq hlt hon => ?_, msSwtrig_idle, fun i hq hon => ?_⟩
  · obtain ⟨h1, h2, h3, h4⟩ := trigger_alone ((s.dev.dropHeld acc).samples_startSeats _) hon (exec_msSwtrig hm hgo hq hlt hon)
    exact ⟨fun h => h1 h.2, fun h => h2 h.2, fun h => h3 h.2, h4⟩
  · obtain ⟨h1, h2, h3, h4⟩ := trigger_alone (s.dev.samples_startSeats _) hon (exec_reservedSequenceTrigger hq hon)
    exact ⟨fun h => h1 h.2, fun h => h2 h.2, fun h => h3 h.2, h4⟩

end Sys2Proof.Machine
end

section
/-!
Writes of sequences, of the plan and of the trigger timers (R156, R157, R162, R163).
-/

namespace Sys2Proof.Machine

open Sys2Proof Sys2Proof.R

/-! ## Words that a write stores -/

/-- A field of one bit is that bit of its word. -/
theorem Dev.flag_bit (d : Dev) (a : Nat) {i : Nat} (hi : i < 16) : d.flag a ⟨i, 1⟩ = (d.rd a).getLsbD i := by
  have h2 := Nat.mod_two_eq_zero_or_one ((d.rd a).toNat / 2 ^ i)
  have hlo : i + 1 ≤ 16 := hi
  rw [BitVec.getLsbD, Nat.testBit_eq_decide_div_mod_eq]
  simp only [Dev.flag, Dev.fld, Fld.of, Dev.rn, hlo, ↓reduceIte, pow_one]
  rcases h2 with h | h <;> simp [h]

theorem Dev.seqEnabled_eq (d : Dev) (s : Nat) : d.seqEnabled s = (d.rd (MS_SEQTRIG s)).getLsbD 15 := d.flag_bit _ (by decide)

theorem stores_MS_SEQTRIG (q : SeqNo) : Stores (MS_SEQTRIG q) 0xF81F := by revert q; unfold Stores; decide
theorem stores_MS_TTCTL : Stores MS_TTCTL 0xFFFF := by unfold Stores; decide

/-- The delay of a plan entry is stored as it is written. -/
theorem stores_MS_PEDLY {e : Nat} (h : e < 2048) : Stores (MS_PEDLY e) 0xFFFF := by
  have hr : rowsAt (MS_PEDLY e) = rows_plan := by
    simp only [rowsAt, MS_PEDLY]
    repeat rw [if_neg (by omega)]
    rw [if_pos (by omega)]
  have hctl : ¬(Row.mk 0x11000 2048 0x10 1 0x100000 0xFFFF 0 0xFFFF 0).holds (MS_PEDLY e) = true := by
    simp only [Row.holds, MS_PEDLY, Bool.and_eq_true, decide_eq_true_eq, beq_iff_eq]; omega
  have hseq : ¬(Row.mk 0x11002 2048 0x10 1 0x100000 0xFF9F 0 0xFF9F 0).holds (MS_PEDLY e) = true := by
    simp only [Row.holds, MS_PEDLY, Bool.and_eq_true, decide_eq_true_eq, beq_iff_eq]; omega
  have hdly : (Row.mk 0x11004 2048 0x10 1 0x100000 0xFFFF 0 0xFFFF 0).holds (MS_PEDLY e) = true := by
    simp only [Row.holds, MS_PEDLY, Bool.and_eq_true, decide_eq_true_eq, beq_iff_eq]; omega
  let holds : Row → Bool := fun x => x.holds (MS_PEDLY e)
  have hrow := (List.find?_cons_of_neg (p := holds) hctl).trans
    ((List.find?_cons_of_neg (p := holds) hseq).trans (List.find?_cons_of_pos (p := holds) (l := rows_plan.drop 3) hdly))
  rw [Stores, rowAt, hr]
  exact congrArg (Option.map fun r : Row => (r.stored, r.w1c)) hrow

theorem Dev.onlyRegs.meas {d e : Dev} {K : Nat → Prop} (h : d.onlyRegs e K) : e.meas = d.meas := by simpa using congrArg Dev.meas h.2

theorem Dev.onlyRegs_storeWord (d : Dev) (k a : Nat) (v : Word) : d.onlyRegs (d.storeWord k a v) (· = k) := by
  unfold Dev.storeWord
  split
  · exact .refl d _
  · exact d.onlyRegs_wr _ _

/-! ## A sequence stops (R162) -/

/-- Entries of sequence `q` leave the seats' queues. -/
def Dev.dropDue (d : Dev) (q : SeqNo) (ks : List (Fin 24)) : Dev :=
  ks.foldl (fun (d : Dev) (k : Fin 24) => d.modSeat k fun x => { x with due := x.due.filter fun y => d.entrySeq y.1 ≠ q.val }) d

theorem Dev.stopSeq_eq (d : Dev) (q : SeqNo) : d.stopSeq q =
    ((d.startSeats d.tickStart).dropDue q (List.finRange 24)).modSeq q fun x => { x with div := 0, toSample := [], toStore := [] } :=
  rfl

/-- From `d` to `e` the seats' queues may have lost entries, and nothing else has changed. -/
structure Dev.Drops (d e : Dev) : Prop where
  rest : ({ e with meas := { e.meas with seats := d.meas.seats } } : Dev) = d
  due : ∀ k, ∀ x ∈ (e.seat k).due, x ∈ (d.seat k).due

theorem Dev.Drops.regs {d e : Dev} (h : d.Drops e) : e.regs = d.regs := by simpa using congrArg Dev.regs h.rest
theorem Dev.Drops.convs {d e : Dev} (h : d.Drops e) : e.meas.convs = d.meas.convs := by simpa using congrArg (·.meas.convs) h.rest
theorem Dev.Drops.mseq {d e : Dev} (h : d.Drops e) (q : SeqNo) : e.mseq q = d.mseq q := by
  rw [Dev.mseq, Dev.mseq, show e.meas.seqs = d.meas.seqs by simpa using congrArg (·.meas.seqs) h.rest]

theorem Dev.dropDue_drops (q : SeqNo) (ks : List (Fin 24)) (d : Dev) : d.Drops (d.dropDue q ks) ∧
    ∀ k ∈ ks, ∀ x ∈ ((d.dropDue q ks).seat k).due, d.entrySeq x.1 ≠ q.val := by
  induction ks generalizing d with
  | nil => exact ⟨⟨rfl, fun _ _ h => h⟩, by simp⟩
  | cons j ks ih =>
    set e := d.modSeat j fun x => { x with due := x.due.filter fun y => d.entrySeq y.1 ≠ q.val } with he
    obtain ⟨h, hk⟩ := ih e
    have hall : d.dropDue q (j :: ks) = e.dropDue q ks := rfl
    rw [hall]
    have hdue (k : Fin 24) : ∀ x ∈ (e.seat k).due, x ∈ (d.seat k).due ∧ (k = j → d.entrySeq x.1 ≠ q.val) := by
      intro x hx
      rw [he, Dev.seat_modSeat] at hx
      split at hx
      · subst k
        obtain ⟨hm, hs⟩ := List.mem_filter.mp hx
        exact ⟨hm, fun _ => by simpa using hs⟩
      · exact ⟨hx, fun h => absurd h ‹_›⟩
    refine ⟨⟨?_, fun k x hx => (hdue k x (h.due k x hx)).1⟩, fun k hmem x hx => ?_⟩
    · exact (congrArg (fun g : Dev => { g with meas := { g.meas with seats := d.meas.seats } }) h.rest).trans rfl
    · obtain rfl | hm := List.mem_cons.mp hmem
      · exact (hdue k x (h.due k x hx)).2 rfl
      · exact hk k hm x hx

/-- What a stop leaves of its sequence, of the seats and of the registers. -/
structure Dev.SeqStopped (d : Dev) (q : SeqNo) (e : Dev) : Prop where
  mseq : e.mseq q = { d.mseq q with div := 0, toSample := [], toStore := [] }
  due : ∀ k, ∀ x ∈ (e.seat k).due, d.entrySeq x.1 ≠ q.val
  convs : e.meas.convs = (d.startSeats d.tickStart).meas.convs
  rd : ∀ a, a ≠ MS_STICKY → a ≠ MS_SLIPCNT → e.rd a = d.rd a

theorem Dev.stopSeq_stopped (d : Dev) (q : SeqNo) : d.SeqStopped q (d.stopSeq q) := by
  have hs := d.samples_startSeats d.tickStart
  obtain ⟨hd, hk⟩ := Dev.dropDue_drops q (List.finRange 24) (d.startSeats d.tickStart)
  rw [Dev.stopSeq_eq]
  generalize (d.startSeats d.tickStart).dropDue q (List.finRange 24) = e at hd hk ⊢
  refine ⟨?_, fun k x hx => ?_, hd.convs, fun a h1 h2 => ?_⟩
  · rw [Dev.mseq_modSeq_same, hd.mseq, hs.runs]
  · rw [← hs.entrySeq]
    exact hk k (List.mem_finRange k) x hx
  · rw [Dev.rd_modSeq, Dev.rd, hd.regs]
    exact hs.rd h1 h2

/-! ## MS_SEQTRIG (R156, R162) -/

section SeqTrig

variable {d : Dev} {q : SeqNo} {v : Word}

/-- A trigger or an entry in use of the sequence is invalid (R156). -/
def Dev.seqBad (d : Dev) (q : SeqNo) (v : Word) : Prop := trigInvalid v = true ∨ ∃ e ∈ d.seqEntries q.val, d.entryInvalid e = true

theorem Dev.seqBad_iff : d.seqBad q v ↔ (trigInvalid v || (d.seqEntries q.val).any d.entryInvalid) = true := by
  simp only [Dev.seqBad, Bool.or_eq_true, List.any_eq_true]

theorem Dev.writeSeqTrig_reserved (h : 56 ≤ q.val) : d.writeSeqTrig q v = d := if_pos h

variable (hq : q.val < 56)
include hq

theorem Dev.writeSeqTrig_good (hv : v.getLsbD 15 = true) (hb : ¬d.seqBad q v) :
    d.writeSeqTrig q v = (d.modSeq q fun x => { x with div := 0 }).storeWord (MS_SEQTRIG q) (MS_SEQTRIG q) v := by
  rw [Dev.seqBad_iff] at hb
  rw [Dev.writeSeqTrig, if_neg (by omega), if_pos hv, if_neg hb]

theorem Dev.writeSeqTrig_bad (hv : v.getLsbD 15 = true) (hb : d.seqBad q v) : d.writeSeqTrig q v =
    ((d.stopSeq q).storeWord (MS_SEQTRIG q) (MS_SEQTRIG q) (v &&& 0x7FFF#16)).setFlag MS_STICKY MS_STICKY.SEQREF true := by
  rw [Dev.seqBad_iff] at hb
  rw [Dev.writeSeqTrig, if_neg (by omega), if_pos hv, if_pos hb]

theorem Dev.writeSeqTrig_off (hv : v.getLsbD 15 = false) :
    d.writeSeqTrig q v = (d.stopSeq q).storeWord (MS_SEQTRIG q) (MS_SEQTRIG q) v := by
  rw [Dev.writeSeqTrig, if_neg (by omega), if_neg (by rw [hv]; decide)]

end SeqTrig

/-- EN is stored as it is written. -/
theorem Dev.seqEnabled_storeWord (d : Dev) (q : SeqNo) (v : Word) :
    (d.storeWord (MS_SEQTRIG q) (MS_SEQTRIG q) v).seqEnabled q.val = v.getLsbD 15 := by
  rw [Dev.seqEnabled_eq, d.storeWord_of_stores (stores_MS_SEQTRIG q), Dev.rd_wr_same]
  simp

theorem MS_SEQTRIG_ne_STICKY (q : SeqNo) : MS_SEQTRIG q ≠ MS_STICKY := by simp only [MS_SEQTRIG, MS_STICKY]; omega

theorem Dev.rd_storeWord_ne (d : Dev) {k a b : Nat} (v : Word) (h : b ≠ k) : (d.storeWord k a v).rd b = d.rd b :=
  (d.onlyRegs_storeWord k a v).1 b h

theorem Dev.storeWord_meas (d : Dev) (k a : Nat) (v : Word) : (d.storeWord k a v).meas = d.meas := (d.onlyRegs_storeWord k a v).meas

section Commands

variable {s : State} {acc : Acc} {q : SeqNo} {v : BitVec 16} (hm : s.dev.mayWrite acc (MS_SEQTRIG q) = true)
include hm

theorem msSeqEnable_reserved (hq : 56 ≤ q.val) :
    exec (.msSeqEnable acc q v) s = .next { s with dev := s.dev.dropHeld acc } := by
  show Host.Outcome.next { s with dev := s.dev.gate acc (MS_SEQTRIG q) (·.writeSeqTrig q (v ||| 0x8000#16)) } = _
  rw [Dev.gate_of_mayWrite _ _ hm, Dev.writeSeqTrig_reserved hq]

theorem msSeqDisable_reserved (hq : 56 ≤ q.val) :
    exec (.msSeqDisable acc q v) s = .next { s with dev := s.dev.dropHeld acc } := by
  show Host.Outcome.next { s with dev := s.dev.gate acc (MS_SEQTRIG q) (·.writeSeqTrig q (v &&& 0x7FFF#16)) } = _
  rw [Dev.gate_of_mayWrite _ _ hm, Dev.writeSeqTrig_reserved hq]

variable (hq : q.val < 56)
include hq

theorem msSeqEnable_good (hb : ¬s.dev.seqBad q (v ||| 0x8000#16)) : Completes (.msSeqEnable acc q v) s fun e =>
    e.seqEnabled q.val = true ∧ (e.mseq q).div = 0 ∧ (∀ j, j ≠ q → e.mseq j = s.dev.mseq j) ∧
      s.dev.keepsRegs e (fun a => a = MS_SEQTRIG q) := by
  refine completes_gate (·.writeSeqTrig q (v ||| 0x8000#16)) rfl hm ?_
  rw [Dev.writeSeqTrig_good (d := s.dev.dropHeld acc) hq (by simp) hb]
  refine ⟨by rw [Dev.seqEnabled_storeWord]; simp, ?_, fun j hj => ?_, fun a ha _ => Dev.rd_storeWord_ne _ _ ha⟩
  · rw [Dev.mseq, Dev.storeWord_meas]
    exact congrArg SeqSt.div (Dev.mseq_modSeq_same _ q fun x => { x with div := 0 })
  · rw [Dev.mseq, Dev.storeWord_meas]
    exact (Dev.mseq_modSeq _ q j _).trans (if_neg hj)

theorem msSeqEnable_bad (hb : s.dev.seqBad q (v ||| 0x8000#16)) : Completes (.msSeqEnable acc q v) s fun e =>
    e.seqEnabled q.val = false ∧ e.flag MS_STICKY MS_STICKY.SEQREF = true ∧
      s.dev.keepsRegs e (fun a => a = MS_SEQTRIG q ∨ a = MS_SLIPCNT ∨ a = MS_STICKY) := by
  refine completes_gate (·.writeSeqTrig q (v ||| 0x8000#16)) rfl hm ?_
  have hst := (s.dev.dropHeld acc).stopSeq_stopped q
  rw [Dev.writeSeqTrig_bad (d := s.dev.dropHeld acc) hq (by simp) hb]
  refine ⟨?_, Dev.flag_setFlag_same _ _ _ _ (by decide) (by decide), fun a ha _ => ?_⟩
  · rw [Dev.seqEnabled_eq, Dev.rd_setFlag_ne _ _ _ (by decide) (MS_SEQTRIG_ne_STICKY q), ← Dev.seqEnabled_eq,
      Dev.seqEnabled_storeWord]
    simp
  · obtain ⟨h1, h2⟩ := not_or.mp ha
    obtain ⟨h2, h3⟩ := not_or.mp h2
    rw [Dev.rd_setFlag_ne _ _ _ (by decide) h3, Dev.rd_storeWord_ne _ _ h1]
    exact hst.rd a h3 h2

theorem msSeqDisable_stops : Completes (.msSeqDisable acc q v) s fun e => e.seqEnabled q.val = false ∧
    e.mseq q = { s.dev.mseq q with div := 0, toSample := [], toStore := [] } ∧
    (∀ i, ∀ x ∈ (e.seat i).due, s.dev.entrySeq x.1 ≠ q.val) ∧
    e.meas.convs = ((s.dev.dropHeld acc).startSeats s.dev.tickStart).meas.convs ∧
    s.dev.keepsRegs e (fun a => a = MS_SEQTRIG q ∨ a = MS_SLIPCNT ∨ a = MS_STICKY) := by
  refine completes_gate (·.writeSeqTrig q (v &&& 0x7FFF#16)) rfl hm ?_
  have hst := (s.dev.dropHeld acc).stopSeq_stopped q
  rw [Dev.writeSeqTrig_off hq (by simp)]
  refine ⟨by rw [Dev.seqEnabled_storeWord]; simp, ?_, fun i x hx => ?_, ?_, fun a ha _ => ?_⟩
  · rw [Dev.mseq, Dev.storeWord_meas]
    exact hst.mseq
  · rw [Dev.seat, Dev.storeWord_meas] at hx
    exact hst.due i x hx
  · rw [Dev.storeWord_meas]
    exact hst.convs
  · obtain ⟨h1, h2⟩ := not_or.mp ha
    obtain ⟨h2, h3⟩ := not_or.mp h2
    rw [Dev.rd_storeWord_ne _ _ h1]
    exact hst.rd a h3 h2

end Commands

/-! ## The plan (R155, R157) -/

/-- Entry `e` of an enabled sequence keeps the word at `off` (R157). -/
def Dev.entryHeld (d : Dev) (e off : Nat) : Prop :=
  off < 6 ∧ d.flag (MS_PECTL e) MS_PECTL.VALID = true ∧ d.seqEnabled (d.entrySeq e) = true

section Entry

variable {d : Dev} {e off : Nat} (v : Word)

theorem Dev.entryHeld_iff : d.entryHeld e off ↔
    (off < 6 && d.flag (MS_PECTL e) MS_PECTL.VALID && d.seqEnabled (d.entrySeq e)) = true := by
  simp only [Dev.entryHeld, Bool.and_eq_true, decide_eq_true_eq, and_assoc]

theorem Dev.writeEntry_held (h : d.entryHeld e off) : d.writeEntry e off v = d.setFlag MS_STICKY MS_STICKY.PLANWREF true :=
  if_pos (Dev.entryHeld_iff.mp h)

theorem Dev.writeEntry_taken (h : ¬d.entryHeld e off) :
    d.writeEntry e off v = d.storeWord (MS_PECTL e + off) (MS_PECTL e + off) v := if_neg (Dev.entryHeld_iff.not.mp h)

end Entry

theorem Dev.planEntry_lt (d : Dev) (acc : Acc) (a : Nat) : d.planEntry acc a < 2048 := by
  simp only [Dev.planEntry, Dev.planPage]
  omega

section Plan

variable {s : State} {acc : Acc} {addr : BitVec 16} (v : BitVec 16) (hm : s.dev.mayWrite acc addr.toNat = true)

include hm in
theorem msPlanWrite_reserved (h : s.dev.planEntry acc addr.toNat < 64) :
    exec (.msPlanWrite acc addr v) s = .next { s with dev := s.dev.dropHeld acc } := by
  have hw : (s.dev.dropHeld acc).writePlan acc addr.toNat v = s.dev.dropHeld acc := by
    have : (s.dev.dropHeld acc).planEntry acc addr.toNat < 64 := h
    simp [Dev.writePlan, this]
  show Host.Outcome.next { s with dev := s.dev.gate acc addr.toNat (·.writePlan acc addr.toNat v) } = _
  rw [Dev.gate_of_mayWrite _ _ hm, hw]

variable (hlo : 0x4800 ≤ addr.toNat) (hhi : addr.toNat < 0x5000) (he : 64 ≤ s.dev.planEntry acc addr.toNat)
include hlo hhi he

theorem Dev.writePlan_eq : (s.dev.dropHeld acc).writePlan acc addr.toNat v =
    (s.dev.dropHeld acc).writeEntry (s.dev.planEntry acc addr.toNat) (addr.toNat % 16 / 2 * 2) v := by
  have : 64 ≤ (s.dev.dropHeld acc).planEntry acc addr.toNat := he
  rw [Dev.writePlan, if_neg (by simp; omega)]
  rfl

include hm

theorem msPlanWrite_held (h : s.dev.entryHeld (s.dev.planEntry acc addr.toNat) (addr.toNat % 16 / 2 * 2)) :
    Completes (.msPlanWrite acc addr v) s fun e =>
      e.flag MS_STICKY MS_STICKY.PLANWREF = true ∧ (s.dev.dropHeld acc).onlyRegs e (fun a => a = MS_STICKY) := by
  refine completes_gate (·.writePlan acc addr.toNat v) rfl hm ?_
  rw [Dev.writePlan_eq v hlo hhi he, Dev.writeEntry_held (d := s.dev.dropHeld acc) v h]
  exact ⟨Dev.flag_setFlag_same _ _ _ _ (by decide) (by decide), Dev.onlyRegs_setFlag _ _ _ _ (by decide)⟩

theorem msPlanWrite_taken (h : ¬s.dev.entryHeld (s.dev.planEntry acc addr.toNat) (addr.toNat % 16 / 2 * 2)) :
    Completes (.msPlanWrite acc addr v) s fun e =>
      (addr.toNat % 16 / 2 * 2 = 4 → e.rd (MS_PEDLY (s.dev.planEntry acc addr.toNat)) = v) ∧
        (s.dev.dropHeld acc).onlyRegs e
          (fun a => a = MS_PECTL (s.dev.planEntry acc addr.toNat) + addr.toNat % 16 / 2 * 2) := by
  refine completes_gate (·.writePlan acc addr.toNat v) rfl hm ?_
  rw [Dev.writePlan_eq v hlo hhi he, Dev.writeEntry_taken (d := s.dev.dropHeld acc) v h]
  refine ⟨fun hoff => ?_, Dev.onlyRegs_storeWord _ _ _ _⟩
  have ha : MS_PECTL (s.dev.planEntry acc addr.toNat) + addr.toNat % 16 / 2 * 2 = MS_PEDLY (s.dev.planEntry acc addr.toNat) := by
    simp only [hoff, MS_PECTL, MS_PEDLY]
    omega
  rw [ha, Dev.storeWord_of_stores_all _ (stores_MS_PEDLY (s.dev.planEntry_lt acc _)), Dev.rd_wr_same]

end Plan

/-! ## Trigger timers (R163) -/

/-- The timers that a write of MS_TTCTL leaves: those that stand go on, and those of rising bits start now. -/
def Dev.timersOf (d : Dev) (v : Word) : Vector (Option TimerSt) 16 := Vector.ofFn fun (n : Fin 16) =>
  if !v.getLsbD n.val then none else if d.mbit MS_TTCTL n.val then d.meas.timers[n] else some { start := d.now, last := none }

/-- The timers are those of `x`. -/
def Dev.setTimers (d : Dev) (x : Vector (Option TimerSt) 16) : Dev := { d with meas := { d.meas with timers := x } }

theorem Dev.writeTtctl_eq (d : Dev) (v : Word) : d.writeTtctl v = (d.setTimers (d.timersOf v)).wr MS_TTCTL v :=
  Dev.storeWord_of_stores_all _ stores_MS_TTCTL v

theorem Dev.setTimers_wr (d : Dev) (x : Vector (Option TimerSt) 16) (a : Nat) (v : Word) :
    d.onlyRegs { (d.setTimers x).wr a v with meas := d.meas } (· = a) ∧
      ({ ((d.setTimers x).wr a v).meas with timers := d.meas.timers } : MeasSt) = d.meas ∧
      ((d.setTimers x).wr a v).meas.timers = x :=
  ⟨⟨fun _ ha => d.rd_wr_ne v ha, rfl⟩, rfl, rfl⟩

theorem Dev.timersOf_get (d : Dev) (v : Word) (n : Fin 16) : (d.timersOf v)[n] = if v.getLsbD n.val = false then none
    else if d.mbit MS_TTCTL n.val = true then d.meas.timers[n] else some { start := d.now, last := none } := by
  simp only [Dev.timersOf, Fin.getElem_fin, Vector.getElem_ofFn, Bool.not_eq_true']

theorem msTtctlWrite_starts {s : State} {acc : Acc} {v : BitVec 16} (hm : s.dev.mayWrite acc MS_TTCTL = true) :
    Completes (.msTtctlWrite acc v) s fun e =>
      e.rd MS_TTCTL = v ∧ (s.dev.dropHeld acc).onlyRegs { e with meas := s.dev.meas } (fun a => a = MS_TTCTL) ∧
        ({ e.meas with timers := s.dev.meas.timers } : MeasSt) = s.dev.meas ∧
        ∀ n : Fin 16, e.meas.timers[n] = if v.getLsbD n.val = false then none
          else if s.dev.mbit MS_TTCTL n.val = true then s.dev.meas.timers[n] else some { start := s.dev.now, last := none } := by
  refine completes_gate (·.writeTtctl v) rfl hm ?_
  rw [Dev.writeTtctl_eq]
  obtain ⟨hregs, hmeas, htim⟩ := (s.dev.dropHeld acc).setTimers_wr ((s.dev.dropHeld acc).timersOf v) MS_TTCTL v
  refine ⟨Dev.rd_wr_same _ _ _, hregs, hmeas, fun n => ?_⟩
  rw [htim]
  exact (s.dev.dropHeld acc).timersOf_get v n

end Sys2Proof.Machine
end

section
/-!
Rotation of the converters (R172 to R175), the end of the start-up pass (R174, R177), and the statement about sequences, plan and
converters.
-/

namespace Sys2Proof.Machine

open Sys2Proof Sys2Proof.R

/-! ## Converters and their words -/

theorem MS_ADCSTAT_ne {a b : Adc} (h : a ≠ b) : MS_ADCSTAT a ≠ MS_ADCSTAT b := by
  simp only [MS_ADCSTAT, ne_eq, Fin.ext_iff] at h ⊢
  omega

theorem evtReg_MS_ADCSTAT (a : Adc) : evtReg (MS_ADCSTAT a) = false := by revert a; decide

section Converters

variable (d : Dev) (a : Adc) {b : Nat}

theorem Dev.rd_toBay_ne (h : b ≠ MS_ADCSTAT a) : (d.toBay a).rd b = d.rd b := d.rd_setFlag_ne _ _ (by decide) h

theorem Dev.rd_leaveSeat_ne (h : b ≠ MS_ADCSTAT a) : (d.leaveSeat a).rd b = d.rd b := by
  unfold Dev.leaveSeat
  split
  · rfl
  · exact d.rd_toBay_ne a h

/-- A converter leaves its seat for the bay, unless it still converts (R173). -/
theorem Dev.inbay_leaveSeat (h : d.conv a = none) : (d.leaveSeat a).flag (MS_ADCSTAT a) MS_ADCSTAT.INBAY = true := by
  have : d.leaveSeat a = d.toBay a := if_neg (by simp [h])
  rw [this]
  exact d.flag_setFlag_same _ _ _ (by decide) (by decide)

theorem Dev.leaving_leaveSeat (h : d.conv a ≠ none) : a ∈ (d.leaveSeat a).meas.leaving := by
  rw [Dev.leaveSeat, if_pos (Option.isSome_iff_ne_none.mpr h)]
  exact List.mem_cons_self

/-- The end of a bay calibration concerns SETTLING alone. -/
theorem Dev.rd_calibrated_ne (h : b ≠ MS_STATUS) : (d.calibrated a).rd b = d.rd b := by
  unfold Dev.calibrated Dev.when
  dsimp only
  split
  · exact Dev.rd_setFlag_ne _ _ _ (by decide) h
  · rfl

theorem Dev.leaving_calibrated : (d.calibrated a).meas.leaving = d.meas.leaving := by
  unfold Dev.calibrated Dev.when
  dsimp only
  split <;> rfl

variable (seat : Nat)

theorem Dev.onlyRegs_placeAdc : d.onlyRegs (d.placeAdc a seat) (· = MS_ADCSTAT a) :=
  (((d.onlyRegs_setFlag _ _ _ (by decide)).trans (Dev.onlyRegs_setFld _ _ _ _ (by decide))).trans
    (Dev.onlyRegs_setFld _ _ _ _ (by decide))).mono fun _ h => h.elim (·.elim id id) id

theorem Dev.inbay_placeAdc : (d.placeAdc a seat).flag (MS_ADCSTAT a) MS_ADCSTAT.INBAY = false := by
  rw [Dev.flag, Dev.placeAdc, Dev.fld_setFld_disjoint _ _ _ _ _ (by decide) (by decide) (by decide),
    Dev.fld_setFld_disjoint _ _ _ _ _ (by decide) (by decide) (by decide)]
  exact d.flag_setFlag_same _ _ _ (by decide) (by decide)

theorem Dev.retired_placeAdc : (d.placeAdc a seat).flag (MS_ADCSTAT a) MS_ADCSTAT.RETIRED = d.flag (MS_ADCSTAT a) MS_ADCSTAT.RETIRED := by
  rw [Dev.flag, Dev.placeAdc, Dev.fld_setFld_disjoint _ _ _ _ _ (by decide) (by decide) (by decide),
    Dev.fld_setFld_disjoint _ _ _ _ _ (by decide) (by decide) (by decide)]
  exact d.flag_setFlag_disjoint _ _ _ _ (by decide) (by decide) (by decide)

/-- A converter stands on the seat that it takes. -/
theorem Dev.seat_placeAdc (h : seat < 24) :
    4 * (d.placeAdc a seat).fld (MS_ADCSTAT a) MS_ADCSTAT.QUAD + (d.placeAdc a seat).fld (MS_ADCSTAT a) MS_ADCSTAT.SEAT = seat := by
  rw [Dev.placeAdc, Dev.fld_setFld_disjoint _ _ _ _ _ (by decide) (by decide) (by decide),
    Dev.fld_setFld_same _ _ _ _ (by decide), Dev.fld_setFld_same _ _ _ _ (by decide)]
  simp only
  omega

end Converters

theorem Dev.leaving_startHeld (d : Dev) (k : Fin 24) : (d.startHeld k).meas.leaving = d.meas.leaving := by
  unfold Dev.startHeld
  split
  · rfl
  split
  · rfl
  · dsimp only
    split <;> rfl

/-! ## A rotation step (R173) -/

/-- In a rotation step the converter `l` leaves its seat to `b`, and the ring's next seat moves on. -/
def Dev.changeOver (d : Dev) (ring : Fin 2) (l b : Adc) (k : Nat) : Dev :=
  ((((d.leaveSeat l).calibrated b).placeAdc b (ringSeat ring k)).bumpWrap MS_MIGCNT).setFld MS_STATUS (ringNext ring) ((k + 1) % 11)

theorem Dev.rotate_off {d : Dev} (ring : Fin 2) (good : Bool) (h : d.measOn = false) : d.rotate ring good = d := by
  simp [Dev.rotate, h]

section Rotate

variable {d : Dev} {ring : Fin 2} {b l : Adc} (hon : d.measOn = true) (hstop : d.flag MS_STATUS (ringStop ring) = false)
  (hb : d.bayAdc ring = some b)
include hon hstop hb

theorem Dev.rotate_fails : d.rotate ring false = (((({ d with
    meas := { d.meas with uncal := d.meas.uncal.filter fun a => a ≠ b } } : Dev).retire1 b).setFlag MS_STATUS (ringStop ring) true).raise
      191) := by
  rw [Dev.rotate, if_neg (by simp [hon, hstop]), hb]
  rfl

theorem Dev.rotate_changesOver {k : Nat} (hk : d.fld MS_STATUS (ringNext ring) = k)
    (hl : d.seatAdc (Fin.ofNat 24 (ringSeat ring k)) = some l) :
    ∃ e, ((d.startSeats d.tickStart).changeOver ring l b k).Measures e ∧
      e.meas.leaving = ((d.startSeats d.tickStart).changeOver ring l b k).meas.leaving ∧ d.rotate ring true = e := by
  have hs := d.samples_startSeats d.tickStart
  have hnext : (d.startSeats d.tickStart).fld MS_STATUS (ringNext ring) = k :=
    (hs.fld _ (by unfold ringNext; split <;> decide) (by decide) (by decide)).trans hk
  refine ⟨_, ?_, ?_, rfl⟩
  · rw [Dev.rotate, if_neg (by simp [hon, hstop]), hb]
    simp only [Bool.not_true, Bool.false_eq_true, ↓reduceIte, hnext, hs.seatAdc, hl]
    exact (Dev.measures_modSeat _ _ _).trans (Dev.measures_startHeld _ _)
  · rw [Dev.rotate, if_neg (by simp [hon, hstop]), hb]
    simp only [Bool.not_true, Bool.false_eq_true, ↓reduceIte, hnext, hs.seatAdc, hl]
    exact Dev.leaving_startHeld _ _

end Rotate

theorem ringNext_fits : ∀ ring : Fin 2, (ringNext ring).lo + (ringNext ring).w ≤ 16 := by decide
theorem ringStop_fits : ∀ ring : Fin 2, (ringStop ring).lo + (ringStop ring).w ≤ 16 := by decide

section Exchange

variable (d : Dev) (ring : Fin 2) {l b : Adc} (k : Nat)

theorem Dev.next_changeOver (l b : Adc) : (d.changeOver ring l b k).fld MS_STATUS (ringNext ring) = (k + 1) % 11 := by
  rw [Dev.changeOver, Dev.fld_setFld_same _ _ _ _ (ringNext_fits ring), show (ringNext ring).w = 4 by unfold ringNext; split <;> rfl]
  omega

/-- Beside MS_STATUS and MS_MIGCNT, a word after the exchange is as it is on the seat. -/
theorem Dev.rd_changeOver {a : Nat} (h1 : a ≠ MS_STATUS) (h2 : a ≠ MS_MIGCNT) :
    (d.changeOver ring l b k).rd a = (((d.leaveSeat l).calibrated b).placeAdc b (ringSeat ring k)).rd a :=
  (Dev.rd_setFld_ne _ _ _ (ringNext_fits ring) h1).trans (Dev.rd_wr_ne _ _ h2)

theorem Dev.migcnt_changeOver (l b : Adc) : (d.changeOver ring l b k).rd MS_MIGCNT = d.rd MS_MIGCNT + 1 := by
  have hne (a : Adc) : MS_MIGCNT ≠ MS_ADCSTAT a := by revert a; decide
  rw [Dev.changeOver, Dev.rd_setFld_ne _ _ _ (ringNext_fits ring) (by decide), Dev.bumpWrap, Dev.rd_wr_same,
    (Dev.onlyRegs_placeAdc _ _ _).1 _ (hne b), Dev.rd_calibrated_ne _ _ (by decide), Dev.rd_leaveSeat_ne _ _ (hne l)]

theorem MS_ADCSTAT_ne_STATUS (a : Adc) : MS_ADCSTAT a ≠ MS_STATUS := by revert a; decide
theorem MS_ADCSTAT_ne_MIGCNT (a : Adc) : MS_ADCSTAT a ≠ MS_MIGCNT := by revert a; decide
theorem MS_ADCSTAT_ne_STICKY (a : Adc) : MS_ADCSTAT a ≠ MS_STICKY := by revert a; decide
theorem MS_ADCSTAT_ne_SLIPCNT (a : Adc) : MS_ADCSTAT a ≠ MS_SLIPCNT := by revert a; decide

theorem Dev.fld_changeOver_adc (a : Adc) (f : Fld) (hf : f.lo + f.w ≤ 16) : (d.changeOver ring l b k).fld (MS_ADCSTAT a) f =
    (((d.leaveSeat l).calibrated b).placeAdc b (ringSeat ring k)).fld (MS_ADCSTAT a) f :=
  Dev.fld_of_rd f hf (d.rd_changeOver ring k (MS_ADCSTAT_ne_STATUS a) (MS_ADCSTAT_ne_MIGCNT a))

theorem Dev.inbay_changeOver (l b : Adc) : (d.changeOver ring l b k).flag (MS_ADCSTAT b) MS_ADCSTAT.INBAY = false := by
  rw [Dev.flag, Dev.fld_changeOver_adc _ _ _ _ _ (by decide)]
  exact Dev.inbay_placeAdc _ _ _

theorem Dev.seat_changeOver (l b : Adc) (hk : k < 11) : 4 * (d.changeOver ring l b k).fld (MS_ADCSTAT b) MS_ADCSTAT.QUAD +
    (d.changeOver ring l b k).fld (MS_ADCSTAT b) MS_ADCSTAT.SEAT = ringSeat ring k := by
  rw [Dev.fld_changeOver_adc _ _ _ _ _ (by decide), Dev.fld_changeOver_adc _ _ _ _ _ (by decide)]
  exact Dev.seat_placeAdc _ _ _ (by unfold ringSeat; omega)

/-- The converter that left goes to the bay. -/
theorem Dev.inbay_changeOver_left (hl : l ≠ b) (hc : d.conv l = none) :
    (d.changeOver ring l b k).flag (MS_ADCSTAT l) MS_ADCSTAT.INBAY = true := by
  have hp := (((d.leaveSeat l).calibrated b).onlyRegs_placeAdc b (ringSeat ring k)).1 _ (MS_ADCSTAT_ne hl)
  have hkeep := Dev.fld_of_rd MS_ADCSTAT.INBAY (by decide) (hp.trans (Dev.rd_calibrated_ne _ b (MS_ADCSTAT_ne_STATUS l)))
  rw [Dev.flag, Dev.fld_changeOver_adc _ _ _ _ _ (by decide), hkeep]
  exact d.inbay_leaveSeat l hc

/-- A converter under way leaves when it has converted. -/
theorem Dev.leaving_changeOver (hc : d.conv l ≠ none) : l ∈ (d.changeOver ring l b k).meas.leaving := by
  have hp := ((d.leaveSeat l).calibrated b).onlyRegs_placeAdc b (ringSeat ring k)
  have hq (e : Dev) : (e.bumpWrap MS_MIGCNT).onlyRegs ((e.bumpWrap MS_MIGCNT).setFld MS_STATUS (ringNext ring) ((k + 1) % 11)) _ :=
    Dev.onlyRegs_setFld _ _ _ _ (ringNext_fits ring)
  have hm : (d.changeOver ring l b k).meas = ((d.leaveSeat l).calibrated b).meas :=
    (hq _).meas.trans hp.meas
  rw [hm, Dev.leaving_calibrated]
  exact d.leaving_leaveSeat l hc

end Exchange

/-! ## A converter that fails (R175) -/

section Retire

variable (d : Dev) (a : Adc)

/-- What a retirement and the filling of a ring may change. -/
def adcReg (a : Nat) : Prop := (∃ b : Adc, a = MS_ADCSTAT b) ∨ a = MS_STICKY ∨ a = MS_STATUS

theorem Dev.onlyRegs_retire1 : d.onlyRegs (d.retire1 a) adcReg := by
  refine ((((d.onlyRegs_setFlag _ _ _ (by decide)).trans (Dev.onlyRegs_setFlag _ _ _ _ (by decide))).trans
    (Dev.onlyRegs_setFlag _ _ _ _ (by decide))).trans (Dev.onlyRegs_setFlag _ _ _ _ (by decide))).mono fun k hk => ?_
  rcases hk with ((h | h) | h) | h
  · exact .inl ⟨a, h⟩
  · exact .inl ⟨a, h⟩
  · exact .inr (.inl h)
  · exact .inr (.inr h)

theorem Dev.flag_setFlag_other (d : Dev) {a b : Nat} (f g : Fld) (v : Bool) (hf : f.lo + f.w ≤ 16) (hg : g.lo + g.w ≤ 16)
    (h : b ≠ a) : (d.setFlag a f v).flag b g = d.flag b g := by
  rw [Dev.flag, Dev.flag, Dev.fld_of_rd g hg (d.rd_setFlag_ne f v hf h)]

theorem Dev.retired_retire1 : (d.retire1 a).retired a = true := by
  rw [Dev.retired, Dev.retire1, Dev.flag_setFlag_other _ _ _ _ (by decide) (by decide) (MS_ADCSTAT_ne_STATUS a),
    Dev.flag_setFlag_other _ _ _ _ (by decide) (by decide) (MS_ADCSTAT_ne_STICKY a)]
  exact Dev.flag_setFlag_same _ _ _ _ (by decide) (by decide)

theorem Dev.marks_retire1 : (d.retire1 a).flag MS_STICKY MS_STICKY.CALFAIL = true ∧
    (d.retire1 a).flag MS_STATUS MS_STATUS.DEGRADED = true := by
  refine ⟨?_, Dev.flag_setFlag_same _ _ _ _ (by decide) (by decide)⟩
  rw [Dev.retire1, Dev.flag_setFlag_other _ _ _ _ (by decide) (by decide) (by decide)]
  exact Dev.flag_setFlag_same _ _ _ _ (by decide) (by decide)

end Retire

theorem rotationStep_fails {s : State} {ring : Fin 2} {b : Adc} (hon : s.dev.measOn = true)
    (hstop : s.dev.flag MS_STATUS (ringStop ring) = false) (hb : s.dev.bayAdc ring = some b) :
    Completes (.rotationStep ring false) s fun e =>
      e.retired b = true ∧ e.flag MS_STATUS (ringStop ring) = true ∧ e.flag MS_STICKY MS_STICKY.CALFAIL = true ∧
        e.flag MS_STATUS MS_STATUS.DEGRADED = true ∧ e.evtPending 191 = true := by
  refine completes_step1 (·.rotate ring false) rfl ?_
  rw [Dev.rotate_fails hon hstop hb]
  generalize ({ s.dev with meas := _ } : Dev) = d
  have hq := ((d.retire1 b).setFlag MS_STATUS (ringStop ring) true).quiet_raise (e := 191) (by decide)
  have hother (a : Nat) (f : Fld) (hf : f.lo + f.w ≤ 16) (ha : a ≠ MS_STATUS) :
      ((d.retire1 b).setFlag MS_STATUS (ringStop ring) true).flag a f = (d.retire1 b).flag a f :=
    Dev.flag_setFlag_other _ _ _ _ (ringStop_fits ring) hf ha
  obtain ⟨hfail, hdeg⟩ := d.marks_retire1 b
  refine ⟨?_, ?_, ?_, ?_, Dev.evtPending_raise _ (by decide)⟩
  · rw [Dev.retired, hq.flag_eq _ (evtReg_MS_ADCSTAT b) (by decide), hother _ _ (by decide) (MS_ADCSTAT_ne_STATUS b)]
    exact d.retired_retire1 b
  · rw [hq.flag_eq _ (by decide) (ringStop_fits ring)]
    exact Dev.flag_setFlag_same _ _ _ _ (ringStop_fits ring) (by unfold ringStop; split <;> decide)
  · rw [hq.flag_eq _ (by decide) (by decide), hother _ _ (by decide) (by decide)]
    exact hfail
  · rw [hq.flag_eq _ (by decide) (by decide), Dev.flag_setFlag_disjoint _ _ _ _ _ (ringStop_fits ring) (by decide)
      (by unfold ringStop; split <;> decide)]
    exact hdeg

theorem rotationStep_changesOver {s : State} {ring : Fin 2} {b l : Adc} {k : Nat} (hon : s.dev.measOn = true)
    (hstop : s.dev.flag MS_STATUS (ringStop ring) = false) (hb : s.dev.bayAdc ring = some b)
    (hk : s.dev.fld MS_STATUS (ringNext ring) = k) (hlt : k < 11)
    (hl : s.dev.seatAdc (Fin.ofNat 24 (ringSeat ring k)) = some l) (hlb : l ≠ b) :
    Completes (.rotationStep ring true) s fun e =>
      e.flag (MS_ADCSTAT b) MS_ADCSTAT.INBAY = false ∧
      ((s.dev.startSeats s.dev.tickStart).conv l = none → e.flag (MS_ADCSTAT l) MS_ADCSTAT.INBAY = true) ∧
      ((s.dev.startSeats s.dev.tickStart).conv l ≠ none → l ∈ e.meas.leaving) ∧
      4 * e.fld (MS_ADCSTAT b) MS_ADCSTAT.QUAD + e.fld (MS_ADCSTAT b) MS_ADCSTAT.SEAT = ringSeat ring k ∧
      e.fld MS_STATUS (ringNext ring) = (k + 1) % 11 ∧ e.rd MS_MIGCNT = s.dev.rd MS_MIGCNT + 1 := by
  have hs := s.dev.samples_startSeats s.dev.tickStart
  obtain ⟨e, hm, hleave, he⟩ := Dev.rotate_changesOver hon hstop hb hk hl
  generalize s.dev.startSeats s.dev.tickStart = d at hs hm hleave ⊢
  have hadc (a : Adc) (f : Fld) (hf : f.lo + f.w ≤ 16) : e.fld (MS_ADCSTAT a) f = (d.changeOver ring l b k).fld (MS_ADCSTAT a) f :=
    Dev.fld_of_rd f hf (hm.rd _ (MS_ADCSTAT_ne_STICKY a) (MS_ADCSTAT_ne_SLIPCNT a))
  refine ⟨e, (congrArg (fun x : Dev => Host.Outcome.next ({ s with dev := x } : State)) he), ?_, fun hc => ?_, fun hc => ?_, ?_, ?_, ?_⟩
  · rw [Dev.flag, hadc _ _ (by decide)]
    exact d.inbay_changeOver ring k l b
  · rw [Dev.flag, hadc _ _ (by decide)]
    exact d.inbay_changeOver_left ring k hlb hc
  · rw [hleave]
    exact d.leaving_changeOver ring k hc
  · rw [hadc _ _ (by decide), hadc _ _ (by decide)]
    exact d.seat_changeOver ring k l b hlt
  · rw [Dev.fld_of_rd _ (ringNext_fits ring) (hm.rd _ (by decide) (by decide))]
    exact d.next_changeOver ring k l b
  · rw [hm.rd _ (by decide) (by decide), d.migcnt_changeOver ring k l b, hs.rd (by decide) (by decide)]

/-! ## The start-up pass (R174) -/

/-- From `d` to `e` converters have taken seats or gone to the bay, and those retired in `d` are retired in `e`. -/
structure Dev.Fills (d e : Dev) : Prop where
  regs : d.onlyRegs e adcReg
  retired : ∀ a : Adc, d.retired a = true → e.retired a = true

namespace Dev.Fills

theorem refl (d : Dev) : d.Fills d := ⟨.refl d _, fun _ h => h⟩

theorem trans {d e g : Dev} (h1 : d.Fills e) (h2 : e.Fills g) : d.Fills g :=
  ⟨(h1.regs.trans h2.regs).mono fun _ h => h.elim id id, fun a h => h2.retired a (h1.retired a h)⟩

theorem foldl {α : Type} {f : Dev → α → Dev} (hf : ∀ e x, Dev.Fills e (f e x)) (l : List α) (d : Dev) : d.Fills (l.foldl f d) := by
  induction l generalizing d with
  | nil => exact refl d
  | cons x l ih => exact (hf d x).trans (ih _)

end Dev.Fills

section Fills

variable (d : Dev)

theorem Dev.fills_setFlag {a : Nat} (f : Fld) (v : Bool) (hf : f.lo + f.w ≤ 16) (ha : a = MS_STICKY ∨ a = MS_STATUS) :
    d.Fills (d.setFlag a f v) := by
  refine ⟨(d.onlyRegs_setFlag a f v hf).mono fun _ h => .inr (h ▸ ha), fun b h => ?_⟩
  have hne : MS_ADCSTAT b ≠ a := by
    obtain rfl | rfl := ha
    · exact MS_ADCSTAT_ne_STICKY b
    · exact MS_ADCSTAT_ne_STATUS b
  rw [Dev.retired, Dev.flag_setFlag_other _ _ _ _ hf (by decide) hne]
  exact h

/-- A change of the word of one converter keeps the others' RETIRED. -/
theorem Dev.fills_of_adc {e : Dev} (a : Adc) (h : d.onlyRegs e (· = MS_ADCSTAT a)) (hr : e.retired a = d.retired a) : d.Fills e := by
  refine ⟨h.mono fun _ h => .inl ⟨a, h⟩, fun b hb => ?_⟩
  by_cases hab : b = a
  · rw [hab] at hb ⊢
    exact hr.trans hb
  · rw [Dev.retired, Dev.flag, h.fld _ (by decide) (MS_ADCSTAT_ne hab)]
    exact hb

theorem Dev.fills_placeAdc (a : Adc) (seat : Nat) : d.Fills (d.placeAdc a seat) :=
  d.fills_of_adc a (d.onlyRegs_placeAdc a seat) (d.retired_placeAdc a seat)

theorem Dev.fills_toBay (a : Adc) : d.Fills (d.toBay a) :=
  d.fills_of_adc a (d.onlyRegs_setFlag _ _ _ (by decide)) (d.flag_setFlag_disjoint _ _ _ _ (by decide) (by decide) (by decide))

theorem Dev.fills_retire1 (a : Adc) : d.Fills (d.retire1 a) := by
  refine ⟨d.onlyRegs_retire1 a, fun b hb => ?_⟩
  by_cases hab : b = a
  · rw [hab]
    exact d.retired_retire1 a
  · have h1 := (d.fills_toBay a).retired b hb
    have h2 : ((d.toBay a).setFlag (MS_ADCSTAT a) MS_ADCSTAT.RETIRED true).retired b = true :=
      (Dev.flag_setFlag_other _ _ _ _ (by decide) (by decide) (MS_ADCSTAT_ne hab)).trans h1
    have hs := Dev.fills_setFlag ((d.toBay a).setFlag (MS_ADCSTAT a) MS_ADCSTAT.RETIRED true) (a := MS_STICKY) MS_STICKY.CALFAIL true
      (by decide) (.inl rfl)
    exact (hs.trans (Dev.fills_setFlag _ (a := MS_STATUS) MS_STATUS.DEGRADED true (by decide) (.inr rfl))).retired b h2

theorem Dev.retired_foldl_retire1 (l : List Adc) {a : Adc} (ha : a ∈ l) : (l.foldl Dev.retire1 d).retired a = true := by
  induction l generalizing d with
  | nil => cases ha
  | cons b l ih =>
    rw [List.foldl_cons]
    obtain rfl | ha := List.mem_cons.mp ha
    · exact (Dev.Fills.foldl Dev.fills_retire1 l _).retired a (d.retired_retire1 a)
    · exact ih _ ha

theorem Dev.fills_when (b : Bool) {f : Dev → Dev} (h : d.Fills (f d)) : d.Fills (d.when b f) := by
  unfold Dev.when
  split
  · exact h
  · exact .refl d

/-- The converters `good` take the seats of a ring in rotation order. -/
def Dev.takeSeats (d : Dev) (ring : Fin 2) (good : List Adc) : Dev :=
  (List.range 11).foldl (fun (d : Dev) p => match good[p]? with
    | some a => d.placeAdc a (ringSeat ring p)
    | none => d) d

/-- The twelfth of the converters `good` stands in the bay; without one the ring does not rotate. -/
def Dev.takeBay (d : Dev) (ring : Fin 2) (good : List Adc) : Dev :=
  match good[11]? with
  | some a => d.toBay a
  | none => d.setFlag MS_STATUS (ringStop ring) true

theorem Dev.fills_takeSeats (ring : Fin 2) (good : List Adc) : d.Fills (d.takeSeats ring good) := by
  refine .foldl (fun e p => ?_) _ d
  split
  · exact e.fills_placeAdc _ _
  · exact .refl e

theorem Dev.fills_takeBay (ring : Fin 2) (good : List Adc) : d.Fills (d.takeBay ring good) := by
  unfold Dev.takeBay
  split
  · exact d.fills_toBay _
  · exact d.fills_setFlag _ _ (ringStop_fits ring) (.inr rfl)

variable (ring : Fin 2) (failed : BitVec 24)

/-- The converters of a ring that fail the start-up pass. -/
def failing (ring : Fin 2) (failed : BitVec 24) : List Adc := (ringAdcs ring).filter fun a => failed.getLsbD a.val

/-- Converters take the seats of a ring after those that fail have retired. -/
theorem Dev.fillRing_fills : ((failing ring failed).foldl Dev.retire1 d).Fills (d.fillRing ring failed) := by
  by_cases h : (failing ring failed).isEmpty = true
  · have : d.fillRing ring failed = d := if_pos h
    rw [this, List.isEmpty_iff.mp h]
    exact .refl d
  · have : d.fillRing ring failed = _ := if_neg h
    rw [this]
    exact ((Dev.fills_takeSeats _ ring _).trans (Dev.fills_takeBay _ ring _)).trans
      (Dev.fills_when _ _ (Dev.fills_setFlag _ _ _ (by decide) (.inl rfl)))

theorem Dev.fills_fillRing : d.Fills (d.fillRing ring failed) :=
  (Dev.Fills.foldl Dev.fills_retire1 _ d).trans (d.fillRing_fills ring failed)

/-- A converter that failed is retired when its ring is filled. -/
theorem Dev.retired_fillRing {a : Adc} (ha : a.val / 12 = ring.val) (hf : failed.getLsbD a.val = true) :
    (d.fillRing ring failed).retired a = true := by
  refine (d.fillRing_fills ring failed).retired a (d.retired_foldl_retire1 _ ?_)
  simp [failing, ringAdcs, ha, hf]

theorem Dev.retired_fillRings {a : Adc} (hf : failed.getLsbD a.val = true) :
    ((d.fillRing 0 failed).fillRing 1 failed).retired a = true := by
  by_cases ha : a.val / 12 = 0
  · exact (Dev.fills_fillRing _ 1 failed).retired a (d.retired_fillRing 0 failed ha hf)
  · exact Dev.retired_fillRing _ 1 failed (by have := a.isLt; simp; omega) hf

end Fills

theorem Dev.rd_enabling (l : List Nat) (i : Nat) (d : Dev) :
    (l.foldl (fun (d : Dev) i => d.wn (MS_SEQTRIG (56 + i)) 0x8000) d).rd (MS_SEQTRIG (56 + i)) =
      if i ∈ l then 0x8000 else d.rd (MS_SEQTRIG (56 + i)) := by
  induction l generalizing d with
  | nil => simp
  | cons j l ih =>
    rw [List.foldl_cons, ih]
    by_cases hij : i = j
    · subst hij
      simp
    · rw [Dev.rd_wn_ne _ _ (by simp only [MS_SEQTRIG]; omega)]
      simp [hij]

/-- The reserved sequences are enabled by the reserved plan (R177). -/
theorem Dev.enabled_reservedPlan (d : Dev) (i : Fin 5) : d.reservedPlan.seqEnabled (56 + i.val) = true := by
  rw [Dev.seqEnabled_eq, Dev.reservedPlan, Dev.rd_enabling, if_pos (by simp)]
  rfl

section Startup

variable {d : Dev} {failed : BitVec 24}

/-- The converters and the reserved plan at the end of the start-up pass. -/
def Dev.seated (d : Dev) (failed : BitVec 24) : Dev := (d.reservedPlan.fillRing 0 failed).fillRing 1 failed

/-- The measurement runs from here on, with every converter that passed to be calibrated again in the bay. -/
def Dev.started (d : Dev) (failed : BitVec 24) : Dev :=
  { d with meas := { d.meas with
      running := true, calAt := Vector.replicate 24 d.now,
      uncal := (List.finRange 24).filter fun a => !failed.getLsbD a.val } }

theorem Dev.flag_started (a : Nat) (f : Fld) : (d.started failed).flag a f = d.flag a f := rfl

theorem Dev.fills_seated : d.reservedPlan.Fills ((d.seated failed).setFlag MS_STATUS MS_STATUS.SETTLING true) :=
  ((Dev.fills_fillRing _ 0 failed).trans (Dev.fills_fillRing _ 1 failed)).trans
    (Dev.fills_setFlag (d.seated failed) (a := MS_STATUS) MS_STATUS.SETTLING true (by decide) (.inr rfl))

theorem Dev.retired_seated {a : Adc} (hf : failed.getLsbD a.val = true) :
    ((d.seated failed).setFlag MS_STATUS MS_STATUS.SETTLING true).flag (MS_ADCSTAT a) MS_ADCSTAT.RETIRED = true :=
  (Dev.fills_setFlag (d.seated failed) (a := MS_STATUS) MS_STATUS.SETTLING true (by decide) (.inr rfl)).retired a
    (d.reservedPlan.retired_fillRings failed hf)

theorem Dev.startupPass_eq (hr : d.meas.running = false) (ht : d.tbRuns = true) : d.startupPass failed =
    (((d.seated failed).setFlag MS_STATUS MS_STATUS.SETTLING true).started failed).when (failed ≠ 0) (·.raise 191) :=
  if_neg (by simp [hr, ht])

theorem Dev.startupPass_running (hr : d.meas.running = true) : d.startupPass failed = d := if_pos (by simp [hr])

theorem MS_SEQTRIG_not_adcReg (q : Nat) : ¬adcReg (MS_SEQTRIG q) := by
  rintro (⟨b, h⟩ | h | h)
  · have := b.isLt
    simp only [MS_SEQTRIG, MS_ADCSTAT] at h
    omega
  · simp only [MS_SEQTRIG, MS_STICKY] at h; omega
  · simp only [MS_SEQTRIG, MS_STATUS] at h; omega

/-- Beside the event of a failure, the end of the pass leaves the words of the converters and sequences as `seated` has them. -/
theorem Dev.startupPass_after (hr : d.meas.running = false) (ht : d.tbRuns = true) :
    (((d.seated failed).setFlag MS_STATUS MS_STATUS.SETTLING true).started failed).Quiet (d.startupPass failed) := by
  rw [Dev.startupPass_eq hr ht, Dev.when]
  split
  · exact Dev.quiet_raise _ (by decide)
  · exact quiet_closed.refl _

theorem Dev.Quiet.meas {e : Dev} (h : d.Quiet e) : e.meas = d.meas := by simpa [Dev.hush] using congrArg Dev.meas h.1

theorem evtReg_MS_SEQTRIG (i : Fin 5) : evtReg (MS_SEQTRIG (56 + i.val)) = false := by revert i; decide

end Startup

theorem startupPassDone_starts {s : State} {failed : BitVec 24} (hr : s.dev.meas.running = false) (ht : s.dev.tbRuns = true)
    (b : Adc) : Completes (.startupPassDone failed) s fun e =>
      e.meas.running = true ∧ e.flag MS_STATUS MS_STATUS.SETTLING = true ∧
        (∀ i : Fin 5, e.seqEnabled (56 + i.val) = true) ∧ (failed ≠ 0 → e.evtPending 191 = true) ∧
        (failed.getLsbD b.val = true → e.retired b = true) := by
  refine completes_step1 (·.startupPass failed) rfl ?_
  have hq := Dev.startupPass_after (failed := failed) hr ht
  refine ⟨congrArg MeasSt.running hq.meas, ?_, fun i => ?_, fun hf => ?_, fun hf => ?_⟩
  · rw [hq.flag_eq _ (by decide) (by decide), Dev.flag_started]
    exact Dev.flag_setFlag_same _ _ _ _ (by decide) (by decide)
  · have hkeep := (s.dev.fills_seated (failed := failed)).regs.fld MS_SEQTRIG.EN (by decide) (MS_SEQTRIG_not_adcReg (56 + i.val))
    rw [Dev.seqEnabled, hq.flag_eq _ (evtReg_MS_SEQTRIG i) (by decide), Dev.flag_started, Dev.flag, hkeep]
    exact s.dev.enabled_reservedPlan i
  · rw [Dev.startupPass_eq hr ht, Dev.when, if_pos (by simpa using hf)]
    exact Dev.evtPending_raise _ (by decide)
  · rw [Dev.retired, hq.flag_eq _ (evtReg_MS_ADCSTAT b) (by decide), Dev.flag_started]
    exact Dev.retired_seated hf

/-- Settles O55: enabling, disabling and the plan's writes by the one store that each makes, the timers as a vector of the new
ones, a rotation step by the exchange of two converters, and the start-up pass by what filling a ring keeps. The reserved sequences
57 to 60 are enabled at the end of the pass (log entry 45). -/
theorem measurementPlan : Obligations.MeasurementPlan := by
  intro s acc q v addr ring b failed
  refine ⟨fun hm => ⟨fun hq => ⟨msSeqEnable_reserved hm hq, msSeqDisable_reserved hm hq⟩, msSeqEnable_good hm, msSeqEnable_bad hm,
      msSeqDisable_stops hm⟩,
    fun hm hlo hhi => ⟨msPlanWrite_reserved v hm, fun he => msPlanWrite_held v hm hlo hhi he,
      fun he => msPlanWrite_taken v hm hlo hhi he⟩,
    msTtctlWrite_starts,
    fun hon hstop hb => ⟨rotationStep_fails hon hstop hb, fun l hk hl hlb => rotationStep_changesOver hon hstop hb rfl hk hl hlb⟩,
    fun hoff => congrArg (fun x : Dev => Host.Outcome.next ({ s with dev := x } : State)) (Dev.rotate_off ring true hoff),
    fun hr ht => startupPassDone_starts hr ht b,
    fun hr => congrArg (fun x : Dev => Host.Outcome.next ({ s with dev := x } : State)) (Dev.startupPass_running hr)⟩

end Sys2Proof.Machine
end

section
/-!
Result registers and their NEW bits (R167, R168). `Dev.results` gathers them; the laws below say which writes, events and records
leave them, and that the blocks that a result is handed to (R127, R177) are among these.
-/

namespace Sys2Proof.Machine

open Sys2Proof Sys2Proof.R

/-! ## The results -/

/-- The results of the plan, each with the NEW bits of its readers. -/
def Dev.results (d : Dev) (e : Entry) : Word × Word := (d.rd (MS_RESULT e), d.rd (newKey e))

/-- A register that holds no result and no NEW bits. -/
def resultFree (a : Nat) : Bool := decide (a < 0x8000) || (decide (0x9000 ≤ a) && decide (a < 0x19000)) || decide (0x1A000 ≤ a)

theorem resultFree_iff {a : Nat} : resultFree a = true ↔ a < 0x8000 ∨ 0x9000 ≤ a ∧ a < 0x19000 ∨ 0x1A000 ≤ a := by
  simp [resultFree, or_assoc]

theorem resultFree_of_lt {a : Nat} (h : a < 0x8000) : resultFree a = true := resultFree_iff.mpr (.inl h)

theorem not_resultFree_MS_RESULT (e : Entry) : ¬resultFree (MS_RESULT e) = true := by
  have := e.isLt
  rw [resultFree_iff, MS_RESULT]
  omega

theorem not_resultFree_newKey (e : Entry) : ¬resultFree (newKey e) = true := by
  have := e.isLt
  rw [resultFree_iff, newKey]
  omega

theorem Dev.results_of_rd {d e : Dev} (h : ∀ a, ¬resultFree a = true → e.rd a = d.rd a) : e.results = d.results := by
  funext n
  rw [Dev.results, Dev.results, h _ (not_resultFree_MS_RESULT n), h _ (not_resultFree_newKey n)]

theorem Dev.results_congr {d e : Dev} (h : e.regs = d.regs) : e.results = d.results :=
  Dev.results_of_rd fun _ _ => by simp only [Dev.rd, h]

/-! ## Writes of other registers -/

section Writes

variable (d : Dev) (a : Nat) (h : resultFree a = true)
include h

@[simp] theorem Dev.results_wr (v : Word) : (d.wr a v).results = d.results :=
  Dev.results_of_rd fun _ hb => Dev.rd_wr_ne d v fun e => hb (e ▸ h)

@[simp] theorem Dev.results_wn (v : Nat) : (d.wn a v).results = d.results := d.results_wr a h _
@[simp] theorem Dev.results_wi (v : Int) : (d.wi a v).results = d.results := d.results_wr a h _
@[simp] theorem Dev.results_bump : (d.bump a).results = d.results := d.results_wr a h _
@[simp] theorem Dev.results_bumpWrap : (d.bumpWrap a).results = d.results := d.results_wr a h _

@[simp] theorem Dev.results_wr32 (v : BitVec 32) (h2 : resultFree (a + 2) = true) : (d.wr32 a v).results = d.results :=
  (Dev.results_wr _ _ h2 _).trans (d.results_wr a h _)
@[simp] theorem Dev.results_wn32 (v : Nat) (h2 : resultFree (a + 2) = true) : (d.wn32 a v).results = d.results :=
  d.results_wr32 a h _ h2
@[simp] theorem Dev.results_wi32 (v : Int) (h2 : resultFree (a + 2) = true) : (d.wi32 a v).results = d.results :=
  d.results_wr32 a h _ h2

@[simp] theorem Dev.results_setFld (f : Fld) (v : Nat) (hf : f.lo + f.w ≤ 16) : (d.setFld a f v).results = d.results := by
  simp only [Dev.setFld, hf, ↓reduceIte]
  exact d.results_wn a h _

@[simp] theorem Dev.results_setFlag (f : Fld) (b : Bool) (hf : f.lo + f.w ≤ 16) : (d.setFlag a f b).results = d.results :=
  d.results_setFld a h f _ hf

end Writes

section Steps

variable (d : Dev)

@[simp] theorem Dev.results_setMbit (a i : Nat) (b : Bool) (h : resultFree (a + 2 * (i / 16)) = true) :
    (d.setMbit a i b).results = d.results := d.results_wr _ h _

@[simp] theorem Dev.results_when (b : Bool) (f : Dev → Dev) (h : ∀ e : Dev, (f e).results = e.results) :
    (d.when b f).results = d.results := by
  unfold Dev.when
  split
  · exact h d
  · rfl

theorem Dev.results_foldl {α : Type} (f : Dev → α → Dev) (l : List α) (h : ∀ (e : Dev), ∀ x ∈ l, (f e x).results = e.results) :
    (l.foldl f d).results = d.results := by
  induction l generalizing d with
  | nil => rfl
  | cons x l ih =>
    exact (ih _ fun e y hy => h e y (List.mem_cons_of_mem _ hy)).trans (h d x (List.mem_cons_self ..))

@[simp] theorem Dev.results_zero (as : List Nat) (h : ∀ a ∈ as, resultFree a = true) : (d.zero as).results = d.results :=
  d.results_foldl _ as fun e a ha => e.results_wr a (h a ha) 0

/-! ## Changes beside the register file -/

@[simp] theorem Dev.results_modLoop (n : Loop) (g : LoopSt → LoopSt) : (d.modLoop n g).results = d.results := Dev.results_congr rfl
@[simp] theorem Dev.results_modChg (g : ChgSt → ChgSt) : (d.modChg g).results = d.results := Dev.results_congr rfl
@[simp] theorem Dev.results_modGauge (g : GaugeSt → GaugeSt) : (d.modGauge g).results = d.results := Dev.results_congr rfl
@[simp] theorem Dev.results_modPack (g : PackSt → PackSt) : (d.modPack g).results = d.results := Dev.results_congr rfl
@[simp] theorem Dev.results_modTherm (s : Fin 15) (g : ThSensor → ThSensor) : (d.modTherm s g).results = d.results :=
  Dev.results_congr rfl
@[simp] theorem Dev.results_modCfg (g : CfgSt → CfgSt) : (d.modCfg g).results = d.results := Dev.results_congr rfl
@[simp] theorem Dev.results_modSeq (s : SeqNo) (g : SeqSt → SeqSt) : (d.modSeq s g).results = d.results := Dev.results_congr rfl

end Steps

/-! ## Events, records, items and the drill -/

theorem resultFree_of_evtReg {a : Nat} (h : evtReg a = true) : resultFree a = true := by
  refine resultFree_of_lt ?_
  simp only [evtReg, Bool.or_eq_true, Bool.and_eq_true, decide_eq_true_eq, EVT_STAT, KE_STICKY, KE_EVQOVCNT, REC_STATUS, REC_OLDEST,
    REC_DROPCNT] at h
  omega

theorem resultFree_of_hopReg {a : Nat} (h : hopReg a = true) : resultFree a = true := by
  refine resultFree_of_lt ?_
  simp only [hopReg, Bool.and_eq_true, decide_eq_true_eq] at h
  omega

theorem resultFree_of_drillReg {a : Nat} (h : drillReg a = true) : resultFree a = true := by
  refine resultFree_of_lt ?_
  simp only [drillReg, Bool.or_eq_true, Bool.and_eq_true, decide_eq_true_eq, CFG_DSTATE, REC_SNEWEST, REC_SOLDEST, REC_SDROPCNT] at h
  omega

theorem results_drill : DrillClosed fun d e => e.results = d.results where
  refl _ := rfl
  trans h1 h2 := h2.trans h1
  recorder _ _ := rfl
  nvCount _ _ _ := rfl
  nvBytes _ _ _ := rfl
  nvWrite _ _ _ := rfl
  queue _ _ _ := rfl
  wr d a v h _ := d.results_wr a (resultFree_of_evtReg h) v
  stat d _ h := d.results_setMbit _ _ _ (resultFree_of_evtReg (evtReg_stat h))
  hopWr d a v h := d.results_wr a (resultFree_of_hopReg h) v
  hopper _ _ := rfl
  unqueue _ _ := rfl
  drillWr d a v h := d.results_wr a (resultFree_of_drillReg h) v
  drill _ _ := rfl
  pins _ _ := rfl
  lamps _ _ := rfl

section Reports

variable (d : Dev)

@[simp] theorem Dev.results_raise {e : Nat} (h : e < 256) : (d.raise e).results = d.results := results_drill.raise d h
theorem Dev.results_raiseAll {es : List Nat} (h : ∀ e ∈ es, e < 256) : (d.raiseAll es).results = d.results :=
  results_drill.raiseAll d es h

@[simp] theorem Dev.results_nvMade (j : NvJob) : (d.nvMade j).results = d.results := results_drill.nvMade d j
@[simp] theorem Dev.results_putMark : d.putMark.results = d.results := results_drill.putMark d
@[simp] theorem Dev.results_putBuffer : d.putBuffer.results = d.results := results_drill.putBuffer d
@[simp] theorem Dev.results_lampSync : d.lampSync.results = d.results := Dev.results_congr rfl

end Reports

/-! ## Supervision of a rail (R127, R133 to R135) -/

namespace DrillClosed

variable {R : Dev → Dev → Prop} (h : DrillClosed R)
include h

theorem failEntered (d : Dev) (r : Rail) (cause : Nat) (falling : Bool) : R d (d.failEntered r cause falling) := by
  refine h.trans ?_ (h.setLossOnly _ _ _)
  refine h.trans ?_ (h.drillFld _ _ _ _ (drillReg_RSTATE _) (by decide))
  exact h.trans (h.drillWr d _ _ (by decide)) (h.setRstate _ _ _)

theorem failReport (d : Dev) (r : Rail) (cause : Nat) (es : List Nat) (hes : ∀ e ∈ es, e < 256) : R d (d.failReport r cause es) :=
  h.trans (h.trans (h.trans (h.raiseAll d es hes) (h.takeSnapshot _ _ _ _)) (h.rstSync _)) (h.checkFallen _ r)

theorem shutDown (d : Dev) (r : Rail) (cause : Nat) : R d (d.shutDown r cause) :=
  h.faultShutdown d fun e => { e.drill with
    t0 := if e.ds = drUp then e.now else e.drill.t0, firstFail := cause, firstAt := e.now, firstRail := r.val, gap := e.gapList,
    offDue := 0, phase2 := false, warned := false }

variable {r : Rail} (hcut : ∀ d : Dev, R d (d.cutRail r))
include hcut

theorem failCut (d : Dev) (cause : Nat) : R d (d.failCut r cause) :=
  h.trans (h.trans (h.trans (h.noteFailure d r cause) (h.drillWr _ _ _ (by decide))) (h.drillWr _ _ _ (drillReg_RFAILCNT _))) (hcut _)

/-- A failure of a rail: beside the drill's own it cuts the rail. -/
theorem railFailure_cut (d : Dev) (cause : Nat) : R d (d.railFailure r cause) := by
  let c := if d.fallingRule r && cause = 2 then 4 else cause
  have heq : d.railFailure r cause = ((((d.failEntered r c (d.fallingRule r)).failCut r c).when (d.fallingRule r) Dev.markWarned).when
      (d.shutsDown r) (·.shutDown r c)).failReport r c (if d.shutsDown r then [131, 132] else [131]) := rfl
  rw [heq]
  refine h.trans ?_ (h.failReport _ r c _ (by split <;> decide))
  refine h.trans ?_ (h.when fun _ => h.shutDown _ r c)
  refine h.trans ?_ (h.when fun _ => h.drill _ _)
  exact h.trans (h.failEntered d r c _) (h.failCut hcut _ c)

theorem railLoss_cut (d : Dev) : R d (d.railLoss r) := by
  have hlost := h.drillFld d SEQ_STICKY SEQ_STICKY.LOST 1 (by decide) (by decide)
  unfold Dev.railLoss
  dsimp only
  split
  · refine h.trans hlost (h.trans ?_ (h.rstSync _))
    exact h.trans (h.trans (h.trans (h.setRstate _ _ _) (h.drillFld _ _ _ _ (drillReg_RSTATE _) (by decide))) (h.setLossOnly _ _ _))
      (h.raise _ (by decide))
  · exact h.trans hlost (h.railFailure_cut hcut _ _)

/-- The supervision of any rail. -/
theorem railPoll_cut (d : Dev) : R d (d.railPoll r) := by
  by_cases hg : d.rstate r = rsGood → d.goodCond r = true
  · exact h.railPoll_of_good d r hg
  · obtain ⟨hst, hbad⟩ := Classical.not_imp.mp hg
    by_cases hrun : d.blocksRun = true
    · rw [Dev.railPoll_good hrun hst, if_neg hbad]
      exact h.railLoss_cut hcut d
    · rw [Dev.railPoll, if_pos (by simpa using hrun)]
      exact h.refl d

end DrillClosed

theorem resultFree_LP_STATUS : ∀ n : Loop, resultFree (LP_STATUS n) = true := by decide

@[simp] theorem Dev.results_cutRail (d : Dev) (r : Rail) : (d.cutRail r).results = d.results := by
  unfold Dev.cutRail
  dsimp only
  split
  · rename_i n _
    have hn := resultFree_LP_STATUS n
    unfold Dev.cutLoop
    split
    · rfl
    · rw [Dev.results_setFlag _ _ hn _ _ (by decide), Dev.results_setFlag _ _ hn _ _ (by decide), Dev.results_modLoop]
      rfl
  · rfl

@[simp] theorem Dev.results_railPoll (d : Dev) (r : Rail) : (d.railPoll r).results = d.results :=
  results_drill.railPoll_cut (r := r) (fun d => d.results_cutRail r) d

end Sys2Proof.Machine
end

section
/-!
The blocks that a result is handed to keep the results and their NEW bits: loops, drill, gauge, charger, thermal block and tag.
-/

namespace Sys2Proof.Machine

open Sys2Proof Sys2Proof.R

section Consumers

variable (d : Dev)

/-! ## Loops and rails (R55, R127, R177) -/

@[simp] theorem resultFree_loop (n : Loop) {b : Nat} (h : b < 0x2080) : resultFree (b + 0x80 * n.val) = true :=
  resultFree_of_lt (by have := n.isLt; omega)

@[simp] theorem Dev.results_sumIout (n : Loop) : (d.sumIout n).results = d.results := by
  unfold Dev.sumIout
  simp +decide [LP_IOUT, LP_POUT]

@[simp] theorem Dev.results_setVout (n : Loop) (v : Nat) : (d.setVout n v).results = d.results := by
  simp [Dev.setVout, LP_VOUT]

theorem resultFree_PH_IOUT : ∀ m : Phase, resultFree (PH_IOUT m) = true := by decide

@[simp] theorem Dev.results_imonResult (e code : Nat) (resamp : Bool) : (d.imonResult e code resamp).results = d.results := by
  unfold Dev.imonResult
  split
  · rfl
  · refine d.results_foldl _ _ fun g m _ => ?_
    split
    · split
      · simp [resultFree_PH_IOUT]
      · rfl
    · rfl

@[simp] theorem Dev.results_senseResult (n : Loop) (code : Nat) (ovr : Bool) : (d.senseResult n code ovr).results = d.results := by
  unfold Dev.senseResult
  dsimp only
  split <;> simp

@[simp] theorem Dev.results_pollLoop (n : Loop) : (d.pollLoop n).results = d.results := d.results_railPoll _

@[simp] theorem Dev.results_pollAux (e : Nat) : (d.pollAux e).results = d.results := by
  refine d.results_foldl _ _ fun g r _ => ?_
  split
  · exact g.results_railPoll r
  · rfl

@[simp] theorem Dev.results_vinResult : d.vinResult.results = d.results := d.results_wn _ (by decide) _

/-! ## The charger (R188 to R206) -/

@[simp] theorem Dev.results_takeTimes : d.takeTimes.results = d.results := Dev.results_congr rfl
@[simp] theorem Dev.results_stageMid : d.stageMid.results = d.results := Dev.results_congr rfl
@[simp] theorem Dev.results_applyStage : d.applyStage.results = d.results := Dev.results_congr rfl
@[simp] theorem Dev.results_highRate : d.highRate.results = d.results := d.results_setFlag _ (by decide) _ _ (by decide)

@[simp] theorem Dev.results_restAnew : d.restAnew.results = d.results := by
  unfold Dev.restAnew
  split <;> rfl

@[simp] theorem Dev.results_setMode (m : Nat) : (d.setMode m).results = d.results := by
  simp +decide [Dev.setMode]

@[simp] theorem Dev.results_setPhase (p : Nat) : (d.setPhase p).results = d.results := by
  simp +decide [Dev.setPhase]

@[simp] theorem Dev.results_startCycle (keep : Bool) {event : Nat} (h : event < 256) :
    (d.startCycle keep event).results = d.results := by
  have hz : ∀ a ∈ [CHG_TEQ, CHG_TEQ + 2, CHG_TWALL, CHG_TWALL + 2], resultFree a = true := by decide
  simp +decide [Dev.startCycle, h, Dev.results_zero _ _ hz]

@[simp] theorem Dev.results_stageOff : d.stageOff.results = d.results := by
  rw [Dev.stageOff, Dev.results_raiseAll _ d.openEvt_lt]
  simp +decide [Dev.stageDown]

@[simp] theorem Dev.results_chgUpdate : d.chgUpdate.results = d.results := by
  unfold Dev.chgUpdate
  split
  · rfl
  · simp +decide

/-! ## The tag and the gauge (R211 to R240) -/

@[simp] theorem Dev.results_tagKick : d.tagKick.results = d.results := by
  unfold Dev.tagKick
  split
  · rfl
  split
  · rfl
  · simp +decide

@[simp] theorem Dev.results_tagPush (o : TagOp) : (d.tagPush o).results = d.results := by simp [Dev.tagPush]

@[simp] theorem Dev.results_lifeWrite : d.lifeWrite.results = d.results := by
  unfold Dev.lifeWrite
  split <;> simp

@[simp] theorem Dev.results_checkEol : d.checkEol.results = d.results := by
  unfold Dev.checkEol
  split
  · rfl
  · refine (apply_ite Dev.results _ _ _).trans ?_
    simp +decide

@[simp] theorem Dev.results_spoil : d.spoil.results = d.results := d.results_setFld _ (by decide) _ _ (by decide)

@[simp] theorem Dev.results_addThroughput (q : Nat) : (d.addThroughput q).results = d.results := by
  simp +decide [Dev.addThroughput]

@[simp] theorem Dev.results_gaugeAverage (c : Int) (n : Nat) : (d.gaugeAverage c n).results = d.results := by
  unfold Dev.gaugeAverage
  dsimp only
  split <;> simp +decide

@[simp] theorem Dev.results_gaugeReport : d.gaugeReport.results = d.results := by
  unfold Dev.gaugeReport
  rw [Dev.results_raiseAll]
  · simp +decide
  · intro e he
    simp only [List.mem_append, List.mem_ite_nil_right, List.mem_singleton] at he
    omega

@[simp] theorem Dev.results_gaugeCurrent (code t : Nat) : (d.gaugeCurrent code t).results = d.results := by
  unfold Dev.gaugeCurrent
  dsimp only
  split <;> simp +decide

@[simp] theorem Dev.results_gaugeVoltage (code : Nat) : (d.gaugeVoltage code).results = d.results := by
  unfold Dev.gaugeVoltage Dev.holdWindow
  split <;> rfl

/-! ## What waits for NV (R222, R346, R354) -/

@[simp] theorem Dev.results_roleResume : d.roleResume.results = d.results := by
  unfold Dev.roleResume
  split
  · rfl
  · exact Dev.results_nvMade _ _

@[simp] theorem Dev.results_putGauge : d.putGauge.results = d.results := Dev.results_nvMade _ _
@[simp] theorem Dev.results_putCounters : d.putCounters.results = d.results := Dev.results_nvMade _ _

@[simp] theorem Dev.results_nvResume : d.nvResume.results = d.results := by simp [Dev.nvResume]

theorem resultFree_accKey (set a : Nat) : resultFree (accKey set a) = true := resultFree_iff.mpr (.inr (.inr (by unfold accKey; omega)))

@[simp] theorem Dev.results_wStart (set : Fin 4) : (d.wStart set).results = d.results := by
  have h2 (a : Nat) : resultFree (accKey set a + 2) = true := resultFree_accKey set (a + 2)
  unfold Dev.wStart
  split
  · simp +decide [Dev.wStat, resultFree_accKey]
  · simp +decide [resultFree_accKey, h2]

@[simp] theorem Dev.results_wNext : d.wNext.results = d.results := by
  unfold Dev.wNext
  dsimp only
  split
  · simp
  split <;> simp

@[simp] theorem Dev.results_syncWait : d.syncWait.results = d.results := by
  unfold Dev.syncWait
  split
  · exact d.results_setFlag _ (by decide) _ _ (by decide)
  · rfl

/-! ## The thermal block (R397 to R405) -/

@[simp] theorem Dev.results_thSticky (f : Fld) (hf : f.lo + f.w ≤ 16) : (d.thSticky f).results = d.results :=
  d.results_setFlag _ (by decide) f _ hf

/-- A bit of a mask. -/
theorem Dev.results_mask {a s : Nat} (b : Bool) (ha : a < 0x7000) (hs : s < 64) : (d.setMbit a s b).results = d.results :=
  d.results_setMbit a s b (resultFree_of_lt (by omega))

theorem Dev.results_setFault {s : Nat} (b : Bool) (hs : s < 16) : (d.setFault s b).results = d.results := by
  have hs : s < 64 := by omega
  unfold Dev.setFault
  simp +decide [Dev.results_mask, hs]

theorem levelEvent_lt (s : Nat) : levelEvent s < 255 := by
  unfold levelEvent
  split_ifs <;> decide

theorem Dev.results_sensorLevels {s : Nat} (hs : s < 16) : (d.sensorLevels s).results = d.results := by
  have hs : s < 64 := by omega
  have hev := levelEvent_lt s
  unfold Dev.sensorLevels
  split
  · simp +decide [Dev.results_mask, hs, show levelEvent s < 256 by omega, show levelEvent s + 1 < 256 by omega]
  · simp +decide [Dev.results_mask, hs]

theorem resultFree_TH_TEMP : ∀ s : Fin 15, resultFree (TH_TEMP s) = true := by decide

@[simp] theorem Dev.results_setTemp (s : Fin 15) (t : Option Word) : (d.setTemp s t).results = d.results := by
  cases t <;> simp [Dev.setTemp, resultFree_TH_TEMP]

@[simp] theorem Dev.results_syncInhibit : d.syncInhibit.results = d.results := by
  unfold Dev.syncInhibit
  dsimp only
  split
  · simp +decide
  split <;> simp +decide

theorem Dev.dieTemps_lt {x : Nat × Int} (h : x ∈ d.dieTemps) : x.1 < 8 := by
  simp only [Dev.dieTemps, List.mem_filterMap, List.mem_range, Option.map_eq_some_iff] at h
  obtain ⟨s, hs, _, _, rfl⟩ := h
  exact hs

@[simp] theorem Dev.results_judgeDie : d.judgeDie.results = d.results := by
  have hflt (g : Nat × Int → Bool) : (d.dieTemps.foldl (fun (d : Dev) x => d.setFault x.1 (g x)) d).results = d.results :=
    d.results_foldl _ _ fun e x hx => e.results_setFault _ (by have := d.dieTemps_lt hx; omega)
  unfold Dev.judgeDie
  dsimp only
  split <;> simp +decide [hflt]

@[simp] theorem Dev.results_dieResult (s : Fin 15) (c : Nat) : (d.dieResult s c).results = d.results := by
  unfold Dev.dieResult
  refine (Dev.results_foldl _ _ _ fun e x hx => ?_).trans (by simp)
  have hlt : x < 16 := by have := List.mem_range.mp hx; omega
  exact e.results_when _ _ fun g => g.results_sensorLevels hlt

theorem Dev.results_sensor (s : Fin 15) (b : Bool) : ((d.setFault s b).sensorLevels s).results = d.results :=
  have hlt : s.val < 16 := by omega
  (Dev.results_sensorLevels _ hlt).trans (d.results_setFault b hlt)

@[simp] theorem Dev.results_txResult (s : Fin 15) (c : Nat) : (d.txResult s c).results = d.results := by
  simp [Dev.txResult, Dev.results_sensor]

/-! ## The pack's thermistor (R226, R399) -/

@[simp] theorem Dev.results_setTag (v : Nat) : (d.setTag v).results = d.results := d.results_setFld _ (by decide) _ _ (by decide)

@[simp] theorem Dev.results_boxEnd (status : Nat) : (d.boxEnd status).results = d.results := by simp +decide [Dev.boxEnd]

@[simp] theorem Dev.results_lifeFailed : d.lifeFailed.results = d.results := by simp +decide [Dev.lifeFailed, Dev.pkSticky]

@[simp] theorem Dev.results_opFailed (o : TagOp) : (d.opFailed o).results = d.results := by
  unfold Dev.opFailed
  split
  · rfl
  · simp
  · simp
  · simp
  · rfl
  · simp
  · split <;> simp

@[simp] theorem Dev.results_dropQueue : d.dropQueue.results = d.results := by
  unfold Dev.dropQueue
  dsimp only
  refine (Dev.results_foldl _ _ _ fun e o _ => ?_).trans ((Dev.results_foldl _ _ _ fun e o _ => e.results_opFailed o).trans (by simp))
  split <;> simp

@[simp] theorem Dev.results_startRead (again : Bool) : (d.startRead again).results = d.results := by
  unfold Dev.startRead
  split <;> simp

@[simp] theorem Dev.results_ntcJudged : d.ntcJudged.results = d.results := by
  unfold Dev.ntcJudged
  split
  · rfl
  split <;> simp

@[simp] theorem Dev.results_judgePack : d.judgePack.results = d.results := by
  unfold Dev.judgePack
  dsimp only
  split <;> simp +decide

@[simp] theorem Dev.results_ntcResult (c : Nat) : (d.ntcResult c).results = d.results := by
  have hsensor (e : Dev) (b : Bool) : ((e.setFault 14 b).sensorLevels 14).results = e.results := e.results_sensor 14 b
  simp +decide [Dev.ntcResult, Dev.pkSticky, hsensor]

@[simp] theorem Dev.results_thermalResult (e c : Nat) : (d.thermalResult e c).results = d.results := by
  unfold Dev.thermalResult
  split
  · simp
  split <;> simp

/-! ## All of them (R127, R171, R177) -/

/-- What a result is handed to keeps every result and its NEW bits. -/
theorem Dev.results_consume (e code : Nat) (ovr resamp : Bool) (t : Nat) : (d.consume e code ovr resamp t).results = d.results := by
  unfold Dev.consume
  dsimp only
  split_ifs <;> simp

end Consumers

end Sys2Proof.Machine
end

section
/-!
Conversions (R150, R160, R161, R164, R167 to R170): what a sample makes of a conversion, and what the last one makes of the result.
-/

namespace Sys2Proof.Machine

open Sys2Proof Sys2Proof.R

/-! ## A result is stored (R167, R168, R171) -/

theorem Dev.rd_of_results {d e : Dev} (h : e.results = d.results) (n : Entry) :
    e.rd (MS_RESULT n) = d.rd (MS_RESULT n) ∧ e.rd (newKey n) = d.rd (newKey n) :=
  Prod.ext_iff.mp (congrFun h n)

theorem resultFree_plan (e : Entry) {b : Nat} (h : b < 16) : resultFree (0x11000 + b + 0x10 * e.val) = true :=
  resultFree_iff.mpr (.inr (.inl (by have := e.isLt; omega)))

section Store

variable (d : Dev) (e : Entry)

theorem Dev.group_lt (e : Nat) : d.fld (MS_PESEQ e) MS_PESEQ.GROUP < 32 := by
  simp only [Dev.fld, show MS_PESEQ.GROUP.lo + MS_PESEQ.GROUP.w ≤ 16 by decide, ↓reduceIte]
  exact Fld.of_lt MS_PESEQ.GROUP _

theorem Dev.results_entryLimits (code : Nat) (ovr : Bool) : (d.entryLimits e code ovr).results = d.results := by
  have hstat : resultFree (MS_PESTAT e) = true := resultFree_plan e (b := 14) (by decide)
  have hup (x y : Dev) : ((y.setMbit MS_LIMSTICKY (x.fld (MS_PESEQ e) MS_PESEQ.GROUP) true).raise
      (160 + x.fld (MS_PESEQ e) MS_PESEQ.GROUP)).results = y.results := by
    have := x.group_lt e
    rw [Dev.results_raise _ (by omega), Dev.results_mask _ _ (by decide) (by omega)]
  simp [Dev.entryLimits, hstat, hup]

/-- The word of a result: DATA, EPOCH, OVR and RESAMP (R167). -/
def resultBits (code : Nat) (epoch ovr resamp : Bool) : Nat :=
  code % 4096 + (if epoch then 0x1000 else 0) + (if ovr then 0x2000 else 0) + (if resamp then 0x4000 else 0)

theorem resultBits_read (code : Nat) (epoch ovr resamp : Bool) :
    (BitVec.ofNat 16 (resultBits code epoch ovr resamp)).toNat % 4096 = code % 4096 ∧
      (BitVec.ofNat 16 (resultBits code epoch ovr resamp)).getLsbD 13 = ovr ∧
      (BitVec.ofNat 16 (resultBits code epoch ovr resamp)).getLsbD 14 = resamp := by
  have hc : code % 4096 < 4096 := Nat.mod_lt _ (by decide)
  simp only [BitVec.getLsbD_ofNat, BitVec.toNat_ofNat, resultBits, Nat.testBit_eq_decide_div_mod_eq]
  generalize code % 4096 = c at hc
  have hx : c % 4096 = c := Nat.mod_eq_of_lt hc
  cases epoch <;> cases ovr <;> cases resamp <;> simp <;> omega

theorem Dev.results_storeResult (a : Adc) (code : Nat) (ovr resamp : Bool) (t : Nat) : ∃ epoch,
    (d.storeResult e a code ovr resamp t).results e = (BitVec.ofNat 16 (resultBits code epoch ovr resamp), 15) := by
  refine ⟨(d.placeEntry e a).flag (MS_PEPLACE e) MS_PEPLACE.EPOCH, ?_⟩
  unfold Dev.storeResult
  dsimp only
  rw [Dev.results_entryLimits, Dev.results_when _ _ _ fun g => g.results_bump _ (by decide)]
  refine Prod.ext ?_ (Dev.rd_wn_same _ _ _)
  refine (Dev.rd_wn_ne _ _ ?_).trans (Dev.rd_wn_same _ _ _)
  rw [newKey, MS_RESULT]
  have := e.isLt
  omega

end Store

@[simp] theorem Dev.results_entryDone (d : Dev) (e : Nat) (q : SeqNo) (run : Nat) : (d.entryDone e q run).results = d.results := by
  unfold Dev.entryDone
  split
  · rfl
  · dsimp only
    rw [Dev.results_when _ _ _ fun g => g.results_mask (a := MS_SEQDONE 0) true (by decide) q.isLt, Dev.results_modSeq]

/-! ## The seat is free again (R150, R173) -/

theorem Dev.Measures.results {d e : Dev} (h : d.Measures e) : e.results = d.results := by
  refine Dev.results_of_rd fun a ha => h.rd a ?_ ?_
  · rintro rfl; exact ha (by decide)
  · rintro rfl; exact ha (by decide)

section Free

variable (d : Dev) (a : Adc) (k : Fin 24) (t : Nat)

/-- Beside the queues of its seat, a converter that has converted concerns its own word alone. -/
theorem Dev.rd_freeAdc {b : Nat} (hb : b ≠ MS_ADCSTAT a) (h1 : b ≠ MS_STICKY) (h2 : b ≠ MS_SLIPCNT) :
    (d.freeAdc a k t).rd b = d.rd b := by
  unfold Dev.freeAdc
  dsimp only
  split
  · exact Dev.rd_toBay_ne _ a hb
  · exact ((Dev.measures_modSeat _ k _).trans (Dev.measures_startHeld _ k)).rd b h1 h2

theorem Dev.results_freeAdc : (d.freeAdc a k t).results = d.results := by
  refine Dev.results_of_rd fun b hb => d.rd_freeAdc a k t ?_ ?_ ?_
  · rintro rfl; exact hb (resultFree_of_lt (by have := a.isLt; rw [MS_ADCSTAT]; omega))
  · rintro rfl; exact hb (by decide)
  · rintro rfl; exact hb (by decide)

theorem Dev.instants_startHeld : (d.startHeld k).meas.instants = d.meas.instants := by
  unfold Dev.startHeld
  split
  · rfl
  split
  · rfl
  · dsimp only
    split <;> rfl

theorem Dev.meas_toBay : (d.toBay a).meas = d.meas := (d.onlyRegs_setFlag _ _ _ (by decide)).meas

theorem Dev.instants_freeAdc : (d.freeAdc a k t).meas.instants = d.meas.instants := by
  unfold Dev.freeAdc
  dsimp only
  split
  · rw [Dev.meas_toBay]
    rfl
  · exact Dev.instants_startHeld _ k

end Free

/-! ## The last sample of a conversion (R164, R169) -/

theorem Dev.newest_congr {d e : Dev} (h : e.meas.instants = d.meas.instants) (n t : Nat) : e.newest n t = d.newest n t := by
  rw [Dev.newest, Dev.newest, h]

section Finish

variable {d : Dev} {a : Adc} {c : Conv} {t : Nat}

/-- The newest result is stored, and its consumers keep it. -/
theorem Dev.finishConv_newest {en : Entry} (he : c.entry = en.val) (h : d.newest en.val t = true) :
    (d.finishConv a c t).rn (MS_RESULT en) % 4096 = c.mean % 4096 ∧ ((d.finishConv a c t).rd (MS_RESULT en)).getLsbD 13 = c.ovr ∧
      ((d.finishConv a c t).rd (MS_RESULT en)).getLsbD 14 = c.resamp ∧ (d.finishConv a c t).rd (newKey en) = 15 := by
  have hn : (d.freeAdc a c.seat t).newest en.val t = true := (Dev.newest_congr (d.instants_freeAdc a c.seat t) _ _).trans h
  obtain ⟨epoch, hst⟩ := (d.freeAdc a c.seat t).results_storeResult en a c.mean c.ovr c.resamp t
  have hres : (d.finishConv a c t).results en = (BitVec.ofNat 16 (resultBits c.mean epoch c.ovr c.resamp), 15) := by
    unfold Dev.finishConv
    dsimp only
    rw [he, if_pos hn, Dev.results_when _ _ _ fun g => g.results_entryDone _ _ _, Dev.results_consume, hst]
  obtain ⟨hw, hnew⟩ := Prod.ext_iff.mp hres
  have hw : (d.finishConv a c t).rd (MS_RESULT en) = _ := hw
  obtain ⟨hdata, hovr, hresamp⟩ := resultBits_read c.mean epoch c.ovr c.resamp
  rw [Dev.rn, hw]
  exact ⟨hdata, hovr, hresamp, hnew⟩

/-- An older result is counted as late, and discarded (R169). -/
theorem Dev.finishConv_late (h : d.newest c.entry t = false) :
    d.finishConv a c t = ((d.freeAdc a c.seat t).bump MS_LATE_CNT).setFlag MS_STICKY MS_STICKY.LATE true :=
  if_neg (by rw [Dev.newest_congr (d.instants_freeAdc a c.seat t), h]; decide)

theorem Dev.results_finishConv_late (h : d.newest c.entry t = false) : (d.finishConv a c t).results = d.results := by
  rw [Dev.finishConv_late h, Dev.results_setFlag _ _ (by decide) _ _ (by decide), Dev.results_bump _ _ (by decide), d.results_freeAdc]

theorem Dev.late_finishConv (h : d.newest c.entry t = false) : (d.finishConv a c t).flag MS_STICKY MS_STICKY.LATE = true ∧
    (d.finishConv a c t).rd MS_LATE_CNT = satInc (d.rd MS_LATE_CNT) := by
  have hne : MS_LATE_CNT ≠ MS_ADCSTAT a := by revert a; decide
  rw [Dev.finishConv_late h]
  refine ⟨Dev.flag_setFlag_same _ _ _ _ (by decide) (by decide), ?_⟩
  rw [Dev.rd_setFlag_ne _ _ _ (by decide) (by decide), Dev.rd_bump_same, d.rd_freeAdc a c.seat t hne (by decide) (by decide)]

end Finish

/-! ## CONVERSION_DONE (R150, R161) -/

section Done

variable {s : State} {a : Adc} {en : Entry} {code : BitVec 12} {ovr : Bool} {t : BitVec 64} {c : Conv}

theorem conversionDone_off (h : s.dev.measOn = false) : exec (.conversionDone a en code ovr t) s = .next s := by
  show Host.Outcome.next ({ s with dev := s.dev.convDone a en.val code.toNat ovr t.toNat } : State) = _
  rw [Dev.convDone, if_pos (by simp [h])]

section Report

variable {d : Dev} (h : d.measOn = true) {e n i : Nat}
include h

theorem Dev.convDone_idle (hc : (d.sampledAt i).conv a = none) : d.convDone a e n ovr i = d.sampledAt i := by
  simp [Dev.convDone, h, hc]

/-- A report of the conversion that a converter has under way, judged after what the seats have sampled by its instant. -/
theorem Dev.convDone_busy (hc : (d.sampledAt i).conv a = some c) : d.convDone a e n ovr i =
    if c.entry ≠ e || c.instant ≠ i || d.tickEnd < i + 720 then d.sampledAt i
    else if (c.take n ovr).left = 0 then (d.sampledAt i).finishConv a (c.take n ovr) i
    else (d.sampledAt i).setConv a (some (c.take n ovr)) := by
  have ht : (d.sampledAt i).tickEnd = d.tickEnd := (d.samples_startSeats _).tickEnd
  simp only [Dev.convDone, h, hc, ht, Bool.not_true, Bool.false_eq_true, ↓reduceIte]

end Report

variable (hon : s.dev.measOn = true)
include hon

theorem conversionDone_idle (h : (s.dev.sampledAt t.toNat).conv a = none) :
    exec (.conversionDone a en code ovr t) s = .next { s with dev := s.dev.sampledAt t.toNat } :=
  congrArg (fun d : Dev => Host.Outcome.next ({ s with dev := d } : State)) (Dev.convDone_idle hon h)

variable (hc : (s.dev.sampledAt t.toNat).conv a = some c)
include hc

theorem conversionDone_other (h : c.entry ≠ en.val ∨ c.instant ≠ t.toNat ∨ s.dev.tickEnd < t.toNat + 720) :
    exec (.conversionDone a en code ovr t) s = .next { s with dev := s.dev.sampledAt t.toNat } :=
  congrArg (fun d : Dev => Host.Outcome.next ({ s with dev := d } : State))
    ((Dev.convDone_busy hon hc).trans (if_pos (by simpa [or_assoc] using h)))

variable (he : c.entry = en.val) (hi : c.instant = t.toNat) (hend : t.toNat + 720 ≤ s.dev.tickEnd)
include he hi hend

theorem Dev.convDone_own : s.dev.convDone a en.val code.toNat ovr t.toNat =
    if (c.take code.toNat ovr).left = 0 then (s.dev.sampledAt t.toNat).finishConv a (c.take code.toNat ovr) t.toNat
    else (s.dev.sampledAt t.toNat).setConv a (some (c.take code.toNat ovr)) :=
  (Dev.convDone_busy hon hc).trans (if_neg (by simp [he, hi, hend]))

theorem conversionDone_goesOn (h : 1 < c.left) : exec (.conversionDone a en code ovr t) s = .next { s with
    dev := (s.dev.sampledAt t.toNat).setConv a (some { c with
      left := c.left - 1, taken := c.taken + 1, sum := c.sum + code.toNat, ovr := c.ovr || ovr, instant := t.toNat + 720 }) } := by
  show Host.Outcome.next ({ s with dev := s.dev.convDone a en.val code.toNat ovr t.toNat } : State) = _
  rw [Dev.convDone_own hon hc he hi hend, if_neg (by simp only [Conv.take]; omega), Conv.take, hi]

theorem Dev.convDone_last (h : c.left ≤ 1) : s.dev.convDone a en.val code.toNat ovr t.toNat =
    (s.dev.sampledAt t.toNat).finishConv a (c.take code.toNat ovr) t.toNat := by
  rw [Dev.convDone_own hon hc he hi hend, if_pos (by simp only [Conv.take]; omega)]

omit hon hc he hi hend in
theorem Dev.newest_sampledAt (d : Dev) (e i : Nat) : (d.sampledAt i).newest e i = d.newest e i :=
  Dev.newest_congr (d.samples_startSeats _).instants _ _

theorem conversionDone_newest (h : c.left ≤ 1) (hn : s.dev.newest en.val t.toNat = true) :
    Completes (.conversionDone a en code ovr t) s fun e =>
      e.rn (MS_RESULT en) % 4096 = (divRound ((c.sum : Int) + code.toNat) (c.taken + 1)).toNat % 4096 ∧
        (e.rd (MS_RESULT en)).getLsbD 13 = (c.ovr || ovr) ∧ (e.rd (MS_RESULT en)).getLsbD 14 = c.resamp ∧ e.rd (newKey en) = 15 := by
  refine completes_step1 (·.convDone a en.val code.toNat ovr t.toNat) rfl ?_
  rw [Dev.convDone_last hon hc he hi hend h]
  have hfin := Dev.finishConv_newest (d := s.dev.sampledAt t.toNat) (a := a) (c := c.take code.toNat ovr) he
    ((s.dev.newest_sampledAt _ _).trans hn)
  have hmean : (c.take code.toNat ovr).mean = (divRound ((c.sum : Int) + code.toNat) (c.taken + 1)).toNat := by
    simp [Conv.mean, Conv.take]
  rwa [hmean] at hfin

theorem conversionDone_late (h : c.left ≤ 1) (hn : s.dev.newest en.val t.toNat = false) :
    Completes (.conversionDone a en code ovr t) s fun e =>
      e.flag MS_STICKY MS_STICKY.LATE = true ∧ e.rd MS_LATE_CNT = satInc (s.dev.rd MS_LATE_CNT) ∧
        e.rd (MS_RESULT en) = s.dev.rd (MS_RESULT en) ∧ e.rd (newKey en) = s.dev.rd (newKey en) := by
  refine completes_step1 (·.convDone a en.val code.toNat ovr t.toNat) rfl ?_
  rw [Dev.convDone_last hon hc he hi hend h]
  have hs := s.dev.samples_startSeats (min (t.toNat + 1) s.dev.tickEnd)
  have hlate : (s.dev.sampledAt t.toNat).newest (c.take code.toNat ovr).entry t.toNat = false :=
    (s.dev.newest_sampledAt _ _).trans (by rw [Conv.take, he]; exact hn)
  obtain ⟨hflag, hcnt⟩ := Dev.late_finishConv (a := a) hlate
  have hres := Dev.rd_of_results ((Dev.results_finishConv_late (a := a) hlate).trans hs.measures.results) en
  exact ⟨hflag, hcnt.trans (congrArg satInc (hs.rd (by decide) (by decide))), hres⟩

end Done

end Sys2Proof.Machine
end

section
/-!
Urgent requests (R165, R166) and the reading of a result (R168), and the statement about conversions and results.
-/

namespace Sys2Proof.Machine

open Sys2Proof Sys2Proof.R

/-! ## What the seat of an urgent request does -/

/-- A conversion that waits samples when its seat is free. -/
def Conv.from (c : Conv) (freeAt : Nat) : Conv := { c with instant := max c.instant freeAt }

section Seat

variable {d : Dev} {k : Fin 24} {a : Adc} (ha : d.seatAdc k = some a)
include ha

theorem Dev.startHeld_busy {c : Conv} (hc : d.conv a = some c) : d.startHeld k = d := by
  simp [Dev.startHeld, ha, hc]

theorem Dev.startHeld_idle {c : Conv} {rest : List Conv} (hc : d.conv a = none) (hu : (d.seat k).urgents = c :: rest) :
    d.startHeld k = (d.setConv a (some (c.from (d.seat k).freeAt))).modSeat k fun x => { x with urgents := rest } := by
  simp only [Dev.startHeld, ha, hc, hu]
  rfl

theorem Dev.abandon_idle (hc : d.conv a = none) : d.abandon k = d := by simp [Dev.abandon, ha, hc]

theorem Dev.abandon_urgent {c : Conv} (hc : d.conv a = some c) (hu : c.urgent = true) : d.abandon k = d := by
  simp [Dev.abandon, ha, hc, hu]

theorem Dev.abandon_under_way {c : Conv} (hc : d.conv a = some c) (hu : c.urgent = false) :
    d.abandon k = (d.setConv a none).modSeat k fun x => { x with resume := some { c with resamp := true } } := by
  simp [Dev.abandon, ha, hc, hu]

end Seat

/-! ## A request that is taken -/

/-- An urgent request of accessor `src` for entry `e` on seat `k`, its `n`-th. -/
def Dev.urgentConv (d : Dev) (e : Nat) (k : Fin 24) (src : Fin 20) (n : Nat) : Conv :=
  { d.newConv e k d.tickStart with urgent := true, src := src, req := n }

/-- The request is counted and joins those of its seat (R166). -/
def Dev.queueUrgent (d : Dev) (k : Fin 24) (c : Conv) : Dev :=
  ({ d with meas := { d.meas with reqs := d.meas.reqs.set c.src c.req } } : Dev).modSeat k fun x => { x with urgents := x.urgents ++ [c] }

/-- The request is queued, and the seat goes on. -/
def Dev.takeUrgent (d : Dev) (k : Fin 24) (c : Conv) : Dev := (d.queueUrgent k c).startHeld k

theorem Dev.seat_queueUrgent (d : Dev) (k : Fin 24) (c : Conv) :
    (d.queueUrgent k c).seat k = { d.seat k with urgents := (d.seat k).urgents ++ [c] } :=
  Dev.seat_modSeat_same _ k fun x => { x with urgents := x.urgents ++ [c] }

theorem Dev.urgentConv_abandon (d : Dev) (e : Nat) (k j : Fin 24) (src : Fin 20) (n : Nat) :
    (d.abandon j).urgentConv e k src n = d.urgentConv e k src n := by
  unfold Dev.abandon
  split
  · rfl
  split
  · split <;> rfl
  · rfl

theorem Dev.reqs_abandon (d : Dev) (k : Fin 24) : (d.abandon k).meas.reqs = d.meas.reqs := by
  unfold Dev.abandon
  split
  · rfl
  split
  · split <;> rfl
  · rfl

section Take

variable {d : Dev} {k : Fin 24} {a : Adc} {c : Conv} (ha : d.seatAdc k = some a)
include ha

/-- A seat without a conversion takes the request at once. -/
theorem Dev.takeUrgent_idle (hc : d.conv a = none) (hu : (d.seat k).urgents = []) :
    (d.takeUrgent k c).conv a = some (c.from (d.seat k).freeAt) ∧ (∀ y, y ≠ a → (d.takeUrgent k c).conv y = d.conv y) ∧
      (d.takeUrgent k c).seat k = d.seat k := by
  have hs := d.seat_queueUrgent k c
  rw [hu, List.nil_append] at hs
  have heq : d.takeUrgent k c = _ := Dev.startHeld_idle (d := d.queueUrgent k c) (rest := []) ha hc (by rw [hs])
  have hfree : ((d.queueUrgent k c).seat k).freeAt = (d.seat k).freeAt := by rw [hs]
  rw [heq, hfree]
  refine ⟨by simp, fun y hy => (Dev.conv_setConv _ a y _).trans (if_neg hy), ?_⟩
  rw [Dev.seat_modSeat_same, Dev.seat_setConv, hs, ← hu]

/-- A seat that converts an urgent request keeps it: the request waits. -/
theorem Dev.takeUrgent_waits {c' : Conv} (hc : d.conv a = some c') : (d.takeUrgent k c).meas.convs = d.meas.convs ∧
    (d.takeUrgent k c).seat k = { d.seat k with urgents := (d.seat k).urgents ++ [c] } := by
  have heq : d.takeUrgent k c = d.queueUrgent k c := Dev.startHeld_busy (d := d.queueUrgent k c) ha hc
  rw [heq]
  exact ⟨rfl, d.seat_queueUrgent k c⟩

/-- A conversion under way leaves the seat, to resume with RESAMP (R165). -/
theorem Dev.takeUrgent_abandon {c' : Conv} (hc : d.conv a = some c') (hn : c'.urgent = false) (hu : (d.seat k).urgents = []) :
    ((d.abandon k).takeUrgent k c).conv a = some (c.from (d.seat k).freeAt) ∧
      (∀ y, y ≠ a → ((d.abandon k).takeUrgent k c).conv y = d.conv y) ∧
      ((d.abandon k).takeUrgent k c).seat k = { d.seat k with resume := some { c' with resamp := true } } := by
  have hab := Dev.abandon_under_way ha hc hn
  have hseat : (d.abandon k).seat k = { d.seat k with resume := some { c' with resamp := true } } := by
    rw [hab, Dev.seat_modSeat_same, Dev.seat_setConv]
  have hadc : (d.abandon k).seatAdc k = some a := by
    rw [hab]
    exact ha
  have hconv (y : Adc) : (d.abandon k).conv y = if y = a then none else d.conv y := by
    rw [hab, Dev.conv_modSeat, Dev.conv_setConv]
  obtain ⟨h1, h2, h3⟩ := Dev.takeUrgent_idle (c := c) hadc ((hconv a).trans (if_pos rfl)) (by rw [hseat]; exact hu)
  refine ⟨?_, fun y hy => (h2 y hy).trans ((hconv y).trans (if_neg hy)), h3.trans hseat⟩
  rw [h1, hseat]

end Take

/-! ## MS_URGENT (R165, R166) -/

theorem Dev.takeUrgent_eq (d : Dev) (e : Nat) (k : Fin 24) (src : Fin 20) :
    (let n := d.meas.reqs[src] + 1
     let x : Dev := { d with meas := { d.meas with reqs := d.meas.reqs.set src n } }
     let c : Conv := { x.newConv e k x.tickStart with urgent := true, src := src, req := n }
     (x.modSeat k fun y => { y with urgents := y.urgents ++ [c] }).startHeld k) =
      d.takeUrgent k (d.urgentConv e k src (d.meas.reqs[src] + 1)) := rfl

section Request

variable {u : Dev} {e : Nat} {k : Fin 24} {src : Fin 20}

theorem Dev.urgent_refused (h : u.urgentSeat e = none) : u.urgent e src = u.setFlag MS_STICKY MS_STICKY.URGREF true := by
  simp [Dev.urgent, h]

theorem Dev.urgent_full (h : u.urgentSeat e = some k) (hk : 4 ≤ u.urgentHeld k) :
    u.urgent e src = u.setFlag MS_STICKY MS_STICKY.URGOVF true := by
  simp [Dev.urgent, h, hk]

/-- The request that `u` makes of accessor `src`, after what was due. -/
def Dev.request (u : Dev) (e : Nat) (k : Fin 24) (src : Fin 20) : Conv :=
  (u.startSeats (u.tickStart + 1)).urgentConv e k src (u.meas.reqs[src] + 1)

theorem Dev.urgent_taken (h : u.urgentSeat e = some k) (hk : u.urgentHeld k < 4) (hr : u.meas.running = true) :
    u.urgent e src = ((u.startSeats (u.tickStart + 1)).abandon k).takeUrgent k (u.request e k src) := by
  have hs := u.samples_startSeats (u.tickStart + 1)
  have hreq : ((u.startSeats (u.tickStart + 1)).abandon k).meas.reqs = u.meas.reqs := (Dev.reqs_abandon _ k).trans hs.reqs
  have hconv := Dev.urgentConv_abandon (u.startSeats (u.tickStart + 1)) e k k src (u.meas.reqs[src] + 1)
  rw [Dev.urgent, h]
  dsimp only
  rw [if_neg (by omega), if_neg (by simp [hr]), Dev.request, ← hconv, ← hreq]
  exact Dev.takeUrgent_eq _ e k src

end Request

/-- The word of MS_URGENT with GO and entry `en`, as accessor `acc` writes it. -/
def Dev.asked (d : Dev) (acc : Acc) (en : Entry) : Dev :=
  (d.dropHeld acc).storeWord (accKey acc.ownSet MS_URGENT) MS_URGENT (BitVec.ofNat 16 (0x8000 + en.val))

/-- The source that an accessor's requests carry. -/
def urgentSrc (acc : Acc) : Fin 20 := Fin.ofNat 20 acc.index.val

section Asked

variable (d : Dev) (acc : Acc) (en : Entry)

theorem Dev.onlyRegs_asked : (d.dropHeld acc).onlyRegs (d.asked acc en) (· = accKey acc.ownSet MS_URGENT) := Dev.onlyRegs_storeWord _ _ _ _

theorem Dev.meas_asked : (d.asked acc en).meas = d.meas := Dev.storeWord_meas (d.dropHeld acc) _ _ _

theorem Dev.tickStart_asked : (d.asked acc en).tickStart = d.tickStart := by
  rw [Dev.tickStart, Dev.tickStart, Dev.now, (d.onlyRegs_asked acc en).clock]
  rfl

theorem Dev.latched_asked : (d.asked acc en).latched = d.latched := by
  have hne : ¬CFG_DSTATE = accKey acc.ownSet MS_URGENT := by
    simp only [CFG_DSTATE, accKey]
    omega
  rw [Dev.latched, Dev.dstate, (d.onlyRegs_asked acc en).fld _ (by decide) hne]
  rfl

theorem Dev.urgentHeld_asked (k : Fin 24) : (d.asked acc en).urgentHeld k = d.urgentHeld k := by
  simp only [Dev.urgentHeld, Dev.seat, d.meas_asked acc en]

/-- GO issues the request, outside LATCHED. -/
theorem Dev.writeUrgent_go {v : Word} (hgo : v.getLsbD 15 = true)
    (hl : (d.storeWord (accKey acc.ownSet MS_URGENT) MS_URGENT v).latched = false) : d.writeUrgent acc v =
      (d.storeWord (accKey acc.ownSet MS_URGENT) MS_URGENT v).urgent (MS_URGENT.ENTRY.of v.toNat) ⟨acc.index.val, by omega⟩ := by
  simp only [Dev.writeUrgent, Dev.when, hgo, hl, Bool.not_false, Bool.and_true, ↓reduceIte]

theorem Dev.writeUrgent_asks (hl : d.latched = false) : (d.dropHeld acc).writeUrgent acc (BitVec.ofNat 16 (0x8000 + en.val)) =
    (d.asked acc en).urgent en.val (urgentSrc acc) := by
  have hlt := en.isLt
  have hidx := acc.index.isLt
  have hgo : (BitVec.ofNat 16 (0x8000 + en.val)).getLsbD 15 = true := by
    simp only [BitVec.getLsbD_ofNat, Nat.testBit_eq_decide_div_mod_eq, Bool.and_eq_true, decide_eq_true_eq]
    omega
  have hentry : MS_URGENT.ENTRY.of (BitVec.ofNat 16 (0x8000 + en.val)).toNat = en.val := by
    simp only [Fld.of, BitVec.toNat_ofNat]
    omega
  have hsrc : urgentSrc acc = ⟨acc.index.val, by omega⟩ := Fin.ext (Nat.mod_eq_of_lt (by omega))
  have hrun : (d.asked acc en).latched = false := (d.latched_asked acc en).trans hl
  rw [Dev.writeUrgent_go (d.dropHeld acc) acc hgo hrun, hentry, hsrc]
  rfl

end Asked

section Commands

variable {s : State} {acc : Acc} {en : Entry} (hm : s.dev.mayWrite acc MS_URGENT = true) (hl : s.dev.latched = false)
include hm hl

theorem completes_msUrgent {P : Dev → Prop} (h : P ((s.dev.asked acc en).urgent en.val (urgentSrc acc))) :
    Completes (.msUrgent acc en) s P :=
  completes_gate (·.writeUrgent acc (BitVec.ofNat 16 (0x8000 + en.val))) rfl hm (by rwa [Dev.writeUrgent_asks _ _ _ hl])

theorem msUrgent_refused (h : (s.dev.asked acc en).urgentSeat en.val = none) :
    Completes (.msUrgent acc en) s fun e => e.flag MS_STICKY MS_STICKY.URGREF = true ∧ e.meas = s.dev.meas := by
  refine completes_msUrgent hm hl ?_
  rw [Dev.urgent_refused h]
  exact ⟨Dev.flag_setFlag_same _ _ _ _ (by decide) (by decide),
    (Dev.onlyRegs_setFlag _ _ _ _ (by decide)).meas.trans (s.dev.meas_asked acc en)⟩

variable {k : Fin 24}

theorem msUrgent_full (h : (s.dev.asked acc en).urgentSeat en.val = some k) (hk : 4 ≤ s.dev.urgentHeld k) :
    Completes (.msUrgent acc en) s fun e => e.flag MS_STICKY MS_STICKY.URGOVF = true ∧ e.meas = s.dev.meas := by
  refine completes_msUrgent hm hl ?_
  rw [Dev.urgent_full h (by rwa [s.dev.urgentHeld_asked acc en])]
  exact ⟨Dev.flag_setFlag_same _ _ _ _ (by decide) (by decide),
    (Dev.onlyRegs_setFlag _ _ _ _ (by decide)).meas.trans (s.dev.meas_asked acc en)⟩

/-- What the seats have sampled when the request comes. -/
def Dev.askedAt (d : Dev) (acc : Acc) (en : Entry) : Dev := (d.asked acc en).startSeats (d.tickStart + 1)

omit hm hl in
theorem Dev.samples_askedAt (d : Dev) (acc : Acc) (en : Entry) : (d.asked acc en).Samples (d.askedAt acc en) := Dev.samples_startSeats _ _

/-- The request as it joins its seat. -/
def Dev.freshConv (d : Dev) (acc : Acc) (en : Entry) (k : Fin 24) : Conv :=
  { (d.askedAt acc en).newConv en.val k d.tickStart with urgent := true, src := urgentSrc acc, req := d.meas.reqs[urgentSrc acc] + 1 }

omit hm hl in
theorem Dev.request_asked (d : Dev) (acc : Acc) (en : Entry) (k : Fin 24) :
    (d.asked acc en).request en.val k (urgentSrc acc) = d.freshConv acc en k := by
  have ht : (d.askedAt acc en).tickStart = d.tickStart := (d.samples_askedAt acc en).tickStart.trans (d.tickStart_asked acc en)
  rw [Dev.request, d.tickStart_asked, d.meas_asked, Dev.urgentConv]
  change { (d.askedAt acc en).newConv en.val k (d.askedAt acc en).tickStart with
    urgent := true, src := urgentSrc acc, req := d.meas.reqs[urgentSrc acc] + 1 } = _
  rw [ht]
  rfl

variable (h : (s.dev.asked acc en).urgentSeat en.val = some k) (hk : s.dev.urgentHeld k < 4) (hr : s.dev.meas.running = true)
include h hk hr

theorem completes_msUrgent_taken {P : Dev → Prop} (hp : P (((s.dev.askedAt acc en).abandon k).takeUrgent k (s.dev.freshConv acc en k))) :
    Completes (.msUrgent acc en) s P := by
  refine completes_msUrgent hm hl ?_
  rw [Dev.urgent_taken h (by rwa [s.dev.urgentHeld_asked acc en]) (by rwa [s.dev.meas_asked acc en]), Dev.request_asked,
    s.dev.tickStart_asked]
  exact hp

variable {a : Adc} (ha : (s.dev.asked acc en).seatAdc k = some a)
include ha

omit hm hl h hk hr in
theorem Dev.seatAdc_askedAt : (s.dev.askedAt acc en).seatAdc k = some a := ((s.dev.samples_askedAt acc en).seatAdc k).trans ha

theorem msUrgent_idle (hc : (s.dev.askedAt acc en).conv a = none) (hu : ((s.dev.askedAt acc en).seat k).urgents = []) :
    Completes (.msUrgent acc en) s fun e =>
      e.conv a = some ((s.dev.freshConv acc en k).from ((s.dev.askedAt acc en).seat k).freeAt) ∧
        (∀ y, y ≠ a → e.conv y = (s.dev.askedAt acc en).conv y) ∧ e.seat k = (s.dev.askedAt acc en).seat k := by
  have hadc := Dev.seatAdc_askedAt ha
  refine completes_msUrgent_taken hm hl h hk hr ?_
  rw [Dev.abandon_idle hadc hc]
  exact Dev.takeUrgent_idle hadc hc hu

theorem msUrgent_abandons {c : Conv} (hc : (s.dev.askedAt acc en).conv a = some c) (hn : c.urgent = false)
    (hu : ((s.dev.askedAt acc en).seat k).urgents = []) : Completes (.msUrgent acc en) s fun e =>
      e.conv a = some ((s.dev.freshConv acc en k).from ((s.dev.askedAt acc en).seat k).freeAt) ∧
        (∀ y, y ≠ a → e.conv y = (s.dev.askedAt acc en).conv y) ∧
          e.seat k = { (s.dev.askedAt acc en).seat k with resume := some { c with resamp := true } } :=
  completes_msUrgent_taken hm hl h hk hr (Dev.takeUrgent_abandon (Dev.seatAdc_askedAt ha) hc hn hu)

theorem msUrgent_waits {c : Conv} (hc : (s.dev.askedAt acc en).conv a = some c) (hn : c.urgent = true) :
    Completes (.msUrgent acc en) s fun e => e.meas.convs = (s.dev.askedAt acc en).meas.convs ∧
      e.seat k = { (s.dev.askedAt acc en).seat k with
        urgents := ((s.dev.askedAt acc en).seat k).urgents ++ [s.dev.freshConv acc en k] } := by
  have hadc := Dev.seatAdc_askedAt ha
  refine completes_msUrgent_taken hm hl h hk hr ?_
  rw [Dev.abandon_urgent hadc hc hn]
  exact Dev.takeUrgent_waits hadc hc

end Commands

/-! ## A result is read (R168) -/

section Read

variable (d : Dev) (set e : Nat)

/-- A read clears the NEW bit of its reader alone. -/
theorem Dev.newBit_clearNew {i : Nat} (hi : i < 16) :
    ((d.clearNew set e).rd (newKey e)).getLsbD i = ((d.rd (newKey e)).getLsbD i && i ≠ set) := by
  have hbit : ((1 : Word) <<< set).getLsbD i = decide (set = i) := by
    have := BitVec.getLsbD_twoPow (w := 16) set i
    rw [show ((1 : Word) <<< set) = BitVec.twoPow 16 set from rfl, this]
    by_cases h : set = i <;> simp [h, hi]
  rw [Dev.clearNew, Dev.rd_wr_same, BitVec.getLsbD_and, BitVec.getLsbD_not, hbit]
  simp [hi, eq_comm]

theorem Dev.onlyRegs_clearNew : d.onlyRegs (d.clearNew set e) (· = newKey e) := d.onlyRegs_wr _ _

end Read

/-- A port has `bs` to send. -/
def Dev.sends (d : Dev) (p : Port) (bs : List Byte) : Dev := { d with ports := d.ports.set p { d.ports[p] with tx := bs } }

theorem Dev.tx_sends (d : Dev) (p : Port) (bs : List Byte) : ((d.sends p bs).port p).tx = bs := by simp [Dev.port, Dev.sends]

section Read

variable {s : State} {p : Port} {f : Furrow} {en : Entry}

theorem msResultRead_port (h : s.dev.portsAnswer = true) : Completes (.msResultRead (.port p) en) s fun e =>
    (e.port p).tx = bytesLE 2 (s.dev.resultWord p.val en.val).toNat ∧ (e.rd (newKey en)).getLsbD p.val = false ∧
      (∀ i : Nat, i < 4 → i ≠ p.val → (e.rd (newKey en)).getLsbD i = (s.dev.rd (newKey en)).getLsbD i) ∧
      s.dev.keepsRegs e (fun b => b = newKey en) := by
  let d := s.dev.sends p (bytesLE 2 (s.dev.resultWord p.val en.val).toNat)
  refine ⟨d.clearNew p.val en.val, ?_, s.dev.tx_sends p _, ?_, fun i hi hne => ?_, fun a ha _ => (d.onlyRegs_clearNew _ _).1 a ha⟩
  · exact congrArg (fun d : Dev => Host.Outcome.next ({ s with dev := d } : State)) (if_pos h)
  · rw [d.newBit_clearNew _ _ (by omega)]
    simp
  · rw [d.newBit_clearNew _ _ (by omega)]
    exact (congrArg ((s.dev.rd (newKey en)).getLsbD i && ·) (decide_eq_true hne)).trans (Bool.and_true _)

theorem msResultRead_furrow : Completes (.msResultRead (.furrow f) en) s fun e =>
    (e.rd (newKey en)).getLsbD 3 = false ∧ s.dev.onlyRegs e (fun b => b = newKey en) := by
  refine completes_step1 (·.clearNew 3 en.val) rfl ⟨?_, s.dev.onlyRegs_clearNew _ _⟩
  rw [s.dev.newBit_clearNew _ _ (by decide)]
  simp

end Read

/-- Settles O54: a report is judged against the conversion under way after what the seats have sampled (one of another entry or
instant, or one that is not reached yet, is none: log entries 91 and 157), the stored word stands because its consumers write no
result, and an urgent request is followed from the seat that takes it (in arrival order: log entry 125). -/
theorem measurementResults : Obligations.MeasurementResults := by
  intro s a en code ovr t c acc k p f
  refine ⟨fun hon hc => ⟨fun he hi hend => ⟨conversionDone_goesOn hon hc he hi hend, conversionDone_newest hon hc he hi hend,
        conversionDone_late hon hc he hi hend⟩, conversionDone_other hon hc⟩,
    conversionDone_idle, conversionDone_off,
    fun hm hl => ⟨msUrgent_refused hm hl, msUrgent_full hm hl, fun h hk hr ha => ⟨msUrgent_idle hm hl h hk hr ha,
      msUrgent_abandons hm hl h hk hr ha, msUrgent_waits hm hl h hk hr ha⟩⟩,
    msResultRead_port, msResultRead_furrow⟩

end Sys2Proof.Machine
end
